-- ==== Sys2Proof/Word.lean ====
section
/-! DEFINITION. The word types of the block (00_scope R6, R9, R11, R12). -/
namespace Sys2Proof

/-- One byte (R11). -/
abbrev Byte := BitVec 8
/-- A 64-bit register or limb (R12). -/
abbrev W64 := BitVec 64
/-- A 128-bit message (R266). -/
abbrev W128 := BitVec 128
/-- The 256-bit data word (R12). -/
abbrev W256 := BitVec 256
/-- A count of TCLK ticks of 2.5 ns (R9). -/
abbrev Tick := Nat
/-- A 16-bit locus (R270). -/
abbrev Loc := BitVec 16

/-- A sparse table: keys strictly rising. -/
abbrev Tbl (α : Type) := List (Nat × α)

end Sys2Proof
end

