-- ==== Sys2Proof/Syntax.lean ====
section
/-! DEFINITION. The commands of the block: one constructor for each row of spec/opcode_table.json, with the operands that
arrive with it from outside. `pair b` is pair A for false and pair B for true; `q` holds bits 55:0 of a Quoper instruction (R501). -/
namespace Sys2Proof

/-- How an access fares at the path parity of its bank: good, good on its one repeat, or failed twice (R418, R422). -/
inductive PathParity where
  | good | repeated | failed
deriving DecidableEq, Repr

/-- An access that a bank's owner makes while the test engine holds a window of the bank: its HCLK from the window's start, word, port
(B is taken from the owner in set-up), and the data of a write (R420, R430, R431). -/
structure OwnerAccess where
  hclk : Nat
  word : Nat
  portB : Bool
  store : Option W256
deriving DecidableEq, Repr

/-- What the S32 check of a latch entry can find: a correctable error; an uncorrectable one that leaves COMP intact, or not (R350); a
reserved STATE (R342). -/
inductive EntryUpset where
  | corrected | lost | compLost | reserved
deriving DecidableEq, Repr

/-- What the S32 check of a word can find: a correctable error, or an uncorrectable one. -/
inductive WordUpset where
  | corrected | lost
deriving DecidableEq, Repr

/-- What the Cruise Engine's reads of a cord's input buffers return: the words in address order, and whether a read hit a blazed word
or ended with an address fault (R92, R118, R299). -/
structure CruiseRead where
  buf0 : List W256
  buf1 : List W256
  buf2 : List W256
  bad : Bool
deriving DecidableEq, Repr

/-- A command of the block. Each constructor is the row whose mnemonic and rule its docstring names. An operand with a default is what an
access finds or an agent answers besides; the default is that there is nothing of the kind. -/
inductive Instr where
  /-- VDD_ISL_UP (R592). -/
  | vddIslUp
  /-- VDD_ISL_FALL (R592). -/
  | vddIslFall
  /-- CORE_POWER_GOOD (R592); `faulty`: the windows, each (bank, window), whose words fail the power-on march (R433, R435). -/
  | corePowerGood (faulty : List (Nat × Nat) := [])
  /-- START_COMPLETE (R597); `ft`: the words that the read of the function descriptor returns (R127). -/
  | startComplete (ft : List W256 := [])
  /-- CORE_PG_FALL (R593). -/
  | corePgFall (bits : BitVec 16)
  /-- PF_WARN (R55). -/
  | pfWarn
  /-- PF_WARN_RELEASE (R604). -/
  | pfWarnRelease
  /-- PLL_UNLOCK (R327). -/
  | pllUnlock
  /-- REF_LOST (R327). -/
  | refLost
  /-- COMP_OPEN (R599). -/
  | compOpen (c : Nat)
  /-- COMP_CLOSE (R600). -/
  | compClose (c : Nat)
  /-- SEAL_REQUEST (R601). -/
  | sealRequest (c : Nat)
  /-- DRAIN_COMPLETE (R601). -/
  | drainComplete
  /-- DRAIN_TIMEOUT (R601). -/
  | drainTimeout
  /-- CLOSING_COMPLETE (R602). -/
  | closingComplete (wrote : Bool)
  /-- CLOSING_RECORD_RETRY (R390). -/
  | closingRecordRetry (wrote : Bool)
  /-- LINK_PARITY (R29). -/
  | linkParity (link : Nat)
  /-- PORT_PARITY_ERROR (R560). -/
  | portParityError (unit : Loc)
  /-- HEARTBEAT (R57). -/
  | heartbeat (part : Nat)
  /-- TAP_MISSING (R57). -/
  | tapMissing (tap : Nat)
  /-- WARDEN_MISSING (R56). -/
  | wardenMissing (r : Nat)
  /-- FAULT_MESSAGE (R280). -/
  | faultMessage (link unit : Nat) (msg : W128)
  /-- FLOOD_QUIET (R282). -/
  | floodQuiet (link unit : Nat) (msg : W128)
  /-- REACTION_ORDER (R565). -/
  | reactionOrder
  /-- UNFENCE_ORDER (R285). -/
  | unfenceOrder
  /-- TILE_TICKET (R66). -/
  | tileTicket (tap : Nat) (w : W256)
  /-- OPERAND_WORD (R72). -/
  | operandWord (tap tag role index : Nat) (w : W256)
  /-- EOR_WORD (R79). -/
  | eorWord (tap unit tag index : Nat) (last : Bool) (w : W256)
  /-- VALUE_WORD (R104). -/
  | valueWord (tap unit tag index : Nat) (last : Bool) (w : W256)
  /-- CAPTURE_WORD (R134). -/
  | captureWord (tap unit : Nat) (tile : Bool) (tag cord off : Nat) (w : W256)
  /-- TILE_COMPARE (R86). -/
  | tileCompare (tap tag : Nat)
  /-- TICKET_STATE_ERROR (R102). -/
  | ticketStateError (tap tag : Nat) (corrected : Bool := false)
  /-- SEND_REQUEST (R563). -/
  | sendRequest (tap : Nat) (req : W128)
  /-- SEND_GRANT (R177). -/
  | sendGrant (tap handle : Nat)
  /-- SEND_LEFT (R563). -/
  | sendLeft (tap handle : Nat)
  /-- CREDIT_REFILL (R172). -/
  | creditRefill (tap : Nat)
  /-- PROOF_REPORT (R179). -/
  | proofReport (bad : List Nat := [])
  /-- DISPATCH_SLOT (R564). -/
  | dispatchSlot (tap unit cord : Nat) (pin : Bool)
  /-- BLAZE_CONSUMED (R297). -/
  | blazeConsumed (tap unit cord : Nat) (pay : W64)
  /-- HOST_CORE_EVENT (R570). -/
  | hostCoreEvent (core typ cord : Nat) (pay : W64)
  /-- INTAKE_ENTRY (R287). -/
  | intakeEntry
  /-- PINPOINT_TIMEOUT (R94). -/
  | pinpointTimeout
  /-- PINPOINT_RECOMPUTE (R92); the reads as in `CruiseRead`, and the HCLK that it took. -/
  | pinpointRecompute (buf0 buf1 buf2 : List W256) (bad : Bool) (work : Nat := 0)
  /-- ADJUDICATE (R120). -/
  | adjudicate (r : CruiseRead) (work : Nat)
  /-- SECOND_RECOMPUTE (R136). -/
  | secondRecompute (r : CruiseRead)
  /-- TWIN_THIRD_OPINION (R141). -/
  | twinThirdOpinion (r : CruiseRead)
  /-- CRUISE_SELF_TEST (R136). -/
  | cruiseSelfTest (fail : Bool)
  /-- PIN_RERUN (R92). -/
  | pinRerun
  /-- START_SKID_NOW (R254). -/
  | startSkidNow
  /-- REPLAY (R246). -/
  | replay
  /-- THIRD_RUN (R141). -/
  | thirdRun
  /-- UNREPLAYABLE (R261). -/
  | unreplayable
  /-- WITHDRAW_CERT (R137). -/
  | withdrawCert
  /-- UNIT_RESPONSE (R511). -/
  | unitResponse
  /-- SAMPLE_COMPLETE (R136); the reads as in `CruiseRead`, and the HCLK that it took. -/
  | sampleComplete (buf0 buf1 buf2 : List W256) (bad : Bool) (work : Nat)
  /-- SAMPLE_TIMEOUT (R151). -/
  | sampleTimeout
  /-- GOVERNOR_PERIOD (R155). -/
  | governorPeriod (c : Nat)
  /-- REHEARSAL_POINT (R164). -/
  | rehearsalPoint (mech tap : Nat)
  /-- NO_OPPORTUNITY (R165). -/
  | noOpportunity (mech tap : Nat)
  /-- ARRIVAL_REPORT (R181). -/
  | arrivalReport (ext : W128) (slot len : Nat)
  /-- CLEAR (R187). -/
  | clear
  /-- RECANT (R187). -/
  | recant
  /-- RECANT_ACK (R176). -/
  | recantAck
  /-- RECALL (R188). -/
  | recall
  /-- LATE_RECANT (R192). -/
  | lateRecant
  /-- INBOUND_TIMEOUT (R188). -/
  | inboundTimeout (index : Nat)
  /-- ESC_EXPIRED (R187). -/
  | escExpired (index : Nat)
  /-- BRANCH_FAILED_EXPIRY (R176). -/
  | branchFailedExpiry (index : Nat)
  /-- CORD_REGISTER (R238). -/
  | cordRegister (region : Nat) (desc : BitVec 768) (upsets : List (Nat × Bool) := [])
  /-- CORD_RETIRE (R242). -/
  | cordRetire (region : Nat) (jt : BitVec 96)
  /-- CORD_SETTLE (R242). -/
  | cordSettle (slot : Nat)
  /-- JRN_SPILL (R243). -/
  | jrnSpill (slot : Nat)
  /-- RING_FETCH (R245). -/
  | ringFetch (tag : Nat) (bytes : BitVec 1024)
  /-- DEP_RELEASE (R241). -/
  | depRelease (slot : Nat)
  /-- SKID_START (R254). -/
  | skidStart (scope : Loc)
  /-- SKID (R257). -/
  | skid (scope : Loc)
  /-- CORD_HANDOVER (R257). -/
  | cordHandover (scope : Loc)
  /-- SPARE_WAKE_DONE (R253). -/
  | spareWakeDone (region : Nat) (bits : BitVec 8)
  /-- JRN_SKID_LATE (R258). -/
  | jrnSkidLate (scope : Loc)
  /-- TAGGED_WRITE (R215). -/
  | taggedWrite (ctrl : Nat) (word : BitVec 288) (masked drop dg : Bool) (comp slot woff ch : Nat) (acc : Option WordUpset := none)
  /-- CLOSE_TICK (R211). -/
  | closeTick (c : Nat)
  /-- SHARD_SCAN_DONE (R217). -/
  | shardScanDone (c slot : Nat) (words : List (BitVec 288))
  /-- DIGEST_PART_SEND (R218). -/
  | digestPartSend (c : Nat)
  /-- DIGEST_PART (R220). -/
  | digestPart
  /-- VOTE_WAIT_EXPIRY (R220). -/
  | voteWaitExpiry (c epoch : Nat)
  /-- VERDICT (R223). -/
  | verdict
  /-- DIG_NO_VERDICT (R224). -/
  | digNoVerdict (c : Nat)
  /-- RETENTION_EXPIRY (R218). -/
  | retentionExpiry (c epoch : Nat)
  /-- TENSOR_PART (R226). -/
  | tensorPart
  /-- TENSOR_DIFF (R226). -/
  | tensorDiff
  /-- REVOKE (R230). -/
  | revoke
  /-- TAP_RETRY (R381). -/
  | tapRetry (tap : Nat) (pass : Bool)
  /-- FELL_WRITE (R292). -/
  | fellWrite (wrote : Bool)
  /-- ECC_EVENT (R296). -/
  | eccEvent (ctrl : Nat) (ue : Bool) (ch waddr : Nat) (pay : W256)
  /-- BLAZE_WRITEBACK_DONE (R569). -/
  | blazeWritebackDone (ctrl : Nat)
  /-- BLAZE_WRITEBACK_TIMEOUT (R590). -/
  | blazeWritebackTimeout (ctrl : Nat)
  /-- PING (R303). -/
  | ping
  /-- LEASE_EXPIRED (R303). -/
  | leaseExpired (lease : Nat)
  /-- LEASE_REVOKE (R304). -/
  | leaseRevoke
  /-- RATE_WINDOW (R309). -/
  | rateWindow
  /-- CLK_RATIO_WRITE (R311). -/
  | clkRatioWrite (value : W64)
  /-- RATIO_SWITCH (R311). -/
  | ratioSwitch (r : Nat)
  /-- LOAD_BEACON (R316). -/
  | loadBeacon (part delay : Nat)
  /-- CHECK_BEACON (R316). -/
  | checkBeacon (part : Nat) (slip : Int)
  /-- NEIGHBOUR_COMPARE (R315). -/
  | neighbourCompare (r : Nat)
  /-- ALIGN (R324). -/
  | align
  /-- T_ANNOUNCE (R324). -/
  | tAnnounce
  /-- T_REQ (R323). -/
  | tReq
  /-- T_RESP (R324). -/
  | tResp (t4 : Nat)
  /-- ET_STEP (R324). -/
  | etStep
  /-- DRIFT_EXCHANGE (R326). -/
  | driftExchange
  /-- ET_SLEW (R326). -/
  | etSlew (value : W64)
  /-- SLEW_TICK (R326). -/
  | slewTick
  /-- MATCH_EXCHANGE (R328). -/
  | matchExchange (entry : Nat)
  /-- CLK_MATCH_STALE (R328). -/
  | clkMatchStale (entry : Nat)
  /-- VCS_RECEIVE (R335). -/
  | vcsReceive (hdr : W128) (payload : BitVec 384)
  /-- DACK (R339). -/
  | dack (mseq src : Nat)
  /-- NACK (R339). -/
  | nack (mseq src : Nat)
  /-- BRANCH_RETRY (R339). -/
  | branchRetry (mseq dst : Nat)
  /-- VCS_BRANCH_FAIL (R339). -/
  | vcsBranchFail (mseq dst : Nat)
  /-- ALLOC (R344). -/
  | alloc (src : Nat) (op : W128)
  /-- FREE (R344). -/
  | free (src : Nat) (op : W128)
  /-- ARM (R344). -/
  | arm (src : Nat) (op : W128)
  /-- ARRIVE (R344). -/
  | arrive (src : Nat) (op : W128) (upset : Option EntryUpset := none)
  /-- LATCH_READ (R344). -/
  | latchRead (src : Nat) (op : W128)
  /-- SETFWD (R344). -/
  | setfwd (src : Nat) (op : W128)
  /-- RESULT (R343). -/
  | result
  /-- DONE (R345). -/
  | done
  /-- STOP_ORDER (R355). -/
  | stopOrder
  /-- STOP_TICK (R356). -/
  | stopTick (c : Nat)
  /-- STOP_QUIET (R357). -/
  | stopQuiet (c : Nat)
  /-- STOP_MARK (R359). -/
  | stopMark
  /-- CUT_COMPLETE (R359). -/
  | cutComplete (c : Nat)
  /-- STOP_INCOMPLETE (R359). -/
  | stopIncomplete (c : Nat)
  /-- RESUME_RECEIVED (R362). -/
  | resumeReceived
  /-- RESUME_RELEASE (R362). -/
  | resumeRelease (c : Nat)
  /-- SLICE_GRID_POINT (R374). -/
  | sliceGridPoint (r slot : Nat)
  /-- CLEAR_DONE (R370). -/
  | clearDone (key : Nat)
  /-- ST_CLEAR (R370). -/
  | stClear (key : Nat)
  /-- SEGMENT_END (R367). -/
  | segmentEnd (key : Nat) (so : List (BitVec 1024))
  /-- ST_TIMEOUT (R369). -/
  | stTimeout (key : Nat)
  /-- SCREEN_DUE (R376). -/
  | screenDue (unit : Loc)
  /-- ST_OVERDUE (R376). -/
  | stOverdue (unit : Loc)
  /-- EXTEST (R584). -/
  | extest
  /-- IDCODE (R584). -/
  | idcode
  /-- SAMPLE_PRELOAD (R584). -/
  | samplePreload
  /-- BYPASS (R584). -/
  | bypass (ir : BitVec 8)
  /-- UNIT_SCAN (R371). -/
  | unitScan (unit : Loc)
  /-- HUB_SCAN (R371). -/
  | hubScan
  /-- TAP_RESET (R584). -/
  | tapReset
  /-- RO_SAMPLE (R398). -/
  | roSample (sensor count : Nat)
  /-- DIODE_SAMPLE (R397). -/
  | diodeSample (r : Nat) (temp : Int)
  /-- CALIBRATE (R399). -/
  | calibrate (sensor : Nat)
  /-- THROTTLE_STEP (R404). -/
  | throttleStep (scope : Nat)
  /-- CANARY_WINDOW (R409). -/
  | canaryWindow (canary m3 m4 : Nat)
  /-- DROOP_HOLD_EXPIRY (R409). -/
  | droopHoldExpiry (canary : Nat)
  /-- REINSTATE (R401). -/
  | reinstate (sensor : Nat)
  /-- PMBUS_READ (R411). -/
  | pmbusRead (rail command value : Nat) (ok : Bool)
  /-- PM_ALERT (R585). -/
  | pmAlert (addr status : Nat)
  /-- BANK_OWN (R427). -/
  | bankOwn (bank owner : Nat) (keep : Bool)
  /-- MEMTEST_WINDOW (R430). -/
  | memtestWindow (bank window : Nat) (faulty : Bool) (accesses : List OwnerAccess := [])
  /-- CMEM_WINDOW (R437). -/
  | cmemWindow (tap window corrected lost : Nat) (faulty : Bool)
  /-- BANK_READ (R428). -/
  | bankRead
  /-- BANK_WRITE (R428). -/
  | bankWrite
  /-- OBS_SAMPLE (R450). -/
  | obsSample
  /-- OBS_RESET (R450). -/
  | obsReset
  /-- OBS_SETSEL (R450). -/
  | obsSetsel
  /-- J_OBS_SAMPLE (R451). -/
  | jObsSample (c index : Nat)
  /-- PERIODIC_TALLY (R453). -/
  | periodicTally
  /-- TALLY_FREEZE (R453). -/
  | tallyFreeze
  /-- TALLY_DRAIN (R455). -/
  | tallyDrain (missing : List Nat)
  /-- HANG_WATCH (R464). -/
  | hangWatch (c : Nat)
  /-- CENSUS_FREEZE (R464): for each entity and IDENT (a locus for units), CEN_STATE of its census port and the ET at which its wait began. -/
  | censusFreeze (ports : List (Nat × Nat × Nat × Nat))
  /-- TRACE_DRAIN (R461). -/
  | traceDrain (c : Nat)
  /-- TRACE_HEAD_WRITE (R459). -/
  | traceHeadWrite (c : Nat) (value : BitVec 32)
  /-- RECORD_WRITE (R474). -/
  | recordWrite
  /-- TOKEN_ADD (R475). -/
  | tokenAdd (code : BitVec 12)
  /-- FREEZE_GO (R479). -/
  | freezeGo (count : Nat)
  /-- FREEZE_RELEASE (R479). -/
  | freezeRelease
  /-- FREEZE_TIMEOUT (R479). -/
  | freezeTimeout
  /-- REC_READ (R478). -/
  | recRead (slot : Nat)
  /-- RATE_WRITE (R475). -/
  | rateWrite (code rate burst : Nat)
  /-- RATE_READ (R475). -/
  | rateRead (code : Nat)
  /-- FLUSH_PAGE (R482). -/
  | flushPage (wrote : Bool)
  /-- REC_CELLAR (R482). -/
  | recCellar (wrote : Bool)
  /-- CELLAR_READ (R493). -/
  | cellarRead (addr : Nat)
  /-- REC_KEY (R487). -/
  | recKey (tag : Nat) (body : BitVec 448)
  /-- REC_CLEAR (R490). -/
  | recClear (tag : Nat) (body : BitVec 448)
  /-- MREG (R553). -/
  | mreg (offset : Nat) (wide write : Bool) (data : W64)
  /-- POLICY_WRITE (R529). -/
  | policyWrite (tag : Nat) (body : BitVec 448)
  /-- POLICY_READ (R556). -/
  | policyRead (tag : Nat) (body : BitVec 448)
  /-- ROOT_KEY (R201). -/
  | rootKey (tag : Nat) (body : BitVec 448)
  /-- CAPTURE_KEY (R134). -/
  | captureKey (tag : Nat) (body : BitVec 448)
  /-- PACK_LOAD (R385). -/
  | packLoad (tag : Nat) (body : BitVec 448)
  /-- FELL_UNDO (R610). -/
  | fellUndo (tag : Nat) (body : BitVec 448)
  /-- IMAGE_LOAD (R605). -/
  | imageLoad (tag : Nat) (body : BitVec 448)
  /-- HANDOVER (R607). -/
  | handover (tag : Nat)
  /-- HANDOVER_TIMEOUT (R607). -/
  | handoverTimeout
  /-- GATE_REFUSED (R557). -/
  | gateRefused (side : Bool) (code tag : Nat) (locus : Loc)
  /-- RESPONSE (R557). -/
  | response
  /-- RX_POP (R557). -/
  | rxPop
  /-- CPER_POP (R395). -/
  | cperPop
  /-- EXCURSION (R389). -/
  | excursion
  /-- SAMPLE_SEED (R132). -/
  | sampleSeed (value : W64)
  /-- DIE_INDEX_WRITE (R554). -/
  | dieIndexWrite (value : W64)
  /-- ET_LO_READ (R329). -/
  | etLoRead (job : Bool) (c : Nat)
  /-- ASSIGN_WRITE (R555). -/
  | assignWrite (u : Nat) (value : W64)
  /-- PREC_WRITE (R555). -/
  | precWrite
  /-- PREC_READ (R555). -/
  | precRead
  /-- SEV_WRITE (R276). -/
  | sevWrite (value : BitVec 32)
  /-- SEV_READ (R555). -/
  | sevRead (value : BitVec 32)
  /-- GROUP_WRITE (R555). -/
  | groupWrite (value : BitVec 32)
  /-- GROUP_READ (R555). -/
  | groupRead (value : BitVec 32)
  /-- GROUP_DELETE (R555). -/
  | groupDelete (value : BitVec 32)
  /-- MATCH_WRITE (R555). -/
  | matchWrite (value : BitVec 32)
  /-- MATCH_READ (R555). -/
  | matchRead (value : BitVec 32)
  /-- REGISTER_WRITE (R14). -/
  | registerWrite (job wide : Bool) (c offset : Nat) (value : W64)
  /-- CMDQ_TAIL_WRITE (R535). -/
  | cmdqTailWrite (c : Nat) (value : BitVec 32)
  /-- CMDQ_ENABLE (R534). -/
  | cmdqEnable (c : Nat) (value : BitVec 32)
  /-- CPLQ_ENABLE (R534). -/
  | cplqEnable (c : Nat) (value : BitVec 32)
  /-- CPLQ_HEAD_WRITE (R537). -/
  | cplqHeadWrite (c : Nat) (value : BitVec 32)
  /-- COMMAND_FETCH (R535). -/
  | commandFetch (c : Nat) (packets : List (BitVec 512))
  /-- COMPLETION_WRITE (R538). -/
  | completionWrite (c : Nat)
  /-- READ_DATA (R578). -/
  | readData (tag status : Nat) (data : List (BitVec 288))
  /-- WACK (R578). -/
  | wack (tag status : Nat)
  /-- STREAM_TIMEOUT (R578). -/
  | streamTimeout (tag : Nat)
  /-- J_PAGE_ACCESS (R579). -/
  | jPageAccess (core offset : Nat) (wide write : Bool) (data : W64)
  /-- CMD_NOP (R541). -/
  | cmdNop (c : Nat) (pkt : BitVec 512)
  /-- STATUS (R541). -/
  | status (c : Nat) (pkt : BitVec 512)
  /-- REOPEN (R548). -/
  | reopen (c : Nat) (pkt : BitVec 512)
  /-- FENCE_REQ (R547). -/
  | fenceReq (c : Nat) (pkt : BitVec 512)
  /-- LATCH (R541). -/
  | latch (c : Nat) (pkt : BitVec 512)
  /-- TENSOR_SET (R541). -/
  | tensorSet (c : Nat) (pkt : BitVec 512)
  /-- EXTENT_SET (R541). -/
  | extentSet (c : Nat) (pkt : BitVec 512)
  /-- TENSOR_READ (R541). -/
  | tensorRead (c : Nat) (pkt : BitVec 512)
  /-- VOTE_SET (R541). -/
  | voteSet (c : Nat) (pkt : BitVec 512)
  /-- CERTIFY (R228). -/
  | certify (c : Nat) (pkt : BitVec 512)
  /-- RESTORE (R231). -/
  | restore (c : Nat) (pkt : BitVec 512)
  /-- RING_SET (R244). -/
  | ringSet (c : Nat) (pkt : BitVec 512)
  /-- RETARGET (R259). -/
  | retarget (c : Nat) (pkt : BitVec 512)
  /-- STOP_SETUP (R353). -/
  | stopSetup (c : Nat) (pkt : BitVec 512)
  /-- STOP (R354). -/
  | stop (c : Nat) (pkt : BitVec 512)
  /-- RESUME (R362). -/
  | resume (c : Nat) (pkt : BitVec 512)
  /-- TALLY_SETUP (R457). -/
  | tallySetup (c : Nat) (pkt : BitVec 512)
  /-- TALLY (R454). -/
  | tally (c : Nat) (pkt : BitVec 512)
  /-- CENSUS (R464). -/
  | census (c : Nat) (pkt : BitVec 512)
  /-- TRACE_SETUP (R458). -/
  | traceSetup (c : Nat) (pkt : BitVec 512)
  /-- TRACE_MARK (R460). -/
  | traceMark (c : Nat) (pkt : BitVec 512)
  /-- TIME_QUERY (R541). -/
  | timeQuery (c : Nat) (pkt : BitVec 512)
  /-- SCREEN_OFFER (R542). -/
  | screenOffer (c : Nat) (pkt : BitVec 512)
  /-- LOCKSTEP_MISMATCH (R495). -/
  | lockstepMismatch (b : Bool)
  /-- FETCH_FAULT (R498). -/
  | fetchFault (b : Bool)
  /-- TURN_OVERRUN (R520). -/
  | turnOverrun
  /-- TAKEOVER (R523). -/
  | takeover
  /-- TIMER_EXPIRY (R509). -/
  | timerExpiry (b : Bool) (timer : Nat)
  /-- NOP (R506). -/
  | qNop (b : Bool) (q : BitVec 56)
  /-- ADD (R506). -/
  | qAdd (b : Bool) (q : BitVec 56)
  /-- ADDI (R506). -/
  | qAddi (b : Bool) (q : BitVec 56)
  /-- SUB (R506). -/
  | qSub (b : Bool) (q : BitVec 56)
  /-- MUL (R506). -/
  | qMul (b : Bool) (q : BitVec 56)
  /-- AND (R506). -/
  | qAnd (b : Bool) (q : BitVec 56)
  /-- OR (R506). -/
  | qOr (b : Bool) (q : BitVec 56)
  /-- XOR (R506). -/
  | qXor (b : Bool) (q : BitVec 56)
  /-- ANDI (R506). -/
  | qAndi (b : Bool) (q : BitVec 56)
  /-- ORI (R506). -/
  | qOri (b : Bool) (q : BitVec 56)
  /-- XORI (R506). -/
  | qXori (b : Bool) (q : BitVec 56)
  /-- SHL (R506). -/
  | qShl (b : Bool) (q : BitVec 56)
  /-- SHR (R506). -/
  | qShr (b : Bool) (q : BitVec 56)
  /-- SAR (R506). -/
  | qSar (b : Bool) (q : BitVec 56)
  /-- ROR (R506). -/
  | qRor (b : Bool) (q : BitVec 56)
  /-- GFMUL (R506). -/
  | qGfmul (b : Bool) (q : BitVec 56)
  /-- MOVI (R506). -/
  | qMovi (b : Bool) (q : BitVec 56)
  /-- MOVHI (R506). -/
  | qMovhi (b : Bool) (q : BitVec 56)
  /-- FFS (R506). -/
  | qFfs (b : Bool) (q : BitVec 56)
  /-- POPC (R506). -/
  | qPopc (b : Bool) (q : BitVec 56)
  /-- CMP (R506). -/
  | qCmp (b : Bool) (q : BitVec 56)
  /-- CMPI (R506). -/
  | qCmpi (b : Bool) (q : BitVec 56)
  /-- PLOG (R506). -/
  | qPlog (b : Bool) (q : BitVec 56)
  /-- SEL (R506). -/
  | qSel (b : Bool) (q : BitVec 56)
  /-- MOVS (R500). -/
  | qMovs (b : Bool) (q : BitVec 56)
  /-- BR (R506). -/
  | qBr (b : Bool) (q : BitVec 56)
  /-- CALL (R506). -/
  | qCall (b : Bool) (q : BitVec 56)
  /-- JR (R506). -/
  | qJr (b : Bool) (q : BitVec 56)
  /-- LD (R507). -/
  | qLd (b : Bool) (q : BitVec 56) (path : PathParity := .good)
  /-- ST (R507). -/
  | qSt (b : Bool) (q : BitVec 56) (path : PathParity := .good)
  /-- LDW (R507). -/
  | qLdw (b : Bool) (q : BitVec 56)
  /-- STW (R507). -/
  | qStw (b : Bool) (q : BitVec 56)
  /-- OWN (R507). -/
  | qOwn (b : Bool) (q : BitVec 56)
  /-- MPR (R507). -/
  | qMpr (b : Bool) (q : BitVec 56)
  /-- MPW (R507). -/
  | qMpw (b : Bool) (q : BitVec 56)
  /-- BIND (R509). -/
  | qBind (b : Bool) (q : BitVec 56)
  /-- POP (R509). -/
  | qPop (b : Bool) (q : BitVec 56)
  /-- PUSH (R509). -/
  | qPush (b : Bool) (q : BitVec 56)
  /-- QLEN (R509). -/
  | qQlen (b : Bool) (q : BitVec 56)
  /-- TIMER (R509). -/
  | qTimer (b : Bool) (q : BitVec 56)
  /-- WAIT (R513). -/
  | qWait (b : Bool) (q : BitVec 56)
  /-- LOP (R515). -/
  | qLop (b : Bool) (q : BitVec 56)
  /-- LREAD (R515). -/
  | qLread (b : Bool) (q : BitVec 56)
  /-- SEVW (R516). -/
  | qSevw (b : Bool) (q : BitVec 56)
  /-- SEVR (R516). -/
  | qSevr (b : Bool) (q : BitVec 56)
  /-- PWRITE (R516). -/
  | qPwrite (b : Bool) (q : BitVec 56)
  /-- PREAD (R516). -/
  | qPread (b : Bool) (q : BitVec 56)
  /-- FENCE (R517). -/
  | qFence (b : Bool) (q : BitVec 56)
  /-- FELL (R516). -/
  | qFell (b : Bool) (q : BitVec 56)
  /-- RAISE (R516). -/
  | qRaise (b : Bool) (q : BitVec 56)
  /-- SLICE (R518). -/
  | qSlice (b : Bool) (q : BitVec 56)
  /-- SAGE (R518). -/
  | qSage (b : Bool) (q : BitVec 56)
  /-- SENSE (R518). -/
  | qSense (b : Bool) (q : BitVec 56)
  /-- PAUSE (R518). -/
  | qPause (b : Bool) (q : BitVec 56)
  /-- REC (R519). -/
  | qRec (b : Bool) (q : BitVec 56)
  /-- CPER (R519). -/
  | qCper (b : Bool) (q : BitVec 56)
  /-- CSAMP (R519). -/
  | qCsamp (b : Bool) (q : BitVec 56)
  /-- CRST (R519). -/
  | qCrst (b : Bool) (q : BitVec 56)
  /-- CSEL (R519). -/
  | qCsel (b : Bool) (q : BitVec 56)
  /-- Q_TALLY (R519). -/
  | qTally (b : Bool) (q : BitVec 56)
  /-- Q_CENSUS (R519). -/
  | qCensus (b : Bool) (q : BitVec 56)
  /-- I3C_PRIVATE_WRITE (R581). -/
  | i3cPrivateWrite (bytes : List Byte)
  /-- I3C_PRIVATE_READ (R581). -/
  | i3cPrivateRead
  /-- ENTDAA (R581). -/
  | entdaa (addr : BitVec 7)
  /-- SETDASA (R581). -/
  | setdasa (addr : BitVec 7)
  /-- SETNEWDA (R581). -/
  | setnewda (addr : BitVec 7)
  /-- RSTDAA (R581). -/
  | rstdaa
  /-- GETPID (R581). -/
  | getpid
  /-- GETBCR (R581). -/
  | getbcr
  /-- GETDCR (R581). -/
  | getdcr
  /-- GETSTATUS (R581). -/
  | getstatus
  /-- GETMWL (R581). -/
  | getmwl
  /-- GETMRL (R581). -/
  | getmrl
  /-- ENEC (R581). -/
  | enec
  /-- DISEC (R581). -/
  | disec
  /-- SERIAL_BREAK (R582). -/
  | serialBreak
  /-- CAM_IDLE_TIMEOUT (R614). -/
  | camIdleTimeout
  /-- CAM_HELP (R615). -/
  | camHelp
  /-- CAM_STATE (R615). -/
  | camState
  /-- CAM_BAUD (R615). -/
  | camBaud (rate : Nat)
  /-- CAM_RD (R615). -/
  | camRd (offset : Nat) (wide : Bool)
  /-- CAM_CELLAR (R615). -/
  | camCellar (addr count : Nat)
  /-- CAM_REC (R615). -/
  | camRec (n : Nat)
  /-- CAM_UNLOCK (R614). -/
  | camUnlock (token : Option (BitVec 2048))
  /-- CAM_LOCK (R614). -/
  | camLock
  /-- CAM_WR (R615). -/
  | camWr (offset : Nat) (wide : Bool) (value : W64)
  /-- CAM_SEV (R615). -/
  | camSev (cls kind : Nat) (entry : Option (BitVec 8))
  /-- CAM_COMP (R615). -/
  | camComp (c : Nat) (close : Bool)
  /-- CAM_SEAL (R615). -/
  | camSeal
  /-- CAM_CPER (R615). -/
  | camCper
  /-- CAM_POLICY (R615). -/
  | camPolicy (offset : Nat) (data : Option (List Byte))
  /-- CAM_HANDOVER (R615). -/
  | camHandover
  /-- CAM_PUT (R615). -/
  | camPut (bank offset : Nat) (words : List W256)
  /-- CAM_GATE (R615). -/
  | camGate (code : Nat) (body : BitVec 448)
  /-- CAM_TAPPRIV (R615). -/
  | camTappriv (on : Bool)
  /-- ISL_SECOND (R396). -/
  | islSecond
  /-- RECANT_WAIT_EXPIRY (R600). -/
  | recantWaitExpiry (c : Nat)
  /-- TENSOR_WAIT_EXPIRY (R226). -/
  | tensorWaitExpiry (c : Nat)
  /-- CORE_PG_RISE (R561). -/
  | corePgRise (bits : BitVec 16)
deriving DecidableEq, Repr

end Sys2Proof
end

