-- ==== Sys2Proof/Decode.lean ====
section
/-! DEFINITION. The command that a word spells. The opcode table gives no row any bits, so no word spells a command (log entry 1). -/
namespace Sys2Proof

/-- The command that `nbits` bits `w` spell by the table: none, for the table gives no bits. -/
def decodeTableWord (_nbits _w : Nat) : Option Instr := none

end Sys2Proof
end

