-- ==== Sys2Proof/Config.lean ====
section
/-! DEFINITION. The values the spec leaves open: constants without a body, so that no proof can see them. -/
namespace Sys2Proof.Config

/-- The n-th value the spec leaves open (log entry 7): nothing constrains it. -/
opaque freeValue : Nat → W64

/-- The count at which a ring-oscillator counter is saturated (R401; log entry 7). -/
opaque roSat : Nat

/-- The slope and offset of the least-squares fit over the kept exchanges (R328; log entry 7): rate in parts per 10^9. -/
opaque fitRate : List (Nat × Int) → Int
opaque fitOffset : List (Nat × Int) → Int

/-- Where FOLLOW keeps its copy of an intake entry, as a 32 B word of banks 33 to 35, and a hook's scratch area, as a 256 B block of bank 33:
the spec names the banks and not the places (R530). -/
opaque followCopy : Nat
@[inherit_doc followCopy]
opaque hookScratch : Nat

/-- The boot-ROM stock image by 8 B word, and whether it passes its check (R596, R608; log entry 7): the spec does not give it. -/
opaque romWord : Nat → W64
opaque romGood : Bool

/-- The built-in pack of a target, which the spec does not give: how many segments, each one's 32 B record of R382 and expected chipper
value, and the masks (R386, R596; log entry 7). -/
opaque builtinSegs : Nat → Nat
opaque builtinSegment : Nat → Nat → W256
opaque builtinExpect : Nat → Nat → Nat
opaque builtinMasks : Nat → List (BitVec 1024)

/-- The phase shifter of a core (R366): what the generator's state presents at the 1,024 chain inputs. The spec leaves it to the core's
test description. -/
opaque phaseShift : Nat → BitVec 1024

/-- Cprev of element (i, j) of a CHAIN ticket, as an integer times a power of two: no buffer of the cord holds it (R67, R532; log entry 53). -/
opaque chainPrev : W256 → Nat → Nat → Int × Int

/-- The FP32 bits that function f (EXP2, LOG2, RCP, RSQRT, TANH) answers for an operand, given by its bits, for which the spec states no
result (R126; log entry 53). -/
opaque functionCorner : Nat → Nat → BitVec 32

/-- The element code and the scale byte of a conversion for which the spec states none: kind, FMT and the FP32 bits (R128; log entry 53). -/
opaque convCorner : Nat → Nat → Nat → Byte
opaque scaleCorner : Nat → Nat → List Nat → Byte

/-- FT_BASE: the NoC address at which the host die presents its function descriptor, fixed from reset (R127, R572; log entry 53). -/
opaque ftBase : BitVec 48

/-- How many samples the cruise sample queue holds; the spec gives no number (R48, R133). -/
opaque sampleQueue : Nat

/-- What GETBCR, GETDCR and GETSTATUS answer where the spec gives no value: it fixes the bits of in-band interrupt and HDR in the BCR
alone (R581; log entry 7). -/
opaque i3cBcr : Byte
opaque i3cDcr : Byte
opaque i3cStatus : BitVec 16

end Sys2Proof.Config
end

