-- ==== Sys2Proof/Machine/Bits.lean ====
section
/-! DEFINITION. Bit fields of little-endian layouts (R6, R11, R12), and sparse tables in rising key order. -/
namespace Sys2Proof

/-- `len` bits of `v` from bit `lo` (R6). -/
def nfld (v lo len : Nat) : Nat := (v >>> lo) % 2 ^ len

/-- `len` bits of a bit vector from bit `lo` (R6). -/
def fld {n : Nat} (v : BitVec n) (lo len : Nat) : Nat := nfld v.toNat lo len

/-- One bit of a bit vector as a Bool. -/
def bitAt {n : Nat} (v : BitVec n) (lo : Nat) : Bool := nfld v.toNat lo 1 == 1

/-- A layout packed from its fields, least significant first, each (width, value) (R11). -/
def pack : List (Nat × Nat) → Nat
  | [] => 0
  | (w, v) :: r => v % 2 ^ w + 2 ^ w * pack r

/-- A Bool as a bit. -/
def b2n (b : Bool) : Nat := if b then 1 else 0

/-- Two's complement reading of `w` bits (R6). -/
def sint (w v : Nat) : Int :=
  let x := v % 2 ^ w
  if x < 2 ^ (w - 1) then (x : Int) else (x : Int) - (2 ^ w : Nat)

/-- `v` with `len` bits from `lo` replaced. -/
def nset (v lo len x : Nat) : Nat :=
  v - (nfld v lo len) * 2 ^ lo + (x % 2 ^ len) * 2 ^ lo

/-- The bytes of a value, least significant first (R11). -/
def toBytes : Nat → Nat → List Byte
  | 0, _ => []
  | k + 1, v => BitVec.ofNat 8 v :: toBytes k (v / 256)

/-- The value of bytes, least significant first (R11). -/
def ofBytes : List Byte → Nat
  | [] => 0
  | b :: r => b.toNat + 256 * ofBytes r

/-- The value a table holds at a key. -/
def Tbl.find? {α : Type} : Tbl α → Nat → Option α
  | [], _ => none
  | (k, v) :: r, i => if k = i then some v else Tbl.find? r i

/-- The value a table holds at a key, or the value every unlisted key has. -/
def Tbl.get {α : Type} (t : Tbl α) (i : Nat) (d : α) : α := (Tbl.find? t i).getD d

/-- A key set to a value, the rising order kept. -/
def Tbl.put {α : Type} : Tbl α → Nat → α → Tbl α
  | [], i, v => [(i, v)]
  | (k, w) :: r, i, v =>
    if i < k then (i, v) :: (k, w) :: r
    else if i = k then (i, v) :: r
    else (k, w) :: Tbl.put r i v

/-- A key removed. -/
def Tbl.del {α : Type} (t : Tbl α) (i : Nat) : Tbl α := t.filter (fun e => e.1 != i)

/-- A key set to a value; the value every unlisted key has is not listed. -/
def Tbl.putD {α : Type} [DecidableEq α] (t : Tbl α) (i : Nat) (v d : α) : Tbl α :=
  if v = d then Tbl.del t i else Tbl.put t i v

/-- A key's value changed by a function, `d` standing for an unlisted key. -/
def Tbl.upd {α : Type} (t : Tbl α) (i : Nat) (d : α) (f : α → α) : Tbl α :=
  Tbl.put t i (f (Tbl.get t i d))

/-- Whether a key is listed. -/
def Tbl.has {α : Type} (t : Tbl α) (i : Nat) : Bool := (Tbl.find? t i).isSome

/-- The entries whose key and value pass a test. -/
def Tbl.keep {α : Type} (t : Tbl α) (p : Nat → α → Bool) : Tbl α := t.filter (fun e => p e.1 e.2)

/-- Every value changed by a function. -/
def Tbl.mapV {α : Type} (t : Tbl α) (f : Nat → α → α) : Tbl α := t.map (fun e => (e.1, f e.1 e.2))

/-- How many entries pass a test. -/
def Tbl.count {α : Type} (t : Tbl α) (p : Nat → α → Bool) : Nat := (Tbl.keep t p).length

/-- The lowest key below `n` that the table does not list. -/
def Tbl.free {α : Type} (t : Tbl α) (n : Nat) : Option Nat :=
  go t 0
where
  /-- the first gap at or after `i` in a rising list -/
  go : Tbl α → Nat → Option Nat
    | [], i => if i < n then some i else none
    | (k, _) :: r, i => if i < k then (if i < n then some i else none) else go r (k + 1)

/-- The table's keys strictly rise. -/
def Tbl.sorted {α : Type} : Tbl α → Bool
  | [] => true
  | [_] => true
  | (k, _) :: (l, w) :: r => decide (k < l) && Tbl.sorted ((l, w) :: r)

/-- The canonical form of a table whose unlisted keys hold `d`: keys strictly rise and no entry holds `d`. -/
def Tbl.canon {α : Type} [DecidableEq α] (t : Tbl α) (d : α) : Bool := Tbl.sorted t && t.all (fun e => decide (e.2 ≠ d))

/-- A number added to a set kept in rising order. -/
def setAdd : List Nat → Nat → List Nat
  | [], i => [i]
  | k :: r, i => if i < k then i :: k :: r else if i = k then k :: r else k :: setAdd r i

/-- A number removed from a set. -/
def setDel (l : List Nat) (i : Nat) : List Nat := l.filter (fun k => k != i)

/-- A value lies in a range. -/
def within (lo hi v : Nat) : Bool := decide (lo ≤ v ∧ v ≤ hi)

/-- Ceiling division. -/
def cdiv (a b : Nat) : Nat := (a + b - 1) / b

end Sys2Proof
end

