-- ==== Sys2Proof/Machine/Codes.lean ====
section
/-! DEFINITION. The block's codes: GF(2^64) digests (06_weight_digests R197–R203), the chipper (11_in_field_screening R616),
S32 and blaze (13_hub_memory R416–R417, 08_faults_fencing_blaze R295), and the sampling generators (03 R131–R132). -/
namespace Sys2Proof

/-- Multiplication in GF(2^64) (R197). -/
def gfMul (a b : Nat) : Nat := go 64 0
where
  /-- the loop over bit i − 1 of b, from 63 down -/
  go : Nat → Nat → Nat
    | 0, r => r
    | i + 1, r =>
      let top := r.testBit 63
      let r := (r <<< 1) % 2 ^ 64
      let r := if top then r ^^^ 0x1B else r
      go i (if b.testBit i then r ^^^ a else r)

/-- A 64-bit rotation left. -/
def rotl64 (v k : Nat) : Nat := ((v <<< (k % 64)) ||| (v >>> (64 - k % 64))) % 2 ^ 64

/-- The position of a word: (TID << 40) or WOFF (R198). -/
def digPos (tid woff : Nat) : Nat := ((tid <<< 40) ||| woff) % 2 ^ 64

/-- x ⋙ 29 (R198). -/
def ror29 (x : Nat) : Nat := ((x >>> 29) ||| (x <<< 35)) % 2 ^ 64

/-- Subkey j (1–3) of lane and limb under a root key and an epoch number (R201). -/
def subkey (root e lane l j : Nat) : Nat :=
  let ek (i : Nat) := nfld root (64 * i) 64 ^^^ rotl64 (e % 2 ^ 64) (16 * i)
  let q := 12 * lane + 3 * l + j - 1
  gfMul (ek (q % 4)) (2 ^ (q + 1)) ^^^ ek ((q + 1) % 4) ^^^ ((q + 1) * 0x0101010101010101) % 2 ^ 64

/-- The term of a data word at a position, lane 0 in bits 63–0 and lane 1 in bits 127–64 (R199). -/
def wordTerm (root e x : Nat) (d : W256) : W128 :=
  let lane (n : Nat) : Nat := (List.range 4).foldl (fun t l =>
    let h := gfMul (x ^^^ subkey root e n l 1) (ror29 x ^^^ subkey root e n l 2) ^^^ subkey root e n l 3
    t ^^^ gfMul h (fld d (64 * l) 64)) 0
  BitVec.ofNat 128 (lane 0 + 2 ^ 64 * lane 1)

/-- Key check value of an epoch (R202). -/
def kcv (root e : Nat) : Nat :=
  [0, 1].foldl (fun a n => (List.range 4).foldl (fun a l => [1, 2, 3].foldl (fun a j =>
    a ^^^ (subkey root e n l j % 2 ^ 16)) a) a) 0

/-- One step of the chipper (R616). -/
def chipperStep (s w : Nat) : Nat :=
  let r := (s <<< 1) % 2 ^ 64
  (if s.testBit 63 then r ^^^ 0xB000000000000001 else r) ^^^ w

/-- One step of the pattern generator, which has the chipper's polynomial (R366; log entry 17). -/
def genStep (s : Nat) : Nat := chipperStep s 0

/-- The spatial compactor: outputs 16q to 16q + 15 feed chipper input q (R366). -/
def compact (so : BitVec 1024) : Nat :=
  (List.range 64).foldl (fun w q => w + 2 ^ q * ((List.range 16).foldl (fun p m => p ^^^ (so.getLsbD (16 * q + m)).toNat) 0)) 0

/-- The chipper over the chain outputs of successive shift cycles, the chains of `mask` left out (R366). -/
def chipperScan (mask : BitVec 1024) (so : List (BitVec 1024)) (s : Nat) : Nat :=
  so.foldl (fun v x => chipperStep v (compact (x &&& ~~~mask))) s

/-- Chipper signature of `n` bytes given as one little-endian value (R616). -/
def chipperVal (n v : Nat) : Nat := go ((n + 7) / 8) v 0
where
  /-- eight bytes at a time, lowest first -/
  go : Nat → Nat → Nat → Nat
    | 0, _, s => s
    | k + 1, v, s => go k (v >>> 64) (chipperStep s (v % 2 ^ 64))

/-- Chipper signature of a byte string (R616). -/
def chipperSig (bs : List Byte) : Nat := chipperVal bs.length (ofBytes bs)

/-- Multiplication in GF(2^8) with 0x11D (R416). -/
def gf8Mul (a b : Nat) : Nat := go 8 0
where
  /-- the loop over bit i − 1 of b -/
  go : Nat → Nat → Nat
    | 0, r => r
    | i + 1, r =>
      let r := r <<< 1
      let r := if r.testBit 8 then r ^^^ 0x11D else r
      go i (if b.testBit i then r ^^^ a else r)

/-- α^p (R416). -/
def alphaPow (p : Nat) : Nat := go p 1
where
  /-- p multiplications by α -/
  go : Nat → Nat → Nat
    | 0, x => x
    | k + 1, x => go k (gf8Mul x 2)

/-- Coefficients of g(x) = (x+1)(x+α)(x+α²)(x+α³), x^0 first, without the leading 1 (R416). -/
def s32Gen : List Nat :=
  [0, 1, 2, 3].foldl (fun (g : List Nat) r =>
    let a := alphaPow r
    List.zipWith (fun x y => x ^^^ y) (g.map (fun c => gf8Mul a c) ++ [0]) (0 :: g)) [1] |>.take 4

/-- The four check symbols of 32 data bytes, p0 least significant (R416). -/
def s32Check (d : W256) : Nat :=
  let bytes := (List.range 32).map (fun b => fld d (8 * (31 - b)) 8)
  let g := s32Gen
  let rem := bytes.foldl (fun (r : List Nat) x =>
    let f := r.getD 3 0 ^^^ x
    let sh := 0 :: r.take 3
    List.zipWith (fun a c => a ^^^ gf8Mul f c) sh g) [0, 0, 0, 0]
  pack (rem.map (fun x => (8, x)))

/-- The 288-bit stored word of a data word (R416). -/
def s32Enc (d : W256) : BitVec 288 := BitVec.ofNat 288 (d.toNat + 2 ^ 256 * s32Check d)

/-- The blaze mask of the check symbols 0–3 (R295). -/
def blazeMask : Nat := pack [(8, 0xB1), (8, 0x7E), (8, 0x3C), (8, 0xD2)]

/-- A blazed stored word carrying a payload (R295). -/
def blazeEnc (payload : W256) : BitVec 288 := BitVec.ofNat 288 (payload.toNat + 2 ^ 256 * (s32Check payload ^^^ blazeMask))

/-- What an S32 reader finds (R417). -/
inductive S32 where
  | ok | blazed | corrected | uncorrectable
deriving DecidableEq, Repr

/-- The four syndromes of a stored word (R417). -/
def s32Syn (c : BitVec 288) : List Nat :=
  let sym (p : Nat) : Nat := if p < 4 then fld c (256 + 8 * p) 8 else fld c (8 * (p - 4)) 8
  (List.range 4).map (fun j => ((List.range 36).map (fun p => 35 - p)).foldl (fun a p => gf8Mul a (alphaPow j) ^^^ sym p) 0)

/-- The S32 decision on a stored word (R417). -/
def s32Dec (c : BitVec 288) : W256 × S32 :=
  let d : W256 := BitVec.ofNat 256 (fld c 0 256)
  let s := s32Syn c
  if s == [0, 0, 0, 0] then (d, .ok)
  else if s == s32Syn (BitVec.ofNat 288 (2 ^ 256 * blazeMask)) then (d, .blazed)
  else
    let s0 := s.getD 0 0
    match (List.range 36).find? (fun p =>
        let a := alphaPow p
        s0 != 0 && s.getD 1 0 == gf8Mul s0 a && s.getD 2 0 == gf8Mul (s.getD 1 0) a && s.getD 3 0 == gf8Mul (s.getD 2 0) a) with
    | some p => (if p < 4 then d else d ^^^ BitVec.ofNat 256 (s0 * 2 ^ (8 * (p - 4))), .corrected)
    | none => (d, .uncorrectable)

/-- The blaze payload (R295). -/
def blazePayload (locus kind et die : Nat) : W256 :=
  BitVec.ofNat 256 (pack [(16, locus), (12, kind), (4, 0), (32, et), (16, die)])

/-- One step of a sampling LFSR (R131). -/
def lfsrStep (s : Nat) : Nat := if s % 2 = 1 then (s / 2) ^^^ 0x80200003 else s / 2

/-- The sampling states in the order of R132: compartment c, kind j at index 257·c + j, j = 256 the twin LFSR. -/
def seedStates (seed : Nat) : List Nat := go (16 * 257) (if seed = 0 then 1 else seed)
where
  /-- one multiplication by α for each state -/
  go : Nat → Nat → List Nat
    | 0, _ => []
    | k + 1, x =>
      let x := gfMul x 2
      let s := x % 2 ^ 32
      (if s = 0 then 1 else s) :: go k x

end Sys2Proof
end

