-- ==== Sys2Proof/Machine/Kinds.lean ====
section
/-! DEFINITION. The fault kinds and record codes the chapters define, their default severities and floors (R273–R275, R473). -/
namespace Sys2Proof.Machine.Kind

abbrev linkParity : Nat := 0x001
abbrev linkFail : Nat := 0x002
abbrev tapMissing : Nat := 0x003
abbrev wardenMissing : Nat := 0x004
abbrev vcsMalformed : Nat := 0x005
abbrev gateDenied : Nat := 0x006
abbrev intakeOverflow : Nat := 0x007
abbrev escUnits : Nat := 0x008
abbrev escClusters : Nat := 0x009
abbrev noPlacement : Nat := 0x00A
abbrev hostFence : Nat := 0x00B
abbrev fell : Nat := 0x00C
abbrev fellWrite : Nat := 0x00D
abbrev eccCe : Nat := 0x021
abbrev eccUe : Nat := 0x022
abbrev eccUeBurst : Nat := 0x023
abbrev cmemUe : Nat := 0x024
abbrev pathParity : Nat := 0x025
abbrev blazeConsumed : Nat := 0x026
abbrev leaseExpired : Nat := 0x031
abbrev leaseExpiredDie : Nat := 0x032
abbrev leaseRevoked : Nat := 0x033
abbrev leaseRevokedDie : Nat := 0x034
abbrev clkEtSlip : Nat := 0x051
abbrev clkVspread : Nat := 0x052
abbrev clkTspread : Nat := 0x053
abbrev clkAnchorLost : Nat := 0x054
abbrev clkAnchorDrift : Nat := 0x055
abbrev clkParentLost : Nat := 0x056
abbrev clkPllUnlock : Nat := 0x057
abbrev clkMatchStale : Nat := 0x058
abbrev vcsBranchFail : Nat := 0x061
abbrev latchOver : Nat := 0x062
abbrev latchEntry : Nat := 0x063
abbrev stopIncomplete : Nat := 0x064
abbrev stopAcctLost : Nat := 0x065
abbrev stFail : Nat := 0x071
abbrev stUnstable : Nat := 0x072
abbrev stTimeout : Nat := 0x073
abbrev stOverdue : Nat := 0x074
abbrev stClear : Nat := 0x075
abbrev stPackBad : Nat := 0x076
abbrev stRecord : Nat := 0x077
abbrev stTapScan : Nat := 0x078
abbrev thWarn : Nat := 0x081
abbrev thThrottle : Nat := 0x082
abbrev thRise : Nat := 0x083
abbrev thTrip : Nat := 0x084
abbrev thDieTrip : Nat := 0x085
abbrev thSensor : Nat := 0x086
abbrev thCal : Nat := 0x087
abbrev mgErode : Nat := 0x088
abbrev mgDroop : Nat := 0x089
abbrev mgFail : Nat := 0x08A
abbrev pwrVddLow : Nat := 0x08B
abbrev pwrVddHigh : Nat := 0x08C
abbrev pwrVrFault : Nat := 0x08D
abbrev pwrPmbus : Nat := 0x08E
abbrev hmCe : Nat := 0x091
abbrev hmUe : Nat := 0x092
abbrev hmTestFail : Nat := 0x093
abbrev hmRepairOut : Nat := 0x094
abbrev hmCollide : Nat := 0x095
abbrev hmParity : Nat := 0x096
abbrev cmemTestFail : Nat := 0x097
abbrev obsHang : Nat := 0x0A1
abbrev obsTallyMissing : Nat := 0x0A2
abbrev obsTallyQuota : Nat := 0x0A3
abbrev recCellar : Nat := 0x0A4
abbrev recClearDenied : Nat := 0x0A5
abbrev recRingUe : Nat := 0x0A6
abbrev recPfShort : Nat := 0x0A7
abbrev recClear : Nat := 0x0A8
abbrev recEtStep : Nat := 0x0A9
abbrev recGate : Nat := 0x0AA
abbrev recSkidDone : Nat := 0x0AB
abbrev recSuppressed : Nat := 0x0AC
abbrev recPf : Nat := 0x0AD
abbrev recState : Nat := 0x0AE
abbrev recFreeze : Nat := 0x0AF
abbrev seqFault : Nat := 0x0B1
abbrev seqStop : Nat := 0x0B2
abbrev seqNone : Nat := 0x0B3
abbrev imageBad : Nat := 0x0B4
abbrev startCheck : Nat := 0x0B5
abbrev tokenDenied : Nat := 0x0B6
abbrev closeLate : Nat := 0x0B7
abbrev ercElement : Nat := 0x101
abbrev ercRow : Nat := 0x102
abbrev ercColumn : Nat := 0x103
abbrev ercMulti : Nat := 0x104
abbrev ercFlag : Nat := 0x105
abbrev ercStream : Nat := 0x106
abbrev ercTicket : Nat := 0x107
abbrev ercTap : Nat := 0x108
abbrev tolAlarm : Nat := 0x111
abbrev tolConfirmed : Nat := 0x112
abbrev tolFalse : Nat := 0x113
abbrev tolDefer : Nat := 0x114
abbrev tolStream : Nat := 0x115
abbrev cruiseMismatch : Nat := 0x121
abbrev cruiseConfirmed : Nat := 0x122
abbrev cruiseEngine : Nat := 0x123
abbrev cruiseSkipped : Nat := 0x124
abbrev twinMismatch : Nat := 0x131
abbrev twinConfirmed : Nat := 0x132
abbrev twinUnresolved : Nat := 0x133
abbrev govUnmet : Nat := 0x141
abbrev rhMiss : Nat := 0x151
abbrev rhMissHub : Nat := 0x152
abbrev escEntry : Nat := 0x161
abbrev escBranch : Nat := 0x162
abbrev escSourceLost : Nat := 0x163
abbrev escExpired : Nat := 0x164
abbrev escUnmatched : Nat := 0x165
abbrev digExpel : Nat := 0x171
abbrev digSplit : Nat := 0x172
abbrev digOnce : Nat := 0x173
abbrev digTag : Nat := 0x174
abbrev digScanRace : Nat := 0x175
abbrev digKey : Nat := 0x176
abbrev digNoVerdict : Nat := 0x177
abbrev digShard : Nat := 0x178
abbrev digReseedBad : Nat := 0x179
abbrev digRevoke : Nat := 0x17A
abbrev digTap : Nat := 0x17B
abbrev digCert : Nat := 0x17C
abbrev jrnNoreplay : Nat := 0x181
abbrev jrnReplayLimit : Nat := 0x182
abbrev jrnSpareOut : Nat := 0x183
abbrev jrnEntry : Nat := 0x184
abbrev jrnSpill : Nat := 0x185
abbrev jrnSkidLate : Nat := 0x186

/-- Default severity of a kind: its chapter's; 1 for firmware kinds; 2 for every code no chapter defines (R275). -/
def severity (k : Nat) : Nat :=
  if [0x001, 0x00B, 0x00C, 0x021, 0x078, 0x091, 0x095, 0x0A3, 0x113, 0x124, 0x164, 0x165, 0x173].contains k then 0
  else if [0x005, 0x006, 0x055, 0x058, 0x062, 0x064, 0x065, 0x074, 0x076, 0x077, 0x081, 0x082, 0x083, 0x087, 0x088, 0x089, 0x08E, 0x0A1, 0x0A2, 0x0A5, 0x0A7, 0x0B1, 0x0B4, 0x0B6, 0x0B7, 0x111, 0x121, 0x131, 0x141, 0x172, 0x175, 0x177, 0x17A, 0x185].contains k then 1
  else if [0x023, 0x051, 0x071, 0x097, 0x101, 0x102, 0x103, 0x104, 0x105, 0x112, 0x122, 0x132].contains k then 3
  else if [0x002, 0x003, 0x008, 0x073, 0x075, 0x106, 0x107, 0x108, 0x115, 0x151].contains k then 4
  else if [0x009, 0x084].contains k then 5
  else if [0x00A, 0x026, 0x031, 0x033, 0x171].contains k then 6
  else if [0x032, 0x034, 0x057, 0x085, 0x08B, 0x0B3].contains k then 7
  else if 0x800 ≤ k then 1 else 2

/-- Lowest severity that firmware may set for a kind (R274, R276). -/
def floor (k : Nat) : Nat :=
  if [0x006].contains k then 1
  else if [0x004, 0x007].contains k then 2
  else if [0x002, 0x003, 0x073, 0x075, 0x106, 0x107, 0x108, 0x115].contains k then 4
  else if [0x026, 0x031, 0x033].contains k then 6
  else if [0x032, 0x034, 0x0B3].contains k then 7
  else 0

end Sys2Proof.Machine.Kind
end

