-- ==== Sys2Proof/Machine/CollectorState.lean ====
section
/-! DEFINITION. What the Collector, the fences, the fell map, the leases and the internal links hold
(01_block_architecture, 08_faults_fencing_blaze). -/
namespace Sys2Proof.Machine

/-- A fault message sent and not yet decided (R28, R280, R282). -/
structure Flight where
  /-- input link: 0–15 wardens, 16–23 memory taps, 24–31 host-core taps, 32 bypass, 33 hub units, 34 Fabric Liaison (R269). -/
  link : Nat
  /-- index of the sending part on that link: hub unit on link 33, tap on link 32 and on warden links (R271). -/
  unit : Nat
  /-- the 128-bit message (R266). -/
  msg : W128
  /-- the FLOOD bit of its class and kind, as in force when it came (R276, R282). -/
  floodOn : Bool := false
  /-- a quiet was ordered while it waited (R282). -/
  flood : Bool := false
  /-- that quiet is one that no fence had asked for before (R282). -/
  quieted : Bool := false
  /-- ET of arrival, kept once the flood quiet was ordered. -/
  arr : Tick := 0
deriving DecidableEq, Repr

/-- A 32 B entry of the fault intake queue (R269). -/
structure Intake where
  msg : W128
  arrEt : Tick
  cseq : Nat
  sev : Nat
  flood : Bool
  escal : Bool
  locusFixed : Bool
  link : Nat
  lost : Nat
deriving DecidableEq, Repr

/-- A fence in force, separately ordered (R36, R278, R285, R289). -/
structure Fence where
  /-- the scope, named by a locus of R278. -/
  scope : Loc
  /-- requested by the host (R289). -/
  host : Bool
  /-- the kind that caused it, for the floor of R289. -/
  kind : Nat
  /-- CSEQ of the message that caused it; none for a fence that no message did. -/
  cseq : Option Nat := none
  /-- the serving pair has taken that message's entry (R283). -/
  taken : Bool := false
deriving DecidableEq, Repr

/-- The scope of an order from the Collector (R277, R280). -/
inductive OrdScope where
  | locus (l : Loc)
  | comp (n : Nat)
  | die
  /-- an order that carries the rehearsal mark: the scope it would have quieted, and the CSEQ of its message (R166). -/
  | marked (l : Loc) (cseq : Nat)
deriving DecidableEq, Repr

/-- An order on its way to the parts it names, in link order (R280, R285). -/
structure Order where
  /-- true: lift. -/
  lift : Bool
  scope : OrdScope
deriving DecidableEq, Repr

/-- The field or fuse fell map's bit arrays (R291). -/
structure FellMap where
  cores : BitVec 4096
  clusters : BitVec 128
  sections : BitVec 256
  channels : BitVec 128
  hcores : BitVec 8
  slabs : BitVec 16
deriving DecidableEq, Repr

/-- A lease's STATE (R301). -/
inductive LeaseSt where
  | off | armed | held | expired | revoked
deriving DecidableEq, Repr

/-- A liveness lease (R301, R303). -/
structure Lease where
  holder : Nat
  enable : Bool
  state : LeaseSt
  periodUs : Nat
  expiry : Tick
  /-- NONCE and send ET of the last 4 ACKs, newest first (R303). -/
  acks : List (Nat × Tick)
deriving DecidableEq, Repr

/-- A blaze write-back requested (R296, R568). -/
structure Back where
  ctrl : Nat
  ch : Nat
  waddr : Nat
  pay : W256
  et : Tick
  /-- the request has been repeated (R590). -/
  again : Bool
deriving DecidableEq, Repr

/-- A FENCE_REQ whose order is on its way (R547). -/
structure FenceReq where
  comp : Nat
  tag : Nat
  order : Order
deriving DecidableEq, Repr

/-- What the Collector and the fault paths hold. -/
structure Col where
  /-- messages sent and undecided. -/
  flight : List Flight
  /-- fault intake queue, oldest first; up to 4,096 (R269, R283). -/
  intake : List Intake
  /-- next CSEQ, 32 bits (R269). -/
  cseq : Nat
  /-- messages decided but not stored since the last stored entry (R269, R283). -/
  lost : Nat
  /-- an INTAKE_OVERFLOW message is owed (R283). -/
  ovfOwed : Bool
  /-- severity-table entries that firmware has written, keyed 4096·class + kind; others hold the kind default (R275). -/
  sev : Tbl (BitVec 8)
  /-- SUSPECT flags, by locus (R277). -/
  suspects : List Nat
  /-- fences in force (R36, R278). -/
  fences : List Fence
  /-- orders on their way, in link order (R280). -/
  orders : List Order
  /-- scopes quiet at their parts, by locus (R284, R565). -/
  quiet : List Nat
  /-- compartments quiet at the taps (R277, R284). -/
  quietComps : List Nat
  /-- every job-side part quiet (R277). -/
  quietDie : Bool
  /-- persistent findings per unit (R288, R93). -/
  persist : Tbl Nat
  /-- ETs of intermittent findings per unit (R288). -/
  intermit : Tbl (List Tick)
  /-- field fell map in force (R290, R291). -/
  fell : FellMap
  /-- GEN of the fell map in force (R291). -/
  fellGen : Nat
  /-- a fell-map write is to be repeated (R292). -/
  fellOwed : Bool
  /-- loci that a service token has cleared from the map, and that stay out of service for the session (R610). -/
  undone : List Nat
  /-- ECC_UE count and start of the 1 s window per channel, keyed 16·controller + channel (R300). -/
  ueCount : Tbl (Nat × Tick)
  /-- 17 leases: 0–15 compartments, 16 die (R301). -/
  leases : Tbl Lease
  /-- REVOKEs to be acknowledged once their scope is quiet: lease and NONCE (R304). -/
  revokes : List (Nat × Nat)
  /-- lease messages from a die other than HOLDER (R303). -/
  leaseDiscards : Nat
  /-- last ET a heartbeat came, per tap 0–143 and warden 144–159 (R57). -/
  beats : Tbl Tick
  /-- taps declared missing (R57). -/
  tapsMissing : List Nat
  /-- wardens declared missing (R56, R57). -/
  wardensMissing : List Nat
  /-- links and ports with a word discarded for parity and one repeat asked, with its ET: a link by number, a port by 65,536 + the
  locus of its unit (R29, R560). -/
  parityWait : Tbl Tick
  /-- links treated as failed (R29). -/
  linkFailed : List Nat
  /-- blaze write-backs requested and not yet answered (R296, R569). -/
  backs : List Back
  /-- FENCE_REQ commands that wait for their order to be in force (R547). -/
  reqs : List FenceReq
deriving DecidableEq, Repr

/-- No unit felled. -/
def FellMap.none : FellMap := ⟨0, 0, 0, 0, 0, 0⟩

/-- A lease as reset leaves it (R301). -/
def Lease.reset : Lease := ⟨0, false, .off, 0, 0, []⟩

/-- The Collector with nothing received. -/
def Col.reset : Col :=
  { flight := [], intake := [], cseq := 0, lost := 0, ovfOwed := false, sev := [], suspects := [], fences := [],
    orders := [], quiet := [], quietComps := [], quietDie := false, persist := [], intermit := [],
    fell := FellMap.none, fellGen := 0, fellOwed := false, undone := [], ueCount := [], leases := [], revokes := [], leaseDiscards := 0,
    beats := [], tapsMissing := [], wardensMissing := [], parityWait := [], linkFailed := [], backs := [], reqs := [] }

end Sys2Proof.Machine
end

