-- ==== Sys2Proof/Machine/CommandState.lean ====
section
/-! DEFINITION. What the compartments, their command and completion rings and the Stream Port hold
(17_commands_and_registers, 18_boundary_signals). -/
namespace Sys2Proof.Machine

/-- STATE of a compartment (R543). -/
inductive CompState where
  | closed | opened | stopped | reseeding
deriving DecidableEq, Repr

/-- The value of R550. -/
def CompState.code : CompState → Nat
  | .closed => 0 | .opened => 1 | .stopped => 2 | .reseeding => 3

/-- How far a held command has come (R536). -/
inductive CmdStage where
  | fetched | executing | completed
deriving DecidableEq, Repr

/-- A command held in the block (R536). -/
structure Held where
  pkt : BitVec 512
  stage : CmdStage
deriving DecidableEq, Repr

/-- A completion record staged (R538). -/
structure Staged where
  rec_ : W256
  /-- a CMD record, for which 16 places are kept. -/
  cmd : Bool
deriving DecidableEq, Repr

/-- A compartment. -/
structure Comp where
  st : CompState
  /-- kind that made the last stop (R550). -/
  cause : Nat
  /-- CSEQ of the intake entries that caused the current stop and await follow-up (R548). -/
  causes : List Nat
  expelled : Bool
  /-- ET at which a close began whose RECANTING entries are kept (R600). -/
  closeEt : Option Tick
  /-- ring indices (R534, R535, R537). -/
  cmdHead : Nat
  cmdTail : Nat
  cplHead : Nat
  cplTail : Nat
  cmdErr : Nat
  cplErr : Nat
  /-- J_CPLQ_CFG.LOST, and LOST owed to the next record (R538). -/
  lost : Nat
  lostOwed : Bool
  /-- indices fetched and not yet arrived (R535). -/
  fetching : Nat
  held : List Held
  staged : List Staged
deriving DecidableEq, Repr

/-- What a Stream Port transfer is for (R576, R578). -/
inductive XferFor where
  | fetch (comp : Nat)
  /-- the record written. -/
  | completion (comp : Nat) (record : W256)
  | spill (slot : Nat)
  | ringFetch (comp jsn : Nat)
  /-- the words of the record that an earlier piece brought. -/
  | voteFetch (comp tag : Nat) (got : List W256)
  /-- records written, and the ET of the first and of the last. -/
  | trace (comp count first last : Nat)
  | view (comp : Nat) (tag : Option Nat) (n written : Nat) (quota : Bool)
  | census (comp : Nat) (tag : Option Nat) (n written : Nat)
  /-- the status of the stop once the record is written. -/
  | cut (comp status : Nat)
deriving DecidableEq, Repr

/-- A Stream Port transfer under way (R577, R578). -/
structure Xfer where
  tag : Nat
  /-- lane 0 or 1 (R576). -/
  lane : Nat
  write : Bool
  comp : Nat
  addr : Nat
  len : Nat
  use : XferFor
  issued : Tick
  /-- it repeats a READ whose beat was uncorrectable (R578). -/
  again : Bool
deriving DecidableEq, Repr

/-- Command state. -/
structure Cmd where
  comps : Tbl Comp
  xfers : List Xfer
  /-- transfers that wait for the next 1 ms window, with their beats (R309). -/
  xwait : List (Xfer × List W256)
  nextTag : Nat
  /-- the die is stopped at severity 7 (R277, R543). -/
  dieStop : Bool
  /-- host-class cores halted (R570). -/
  halted : List Nat
  /-- M_ASSIGN of each unit: COMP and VALID, bits 4:0 (R555). -/
  assigns : Tbl Nat
  /-- entry to DRAIN (R601). -/
  drainEt : Option Tick
deriving DecidableEq, Repr

/-- A compartment at SELFTEST (R543). -/
def Comp.reset : Comp :=
  { st := .closed, cause := 0, causes := [], expelled := false, closeEt := none, cmdHead := 0, cmdTail := 0, cplHead := 0,
    cplTail := 0, cmdErr := 0, cplErr := 0, lost := 0, lostOwed := false, fetching := 0, held := [], staged := [] }

/-- Every compartment closed. -/
def Cmd.reset : Cmd := ⟨[], [], [], 0, false, [], [], none⟩

end Sys2Proof.Machine
end

