-- ==== Sys2Proof/Machine/DigestState.lean ====
section
/-! DEFINITION. What the memory taps' digest lanes and the Digest Reducer hold (06_weight_digests). -/
namespace Sys2Proof.Machine

/-- A tensor entry (R207). -/
structure Tensor where
  tid : Nat
  comp : Nat
  valid : Bool
  scan : Bool
  extFirst : Nat
  extCount : Nat
  words : Nat
  offsum : Nat
deriving DecidableEq, Repr

/-- An extent (R208). -/
structure Extent where
  woff : Nat
  ctrl : Nat
  nwords : Nat
  waddr : Nat
deriving DecidableEq, Repr

/-- One bank of fold state of a tensor entry at one memory tap (R214). -/
structure Fold where
  acc : W128
  count : Nat
  woffSum : Nat
  partialW : Bool
  blazed : Bool
deriving DecidableEq, Repr

/-- Why the open window is not an ordinary epoch's (R227, R228, R231). -/
inductive DigMode where
  | normal
  | reseed (e : Nat)
  | restore (e : Nat)
  | certify (e : Nat)
deriving DecidableEq, Repr

/-- A DIGEST step arrival the block holds for the host (R213). -/
structure HeldArr where
  /-- the latch operation, 128 bits (R343). -/
  op : W128
  tag : Nat
  /-- outbound entries, by index and reuse count, that DRAIN waits for (R196). -/
  waits : List (Nat × Nat)
  /-- one of them was recanted or dropped (R196). -/
  bad : Bool
  /-- the epoch whose part it waits for, when its step closes one (R213). -/
  part : Option Nat
deriving DecidableEq, Repr

/-- The retained tensor digests of one closed epoch (R218). -/
structure Retained where
  epoch : Nat
  flags : Nat
  /-- by slot: TID, digest, blazed. -/
  digests : Tbl (Nat × W128 × Bool)
  closedAt : Tick
deriving DecidableEq, Repr

/-- A close under way: the entries' digests gathered so far (R216, R217). -/
structure Closing where
  epoch : Nat
  mode : DigMode
  tclose : Tick
  flags : Nat
  kcv : Nat
  /-- the root key its subkeys follow from (R201). -/
  root : Nat
  /-- digests of entries done, by slot. -/
  done : Tbl (Nat × W128 × Bool)
  /-- slots still to be scanned, with TID and the extents in force at the close in the order they are read (R209, R217). -/
  toScan : Tbl (Nat × List Extent)
deriving DecidableEq, Repr

/-- A CERTIFY or RESTORE command that waits for its verdict (R228, R231, R542). -/
structure CheckWait where
  tag : Nat
  opcode : Nat
  epoch : Nat
  /-- RESTORE with ARB = 1: it waits for a verdict of any replica (R231, R541). -/
  arb : Bool
deriving DecidableEq, Repr

/-- What the die's side of a compartment's voting holds. -/
structure DigComp where
  /-- 256-bit root key in force (R201). -/
  root : Nat
  /-- root key written since, for the next window that opens (R201). -/
  rootNext : Option Nat
  /-- the 64 B vote record in force (R232). -/
  vote : BitVec 512
  /-- a vote record waiting for the next close tick (R232). -/
  voteNext : Option (BitVec 512)
  /-- steps counted from the base in the open epoch (R210). -/
  steps : Nat
  /-- local DIGEST arrivals of the current step (R211). -/
  arrivals : Nat
  /-- T_close of the current step, once its last local arrival came (R211). -/
  tclose : Option Tick
  /-- epochs closed since the base (R212). -/
  epochs : Nat
  /-- a fold window is open (R210). -/
  windowOpen : Bool
  /-- which of the two banks the open window folds into (R214). -/
  bank : Nat
  /-- DIRTY (R215). -/
  dirty : Bool
  /-- the open epoch is tainted (R192, R224). -/
  tainted : Bool
  /-- epochs that are to be sent ABSENT: a race, a failed tap (R217, R224). -/
  absent : Bool
  mode : DigMode
  held : List HeldArr
  /-- closes whose part has not been sent, oldest first. -/
  closing : List Closing
  retained : List Retained
  /-- epochs whose part was sent and whose verdict is awaited, with T_close, oldest first (R224). -/
  awaited : List (Nat × Tick)
  /-- 64 B certificates, by slot 0–15, and the slot the next one takes (R229, R550). -/
  certs : Tbl (BitVec 512)
  certNext : Nat
  /-- CODE and EPOCH of the last verdict applied (R550). -/
  lastCode : Nat
  lastEpoch : Nat
  /-- the last 16 committed epochs with the ET of their vote's decision, newest first (R223, R229). -/
  committed : List (Nat × Tick)
  /-- epochs that ended otherwise, with their verdict code, newest first, at most 16 (R228). -/
  verdicts : List (Nat × Nat × Bool)
  /-- epochs for which DIG_SHARD was raised, newest first (R226). -/
  shardRaised : List Nat
  waits : List CheckWait
  /-- reference mean xs of roles A and B as numerator and count, and the sums of the running period (R143). -/
  driftRef : List (Int × Nat)
  driftRun : List (Int × Nat)
deriving DecidableEq, Repr

/-- What an arbiter has of one replica in one open vote (R220). -/
structure RepPart where
  lane0 : Nat
  lane1 : Nat
  count : Nat
  flags : Nat
  /-- sender die and KCV of each part. -/
  kcvs : List (Nat × Nat)
deriving DecidableEq, Repr

/-- An open vote (R220). -/
structure OpenVote where
  /-- low 32 bits of the epoch number. -/
  epoch : Nat
  first : Tick
  parts : Tbl RepPart
deriving DecidableEq, Repr

/-- A check of one replica's reduced digest: CERTIFY, RESTORE or RESEED parts gathered (R227, R228, R231). -/
structure RepCheck where
  epoch : Nat
  replica : Nat
  /-- 4 CERTIFY, 5 RESTORE, 6 RESEED: the FLAGS bit (R219). -/
  what : Nat
  first : Tick
  part : RepPart
deriving DecidableEq, Repr

/-- TENSOR_PARTs gathered after an EXPEL (R226). -/
structure TensorGather where
  epoch : Nat
  donor : Nat
  expelled : Nat
  first : Tick
  /-- per TID: donor's digest, expelled replica's digest. -/
  tids : Tbl (W128 × W128)
  lasts : Nat
  overflow : Bool
  unretained : Bool
deriving DecidableEq, Repr

/-- What the arbiter's side holds for one compartment (R220–R231). -/
structure Arb where
  votes : List OpenVote
  /-- absent runs by replica (R221). -/
  runs : Tbl Nat
  /-- epoch, agreed digest, majority mask, ET of decision, tainted; newest first, at most 16 (R222). -/
  agreed : List (Nat × W128 × Nat × Tick × Bool)
  checks : List RepCheck
  /-- lanes that RESTORE on this die named, with the epoch (R231). -/
  restoreRef : Option (Nat × W128)
  gather : List TensorGather
  /-- low 32 bits of the last 16 epochs decided, newest first: a late part opens no second vote. -/
  decided : List Nat
deriving DecidableEq, Repr

/-- Digest state of the block. -/
structure Dig where
  comps : Tbl DigComp
  /-- tensor entries in force, by slot 0–4,095 (R207). -/
  tensors : Tbl Tensor
  /-- extents in force, by index 0–16,383 (R208). -/
  extents : Tbl Extent
  /-- staged tensor entries and extents, with the compartment they wait for (R209). -/
  stagedTensors : Tbl (Nat × Tensor)
  stagedExtents : Tbl (Nat × Extent)
  /-- fold banks, keyed (2·slot + bank)·8 + controller (R214). -/
  folds : Tbl Fold
  arbs : Tbl Arb
deriving DecidableEq, Repr

/-- A fold bank with nothing folded (R214). -/
def Fold.zero : Fold := ⟨0, 0, 0, false, false⟩

/-- The vote record's reset value: ABSENT_LIMIT 2, LOCAL_ARRIVALS 1, SCAN_SHARE 2, VOTE_WAIT 1,000 (R232). -/
def voteReset : BitVec 512 :=
  BitVec.ofNat 512 (pack [(16, 0), (8, 0), (4, 0), (4, 2), (16, 0), (16, 0), (32, 0), (8, 1), (3, 2), (5, 0), (16, 1000)])

/-- A compartment with voting off. -/
def DigComp.reset : DigComp :=
  { root := 0, rootNext := none, vote := voteReset, voteNext := none, steps := 0, arrivals := 0, tclose := none, epochs := 0,
    windowOpen := false, bank := 0, dirty := false, tainted := false, absent := false, mode := .normal, held := [], closing := [],
    retained := [], awaited := [], certs := [], certNext := 0, lastCode := 0, lastEpoch := 0,
    committed := [], verdicts := [], shardRaised := [], waits := [],
    driftRef := [], driftRun := [(0, 0), (0, 0)] }

/-- An arbiter with no vote open. -/
def Arb.reset : Arb := ⟨[], [], [], [], none, [], []⟩

/-- No entries, no votes. -/
def Dig.reset : Dig :=
  { comps := [], tensors := [], extents := [], stagedTensors := [], stagedExtents := [], folds := [], arbs := [] }

end Sys2Proof.Machine
end

