-- ==== Sys2Proof/Machine/EscrowState.lean ====
section
/-! DEFINITION. What the taps' send ports and the Escrow Table hold (05_escrow_and_taint). -/
namespace Sys2Proof.Machine

/-- STATE of an Escrow Table entry that is not FREE (R175). -/
inductive EscSt where
  | held | provisional | recanting | branchFailed | opened | earlyClear | earlyRecant | recalling
deriving DecidableEq, Repr

/-- The value of R175. -/
def EscSt.code : EscSt → Nat
  | .held => 1 | .provisional => 2 | .recanting => 3 | .branchFailed => 4
  | .opened => 5 | .earlyClear => 6 | .earlyRecant => 7 | .recalling => 8

/-- An Escrow Table entry (R174). -/
structure EscEntry where
  st : EscSt
  /-- DIR: true inbound. -/
  inbound : Bool
  /-- MODE at registration: true forward. -/
  forward : Bool
  reuse : Nat
  comp : Nat
  peerComp : Nat
  locus : Loc
  cord : Nat
  seqNeed : Nat
  peer : Nat
  /-- DEST_KIND 1: a multicast group. -/
  group : Bool
  sendId : Nat
  slot : Nat
  origin : Nat
  acks : Nat
  /-- ET at which the entry times out; the layout keeps bits [31:0]. -/
  deadline : Tick
  /-- kind code sent as REASON, for a repeat of RECANT (R185, R188). -/
  reason : Nat
  /-- inbound: the ET of ORIGIN in full, or of the arrival where the dies share no ET; INB_TIMEOUT runs from it (R181, R188). -/
  born : Tick
deriving DecidableEq, Repr

/-- A send known at a tap's send port (R563). -/
structure SendSt where
  /-- Escrow Table index. -/
  index : Nat
  unit : Nat
  comp : Nat
  cord : Nat
  seqNeed : Nat
  /-- granted, and not yet reported left. -/
  granted : Bool
  /-- ET of presentation (PROOF_WAIT of R444). -/
  et : Tick
deriving DecidableEq, Repr

/-- The proven watermark of a unit (R171). -/
structure Wmark where
  mark : Nat
  /-- tickets past the mark that have completed so that they may be passed. -/
  good : List Nat
  /-- tickets that failed: SEQ, cord, kind of the cause (R177). -/
  bad : List (Nat × Nat × Nat)
deriving DecidableEq, Repr

/-- A tap's credit pool (R172). -/
structure Pool where
  /-- compartment served; none while the tap serves none. -/
  comp : Option Nat
  credits : Nat
  /-- credits asked for and not granted. -/
  asked : Nat
  /-- QUOTA counter of stalls. -/
  stalls : Nat
  /-- units whose send the port has not taken for want of credit (R465). -/
  waits : List Nat
deriving DecidableEq, Repr

/-- A proof or drop report on its way to the hub (R179). -/
structure ProofRep where
  index : Nat
  reuse : Nat
  proven : Bool
  /-- kind code of the cause, when dropped. -/
  reason : Nat
deriving DecidableEq, Repr

/-- Escrow state of the block. -/
structure Esc where
  /-- entries that are not FREE, by index 0–16,383 (R174). -/
  entries : Tbl EscEntry
  /-- reuse counts modulo 4, by index (R173). -/
  reuse : Tbl Nat
  /-- sends at the taps, keyed 256·tap + HANDLE (R563). -/
  sends : Tbl SendSt
  /-- watermarks, keyed 32·tap + unit; unlisted: none (R171). -/
  wmarks : Tbl Wmark
  /-- credit pools by tap (R172). -/
  pools : Tbl Pool
  /-- reports on their way, oldest first (R173, R179). -/
  reports : List ProofRep
  /-- EARLY entries expired (R187). -/
  expired : Nat
  /-- messages that matched no entry (R176, R187). -/
  unmatched : Nat
  /-- arrival reports that found no entry to allocate (R181). -/
  arrQuota : Nat
deriving DecidableEq, Repr

/-- A pool before its tap serves a compartment (R172). -/
def Pool.reset : Pool := ⟨none, 0, 0, 0, []⟩

/-- No sends. -/
def Esc.reset : Esc :=
  { entries := [], reuse := [], sends := [], wmarks := [], pools := [], reports := [], expired := 0, unmatched := 0, arrQuota := 0 }

end Sys2Proof.Machine
end

