-- ==== Sys2Proof/Machine/FabricState.lean ====
section
/-! DEFINITION. What the Fabric Liaison, the Latch Array and the consistent stop hold (10_latches_and_stop). -/
namespace Sys2Proof.Machine

/-- What else happens when a branch is delivered or fails (R176, R188, R357, R340). -/
inductive BranchFor where
  /-- nothing. -/
  | plain
  /-- a RECANT of an outbound entry, named by index and reuse count. -/
  | escOut (index reuse : Nat)
  /-- a RECALL of an inbound entry, named alike. -/
  | recall (index reuse : Nat)
  /-- a STOP_MARK of a compartment's stop. -/
  | mark (comp : Nat)
  /-- a branch of a host command's multicast: compartment and TAG. -/
  | command (comp tag : Nat)
deriving DecidableEq, Repr

/-- A VC-S branch issued and not yet delivered (R339). -/
structure Branch where
  mseq : Nat
  cls : Nat
  dst : Nat
  group : Nat
  /-- payload and its length in 16 B units. -/
  payload : BitVec 384
  plen : Nat
  attempts : Nat
  firstEt : Tick
  use : BranchFor
  /-- its last attempt was answered NACK (R339). -/
  nacked : Bool := false
deriving DecidableEq, Repr

/-- A VC-S message in the receiving intake, header fields and payload (R331, R335). -/
structure VcsMsg where
  cls : Nat
  plen : Nat
  src : Nat
  dst : Nat
  group : Nat
  mseq : Nat
  sentEt : Nat
  payload : BitVec 384
deriving DecidableEq, Repr

/-- A host command's multicast whose branches are awaited (R340). -/
structure Mcast where
  comp : Nat
  tag : Nat
  opcode : Nat
  left : Nat
  failed : List Nat
  /-- STOP: the record also waits for the stop itself (R359). -/
  stop : Bool
  /-- status the command completes with. -/
  status : Nat
deriving DecidableEq, Repr

/-- STATE of a latch that is not FREE (R342). -/
inductive LatchSt where
  | idle | opened | done | lost
deriving DecidableEq, Repr

/-- The value of R342. -/
def LatchSt.code : LatchSt → Nat
  | .idle => 1 | .opened => 2 | .done => 3 | .lost => 4

/-- A latch (R341). -/
structure Latch where
  count : Nat
  target : Nat
  comp : Nat
  st : LatchSt
  group : Nat
  gen : Nat
  early : Nat
  auto : Bool
  fwd : Bool
  strag : Nat
  pdie : Nat
  lastSrc : Nat
  platch : Nat
  pcomp : Nat
  firstEt : Nat
  lastEt : Nat
deriving DecidableEq, Repr

/-- A compartment's consistent stop (R354–R363). -/
structure Stop where
  stopId : Nat
  t : Tick
  issuer : Bool
  /-- command TAG on the issuer. -/
  tag : Nat
  home : Nat
  latch : Nat
  homeComp : Nat
  tally : Bool
  lateJoin : Bool
  /-- ET_STOP once reached. -/
  etStop : Option Tick
  etQuiet : Option Tick
  etCut : Option Tick
  /-- marks not yet delivered. -/
  marksLeft : Nat
  arrived : Bool
  /-- DONE of the stop latch has come. -/
  done : Bool
  fault : Bool
  recanted : Bool
  captures : List W256
  captured : Nat
  held : Nat
  /-- RESUME came, with its resume time. -/
  resume : Option Tick
  /-- the record has been written. -/
  written : Bool
  incomplete : Bool
deriving DecidableEq, Repr

/-- Fabric, latch and stop state of the block. -/
structure Fab where
  /-- next MSEQ (R331). -/
  mseq : Nat
  branches : List Branch
  /-- messages taken and not yet handled, oldest first; 1,024 flits (R335). -/
  intake : List VcsMsg
  mcasts : List Mcast
  /-- multicast groups: identifier to ranges by number, each (first die, last die, compartment) (R337). -/
  groups : Tbl (Tbl (Nat × Nat × Nat))
  /-- latches that are not FREE, by index (R341). -/
  latches : Tbl Latch
  /-- latch operations sent to other dies and awaiting RESULT: HOME, LATCH, compartment, TAG or none for a sequencer (R343). -/
  pendOps : List (Nat × Nat × Nat × Option Nat)
  /-- sends granted per compartment and key: key 2·(65536·comp + DEST) + group bit (R352). -/
  granted : Tbl Nat
  /-- granted counts at the last mark sent (R357). -/
  marked : Tbl Nat
  /-- sends landed per source, compartment and key: 2^24·SRC + the key above (R352). -/
  landed : Tbl Nat
  /-- landed targets from STOP_MARKs, keyed as landed (R359). -/
  targets : Tbl Nat
  acctLost : List Nat
  /-- cut buffers: address and length (R353). -/
  cutBuf : Tbl (Nat × Nat)
  /-- last cut record header of each compartment, for the J-page (R353, R550). -/
  cutHdr : Tbl (BitVec 512)
  stops : Tbl Stop
  /-- STOP_ORDERs discarded during a stop (R363). -/
  stopDiscards : Nat
  /-- straggler counters by compartment (R349). -/
  stragglers : Tbl Nat
  /-- corrected latch entries (R350). -/
  corrected : Nat
  /-- correctable VC-S counts: messages sent in the 1 ms window by compartment (R309). -/
  vcsUsed : Tbl Nat
  /-- Stream Port bytes used in the window by compartment (R309). -/
  streamUsed : Tbl Nat
  /-- VCS and STREAM budgets of the running window, by compartment; unlisted: the reset values (R306, R309). -/
  vcsBudget : Tbl Nat
  streamBudget : Tbl Nat
  /-- start of the window (R309). -/
  window : Tick
  /-- counted messages that wait for the next window, oldest first (R309). -/
  waiting : List (Nat × Branch)
deriving DecidableEq, Repr

/-- A fabric with nothing sent. -/
def Fab.reset : Fab :=
  { mseq := 0, branches := [], intake := [], mcasts := [], groups := [], latches := [], pendOps := [], granted := [], marked := [],
    landed := [], targets := [], acctLost := [], cutBuf := [], cutHdr := [], stops := [], stopDiscards := 0, stragglers := [],
    corrected := 0, vcsUsed := [], streamUsed := [], vcsBudget := [], streamBudget := [], window := 0, waiting := [] }

end Sys2Proof.Machine
end

