-- ==== Sys2Proof/Machine/Float.lean ====
section
/-! DEFINITION. IEEE 754 binary32 and binary64 arithmetic, round to nearest even, on exact significands
(03_tolerance_and_cruise R107, R116, R117, R125). -/
namespace Sys2Proof

/-- A floating value: sign, significand and exponent of a finite number, an infinity, or a NaN. -/
inductive Fl where
  /-- (−1)^neg · m · 2^e; m = 0 is a signed zero with e = 0. -/
  | fin (neg : Bool) (m : Nat) (e : Int)
  | inf (neg : Bool)
  | nan
deriving DecidableEq, Repr

/-- A binary format: precision, exponent of the least subnormal, largest exponent of the leading bit. -/
structure FFmt where
  p : Nat
  emin : Int
  emax : Int
deriving DecidableEq, Repr

/-- binary32. -/
def f32 : FFmt := ⟨24, -149, 127⟩
/-- binary64. -/
def f64 : FFmt := ⟨53, -1074, 1023⟩

/-- Bits in the binary form of `n`; 0 for 0. -/
def bitLen (n : Nat) : Nat := if n = 0 then 0 else Nat.log2 n + 1

/-- `m / 2^k` to the nearest integer, ties to even. -/
def rneShift (m k : Nat) : Nat :=
  if k = 0 then m
  else
    let q := m / 2 ^ k
    let r := m % 2 ^ k
    let h := 2 ^ (k - 1)
    if r > h || (r = h && q % 2 = 1) then q + 1 else q

/-- Trailing zero bits moved into the exponent, so that equal values are equal data. -/
def flNorm (neg : Bool) (m : Nat) (e : Int) : Fl :=
  if m = 0 then .fin neg 0 0
  else
    let t := go m (bitLen m)
    .fin neg (m / 2 ^ t) (e + t)
where
  /-- how many of the low bits are zero -/
  go : Nat → Nat → Nat
    | _, 0 => 0
    | m, k + 1 => if m % 2 = 1 then 0 else 1 + go (m / 2) k

/-- The exact value (−1)^neg · m · 2^e rounded once to the format; a nonzero value that rounds to zero keeps its sign. -/
def flRound (F : FFmt) (neg : Bool) (m : Nat) (e : Int) : Fl :=
  if m = 0 then .fin neg 0 0
  else
    let sh := max (max ((bitLen m : Int) - F.p) (F.emin - e)) 0
    let q := rneShift m sh.toNat
    if q = 0 then .fin neg 0 0
    else if e + sh + (bitLen q : Int) - 1 > F.emax then .inf neg
    else flNorm neg q (e + sh)

/-- Positive zero. -/
def Fl.zero : Fl := .fin false 0 0

/-- The finite exact sum of two finite values, as sign, magnitude and exponent. -/
def exactAdd (n1 : Bool) (m1 : Nat) (e1 : Int) (n2 : Bool) (m2 : Nat) (e2 : Int) : Bool × Nat × Int :=
  let e := min e1 e2
  let a : Int := (m1 * 2 ^ (e1 - e).toNat : Nat)
  let b : Int := (m2 * 2 ^ (e2 - e).toNat : Nat)
  let x := (if n1 then -a else a) + (if n2 then -b else b)
  (decide (x < 0), x.natAbs, e)

/-- Addition with one rounding. -/
def flAdd (F : FFmt) : Fl → Fl → Fl
  | .nan, _ => .nan
  | _, .nan => .nan
  | .inf a, .inf b => if a = b then .inf a else .nan
  | .inf a, _ => .inf a
  | _, .inf b => .inf b
  | .fin n1 m1 e1, .fin n2 m2 e2 =>
    if m1 = 0 && m2 = 0 then .fin (n1 && n2) 0 0
    else
      let r := exactAdd n1 m1 e1 n2 m2 e2
      if r.2.1 = 0 then .fin false 0 0 else flRound F r.1 r.2.1 r.2.2

/-- The value with its sign turned. -/
def flNeg : Fl → Fl
  | .nan => .nan
  | .inf a => .inf (!a)
  | .fin n m e => .fin (!n) m e

/-- The magnitude. -/
def flAbs : Fl → Fl
  | .nan => .nan
  | .inf _ => .inf false
  | .fin _ m e => .fin false m e

/-- Subtraction with one rounding. -/
def flSub (F : FFmt) (a b : Fl) : Fl := flAdd F a (flNeg b)

/-- Multiplication with one rounding. -/
def flMul (F : FFmt) : Fl → Fl → Fl
  | .nan, _ => .nan
  | _, .nan => .nan
  | .inf a, .inf b => .inf (a != b)
  | .inf a, .fin n m _ => if m = 0 then .nan else .inf (a != n)
  | .fin n m _, .inf b => if m = 0 then .nan else .inf (n != b)
  | .fin n1 m1 e1, .fin n2 m2 e2 => flRound F (n1 != n2) (m1 * m2) (e1 + e2)

/-- Fused a·b + c with one rounding. -/
def flFma (F : FFmt) (a b c : Fl) : Fl :=
  match a, b, c with
  | .fin n1 m1 e1, .fin n2 m2 e2, .fin n3 m3 e3 =>
    if m1 * m2 = 0 && m3 = 0 then .fin ((n1 != n2) && n3) 0 0
    else
      let r := exactAdd (n1 != n2) (m1 * m2) (e1 + e2) n3 m3 e3
      if r.2.1 = 0 then .fin false 0 0 else flRound F r.1 r.2.1 r.2.2
  | .fin .., .fin .., .inf s => .inf s
  | .fin .., .fin .., .nan => .nan
  | x, y, z => flAdd F (flMul F x y) z

/-- Division with one rounding. -/
def flDiv (F : FFmt) : Fl → Fl → Fl
  | .nan, _ => .nan
  | _, .nan => .nan
  | .inf _, .inf _ => .nan
  | .inf a, .fin n _ _ => .inf (a != n)
  | .fin n _ _, .inf b => .fin (n != b) 0 0
  | .fin n1 m1 e1, .fin n2 m2 e2 =>
    if m2 = 0 then (if m1 = 0 then .nan else .inf (n1 != n2))
    else if m1 = 0 then .fin (n1 != n2) 0 0
    else
      let k := F.p + 3 + bitLen m2
      let q := m1 * 2 ^ k / m2
      let st := if m1 * 2 ^ k % m2 = 0 then 0 else 1
      flRound F (n1 != n2) (2 * q + st) (e1 - e2 - k - 1)

/-- Whether a value is finite. -/
def flFinite : Fl → Bool
  | .fin .. => true
  | _ => false

/-- a < b; false when either is NaN. -/
def flLt : Fl → Fl → Bool
  | .nan, _ => false
  | _, .nan => false
  | .inf a, .inf b => a && !b
  | .inf a, .fin .. => a
  | .fin .., .inf b => !b
  | .fin n1 m1 e1, .fin n2 m2 e2 => (exactAdd n1 m1 e1 (!n2) m2 e2).1

/-- a ≤ b; false when either is NaN. -/
def flLe (a b : Fl) : Bool := a != .nan && b != .nan && !flLt b a

/-- The value rounded into another format. -/
def flTo (F : FFmt) : Fl → Fl
  | .fin n m e => flRound F n m e
  | x => x

/-- An integer as a value of the format. -/
def flNat (F : FFmt) (n : Nat) : Fl := flRound F false n 0

/-- 2^e. -/
def flPow2 (e : Int) : Fl := .fin false 1 e

/-- The nearest integer, ties to even; none where the value is not finite (R120). -/
def flRoundInt : Fl → Option Int
  | .fin n m e =>
    let k := if e ≥ 0 then m * 2 ^ e.toNat else rneShift m (-e).toNat
    some (if n then -(k : Int) else k)
  | _ => none

/-- The bits of a value in a format of `eb` exponent bits and `mb` mantissa bits; a NaN is the quiet NaN (R125). -/
def flEnc (F : FFmt) (eb mb : Nat) : Fl → Nat
  | .nan => (2 ^ eb - 1) * 2 ^ mb + 2 ^ (mb - 1)
  | .inf n => b2n n * 2 ^ (eb + mb) + (2 ^ eb - 1) * 2 ^ mb
  | .fin n m e =>
    let s := b2n n * 2 ^ (eb + mb)
    if m = 0 then s
    else
      let top := e + (bitLen m : Int) - 1
      let least := F.emin + (F.p : Int) - 1
      if top < least then s + m * 2 ^ (e - F.emin).toNat
      else
        let E := (top - least + 1).toNat
        s + E * 2 ^ mb + (m * 2 ^ (F.p - bitLen m) - 2 ^ mb)

/-- The value of bits in such a format. -/
def flDec (F : FFmt) (eb mb v : Nat) : Fl :=
  let n := nfld v (eb + mb) 1 == 1
  let E := nfld v mb eb
  let M := nfld v 0 mb
  if E = 2 ^ eb - 1 then (if M = 0 then .inf n else .nan)
  else if E = 0 then flNorm n M F.emin
  else flNorm n (2 ^ mb + M) (F.emin + (E : Int) - 1)

/-- FP32 bits of a value. -/
def enc32 (x : Fl) : Nat := flEnc f32 8 23 (flTo f32 x)
/-- The value of FP32 bits. -/
def dec32 (v : Nat) : Fl := flDec f32 8 23 v
/-- FP64 bits of a value. -/
def enc64 (x : Fl) : Nat := flEnc f64 11 52 (flTo f64 x)

end Sys2Proof
end

