-- ==== Sys2Proof/Machine/Residue.lean ====
section
/-! DEFINITION. Residues modulo 2^61 − 1, the checked formats and localisation (02_exact_residue_check R60–R88). -/
namespace Sys2Proof

/-- M61 = 2^61 − 1 (R60). -/
def m61 : Nat := 2 ^ 61 - 1

/-- A received residue: the value M61 stands for zero (R61). -/
def canon61 (v : Nat) : Nat := (v % 2 ^ 61) % m61

/-- The residue of a signed integer rotated by t places (R61). -/
def rotResidue (n : Int) (t : Nat) : Nat :=
  let x := n.natAbs % m61 * 2 ^ t % m61
  if n < 0 then (m61 - x) % m61 else x

/-- The residue of n·2^e (R60). -/
def dyResidue (n e : Int) : Nat := rotResidue n (e % 61).toNat

/-- a − b mod M61. -/
def sub61 (a b : Nat) : Nat := (a + (m61 - b % m61)) % m61

/-- A decoded element: signed significand and exponent, or not finite, or VT2's invalid code (R62, R65). -/
inductive Elem where
  | val (n e : Int)
  | nonfinite
  | invalid
deriving DecidableEq, Repr

/-- A sign-magnitude element of `eb` exponent bits and `mb` mantissa bits whose normal exponent is E + off and whose
subnormal exponent is sub (R62). -/
def decSM (eb mb : Nat) (off sub : Int) (nonfin : Nat → Nat → Bool) (v : Nat) : Elem :=
  let E := nfld v mb eb
  let M := nfld v 0 mb
  let s : Int := if nfld v (eb + mb) 1 = 1 then -1 else 1
  if nonfin E M then .nonfinite
  else if E = 0 then .val (s * (M : Int)) sub
  else .val (s * ((2 ^ mb + M : Nat) : Int)) ((E : Int) + off)

/-- An element of the format with FMT code `f` (R62, R68). -/
def decElem (f v : Nat) : Elem :=
  match f with
  | 0x1 => decSM 2 1 (-2) (-1) (fun _ _ => false) v
  | 0x2 => decSM 2 3 (-4) (-3) (fun _ _ => false) v
  | 0x3 => decSM 3 2 (-5) (-4) (fun _ _ => false) v
  | 0x4 | 0x7 => decSM 4 3 (-10) (-9) (fun E M => E == 15 && M == 7) v
  | 0x5 | 0x8 => decSM 5 2 (-17) (-16) (fun E _ => E == 31) v
  | 0x6 => .val (sint 8 v) (-6)
  | 0x9 => decSM 8 7 (-134) (-133) (fun E _ => E == 255) v
  | 0xA => decSM 8 23 (-150) (-149) (fun E _ => E == 255) v
  | 0xB => if v % 4 = 2 then .invalid else .val (sint 2 v) 0
  | 0xC => .val (sint 2 v) 0
  | _ => .val 0 0

/-- Bits of one element (R62). -/
def fmtBits : Nat → Nat
  | 0x1 => 4
  | 0x2 | 0x3 => 6
  | 0x4 | 0x5 | 0x6 | 0x7 | 0x8 => 8
  | 0x9 => 16
  | 0xA => 32
  | 0xB | 0xC => 2
  | _ => 8

/-- Elements in a 256-bit word (R73). -/
def fmtPer (f : Nat) : Nat := 256 / fmtBits f

/-- Elements along K that share a scale; 0 where the format has none (R63). -/
def fmtBlock : Nat → Nat
  | 0x1 | 0x2 | 0x3 | 0x4 | 0x5 | 0x6 | 0xC => 32
  | 0xB => 16
  | _ => 0

/-- Whether an operand of A or B may have the format (R68). -/
def fmtAB (f : Nat) : Bool := (1 ≤ f && f ≤ 9) || f == 0xB || f == 0xC

/-- Where an element error lies, as the compare reports it (R86). -/
inductive Local where
  | ok
  | element (ri cj : Nat)
  | row (ri : Nat)
  | column (cj : Nat)
  | multiple
deriving DecidableEq, Repr

/-- The last rotation t below 61 with d·2^t = x; none where there is none (R86). -/
def findRot (d x : Nat) : Option Nat :=
  (List.range 61).foldl (fun a t => if d * 2 ^ t % m61 = x then some t else a) none

/-- Localisation of the three differences (R86). -/
def localise (d0 dr dc : Nat) : Local :=
  if d0 = 0 && dr = 0 && dc = 0 then .ok
  else
    let ri := if d0 = 0 then none else findRot d0 dr
    let cj := if d0 = 0 then none else findRot d0 dc
    match ri, cj with
    | some r, some c => .element r c
    | some r, none => .row r
    | none, some c => .column c
    | none, none => .multiple

/-- The class code of R267: 0 ok, 1 element, 2 row, 3 column, 4 multiple. -/
def Local.code : Local → Nat
  | .ok => 0 | .element .. => 1 | .row _ => 2 | .column _ => 3 | .multiple => 4

/-- ri as carried, 0x3F for none (R267). -/
def Local.ri : Local → Nat
  | .element r _ => r | .row r => r | _ => 0x3F

/-- cj as carried, 0x3F for none (R267). -/
def Local.cj : Local → Nat
  | .element _ c => c | .column c => c | _ => 0x3F

/-- The candidate rows or columns below `bound` for a located value; none means none located (R87). -/
def cands (t bound : Nat) : List Nat :=
  if t ≥ 61 then [] else (List.range bound).filter (fun i => i % 61 == t)

/-- Candidate rows and columns of a class in an M × N tile; none for class multiple (R87, R92). -/
def candPlaces (l : Local) (m n : Nat) : List Nat × List Nat :=
  match l with
  | .element ri cj => (cands ri m, cands cj n)
  | .row ri => (cands ri m, List.range n)
  | .column cj => (List.range m, cands cj n)
  | _ => ([], [])

/-- The slab section of an output position (R89). -/
def sectionOf (i j : Nat) : Nat := 4 * (i % 256 / 64) + j % 256 / 64

end Sys2Proof
end

