-- ==== Sys2Proof/Machine/TapState.lean ====
section
/-! DEFINITION. What the cluster and slab taps hold for checking (02_exact_residue_check, 03_tolerance_and_cruise). -/
namespace Sys2Proof.Machine

/-- Six FP64 sums of R107: s, sr, sc, p, pr, pc. -/
structure Six where
  s : Fl
  sr : Fl
  sc : Fl
  p : Fl
  pr : Fl
  pc : Fl
deriving DecidableEq, Repr

/-- How a tile ended (R20, R34). -/
inductive TileEnd where
  | ok | empty | invalid | inexact | suspect | fenced
deriving DecidableEq, Repr

/-- A ticket in use and what its words have summed to (R66, R71, R97, R114). -/
structure Tile where
  /-- the 256-bit ticket (R66). -/
  ticket : W256
  /-- its place among the unit's tickets that are not EMPTY, from 1; 0 for a PIN ticket (R85). -/
  no : Nat
  /-- c_b fixed at acceptance (R110). -/
  cb : Fl
  /-- K_chain: K, or the sum of K over the chain (R109). -/
  kchain : Nat
  /-- selected for cruise, TKT_CAP = 1 (R131, R562). -/
  sampled : Bool
  /-- next slice to be reduced (R74). -/
  nextK : Nat
  /-- A data words of the open slices, by INDEX (R72, R97). -/
  aw : Tbl W256
  /-- B data words of the open slices, by INDEX. -/
  bw : Tbl W256
  /-- C input words, by INDEX. -/
  cw : Tbl W256
  /-- A scale words, by INDEX. -/
  asc : Tbl W256
  /-- B scale words, by INDEX. -/
  bsc : Tbl W256
  /-- words presented of each role: A, B, C, A scales, B scales (R76). -/
  nA : Nat
  nB : Nat
  nC : Nat
  nAs : Nat
  nBs : Nat
  /-- expected sums from slices and Cin, without a chain base (R84). -/
  s0 : Nat
  srow : Nat
  scol : Nat
  /-- Σ u and Σ v (R84). -/
  usum : Nat
  vsum : Nat
  /-- the six FP64 products of each reduced slice, newest first (R107). -/
  slices : List Six
  /-- observed sums (R84). -/
  o0 : Nat
  orow : Nat
  ocol : Nat
  /-- EOR words accepted (R79). -/
  nE : Nat
  /-- some valid element had EXACT = 0 (R83). -/
  anyInexact : Bool
  /-- EOR residues at candidate places, keyed 1024·i + j, kept on a PIN ticket (R92). -/
  cand : Tbl Nat
  /-- candidate rows and columns to keep on a PIN ticket (R92). -/
  candRows : List Nat
  candCols : List Nat
  /-- value words accepted and next INDEX (R105). -/
  nV : Nat
  nextV : Nat
  /-- a value word came out of order or after LAST (R106). -/
  valBad : Bool
  /-- a value-stream value was not finite (R143). -/
  valNonfin : Bool
  /-- observed FP64 checksums (R107). -/
  o : Fl
  orr : Fl
  oc : Fl
  rho : Tbl Fl
  kappa : Tbl Fl
  /-- non-finite operand mark (R64). -/
  nonfin : Bool
  /-- a VT2 element was 0b10 (R65). -/
  invCode : Bool
  /-- an operand scale byte was 0x00 or 0xFE (R143). -/
  scaleEdge : Bool
  /-- sum of xs and number of scale bytes, roles A and B (R143). -/
  xsA : Int
  cntA : Nat
  xsB : Int
  cntB : Nat
  /-- a word broke R74, R75 or R76: the tile completes SUSPECT. -/
  breached : Bool
  /-- LAST accepted, and the ET of it (R79). -/
  retired : Option Tick
  /-- order of retire at this tap, for the compare queue (R100). -/
  retireNo : Nat
  /-- its cord has been withdrawn, for this REASON (R189). -/
  withdrawn : Option Nat
deriving DecidableEq, Repr

/-- What a tap keeps of each unit between tickets (R70, R84, R85, R108). -/
structure UnitSt where
  /-- how tickets ended and the kind of their fault, by their place in the unit's order; kept while a later ticket may still ask (R85). -/
  ends : Tbl (TileEnd × Nat)
  /-- tickets presented for the unit that are not EMPTY and carry no PIN. -/
  count : Nat
  prevM : Nat
  prevN : Nat
  /-- K_chain of the last accepted ticket (R109). -/
  kchain : Nat
  /-- observed sums of the last ticket retired OK (R85). -/
  base0 : Nat
  baseR : Nat
  baseC : Nat
  /-- the six sums carried through a chain (R108). -/
  six : Six
deriving DecidableEq, Repr

/-- A retained record of a SUSPECT tile (R90). -/
structure ErcRec where
  ticket : W256
  s0 : Nat
  srow : Nat
  scol : Nat
  o0 : Nat
  orow : Nat
  ocol : Nat
  usum : Nat
  vsum : Nat
  loc : Local
  /-- the tile raised ERC_FLAG (R88). -/
  flag : Bool
deriving DecidableEq, Repr

/-- A retained tolerance record (R115). -/
structure TolRec where
  ticket : W256
  six : Six
  d0 : Fl
  dr : Fl
  dc : Fl
  tau0 : Fl
  taur : Fl
  tauc : Fl
  rho : Tbl Fl
  kappa : Tbl Fl
  kchain : Nat
  retireEt : Tick
  /-- it holds one of the tap's slots; without one the alarm alone is known (R115). -/
  kept : Bool
deriving DecidableEq, Repr

/-- What the follow-up asks a tap to inject into a REHEARSE ticket (R101, R124). -/
inductive Inject where
  /-- add 2^b to the residue of EOR element (i, j). -/
  | eor (b i j : Nat)
  /-- add a residue to S0. -/
  | s0 (r : Nat)
  /-- add a multiple of the tile's τ0 at element (i, j) of the value stream. -/
  | value (times : Nat) (i j : Nat)
deriving DecidableEq, Repr

/-- What a PIN re-run's compare found (R92). -/
structure PinRes where
  ticket : W256
  loc : Local
  d0 : Nat
  s0 : Nat
  srow : Nat
  scol : Nat
  usum : Nat
  vsum : Nat
  cand : Tbl Nat
  /-- every valid element EXACT while a non-finite operand is carried (R93). -/
  flag : Bool
  /-- the tile ended some other way than by its compare. -/
  rho : Tbl Fl
deriving DecidableEq, Repr

/-- One tap: 0–127 cluster taps, 128 + r the slab tap of region r. -/
structure Tap where
  /-- tickets in use, by TAG (R71). -/
  tags : Tbl Tile
  /-- tags in discard (R71). -/
  discard : List Nat
  units : Tbl UnitSt
  /-- retained records of SUSPECT tiles: 8, or 4 at a slab tap (R90). -/
  ercRecs : List ErcRec
  /-- tolerance records: 8, or 4 at a slab tap (R115). -/
  tolRecs : List TolRec
  /-- injection points for the next REHEARSE ticket: 0 exact check, 1 tolerance path (R101, R124, R164). -/
  inject : Tbl Inject
  /-- when marked orders would have quieted units of the tap, by CSEQ (R166). -/
  wouldQuiet : Tbl Tick
  /-- capture digests of sampled or twinned tiles and cords: key 2·TAG for a tile, 2·CORD + 1 for a cord (R134). -/
  capture : Tbl W128
  /-- next retire number (R100). -/
  retireNo : Nat
  /-- result of the last PIN re-run, until the follow-up takes it (R92). -/
  pin : Option PinRes
  /-- correctable errors corrected in ticket state (R102). -/
  corrected : Nat
  /-- each unit's gate: its slot in the window of 16, and the count in force in that window (R406). -/
  gates : Tbl (Nat × Nat)
deriving DecidableEq, Repr

/-- Six zero sums (R108). -/
def Six.zero : Six := ⟨Fl.zero, Fl.zero, Fl.zero, Fl.zero, Fl.zero, Fl.zero⟩

/-- A unit before its first ticket. -/
def UnitSt.reset : UnitSt := ⟨[], 0, 0, 0, 0, 0, 0, 0, Six.zero⟩

/-- A tap before its first ticket. -/
def Tap.reset : Tap :=
  { tags := [], discard := [], units := [], ercRecs := [], tolRecs := [], inject := [], wouldQuiet := [], capture := [], retireNo := 0,
    pin := none, corrected := 0, gates := [] }

/-- A ticket just accepted, nothing summed. -/
def Tile.fresh (t : W256) (no : Nat) (cb : Fl) (kchain : Nat) (sampled : Bool) (rows cols : List Nat) : Tile :=
  { ticket := t, no := no, cb := cb, kchain := kchain, sampled := sampled, nextK := 0, aw := [], bw := [], cw := [], asc := [], bsc := [],
    nA := 0, nB := 0, nC := 0, nAs := 0, nBs := 0, s0 := 0, srow := 0, scol := 0, usum := 0, vsum := 0, slices := [],
    o0 := 0, orow := 0, ocol := 0, nE := 0, anyInexact := false, cand := [], candRows := rows, candCols := cols,
    nV := 0, nextV := 0, valBad := false, valNonfin := false, o := Fl.zero, orr := Fl.zero, oc := Fl.zero, rho := [], kappa := [],
    nonfin := false, invCode := false, scaleEdge := false, xsA := 0, cntA := 0, xsB := 0, cntB := 0,
    breached := false, retired := none, retireNo := 0, withdrawn := none }

end Sys2Proof.Machine
end

