-- ==== Sys2Proof/Machine/GovState.lean ====
section
/-! DEFINITION. What the Cruise Engine, the governor and the rehearsal scheduler hold (03_tolerance_and_cruise,
04_coverage_and_escape_budget), and the policy records that PWRITE numbers (16_quoper_isa R516). -/
namespace Sys2Proof.Machine

/-- A sample queued for the Cruise Engine (R133, R136, R151). -/
structure Sample where
  /-- tap and unit that produced it. -/
  tap : Nat
  unit : Nat
  comp : Nat
  kind : Nat
  cord : Nat
  jsn : Nat
  /-- the tap's capture digest (R134). -/
  digest : W128
  retireEt : Tick
  /-- ATTEMPT of the cord's run (R138). -/
  attempt : Nat
  /-- the digest used in the compare carries an injected bit (R164). -/
  rehearse : Bool
  /-- the Cruise Engine's first digest, once it differs (R136). -/
  first : Option W128
deriving DecidableEq, Repr

/-- What a governor period measures of one compartment and op kind (R152, R155). -/
structure Meas where
  busy : Nat
  units : Nat
  eligible : Nat
  /-- eligible units selected and not dropped since (R152). -/
  sampled : Nat
  cords : Nat
  twinElig : Nat
  /-- Cruise Engine HCLK its samples took. -/
  work : Nat
  samples : Nat
deriving DecidableEq, Repr

/-- A rehearsal under way (R164–R167). -/
structure Rehearsal where
  /-- 0 ERC, 1 tolerance, 2 cruise, 3 twin, 4 digest vote. -/
  mech : Nat
  /-- tap for mechanisms 0 and 1, else 0. -/
  tap : Nat
  injected : Bool
  /-- what was injected, and where (R101, R124). -/
  place : Option Inject
  /-- ET of the injection: the detection starts there (R167). -/
  startEt : Tick
  /-- it has passed or missed. -/
  ended : Bool
deriving DecidableEq, Repr

/-- Cruise, governor and rehearsal state. -/
structure Gov where
  samples : List Sample
  /-- samples compared unequal and awaiting their second recompute (R136). -/
  mismatched : List Sample
  /-- sampling is stopped die-wide (R136). -/
  sampleOff : Bool
  /-- ETs of CRUISE_ENGINE events (R136). -/
  engineErrs : List Tick
  /-- the function descriptor as loaded, in words (R126, R127, R598). -/
  tables : List W256
  /-- it was read whole, and the signature of every table in it is right (R126, R127). -/
  tablesOk : Bool
  /-- CRUISE_W of the running window by compartment; unlisted: the reset value (R48, R309). -/
  weights : Tbl Nat
  /-- the compartment whose turn it is and the work it has had in it, by class: 0 pinpoint, 1 adjudication, 2 samples (R48). -/
  turns : Tbl (Nat × Nat)
  /-- busy CCLK of the whole die since start, and its value at the start of each compartment's period (R152). -/
  dieBusy : Nat
  dieBase : Tbl Nat
  /-- measurements of the running period, keyed 256c + k (R152). -/
  meas : Tbl Meas
  /-- pinpoint and adjudication HCLK per compartment (R156). -/
  adjWork : Tbl Nat
  /-- start of the running period per compartment (R155). -/
  periodStart : Tbl Tick
  /-- hour bins of n_W by locus: counts, keyed 65,536·hour + locus (R154). -/
  bins : Tbl Nat
  /-- ET of the last GOV_UNMET per compartment (R161). -/
  unmetEt : Tbl Tick
  /-- next rehearsal point and interval end, keyed 1024·mechanism + tap (R164). -/
  points : Tbl (Tick × Tick)
  rehearsals : List Rehearsal
  /-- numeric events of the running 1 ms window, keyed 8c + event (R145). -/
  numeric : Tbl Nat
  /-- events whose NOTE the window has had, keyed alike (R145). -/
  noted : List Nat
  /-- the selectors' LFSR states stepped since the last write-back, by the byte offset of their table entry in bank 32 (R131, R529). -/
  lfsrs : Tbl Nat
  /-- policy records as written, keyed 16·record + compartment (or lease for record 7) (R516). -/
  policy : Tbl W256
deriving DecidableEq, Repr

/-- Nothing measured. -/
def Gov.reset : Gov :=
  { samples := [], mismatched := [], sampleOff := false, engineErrs := [], tables := [], tablesOk := false, weights := [], turns := [],
    dieBusy := 0, dieBase := [], meas := [],
    adjWork := [], periodStart := [], bins := [], unmetEt := [], points := [], rehearsals := [],
    numeric := [], noted := [], lfsrs := [], policy := [] }

/-- Nothing measured of a kind. -/
def Meas.zero : Meas := ⟨0, 0, 0, 0, 0, 0, 0, 0⟩

end Sys2Proof.Machine
end

