-- ==== Sys2Proof/Machine/IslandState.lean ====
section
/-! DEFINITION. What the island, its pins, the fuses, the Gate registers and Camavarun hold
(17_commands_and_registers, 18_boundary_signals, 19_startup_and_live_update). -/
namespace Sys2Proof.Machine

/-- The block states, in the order of R20 with OFF = 0 (R473). -/
inductive BlockState where
  | off | island | selftest | loaded | opened | drain | closing | sealed
deriving DecidableEq, Repr

/-- The value of R473. -/
def BlockState.code : BlockState → Nat
  | .off => 0 | .island => 1 | .selftest => 2 | .loaded => 3 | .opened => 4 | .drain => 5 | .closing => 6 | .sealed => 7

/-- The hub is up: SELFTEST to SEALED (R592). -/
def BlockState.hubUp : BlockState → Bool
  | .off => false | .island => false | _ => true

/-- The fused A, B and G of a ring-oscillator sensor, in 2^-16 of 1/16 °C: alone, for each edge, for each mV (R398; DESIGN CHOICE, log
entry 60: the spec gives no format). -/
structure RoFuse where
  a : Int
  b : Int
  g : Int
deriving DecidableEq, Repr

/-- What the fuses hold (R554, R581, R584). -/
structure Fuse where
  dieId : W64
  /-- DIV4 of each region at power-on (R311). -/
  div4 : BitVec 16
  /-- SHA-384 of the key of each slot, and slots revoked (R383). -/
  keyHash : Tbl (BitVec 384)
  revoked : BitVec 4
  /-- fuse fell map (R291), as bytes of its bit arrays. -/
  fellCores : BitVec 4096
  fellClusters : BitVec 128
  fellSections : BitVec 256
  fellChannels : BitVec 128
  fellHcores : BitVec 8
  fellSlabs : BitVec 16
  dieRev : Nat
  /-- revision of each unit class, by TARGET 1–4 (R367, R385). -/
  unitRev : Tbl Nat
  /-- by sensor index (R398). -/
  ro : Tbl RoFuse
  jep106 : Nat
  mipi : Nat
  i3cAddr : Nat
deriving DecidableEq, Repr

/-- Access level of Camavarun (R614). -/
inductive CamLevel where
  | view | operate | service
deriving DecidableEq, Repr

/-- The level's rank. -/
def CamLevel.code : CamLevel → Nat
  | .view => 0 | .operate => 1 | .service => 2

/-- Island state. -/
structure Isl where
  st : BlockState
  /-- CORE_PG, PLL_LOCK and REF_LOST levels (R589). -/
  corePg : BitVec 16
  pllLock : Bool
  refLost : Bool
  pf : Bool
  /-- ISL_SEC and ISL_BOOTS (R396). -/
  sec : Nat
  boots : Nat
  wall : Nat
  seed : Nat
  seedSet : Bool
  /-- M_ISL_STATUS.ACC_ERR and EXC_PENDING (R554). -/
  accErr : Bool
  excPending : Bool
  /-- M_TAP_GATE.PRIV (R371, R372). -/
  priv : Bool
  /-- M_GATE_TX, M_GATE_RX (R557). -/
  gateTx : BitVec 512
  gateRx : BitVec 512
  gateBusy : Bool
  gateValid : Bool
  gateErr : Nat
  /-- I3C dynamic address, once assigned (R581). -/
  i3cAddr : Option Nat
  /-- an I3C read set up by its private write: STATUS, bytes, data (R581). -/
  i3cRead : Option (Nat × Nat × Nat)
  /-- serial port rate in baud (R582). -/
  baud : Nat
  /-- serial bytes dropped, to be reported on the next answer (R582, R613); a command of Camavarun arrives whole, so none is. -/
  overrun : Bool
  level : CamLevel
  /-- ISL_SEC of the last serial input (R614). -/
  lastInput : Nat
  /-- NONCE printed and not yet used, and how many were printed (R614). -/
  nonce : Option W64
  nonces : Nat
  /-- TOKEN_DENIED messages owed until the hub is up (R614). -/
  deniedOwed : Nat
deriving DecidableEq, Repr

/-- Fuses with every field 0; the values are a die's own. -/
def Fuse.reset : Fuse := ⟨0, 0, [], 0, 0, 0, 0, 0, 0, 0, 0, [], [], 0, 0, 0x3A⟩

/-- The island before its supply (R592). -/
def Isl.reset : Isl :=
  { st := .off, corePg := 0, pllLock := false, refLost := false, pf := false, sec := 0, boots := 0, wall := 0, seed := 0,
    seedSet := false, accErr := false, excPending := false, priv := false, gateTx := 0, gateRx := 0, gateBusy := false,
    gateValid := false, gateErr := 0, i3cAddr := none, i3cRead := none, baud := 115200, overrun := false, level := .view,
    lastInput := 0, nonce := none, nonces := 0, deniedOwed := 0 }

end Sys2Proof.Machine
end

