-- ==== Sys2Proof/Machine/JournalState.lean ====
section
/-! DEFINITION. What the Journal Unit holds (07_journal_and_replay, and the twins of 03_tolerance_and_cruise R140–R142). -/
namespace Sys2Proof.Machine

/-- STATE of a journal cache entry that is not FREE (R237). -/
inductive CordSt where
  | waiting | running | retired | skid | replayWait | settled
deriving DecidableEq, Repr

/-- The value of R237. -/
def CordSt.code : CordSt → Nat
  | .waiting => 1 | .running => 2 | .retired => 3 | .skid => 4 | .replayWait => 5 | .settled => 6

/-- The second run of a twinned cord (R140, R141). -/
structure Twin where
  /-- unit of the second run. -/
  unit : Loc
  /-- capture digest of the primary run, once retired. -/
  prim : Option W128
  /-- capture digest of the second run, once retired. -/
  second : Option W128
  /-- the third run: its unit, and its digest once retired (R141). -/
  third : Option (Loc × Option W128)
deriving DecidableEq, Repr

/-- A cord's entry in the journal cache (R235). -/
structure Cord where
  /-- bytes 0–95, as the host die wrote them, CLUSTER fields as rewritten (R235, R256). -/
  desc : BitVec 768
  jsn : Nat
  st : CordSt
  attempt : Nat
  /-- inbound entry references: index and reuse count (R182). -/
  taint : List (Nat × Nat)
  overflow : Bool
  /-- with OVERFLOW: the entries that were OPEN at the latest gain (R182). -/
  overSet : List (Nat × Nat)
  sampled : Bool
  twinned : Bool
  inPlace : Bool
  placed : Loc
  seqLast : Nat
  /-- JSN of each producer; none for 0xFFFF_FFFF. -/
  dep0 : Option Nat
  dep1 : Option Nat
  /-- pinpoint, adjudication, cruise and twin results not yet posted (R235). -/
  checksOpen : Nat
  twin : Option Twin
  /-- the slots whose resent data a recanted cord waits for (R189). -/
  waitSlots : List Nat
  /-- withdrawn, with the REASON to report (R189, R191). -/
  recanted : Option Nat
  /-- the first CORD record was posted (R191, R545). -/
  posted : Bool
  /-- worst status of its tiles on this run, and PIN of R545. -/
  status : Nat
  pin : Nat
  /-- the gate holds its dispatch slots for a producer (R241). -/
  depHeld : Bool
  /-- input buffers rewritten to a spare that hold no data yet (R256). -/
  lost : List Nat
  /-- a send of this run has been granted and cleared (R192). -/
  sent : Bool
  /-- the kind of the fault for which the cord runs again, for TRIGGER of R265; 0 for none. -/
  trigger : Nat
deriving DecidableEq, Repr

/-- State of a spare cluster (R251). -/
inductive SpareSt where
  | idle
  | acting (comp : Nat)
  | testing
  | fenced
deriving DecidableEq, Repr

/-- A skid under way (R254–R260). -/
structure Skid where
  comp : Nat
  /-- the fenced unit, cluster or slab whose work moves: one per record of R257. -/
  scope : Loc
  /-- the spare cluster that takes its place; none while no spare is free (R258). -/
  spare : Option Nat
  /-- the new placement: the spare, or for a single core one of its cores; what RETARGET names; none while there is none (R257, R541). -/
  goal : Option Loc
  /-- the fault behind it (R265). -/
  trigger : Nat
  /-- replays that wait for a spare with no skid of their own (R246). -/
  parked : Bool
  /-- cords not yet handed over, in JSN order: JSN, target, and whether it is a replay rather than a redirection (R246, R257). -/
  queue : List (Nat × Loc × Bool)
  /-- JSNs handed over and not yet retired on the new placement (R260). -/
  pend : List Nat
  cords : Nat
  rewrites : Nat
  fenceEt : Tick
  /-- the SKID record has been posted (R257). -/
  told : Bool
  /-- JRN_SKID_LATE has been raised (R258). -/
  late : Bool
deriving DecidableEq, Repr

/-- A fence whose skid waits (R254). -/
structure SkidWait where
  scope : Loc
  /-- ET at which the fence took effect. -/
  et : Tick
  /-- it waits for the pinpoint result or SKID_WAIT. -/
  pinpoint : Bool
deriving DecidableEq, Repr

/-- Journal state of the block. -/
structure Jrn where
  /-- journal cache by slot 0–32,767 (R235). -/
  cords : Tbl Cord
  /-- next JSN by compartment (R238). -/
  nextJsn : Tbl Nat
  /-- spill ring record by compartment: BASE and LOG2_SIZE (R244). -/
  rings : Tbl (Nat × Nat)
  /-- settled cords written and not yet answered: slot and ET (R243). -/
  spills : List (Nat × Tick)
  /-- outstanding ring fetches: compartment, JSN sought, consumer JSN, depth (R245, R256). -/
  fetches : List (Nat × Nat × Nat × Nat)
  /-- spares drawn, by cluster (R250, R251). -/
  spares : Tbl SpareSt
  /-- spares ordered awake and not yet ready, by cluster (R253). -/
  waking : List Nat
  /-- redirections in force: fenced unit, target, compartment (R259). -/
  redirs : List (Loc × Loc × Nat)
  waits : List SkidWait
  skids : List Skid
  /-- QUOTA counts of stalled registrations by compartment (R240). -/
  stalls : Tbl Nat
  /-- SPARE_LOW count (R252). -/
  spareLow : Nat
  /-- correctable cache errors corrected (R264). -/
  corrected : Nat
  /-- compartments whose next unit of an op kind is sampled at exponent 0 (R136), or next cord twinned at 1/2 (R141). -/
  forceSample : List (Nat × Nat)
  forceTwin : List (Nat × Nat)
deriving DecidableEq, Repr

/-- An empty journal. -/
def Jrn.reset : Jrn :=
  { cords := [], nextJsn := [], rings := [], spills := [], fetches := [], spares := [], waking := [], redirs := [], waits := [],
    skids := [], stalls := [], spareLow := 0, corrected := 0, forceSample := [], forceTwin := [] }

end Sys2Proof.Machine
end

