-- ==== Sys2Proof/Machine/ObserveState.lean ====
section
/-! DEFINITION. What the counters, tallies, traces and the hang census hold (14_observation). -/
namespace Sys2Proof.Machine

/-- A counter (R442). -/
structure Ctr where
  /-- 48 bits. -/
  value : Nat
  overflow : Bool
deriving DecidableEq, Repr

/-- The last boundary cycle of a counter: its tick, the final value under the old command, and the compartment that it counted for (R450,
R452). -/
structure Bound where
  et : Tick
  last : Ctr
  owner : Option Nat
deriving DecidableEq, Repr

/-- A freeze ordered for a tick: a tally (R453, R454). -/
structure TallyOrder where
  t : Tick
  /-- 0 management; 1 periodic; 2 compartment order; 3 stop (R455). -/
  cause : Nat
  /-- bit c: compartment c ordered this freeze. -/
  comps : Nat
  /-- compartments that ordered it, each with the TAG of the command to complete, if any. -/
  tags : List (Nat × Option Nat)
deriving DecidableEq, Repr

/-- A stored tally (R455). -/
structure TallySlot where
  id : Nat
  cause : Nat
  comps : Nat
  et : Tick
  drainEt : Tick
  /-- sites that did not report: taps 0–143, wardens 144–159, memory taps 160–167. -/
  missing : List Nat
  /-- counters that were not zero at T. -/
  entries : Tbl Ctr
  /-- final values of the counters whose boundary cycle T fell in (R456). -/
  bounds : Tbl Ctr
deriving DecidableEq, Repr

/-- The shadows of a freeze under drain (R453, R454). -/
structure Shadow where
  order : TallyOrder
  ctrs : Tbl Ctr
  bounds : Tbl Ctr
  /-- the compartment of each tap at T, and the events then selected (R457). -/
  owners : List (Option Nat)
  sel : Tbl (Nat × Nat)
deriving DecidableEq, Repr

/-- Who ordered a census (R464). -/
inductive CensusBy where
  | host (tag addr len : Nat)
  | management
  | watch
deriving DecidableEq, Repr

/-- A census ordered for a tick (R464). -/
structure CensusOrder where
  t : Tick
  comp : Nat
  by_ : CensusBy
deriving DecidableEq, Repr

/-- A compartment's trace (R458–R463). -/
structure Trace where
  base : Nat
  log2 : Nat
  classes : Nat
  head : Nat
  tail : Nat
  seq : Nat
  /-- staged records, oldest first, with the ET of staging (R461). -/
  staged : List (Tick × W256)
  /-- records lost since the previous written record: count, ET of the first and of the last (R461). -/
  lost : Nat
  lostFirst : Tick
  lostLast : Tick
deriving DecidableEq, Repr

/-- Observation state. -/
structure Obs where
  /-- counters that are not zero, by die-wide index (R441). -/
  ctrs : Tbl Ctr
  /-- boundary cycles, by index (R450). -/
  bounds : Tbl Bound
  /-- EVENT and CORE of programmable counters, by index (R445). -/
  sel : Tbl (Nat × Nat)
  /-- KIND selects of kind counters, by index (R449). -/
  kinds : Tbl Nat
  orders : List TallyOrder
  /-- freeze ticks taken in the last 4 µs and before (R454). -/
  taken : List Tick
  shadow : List Shadow
  slots : Tbl TallySlot
  tallyId : Nat
  nextSlot : Nat
  lastPeriodic : Tick
  /-- tally buffers by compartment: address, length (R457). -/
  tallyBuf : Tbl (Nat × Nat)
  traces : Tbl Trace
  censusId : Nat
  census : List CensusOrder
  /-- ET of the last retire per compartment, and whether the watch fired since (R464). -/
  lastRetire : Tbl (Tick × Bool)
deriving DecidableEq, Repr

/-- A counter at zero. -/
def Ctr.zero : Ctr := ⟨0, false⟩
/-- A trace that is off (R458). -/
def Trace.reset : Trace := ⟨0, 0, 0, 0, 0, 0, [], 0, 0, 0⟩
/-- Nothing observed. -/
def Obs.reset : Obs :=
  { ctrs := [], bounds := [], sel := [], kinds := [], orders := [], taken := [], shadow := [], slots := [], tallyId := 0, nextSlot := 0,
    lastPeriodic := 0, tallyBuf := [], traces := [], censusId := 0, census := [], lastRetire := [] }

end Sys2Proof.Machine
end

