-- ==== Sys2Proof/Machine/RecorderState.lean ====
section
/-! DEFINITION. What the event recorder, the cellar and the CPER export queue hold (15_event_recorder, 11_in_field_screening). -/
namespace Sys2Proof.Machine

/-- A token bucket (R475). -/
structure Bucket where
  rate : Nat
  burst : Nat
  tokens : Nat
  supp : Nat
  /-- records queued when the entry was last written, and the RATE they still use (R491). -/
  oldLeft : Nat
  oldRate : Nat
deriving DecidableEq, Repr

/-- A freeze in force (R479). -/
structure Freeze where
  first : Nat
  count : Nat
  /-- ET at which it began. -/
  begun : Tick
  /-- slots that are protected. -/
  slots : List Nat
deriving DecidableEq, Repr

/-- Recorder, cellar and export state. The ring lies in banks 8–11 (R30). -/
structure Rec where
  /-- newest RSEQ written (R471). -/
  rseq : Nat
  /-- slot of the newest record (R493). -/
  head : Nat
  /-- record images waiting for the Recorder, oldest first, up to 64 (R474). -/
  input : List (BitVec 512)
  /-- records whose source found the queue full: those of hardware, which go ahead, and those of the serving pair (R474). -/
  waitHw : List (BitVec 512)
  waitPair : List (BitVec 512)
  /-- the Recorder owns its banks and writes: since entry to LOADED (R592). -/
  running : Bool
  /-- token buckets by code; unlisted: RATE 6, BURST 8, full (R475). -/
  buckets : Tbl Bucket
  freeze : Option Freeze
  /-- newest RSEQ flushed (R493). -/
  flushed : Nat
  /-- records not yet flushed: RSEQ and ET of writing (R482). -/
  unflushed : List (Nat × Tick)
  /-- page whose write failed and is retried, and when it failed (R482). -/
  retryPage : Option (Nat × Tick)
  lostCellar : Nat
  /-- records flushed since the last pointer block (R483). -/
  sinceBlock : Nat
  clrGen : Nat
  /-- pending clear: UPTO (R490). -/
  pending : Option Nat
  /-- records not written after REC_PF (R484). -/
  lostPf : Nat
  /-- the power-fail flush holds the Recorder: records after REC_PF are not written (R484). -/
  pfHold : Bool
  /-- public keys loaded, by slot 0–3: 96 B (R487). -/
  keys : Tbl (BitVec 768)
  /-- cellar bytes 0–67,108,863 in canonical form: addresses rising, no byte equal to 0 (R480). -/
  cellar : List Host.Cell
  /-- the device does not answer (R583). -/
  cellarAbsent : Bool
  /-- M_CELLAR_DATA, 32 B (R493). -/
  cellarData : W256
  /-- M_REC_DATA, 64 B (R493). -/
  data : BitVec 512
  /-- CPER export queue, oldest first, up to 32 signatures of 328 B (R395). -/
  cper : List (BitVec 2624)
  cperLost : Nat
deriving DecidableEq, Repr

/-- A bucket at entry to LOADED (R475). -/
def Bucket.reset : Bucket := ⟨6, 8, 256, 0, 0, 6⟩

/-- An empty recorder. -/
def Rec.reset : Rec :=
  { rseq := 0, head := 0, input := [], waitHw := [], waitPair := [], running := false, buckets := [], freeze := none, flushed := 0,
    unflushed := [], retryPage := none, lostCellar := 0, sinceBlock := 0, clrGen := 0, pending := none,
    lostPf := 0, pfHold := false, keys := [], cellar := [], cellarAbsent := false, cellarData := 0, data := 0, cper := [],
    cperLost := 0 }

end Sys2Proof.Machine
end

