-- ==== Sys2Proof/Machine/ScreenState.lean ====
section
/-! DEFINITION. What the self-test schedulers, the screen packs, the closing record and the test access port hold
(11_in_field_screening). -/
namespace Sys2Proof.Machine

/-- A segment of a screen pack (R382). -/
structure Segment where
  seed : Nat
  patterns : Nat
  mode : Nat
  maskIdx : Nat
  defect : Nat
  /-- expected chipper value at its end, for this die's revision (R382). -/
  expect : Nat
deriving DecidableEq, Repr

/-- A loaded or built-in screen pack (R382, R386). -/
structure Pack where
  packId : Nat
  ver : Nat
  target : Nat
  idle : Bool
  closing : Bool
  aimed : Bool
  /-- masks 1 to MASKS, bit n masking chain n (R382). -/
  masks : List (BitVec 1024)
  segs : List Segment
deriving DecidableEq, Repr

/-- What kind of slice runs (R373, R377, R381, R387). -/
inductive SliceKind where
  | idle | directed | screen | offer
deriving DecidableEq, Repr

/-- A slice on a target, named by its locus (R368). -/
structure Slice where
  kind : SliceKind
  locus : Loc
  /-- pack slot 0–7; 8 + TARGET the built-in pack. -/
  pack : Nat
  /-- the pack's content, which serves the slice to its end (R375). -/
  packId : Nat
  ver : Nat
  masks : List (BitVec 1024)
  segs : List Segment
  /-- the chipper at the start of the segment that runs (R366, R378). -/
  chip : Nat
  /-- segment that runs, or that failed. -/
  seg : Nat
  start : Tick
  /-- 0 first clear, 1 scanning, 2 last clear (R368). -/
  stage : Nat
  /-- ET at which the running clear was requested (R370). -/
  since : Tick
  /-- it repeats a failed segment alone (R378). -/
  confirm : Bool
  /-- some segment failed: expected and observed values (R378). -/
  bad : Bool
  expected : Nat
  observed : Nat
  /-- decided outcome: 0 PASS, 1 FAIL, 2 UNSTABLE (R544). -/
  outcome : Nat
  /-- command that offered the core: compartment and TAG (R381). -/
  tag : Option (Nat × Nat)
deriving DecidableEq, Repr

/-- A directed slice that waits for a free slot (R377). -/
structure Directed where
  locus : Loc
  pack : Nat
deriving DecidableEq, Repr

/-- Screening state. -/
structure Scr where
  /-- slices running: key 2·region + slot; 32 the host-class core slot; 64 + tap a tap test (R373, R381). -/
  slices : Tbl Slice
  /-- screen holds, by locus (R368). -/
  holds : List Nat
  /-- failed slices whose confirm waits for the region's next free grid point (R378). -/
  confirms : List Slice
  directed : List Directed
  /-- host-class cores offered: core, compartment, TAG (R381). -/
  offers : List (Nat × Nat × Nat)
  /-- ET of the last passing slice by locus (R374). -/
  passed : Tbl Tick
  /-- ET of the last admitted slot by locus (R374). -/
  lastWork : Tbl Tick
  /-- ET at which a locus's last slice ended (R399). -/
  lastSlice : Tbl Tick
  /-- next pack in a core's rotation, by locus (R375). -/
  rotate : Tbl Nat
  /-- SCREEN_DUE told; ST_OVERDUE periods told, by locus (R376). -/
  dueTold : List Nat
  overdueTold : Tbl Nat
  /-- failed slices by locus (R379, R288). -/
  fails : Tbl Nat
  /-- the newest slice that failed or was unstable, by locus, for its failure signature (R378, R394). -/
  findings : Tbl Slice
  /-- failed tap self-tests, by tap (R381). -/
  tapFails : Tbl Nat
  /-- when a tap last failed its self-test (R381). -/
  tapTested : Tbl Tick
  /-- taps awaiting another self-test (R381). -/
  tapRetry : List Nat
  /-- pack slots 0–7 (R384). -/
  packs : Tbl Pack
  /-- load order of packs, newest last, for R386. -/
  packOrder : List Nat
  /-- rollback table: PACK_ID and highest PACK_VER, up to 64 (R385). -/
  rollback : List (Nat × Nat)
  /-- items passed in the current screen, by locus (R388). -/
  screenPass : List Nat
  /-- items whose slice has ended in the current screen, by locus. -/
  screenEnd : List Nat
  /-- items felled in the current screen (R388). -/
  screenFell : Nat
  /-- highest diode reading during the screen (R388). -/
  maxTemp : Int
  /-- ET of the current screen's start. -/
  screenStart : Tick
  /-- ET at which phases 1–4 ended (R388). -/
  screenStop : Tick
  /-- PHASE of M_SCREEN_STATUS (R396). -/
  phase : Nat
  quick : Bool
  done : Nat
  failed : Nat
  aborts : Nat
  /-- the closing record is to be written again (R390). -/
  recordOwed : Bool
  /-- age in ticks that a trusted record gave every core at the start (R391). -/
  baseAge : Tick
  /-- units connected to the test access port that have not passed a slice since, by locus (R371). -/
  scanned : List Nat
  /-- M_TAP_GATE.HUB_SCANNED and LAST_UNIT (R372). -/
  hubScanned : Bool
  lastUnit : Nat
  /-- instruction register of the test access port (R584). -/
  tapIr : Nat
deriving DecidableEq, Repr

/-- No slices, no packs loaded, IDCODE selected. -/
def Scr.reset : Scr :=
  { slices := [], holds := [], confirms := [], directed := [], offers := [], passed := [], lastWork := [], lastSlice := [], rotate := [],
    dueTold := [], overdueTold := [], fails := [], findings := [], tapFails := [], tapTested := [], tapRetry := [], packs := [], packOrder := [], rollback := [],
    screenPass := [], screenEnd := [], screenFell := 0, maxTemp := 0, screenStart := 0, screenStop := 0, phase := 0, quick := false, done := 0, failed := 0,
    aborts := 0, recordOwed := false, baseAge := 0, scanned := [], hubScanned := false, lastUnit := 0, tapIr := 1 }

end Sys2Proof.Machine
end

