-- ==== Sys2Proof/Machine/SenseState.lean ====
section
/-! DEFINITION. What the sensors, canaries, regulator telemetry (12_thermal_and_margin) and the hub memory banks
(13_hub_memory) hold. -/
namespace Sys2Proof.Machine

/-- A thermal state (R403); its number is that of M_REGION_THERM.STATE (R415). -/
inductive ThState where
  | normal | warn | throttle | trip
deriving DecidableEq, Repr

/-- A ring-oscillator sensor (R397, R398, R415). -/
structure RoSensor where
  temp : Int
  trim : Int
  cal : Bool
  excl : Bool
  /-- samples, newest first: ET and reading in 1/16 °C (R405). -/
  samples : List (Tick × Int)
  /-- ET since which the rate may be computed (R405). -/
  since : Tick
  /-- values of A + B·C + G·(V − 0.75 V) in 2^-16 of 1/16 °C, newest first, at most 64 (R399). -/
  raw : List Int
  lastCal : Option Tick
deriving DecidableEq, Repr

/-- A thermal scope: a cluster 0–127, or a region 128 + r (R403, R404). -/
structure ThScope where
  st : ThState
  n : Nat
  /-- start of the running 1 ms condition of R404 and whether it is the falling one. -/
  clock : Option (Tick × Bool)
  /-- the reading last compared, and whether the rate stood at RISE or above (R405). -/
  last : Int
  rising : Bool
deriving DecidableEq, Repr

/-- A margin canary (R408–R410, R415). -/
structure Canary where
  m3 : Nat
  m4 : Nat
  least : Nat
  excl : Bool
  droops : Nat
  /-- droop count in force until: the ET at which the margin last stood at or below M_DROOP (R409). -/
  droop : Option Tick
  erodeTold : Option Tick
  droopTold : Option Tick
  /-- ET since which it shows 0 while the region's others show more than M_WARN (R410). -/
  zeroSince : Option Tick
deriving DecidableEq, Repr

/-- A regulator rail (R411, R415). -/
structure Rail where
  addr : Nat
  en : Bool
  page : Nat
  vout : Nat
  iout : Nat
  temp : Int
  stat : Nat
  /-- VOUT_MODE exponent, once read (R411). -/
  vmode : Option Int
  /-- consecutive failed transactions (R412). -/
  fails : Nat
  /-- the VOUT reading is valid. -/
  valid : Bool
deriving DecidableEq, Repr

/-- Thermal, margin and supply state. -/
structure Thm where
  ro : Tbl RoSensor
  scopes : Tbl ThScope
  /-- diode readings by region in 1/16 °C, last 16 newest first (R397, R399). -/
  diodes : Tbl (List Int)
  canaries : Tbl Canary
  rails : Tbl Rail
  /-- PM_ALERT# is low, and when each device's STATUS_WORD was last read for it (R585). -/
  alert : Bool
  alertRead : Tbl Tick
  /-- the hub copy of M_VR_RAIL by rail, refreshed each 1 ms; unlisted 0 (R518). -/
  railCopy : Tbl Nat
deriving DecidableEq, Repr

/-- A sensor before its first sample (R415). -/
def RoSensor.reset : RoSensor := ⟨0, 0, false, false, [], 0, [], none⟩
/-- A scope at NORMAL (R403). -/
def ThScope.reset : ThScope := ⟨.normal, 0, none, 0, false⟩
/-- A canary before its first window; MIN resets to 15 (R415). -/
def Canary.reset : Canary := ⟨0, 0, 15, false, 0, none, none, none, none⟩
/-- A rail as reset leaves it; PAGE 0xFF (R415). -/
def Rail.reset : Rail := ⟨0, false, 0xFF, 0, 0, 0, 0, none, 0, false⟩
/-- Nothing sensed. -/
def Thm.reset : Thm := ⟨[], [], [], [], [], false, [], []⟩

/-- Owner codes of a bank (R423). -/
inductive Owner where
  | none | journal | recorder | counterTrace | cruise | digest | serving | standby | collector | firmware
deriving DecidableEq, Repr

/-- The code of R423. -/
def Owner.code : Owner → Nat
  | .none => 0 | .journal => 1 | .recorder => 2 | .counterTrace => 3 | .cruise => 4 | .digest => 5
  | .serving => 6 | .standby => 7 | .collector => 8 | .firmware => 9

/-- The owner of a code; none where it is reserved (R423). -/
def Owner.ofCode : Nat → Option Owner
  | 0 => some .none | 1 => some .journal | 2 => some .recorder | 3 => some .counterTrace | 4 => some .cruise
  | 5 => some .digest | 6 => some .serving | 7 => some .standby | 8 => some .collector | 9 => some .firmware
  | _ => Option.none

/-- Registers of one bank (R440). -/
structure BankReg where
  owner : Owner
  refused : Bool
  remaps : Nat
  ce : Nat
  ue : Nat
deriving DecidableEq, Repr

/-- Hub memory. -/
structure Bnk where
  /-- stored words, all 288 bits, keyed 16,384·bank + word; an unlisted word is zero with valid check symbols (R416, R435). -/
  words : Tbl (BitVec 288)
  regs : Tbl BankReg
  /-- repair windows: keyed 128·bank + window, to the repair window (R433). -/
  repairs : Tbl Nat
  /-- next window of the test engine, 0–6,143 pool, then free stash windows (R434). -/
  nextWin : Nat
  /-- ET of the last window's start (R434). -/
  lastWin : Tick
  passes : Nat
  failsW : Nat
  lastBank : Nat
  lastWindow : Nat
  /-- next window and last start per cluster tap (R438). -/
  cmemNext : Tbl (Nat × Tick)
  /-- M_BANK_PTR: BANK, WORD, DONE, ERR (R440). -/
  ptrBank : Nat
  ptrWord : Nat
  ptrDone : Bool
  ptrErr : Nat
  /-- M_BANK_DATA (R440). -/
  data : W256
deriving DecidableEq, Repr

/-- A bank's registers as reset leaves them (R440). -/
def BankReg.reset : BankReg := ⟨.none, false, 0, 0, 0⟩
/-- Zeroed banks with no owner (R424, R435). -/
def Bnk.reset : Bnk :=
  { words := [], regs := [], repairs := [], nextWin := 0, lastWin := 0, passes := 0, failsW := 0, lastBank := 0, lastWindow := 0,
    cmemNext := [], ptrBank := 0, ptrWord := 0, ptrDone := false, ptrErr := 0, data := 0 }

end Sys2Proof.Machine
end

