-- ==== Sys2Proof/Machine/SeqState.lean ====
section
/-! DEFINITION. What the Quoper pairs, their queues and the program store hold (16_quoper_isa). -/
namespace Sys2Proof.Machine

/-- A_STATE and B_STATE of M_SEQ_STATUS (R526). -/
inductive PairSt where
  | empty | standby | serving | stopped
deriving DecidableEq, Repr

/-- The value of R526. -/
def PairSt.code : PairSt → Nat
  | .empty => 0 | .standby => 1 | .serving => 2 | .stopped => 3

/-- A WAIT that has not completed (R513). -/
structure Waiting where
  mask : Nat
  rd : Nat
  pd : Nat
  deadline : Tick
  /-- X = 1: a handover point (R521). -/
  point : Bool
deriving DecidableEq, Repr

/-- One pair: both members hold the same values, the second 2 HCLK later (R494, R499). -/
structure Pair where
  st : PairSt
  pc : Nat
  /-- g1–g31; unlisted 0 (R499). -/
  g : Tbl W64
  /-- predicates; bit 0 reads 1 (R499). -/
  p : BitVec 8
  /-- handles that are bound, by handle: queue identifier (R508). -/
  q : Tbl Nat
  stat : Nat
  bankErr : Nat
  turns : Nat
  /-- ET at which the running turn began (R520). -/
  turnStart : Option Tick
  waiting : Option Waiting
  /-- timers armed (R509). -/
  timers : Tbl Tick
  /-- stops since the last entry to SELFTEST (R606). -/
  stops : Nat
deriving DecidableEq, Repr

/-- What the follow-up waits for (R92, R120, R136, R141, R166). -/
inductive WorkFor where
  | pinpoint
  /-- an admitted adjudication. -/
  | adjudicate
  /-- an adjudication whose tile has already taken DEFER (R119). -/
  | late
  /-- an adjudication that ended CONFIRMED: its record waits for the pinpoint. -/
  | confirmed
  | second
  | twin
  /-- a twin that found the primary odd: the cruise path decides on the same run first (R142). -/
  | twinOdd
  | selfTest
deriving DecidableEq, Repr

/-- A follow-up begun and not finished. -/
structure Work where
  what : WorkFor
  /-- the intake entry (R269). -/
  entry : Intake
  tap : Nat
  /-- the unit that the entry concerns, and the cord. -/
  loc : Loc
  comp : Nat
  cord : Nat
  jsn : Nat
  attempt : Nat
  /-- the retained record it decides on (R90, R115). -/
  erc : Option ErcRec
  tol : Option TolRec
  sample : Option Sample
  /-- the unit request that it waits for (R510). -/
  req : W256
  /-- ET by which a re-run must answer (R94). -/
  bound : Tick
  /-- W of R118. -/
  est : Nat
  rerun : Option PinRes
  /-- what the Cruise Engine found: OUTCOME, usum, vsum, candidates (R92). -/
  recomp : Option (Nat × Nat × Nat × List W64)
deriving DecidableEq, Repr

/-- Sequencer state. -/
structure Seq where
  pairA : Pair
  pairB : Pair
  /-- the serving role belongs to pair B (R494). -/
  servingB : Bool
  /-- program banks by 8 B word, keyed 65,536·bank + word; unlisted 0 (R497). -/
  prog : Tbl W64
  /-- program banks that hold the boot-ROM stock image (R596, R608). -/
  romA : Bool
  romB : Bool
  /-- system queues of the serving and the standby role (R512). -/
  sysServe : List W128
  sysStandby : List W128
  /-- unit requests not yet taken, oldest first (R510). -/
  requests : List W256
  /-- responses formed and not yet posted, oldest first (R511). -/
  forming : List W256
  /-- the unit-response queue, 256 entries (R508). -/
  responses : List W256
  /-- Gate inbound and outbound queues, 64 entries each (R508). -/
  gateIn : List (BitVec 512)
  gateOut : List (BitVec 512)
  /-- follow-ups begun and not finished, oldest first (R287). -/
  works : List Work
  /-- re-runs dispatched whose compare has not come: their unit requests (R92). -/
  rerunning : List W256
  /-- third runs asked for: unit requests of UOP 0x14 whose run has not retired (R141). -/
  thirds : List W256
  lastCseq : Nat
  /-- a hook that FOLLOW has called and that has not returned: the index it returns to (R530). -/
  hookRet : Option Nat
  /-- LONGEST and STOPS of M_SEQ_STATUS (R526). -/
  longest : Nat
  stopCount : Nat
  /-- a HANDOVER waits since, with its Gate TAG (R607). -/
  handover : Option (Tick × Nat)
deriving DecidableEq, Repr

/-- A pair before its first role (R499). -/
def Pair.reset : Pair := ⟨.empty, 0, [], 1, [], 0, 0, 0, none, none, [], 0⟩

/-- No image, no role. -/
def Seq.reset : Seq :=
  { pairA := Pair.reset, pairB := Pair.reset, servingB := false, prog := [], romA := false, romB := false, sysServe := [], sysStandby := [],
    requests := [], forming := [], responses := [], gateIn := [], gateOut := [],
    works := [], rerunning := [], thirds := [], lastCseq := 0, hookRet := none, longest := 0, stopCount := 0, handover := none }

end Sys2Proof.Machine
end

