-- ==== Sys2Proof/Machine/TimeState.lean ====
section
/-! DEFINITION. What the clocks and Elieda time hold (09_clocks_and_time). The fields of M_CLK_RATIO, M_TIME_CFG,
M_TIME_STATUS and M_ET_SLEW are kept in the register file of RegState. -/
namespace Sys2Proof.Machine

/-- An anchored alignment or drift run (R324, R326). -/
structure Align where
  /-- QUALITY before the run, for R327. -/
  prevQuality : Nat
  /-- the first exchange has been sent (R324). -/
  going : Bool
  /-- exchanges done: offset and delay in FCLK (R324). -/
  exch : List (Int × Int)
  /-- step tick, whole ticks and remainder in RCLK, once decided (R324). -/
  step : Option (Tick × Int × Nat)
deriving DecidableEq, Repr

/-- A match-table entry (R328). -/
structure Match where
  peer : Nat
  valid : Bool
  /-- last 8 exchanges, newest first: local FT, offset in FCLK. -/
  exch : List (Nat × Int)
  /-- fitted offset in FCLK and rate in parts per 10^9. -/
  offset : Int
  rate : Int
  /-- ET of the newest exchange. -/
  newest : Option Tick
  /-- CLK_MATCH_STALE raised since. -/
  staleTold : Bool
deriving DecidableEq, Repr

/-- Clock and time state. -/
structure Tim where
  /-- master ET (R316). -/
  et : Tick
  /-- the ET counter runs: the hub is up. -/
  running : Bool
  /-- difference of each part's ET copy from the master, by part 0–127 cluster taps, 128–143 slab taps, 144–159 wardens,
  160–167 memory taps, 168–175 host-core taps, 176 Fabric Liaison, 177 Stream Port (R316). -/
  copies : Tbl Int
  /-- measured delay of each part's link, in HCLK (R316). -/
  delays : Tbl Nat
  /-- ET of the last beacon to each part (R316). -/
  beacons : Tbl Tick
  /-- scheduled ratio switches by region: tick and new DIV4 (R311). -/
  switches : Tbl (Tick × Bool)
  /-- tick of each region's last switch (R312). -/
  switched : Tbl Tick
  /-- consecutive breaches of R314: key 32·region + 2·neighbour + (0 temperature, 1 supply) (R315). -/
  spread : Tbl Nat
  align : Option Align
  /-- DEPTH of the last T_ANNOUNCE heard from each die (R324). -/
  heard : Tbl Nat
  /-- T1 of exchanges under way: peer, SEQ, FT (R323). -/
  reqs : List (Nat × Nat × Nat)
  /-- next exchange number (R323). -/
  seq : Nat
  /-- exchanges of the running drift check: offset, delay (R326). -/
  drift : List (Int × Int)
  /-- consecutive failed exchanges with PARENT (R327). -/
  failed : Nat
  /-- correction ticks left of a slew, signed, and the tick of the next (R326). -/
  slewLeft : Int
  slewNext : Tick
  /-- match table by entry 0–254 (R328). -/
  peers : Tbl Match
  /-- upper halves latched by J_ET_LO reads, by compartment (R329). -/
  jEtHi : Tbl Nat
  /-- the RCLK shift of the synchronisation pulse last driven on SHIFT (R589). -/
  shift : Nat
deriving DecidableEq, Repr

/-- Time before the hub is up. -/
def Tim.reset : Tim :=
  { et := 0, running := false, copies := [], delays := [], beacons := [], switches := [], switched := [], spread := [], align := none, heard := [], reqs := [], seq := 0, drift := [],
    failed := 0, slewLeft := 0, slewNext := 0, peers := [], jEtHi := [], shift := 0 }

end Sys2Proof.Machine
end

