-- ==== Sys2Proof/Machine/State.lean ====
section
/-! DEFINITION. The state of the block, the outcomes that are not a next state, and the state after reset. -/
namespace Sys2Proof.Machine

/-- What leaves the block at a port, in the order it leaves. -/
inductive Output where
  /-- TKT_CAP of a ticket (R562). -/
  | tktCap (tap tag : Nat) (cap : Bool)
  /-- completion of a tile (R34). -/
  | tileDone (tap tag : Nat) (how : TileEnd)
  /-- SND_RSP (R563). -/
  | sndRsp (tap : Nat) (rsp : W64)
  /-- DSP_ADM (R564). -/
  | dspAdm (tap unit : Nat) (adm : Bool)
  /-- the journal port's answer JA (R571). -/
  | answer (region : Nat) (ja : W128)
  /-- a descriptor handed to the dispatcher of a target (R257, R571). -/
  | handover (desc : BitVec 1024) (target : Loc)
  /-- a tile dispatched again with PIN = 1 (R92). -/
  | pinRun (unit : Loc) (ticket : W256)
  /-- a spare's wake order (R253). -/
  | wake (cluster : Nat)
  /-- a VC-S branch placed on the fabric (R331). -/
  | vcs (dst mseq cls : Nat) (payload : BitVec 384)
  /-- DACK (true) or NACK of a message (R335, R339). -/
  | dack (dst mseq : Nat) (good : Bool)
  /-- a Stream Port transfer: header and beats (R577). -/
  | stream (lane : Nat) (header : W256) (beats : List W256)
  /-- the RESULT of a latch operation, to its local requester (R343). -/
  | latchResult (result : W128)
  /-- a blaze write-back request (R296, R568). -/
  | writeBack (ctrl ch waddr : Nat) (payload : W256)
  /-- every word of a receive slot is to be blazed (R188). -/
  | blazeSlot (slot : Nat)
  /-- quiet asserted or deasserted for a scope (R565). -/
  | quiet (scope : OrdScope) (on : Bool)
  /-- scan enable for one segment: SCN_MODE, the generator's seed, and how many patterns are shifted and captured (R365, R366, R562);
  what SCN_SI carries in shift cycle n is `scanInput` of the seed and n. -/
  | scan (unit : Loc) (mode seed patterns : Nat)
  /-- a slice started, scanning, or ended at a target (R366–R370). -/
  | slice (unit : Loc) (phase : Nat)
  /-- a memory tap asks for the words of a run in a scan: controller, first word address, words (R217, R568). -/
  | scanRead (ctrl waddr words : Nat)
  /-- the shift of the synchronisation pulse (R589). -/
  | shift (rclk : Nat)
  /-- bytes answered on I3C (R581). -/
  | i3c (bytes : List Byte)
  /-- Camavarun's answer: OK or ERR with a status number of R343, and the values printed (R613). -/
  | serial (good : Bool) (status : Nat) (values : List Nat)
  /-- the answer of an M-page access by MREG: status of R581, and the data of a read (R553). -/
  | mPage (status : Nat) (data : W64)
  /-- the answer of a J-page access: an error response, or data (R579). -/
  | jPage (err : Bool) (data : W64)
  /-- what a test access port instruction connects or reads: instruction and value (R584). -/
  | tap (ir value : Nat)
  /-- a value-stream operand read of a hub unit, or any other request to the host die by number (R572). -/
  | read (addr len : Nat)
deriving DecidableEq, Repr

/-- The state of the block: everything 00 to 19 give it. -/
structure State where
  /-- commands that wait, first in, first out. -/
  pending : List Instr
  /-- what has left the block, oldest first: the model's own field (log entry 5). -/
  out : List Output
  /-- how many free values have been taken: the model's own field (log entry 7). -/
  freeCtr : Nat
  fuse : Fuse
  isl : Isl
  tim : Tim
  col : Col
  /-- taps by number: 0–127 cluster taps, 128–143 slab taps (R27). -/
  taps : Tbl Tap
  gov : Gov
  esc : Esc
  dig : Dig
  jrn : Jrn
  fab : Fab
  scr : Scr
  thm : Thm
  bnk : Bnk
  obs : Obs
  recd : Rec
  seq : Seq
  cmd : Cmd
  /-- register fields of the M-page, keyed 64·offset + lowest bit; an unlisted field holds its reset value (R14, R553). -/
  mregs : Tbl Nat
  /-- register fields of the J-page windows, keyed 64·(J-page offset) + lowest bit (R549). -/
  jregs : Tbl Nat
  /-- capture keys by compartment (R134). -/
  capKeys : Tbl Nat
deriving DecidableEq, Repr

/-- A fault. No command of this block ends in one: what the spec calls a fault is a message or a status. -/
inductive Fault where
  /-- never raised by a meaning; safe. -/
  | none
deriving DecidableEq, Repr

/-- A refusal. -/
inductive Refusal where
  /-- the command has no meaning in the model yet; raised by Dispatch only; safe. -/
  | notModelled (mnemonic : String)
deriving DecidableEq, Repr

/-- The block before its supplies (R592). -/
def State.reset : State :=
  { pending := [], out := [], freeCtr := 0, fuse := Fuse.reset, isl := Isl.reset, tim := Tim.reset, col := Col.reset, taps := [],
    gov := Gov.reset, esc := Esc.reset, dig := Dig.reset, jrn := Jrn.reset, fab := Fab.reset, scr := Scr.reset, thm := Thm.reset,
    bnk := Bnk.reset, obs := Obs.reset, recd := Rec.reset, seq := Seq.reset, cmd := Cmd.reset, mregs := [], jregs := [],
    capKeys := [] }

end Sys2Proof.Machine
end

