-- ==== Sys2Proof/Machine/Ops.lean ====
section
/-! DEFINITION. The operations that every family shares: register fields, loci, messages, records, completions, trace,
counters, bank words, cellar bytes and the policy tables. -/
namespace Sys2Proof.Machine

/-- A register field: byte offset of its register, lowest bit, width, reset value (R6, R14). -/
structure RF where
  off : Nat
  lo : Nat
  len : Nat
  reset : Nat
deriving DecidableEq, Repr

/-- The value of an M-page register field. -/
def State.rf (s : State) (f : RF) : Nat := s.mregs.get (64 * f.off + f.lo) f.reset % 2 ^ f.len

/-- An M-page register field set. -/
def State.setRf (s : State) (f : RF) (v : Nat) : State :=
  { s with mregs := s.mregs.putD (64 * f.off + f.lo) (v % 2 ^ f.len) f.reset }

/-- The value of a register field of compartment c's J-page window (R549). -/
def State.jf (s : State) (c : Nat) (f : RF) : Nat := s.jregs.get (64 * (0x1000 * c + f.off) + f.lo) f.reset % 2 ^ f.len

/-- A register field of compartment c's window set. -/
def State.setJf (s : State) (c : Nat) (f : RF) (v : Nat) : State :=
  { s with jregs := s.jregs.putD (64 * (0x1000 * c + f.off) + f.lo) (v % 2 ^ f.len) f.reset }

/-- Each element of a list applied in turn. -/
def foldS {α : Type} (l : List α) (f : α → State → State) (s : State) : State := l.foldl (fun t a => f a t) s

/-- An operation done only under a condition. -/
def whenS (b : Bool) (f : State → State) (s : State) : State := if b then f s else s

/-- Something leaves the block. -/
def emit (o : Output) (s : State) : State := { s with out := s.out ++ [o] }

/-- A free value: nothing constrains it (log entry 7). -/
def takeFree (s : State) : W64 × State := (Config.freeValue s.freeCtr, { s with freeCtr := s.freeCtr + 1 })

/-- The first sequencer of the serving pair, as a hub unit: it raises what the follow-up raises (R272, R494). -/
def svUnit (s : State) : Nat := if s.seq.servingB then 2 else 0

/-- ET (R9, R316). -/
def State.et (s : State) : Tick := s.tim.et

/-- The hub is up: SELFTEST to SEALED, and not held in reset after a HUB_SCAN (R47, R592). -/
def State.hubUp (s : State) : Bool := s.isl.st.hubUp && !s.scr.hubScanned

/-- A write to a hub-resident M-page register: dropped with ACC_ERR set while the hub does not answer (R47). -/
def hubReg (f : State → State) (s : State) : State :=
  if s.hubUp then f s else { s with isl := { s.isl with accErr := true } }

/-- Job work may run: LOADED, OPEN or DRAIN. -/
def State.inLoaded (s : State) : Bool := s.isl.st == .loaded || s.isl.st == .opened || s.isl.st == .drain

/-! ### Statuses, numbered in the order of R20 (R343) -/

abbrev stOk : Nat := 0
abbrev stEmpty : Nat := 1
abbrev stInvalid : Nat := 6
abbrev stDenied : Nat := 4
abbrev stFenced : Nat := 5
abbrev stInexact : Nat := 7
abbrev stSuspect : Nat := 8
abbrev stQuota : Nat := 2
abbrev stLate : Nat := 3
abbrev stRecanted : Nat := 9

/-! ### Die index (R554) -/

def fDieIndex : RF := ⟨0x0008, 0, 16, 0⟩
def fDieSet : RF := ⟨0x0008, 16, 1, 0⟩

/-- M_DIE_INDEX.INDEX. -/
def State.die (s : State) : Nat := s.rf fDieIndex
/-- M_DIE_INDEX.SET. -/
def State.dieSet (s : State) : Bool := s.rf fDieSet == 1

/-! ### Time (R319, R329) -/

def fDiv4 : RF := ⟨0x0C00, 0, 16, 0⟩
def fTimeMode : RF := ⟨0x0C08, 0, 2, 0⟩
def fRoot : RF := ⟨0x0C08, 2, 1, 0⟩
def fExch : RF := ⟨0x0C08, 8, 8, 64⟩
def fParent : RF := ⟨0x0C08, 16, 16, 0⟩
def fChildren : RF := ⟨0x0C08, 32, 16, 0⟩
def fQuality : RF := ⟨0x0C10, 0, 3, 0⟩
def fDepth : RF := ⟨0x0C10, 3, 5, 0⟩

/-- Region r's CCLK runs at ÷4 (R311). -/
def State.div4 (s : State) (r : Nat) : Bool := (s.rf fDiv4).testBit r

/-- CCLK cycles in one tick of a tap: 4 at ÷3, 3 at ÷4 (R310). -/
def State.cclkPerTick (s : State) (tap : Nat) : Nat := if s.div4 (if tap ≥ 128 then tap - 128 else tap / 8) then 3 else 4

/-- a equals b or lies before it, as 32-bit sequence or ET values (R319). -/
def serialLe (a b : Nat) : Bool := decide ((b % 2 ^ 32 + 2 ^ 32 - a % 2 ^ 32) % 2 ^ 32 < 2 ^ 31)

/-- The 64-bit ET whose low half is given, at or before now (R319). -/
def State.backEt (s : State) (low : Nat) : Tick := s.et - (s.et % 2 ^ 32 + 2 ^ 32 - low % 2 ^ 32) % 2 ^ 32

/-! ### Loci (R270) -/

/-- A unit-level locus from its Region, Slot and Unit fields. -/
def unitLoc (r sl u : Nat) : Loc := BitVec.ofNat 16 (u % 64 + 64 * (sl % 8) + 512 * (r % 16))
/-- Medium core u of cluster c. -/
def coreLoc (c u : Nat) : Loc := unitLoc (c / 8) (c % 8) u
/-- Cluster c. -/
def clusterLoc (c : Nat) : Loc := BitVec.ofNat 16 (0x2000 + 64 * c)
/-- Region r. -/
def regionLoc (r : Nat) : Loc := BitVec.ofNat 16 (0x4000 + 512 * r)
/-- This die, its package, the system. -/
def dieLoc : Loc := 0x6000
def packageLoc : Loc := 0x8000
def systemLoc : Loc := 0xA000
/-- The slab of region r as a whole, and its section k. -/
def slabLoc (r : Nat) : Loc := unitLoc r 1 48
def sectionLoc (r k : Nat) : Loc := unitLoc r 0 (48 + k)
/-- Warden Wr. -/
def wardenLoc (r : Nat) : Loc := unitLoc r 1 50
/-- HBM controller m, its channel h, memory tap m. -/
def ctrlLoc (m : Nat) : Loc := unitLoc m 3 48
def channelLoc (m h : Nat) : Loc := unitLoc m 2 (48 + h)
def memTapLoc (m : Nat) : Loc := unitLoc m 3 49
/-- Host-class core h and its tap. -/
def hcoreLoc (h : Nat) : Loc := unitLoc h 3 50
/-- Hub unit k in the order of R270. -/
def hubLoc (k : Nat) : Loc := unitLoc 0 4 (48 + k)
/-- The management island. -/
def islandLoc : Loc := unitLoc 1 4 48
/-- The locus of a tap as a part: unit 33 of a cluster, unit 49 of a region. -/
def tapPartLoc (tap : Nat) : Loc := if tap ≥ 128 then unitLoc (tap - 128) 1 49 else coreLoc tap 33
/-- The locus of a tap's whole: its cluster, or its slab (R271). -/
def tapWholeLoc (tap : Nat) : Loc := if tap ≥ 128 then slabLoc (tap - 128) else clusterLoc tap
/-- The unit a tap checks: medium core u, or the slab. -/
def tapUnitLoc (tap u : Nat) : Loc := if tap ≥ 128 then slabLoc (tap - 128) else coreLoc tap u

/-- Hub units in the order of R270. -/
abbrev uQA0 : Nat := 0
abbrev uQB0 : Nat := 2
abbrev uCollector : Nat := 4
abbrev uLatch : Nat := 5
abbrev uEscrow : Nat := 6
abbrev uJournal : Nat := 7
abbrev uDigest : Nat := 8
abbrev uCruise : Nat := 9
abbrev uRecorder : Nat := 10
abbrev uCounter : Nat := 11
abbrev uGate : Nat := 12
abbrev uStream : Nat := 13
abbrev uFabric : Nat := 14
abbrev uBanks : Nat := 15

/-- What a locus names (R270). -/
inductive Named where
  | core (c u : Nat)
  | cmem (c : Nat)
  | ctap (c : Nat)
  | ctapRo (c : Nat)
  | ctapCanary (c : Nat)
  | slabSection (r k : Nat)
  | slab (r : Nat)
  | slabTap (r : Nat)
  | warden (r : Nat)
  | wardenPart (r : Nat)
  | channel (m h : Nat)
  | ctrl (m : Nat)
  | memTap (m : Nat)
  | hcore (h : Nat)
  | hcoreTap (h : Nat)
  | hub (k : Nat)
  | island
  | cluster (c : Nat)
  | region (r : Nat)
  | die
  | package
  | system
  | invalid
deriving DecidableEq, Repr

/-- What a locus names; every combination not in R270 is invalid (R271). -/
def named (l : Loc) : Named :=
  let r := fld l 9 4
  let sl := fld l 6 3
  let u := fld l 0 6
  match fld l 13 3 with
  | 0 =>
    if u < 32 then .core (8 * r + sl) u
    else if u = 32 then .cmem (8 * r + sl)
    else if u = 33 then .ctap (8 * r + sl)
    else if u = 34 then .ctapRo (8 * r + sl)
    else if u = 35 then .ctapCanary (8 * r + sl)
    else if u < 48 then .invalid
    else if sl = 0 then .slabSection r (u - 48)
    else if sl = 1 then
      if u = 48 then .slab r else if u = 49 then .slabTap r else if u = 50 then .warden r
      else if u < 60 then .wardenPart r else .invalid
    else if sl = 2 then if r < 8 then .channel r (u - 48) else .invalid
    else if sl = 3 then
      if r ≥ 8 then .invalid
      else if u = 48 then .ctrl r else if u = 49 then .memTap r else if u = 50 then .hcore r else if u = 51 then .hcoreTap r
      else .invalid
    else if sl = 4 then
      if r = 0 then .hub (u - 48) else if r = 1 && u = 48 then .island else .invalid
    else .invalid
  | 1 => if u = 0 then .cluster (8 * r + sl) else .invalid
  | 2 => if u = 0 && sl = 0 then .region r else .invalid
  | 3 => if fld l 0 13 = 0 then .die else .invalid
  | 4 => if fld l 0 13 = 0 then .package else .invalid
  | 5 => if fld l 0 13 = 0 then .system else .invalid
  | _ => .invalid

/-- The cluster a locus lies in. -/
def clusterOf (l : Loc) : Option Nat :=
  match named l with
  | .core c _ | .cmem c | .ctap c | .ctapRo c | .ctapCanary c | .cluster c => some c
  | _ => none

/-- The slab a locus lies in, by region. -/
def slabOf (l : Loc) : Option Nat :=
  match named l with
  | .slabSection r _ | .slab r | .slabTap r => some r
  | _ => none

/-- The region a locus lies in. -/
def regionOf (l : Loc) : Option Nat :=
  match clusterOf l, slabOf l, named l with
  | some c, _, _ => some (c / 8)
  | none, some r, _ => some r
  | none, none, .warden r | none, none, .wardenPart r | none, none, .region r => some r
  | _, _, _ => none

/-- Whether scope a holds everything of scope b (R36). -/
def covers (a b : Loc) : Bool :=
  a == b ||
  match named a with
  | .region r => regionOf b == some r
  | .cluster c => clusterOf b == some c
  | .slab r => slabOf b == some r
  | .ctrl m => match named b with
    | .channel n _ | .memTap n => n == m
    | _ => false
  | .die => true
  | _ => false

/-! ### Compartments and assignment (R38, R555) -/

/-- A compartment. -/
def State.comp (s : State) (c : Nat) : Comp := s.cmd.comps.get c Comp.reset
/-- A compartment changed. -/
def updComp (c : Nat) (f : Comp → Comp) (s : State) : State :=
  { s with cmd := { s.cmd with comps := s.cmd.comps.upd c Comp.reset f } }

/-- The compartment M_ASSIGN gives unit u: clusters 0–127, slabs 128–143, host-class cores 144–151 (R555). -/
def assigned (s : State) (u : Nat) : Option Nat :=
  let v := s.cmd.assigns.get u 0
  if nfld v 4 1 = 1 then some (nfld v 0 4) else none

/-- The compartment a spare cluster acts for (R251). -/
def acting (s : State) (c : Nat) : Option Nat :=
  match s.jrn.spares.find? c with
  | some (.acting n) => some n
  | _ => none

/-- The compartment of a twin or a third run that a spare cluster runs and that has not retired (R140, R141). -/
def twinning (s : State) (t : Nat) : Option Nat :=
  let here (l : Loc) : Bool := clusterOf l == some t
  (List.find? (fun (e : Nat × Cord) => e.2.twin.any (fun w => (here w.unit && w.second.isNone) || w.third.any (fun x => here x.1 && x.2.isNone)))
    s.jrn.cords).map (fun e => fld e.2.desc 32 4)

/-- The compartment that a tap serves: its unit is assigned to it, acts for it, or runs a twin of one of its cords (R38, R140, R443). -/
def tapComp (s : State) (tap : Nat) : Option Nat :=
  match assigned s tap with
  | some c => some c
  | none => if tap < 128 then (acting s tap).or (if s.jrn.spares.has tap then twinning s tap else none) else none

/-- The compartment a locus unit works for (R277). -/
def locComp (s : State) (l : Loc) : Option Nat :=
  match clusterOf l, slabOf l, named l with
  | some c, _, _ => tapComp s c
  | none, some r, _ => tapComp s (128 + r)
  | none, none, .hcore h | none, none, .hcoreTap h => assigned s (144 + h)
  | _, _, _ => none

/-- A compartment that is open for latches and commands: OPEN or RESEEDING (R543). -/
def State.compLive (s : State) (c : Nat) : Bool := (s.comp c).st == .opened || (s.comp c).st == .reseeding

/-! ### Fell map, fences and quiet parts -/

/-- A locus that either fell map lists, or that lies in a felled unit (R290). -/
def felled (s : State) (l : Loc) : Bool :=
  let core (c u : Nat) := s.col.fell.cores.getLsbD (32 * c + u) || s.fuse.fellCores.getLsbD (32 * c + u)
  let clus (c : Nat) := s.col.fell.clusters.getLsbD c || s.fuse.fellClusters.getLsbD c
  let slab (r : Nat) := s.col.fell.slabs.getLsbD r || s.fuse.fellSlabs.getLsbD r
  match named l with
  | .core c u => clus c || core c u
  | .cmem c | .ctap c | .ctapRo c | .ctapCanary c | .cluster c => clus c
  | .slabSection r k => slab r || s.col.fell.sections.getLsbD (16 * r + k) || s.fuse.fellSections.getLsbD (16 * r + k)
  | .slab r | .slabTap r => slab r
  | .channel m h => s.col.fell.channels.getLsbD (16 * m + h) || s.fuse.fellChannels.getLsbD (16 * m + h)
  | .hcore h | .hcoreTap h => s.col.fell.hcores.getLsbD h || s.fuse.fellHcores.getLsbD h
  | _ => false

/-- A command at a part on VDD_CORE: without its supply the part does nothing (R47, R592). -/
def atHub (f : State → State) (s : State) : State := whenS s.hubUp f s

/-- Region r's VDD_CORE is in range (R589). -/
def State.powered (s : State) (r : Nat) : Bool := s.isl.corePg.getLsbD r

/-- A command at the journal port of region r: ignored while the region's supply is out of range (R561). -/
def atRegion (r : Nat) (f : State → State) (s : State) : State := whenS (s.hubUp && s.powered r) f s

/-- A command at a tap or its port: ignored where the cluster or slab is felled, or its region's supply out of range (R561). -/
def atTapPort (tap : Nat) (f : State → State) (s : State) : State :=
  whenS (s.hubUp && s.powered (if tap ≥ 128 then tap - 128 else tap / 8) && !felled s (tapWholeLoc tap)) f s

/-- A command at the port of host-class core h: ignored where the core is felled (R561). -/
def atCorePort (h : Nat) (f : State → State) (s : State) : State := whenS (s.hubUp && !felled s (hcoreLoc h)) f s

/-- A locus inside some fence in force (R36). -/
def fenced (s : State) (l : Loc) : Bool := s.col.fences.any (fun f => covers f.scope l)

/-- A locus that is quiet at its part: a fence order has reached it (R284, R565). -/
def isQuiet (s : State) (l : Loc) : Bool := s.col.quiet.any (fun q => covers (BitVec.ofNat 16 q) l)

/-- A compartment whose job-side parts are quiet (R277). -/
def compQuiet (s : State) (c : Nat) : Bool := s.col.quietDie || s.col.quietComps.contains c

/-! ### Fault messages (R266–R272) -/

/-- A 128-bit message. -/
def mkMsg (kind cls : Nat) (reh : Bool) (l : Loc) (detail : Nat) : W128 :=
  BitVec.ofNat 128 (pack [(12, kind), (3, cls), (1, b2n reh), (16, l.toNat), (96, detail)])

def msgKind (m : W128) : Nat := fld m 0 12
def msgClass (m : W128) : Nat := fld m 12 3
def msgReh (m : W128) : Bool := bitAt m 15
def msgLocus (m : W128) : Loc := BitVec.ofNat 16 (fld m 16 16)
def msgDetail (m : W128) : Nat := fld m 32 96

/-- DETAIL of R267: kind-specific 64 bits, DIE, COMP. -/
def detail (low : Nat) (die comp : Option Nat) : Nat :=
  pack [(64, low), (16, die.getD 0), (4, comp.getD 0), (1, b2n comp.isSome), (1, b2n die.isSome)]

/-- The entry a kind takes by default: SEV, FLOOD and EXPORT from 3 up, RECORD (R275). -/
def sevDefault (kind : Nat) : Nat :=
  let v := Kind.severity kind
  pack [(3, v), (1, b2n (decide (v ≥ 3))), (1, 1), (1, b2n (decide (v ≥ 3)))]

/-- The severity entry of a class and kind (R275). -/
def sevEntry (s : State) (cls kind : Nat) : Nat := ((s.col.sev.find? (4096 * cls + kind)).map (fun b => b.toNat)).getD (sevDefault kind)

/-- A message formed by a part and put on its link (R28, R272). -/
def raiseOn (link unit : Nat) (m : W128) (s : State) : State :=
  let on := (sevEntry s (msgClass m) (msgKind m)).testBit 3
  { s with col := { s.col with flight := s.col.flight ++ [{ link := link, unit := unit, msg := m, floodOn := on }] } }

/-- A hub unit raises a kind as class 5 (R272, R281). -/
def raiseHub (unit kind : Nat) (l : Loc) (d : Nat) (s : State) : State := raiseOn 33 unit (mkMsg kind 5 false l d) s

/-- The Fabric Liaison raises a kind about another die as class 6 (R272). -/
def raiseFabric (kind : Nat) (l : Loc) (d : Nat) (s : State) : State := raiseOn 34 uFabric (mkMsg kind 6 false l d) s

/-- The island raises a kind as class 7; it comes in on the hub-unit input (R272; log entry 12). -/
def raiseIsland (kind : Nat) (l : Loc) (d : Nat) (s : State) : State := raiseOn 33 uGate (mkMsg kind 7 false l d) s

/-- The link a tap's messages take: its warden's, or the bypass link (R28, R56). -/
def tapLink (s : State) (tap : Nat) : Nat :=
  let r := if tap ≥ 128 then tap - 128 else tap / 8
  if s.col.wardensMissing.contains r then 32 else r

/-! ### The severity table and the intake queue (R275, R283) -/

/-- An entry written; false where SEV lies below the kind's floor, with nothing changed (R276). -/
def writeSev (cls kind v : Nat) (s : State) : Bool × State :=
  if v % 8 < Kind.floor kind then (false, s)
  else (true, { s with col := { s.col with sev := s.col.sev.put (4096 * cls + kind) (BitVec.ofNat 8 (v % 64)) } })

/-- The 32 B form of an intake entry (R269). -/
def intakeWord (e : Intake) : W256 :=
  BitVec.ofNat 256 (pack [(128, e.msg.toNat), (64, e.arrEt), (32, e.cseq), (3, e.sev), (1, b2n e.flood), (1, b2n e.escal),
    (1, b2n e.locusFixed), (2, 0), (8, e.link), (16, e.lost)])

/-! ### Counters (R441–R449) -/

/-- Events added to a counter; it wraps at 2^48 and sets OVERFLOW (R442). -/
def count (i n : Nat) (s : State) : State :=
  let c := s.obs.ctrs.get i Ctr.zero
  let v := c.value + n
  { s with obs := { s.obs with ctrs := s.obs.ctrs.putD i ⟨v % 2 ^ 48, c.overflow || decide (v ≥ 2 ^ 48)⟩ Ctr.zero } }

/-- EVENT and CORE of programmable counter i of a cluster tap: at entry to LOADED event 1 of core k (R445). -/
def progSel (s : State) (i : Nat) : Nat × Nat := s.obs.sel.get i (1, i % 64 - 32)

/-- The event that counter i of a cluster tap counts, under given selections (R444, R445). -/
def eventOf (sel : Tbl (Nat × Nat)) (i : Nat) : Nat := if i % 64 < 32 then i % 64 else (sel.get i (1, i % 64 - 32)).1

/-- The compartment of a J-scope counter, where `own` gives that of each tap; none for M scope (R443–R448). -/
def ctrOwner (own : Nat → Option Nat) (sel : Tbl (Nat × Nat)) (i : Nat) : Option Nat :=
  if i < 8192 then if eventOf sel i < 20 then own (i / 64) else none
  else if i < 8704 then if (i - 8192) % 32 ≥ 16 then own (128 + (i - 8192) / 32) else none
  else if i < 8960 then
    let h := i - 8704
    if h < 128 then some (h / 8) else if h < 144 then some (h - 128) else if h < 160 then some (h - 144)
    else if h < 176 then some (h - 160) else none
  else none

/-- The compartment of a J-scope counter now. -/
def ctrComp (s : State) (i : Nat) : Option Nat := ctrOwner (tapComp s) s.obs.sel i

/-- A counter at zero, OVERFLOW clear; its boundary cycle is this tick (R442, R450; that a tick stands for the boundary cycle is a DESIGN
CHOICE, log entry 8). -/
def resetCtr (i : Nat) (s : State) : State :=
  { s with obs := { s.obs with ctrs := s.obs.ctrs.del i, bounds := s.obs.bounds.put i ⟨s.et, s.obs.ctrs.get i Ctr.zero, ctrComp s i⟩ } }

/-- The site's J-scope counters reset when its compartment changes: done before the change (R452). -/
def resetScope (tap : Nat) (s : State) : State :=
  let idx := if tap ≥ 128 then (List.range 16).map (fun k => 8192 + 32 * (tap - 128) + 16 + k)
    else (List.range 64).map (fun k => 64 * tap + k)
  foldS (idx.filter (fun i => decide (i ≥ 8192) || decide (eventOf s.obs.sel i < 20))) resetCtr s

/-- The compartment that a spare acts for (R251). -/
def SpareSt.actsFor : SpareSt → Option Nat
  | .acting n => some n
  | _ => none

/-- A cluster's place among the spares changed, none where it leaves; its counters reset where it starts or stops acting (R251, R452). -/
def placeSpare (c : Nat) (v : Option SpareSt) (s : State) : State :=
  let s := whenS ((s.jrn.spares.find? c).bind SpareSt.actsFor != v.bind SpareSt.actsFor) (resetScope c) s
  { s with jrn := { s.jrn with spares := match v with
    | some x => s.jrn.spares.put c x
    | none => s.jrn.spares.del c } }

/-- A spare's state changed (R251). -/
def setSpare (c : Nat) (v : SpareSt) (s : State) : State := placeSpare c (some v) s

/-- An event of a cluster or slab tap counted: its own counter and the programmable ones it passes (R444–R446). -/
def countTap (tap ev core n : Nat) (s : State) : State :=
  if tap ≥ 128 then (if ev < 16 then count (8192 + 32 * (tap - 128) + 16 + ev) n s else s)
  else
    foldS ((List.range 32).filter (fun k =>
        let (e, f) := progSel s (64 * tap + 32 + k)
        e == ev && (f == 0x3F || f == core || ev ≥ 20)))
      (fun k t => count (64 * tap + 32 + k) n t) (count (64 * tap + ev) n s)

/-- An event of warden r counted (R446). -/
def countWarden (r ev : Nat) (s : State) : State := count (8192 + 32 * r + ev) 1 s
/-- An event of memory tap m counted (R447). -/
def countMem (m ev n : Nat) (s : State) : State := count (8960 + 16 * m + ev) n s
/-- A hub event counted (R448). -/
def countHub (i n : Nat) (s : State) : State := count (8704 + i) n s

/-! ### What the Collector does at once (R277, R283, R449) -/

/-- An order put on its links. -/
def pushOrder (o : Order) (s : State) : State := { s with col := { s.col with orders := s.col.orders ++ [o] } }

/-- The SUSPECT flag of a locus (R277). -/
def setSuspect (l : Loc) (s : State) : State := { s with col := { s.col with suspects := setAdd s.col.suspects l.toNat } }

/-- A die stop decided (R277). -/
def stopDie (kind : Nat) (s : State) : State :=
  if s.cmd.dieStop then s
  else
    let s : State := { s with cmd := { s.cmd with dieStop := true } }
    let s := foldS (List.range 16) (fun c t => whenS ((t.comp c).st != .closed) (updComp c (fun p => { p with cause := kind })) t) s
    pushOrder ⟨false, .die⟩ s

/-- A compartment stop lifted: OPEN again, and the lift ordered (R227, R285, R548). -/
def liftStop (c : Nat) (s : State) : State :=
  let s := updComp c (fun p => { p with st := .opened, expelled := false, causes := [] }) s
  { s with col := { s.col with orders := s.col.orders ++ [⟨true, .comp c⟩] } }

/-- The hub counters of a decided kind (R277, R449). -/
def countKind (kind : Nat) (s : State) : State :=
  let hits := (List.range 56).filter (fun i => kind ≠ 0 && Tbl.get s.obs.kinds (200 + i) 0 == kind)
  if hits.isEmpty then countHub 198 1 s else foldS hits (fun i t => countHub (200 + i) 1 t) s

/-- The INTAKE_OVERFLOW message, decided and stored as soon as a slot is free, ahead of later arrivals (R283). Against the Collector
every severity from 2 up to 6 sets its SUSPECT flag (R277, R278). -/
def storeOverflow (s : State) : State :=
  if s.col.ovfOwed && decide (s.col.intake.length < 4096) then
    let m := mkMsg Kind.intakeOverflow 5 false (hubLoc uCollector) 0
    let v := sevEntry s 5 Kind.intakeOverflow % 8
    let e : Intake := ⟨m, s.et, s.col.cseq, v, false, false, false, 33, s.col.lost⟩
    let s : State := { s with col := { s.col with intake := s.col.intake ++ [e], cseq := (s.col.cseq + 1) % 2 ^ 32, lost := 0, ovfOwed := false } }
    let s := whenS (decide (v ≥ 1)) (countKind Kind.intakeOverflow) (countHub 196 1 s)
    if v = 7 then stopDie Kind.intakeOverflow s else whenS (decide (v ≥ 2)) (setSuspect (hubLoc uCollector)) s
  else s

/-- The oldest intake entry taken (R283). -/
def popIntake (s : State) : State :=
  match s.col.intake with
  | e :: rest =>
    let mark (f : Fence) : Fence := if f.cseq = some e.cseq then { f with taken := true } else f
    storeOverflow { s with col := { s.col with intake := rest, fences := s.col.fences.map mark }, seq := { s.seq with lastCseq := e.cseq } }
  | [] => s

/-- A fault message formed by a cluster or slab tap (class 0 or 1), counted as TAP_FAULTS, and as MSG_FWD where its warden forwards it
(R272, R444, R446). -/
def raiseTap (tap kind : Nat) (reh : Bool) (l : Loc) (d : Nat) (s : State) : State :=
  let link := tapLink s tap
  countTap tap 20 0x3F 1 (whenS (decide (link < 16)) (countWarden link 13) (raiseOn link tap (mkMsg kind (if tap ≥ 128 then 1 else 0) reh l d) s))

/-- A warden raises a kind as class 4 (R272). -/
def raiseWarden (r kind : Nat) (l : Loc) (d : Nat) (s : State) : State := raiseOn r (144 + r) (mkMsg kind 4 false l d) s

/-- A memory tap raises a kind as class 2 (R272). -/
def raiseMem (m kind : Nat) (l : Loc) (d : Nat) (s : State) : State := raiseOn (16 + m) m (mkMsg kind 2 false l d) s

/-- A host-core tap raises a kind as class 3 (R272). -/
def raiseHcore (h kind : Nat) (l : Loc) (d : Nat) (s : State) : State := raiseOn (24 + h) h (mkMsg kind 3 false l d) s

/-! ### Event records (R471–R474) -/

/-- A 64 B record image; the Recorder fills SUPP, DIE, RSEQ, ET, DIE_SET and CHECK (R472). -/
def recImage (code typ sev : Nat) (reh : Bool) (finding actions : Nat) (flood escal : Bool) (cseq arg body aux : Nat) : BitVec 512 :=
  BitVec.ofNat 512 (pack [(12, code), (4, typ), (3, sev), (1, b2n reh), (4, finding), (6, actions), (1, b2n flood), (1, b2n escal),
    (16, 0), (16, 0), (64, 0), (64, 0), (32, cseq), (32, arg), (128, body), (64, aux)])

/-- A record image put in the Recorder's input queue by hardware or by the serving pair; a source that finds 64 there waits (R474). -/
def pushRec (hw : Bool) (img : BitVec 512) (s : State) : State :=
  if s.recd.input.length < 64 then { s with recd := { s.recd with input := s.recd.input ++ [img] } }
  else if hw then { s with recd := { s.recd with waitHw := s.recd.waitHw ++ [img] } }
  else { s with recd := { s.recd with waitPair := s.recd.waitPair ++ [img] } }

/-- A place in the input queue is free: a hardware source that waits goes ahead of the serving pair (R474). -/
def admitRec (s : State) : State :=
  match s.recd.waitHw, s.recd.waitPair with
  | r :: rest, _ => { s with recd := { s.recd with input := s.recd.input ++ [r], waitHw := rest } }
  | [], r :: rest => { s with recd := { s.recd with input := s.recd.input ++ [r], waitPair := rest } }
  | [], [] => s

/-- An EVENT record of R473. -/
def recEvent (code arg body aux : Nat) (s : State) : State := pushRec true (recImage code 2 0 false 0 0 false false 0 arg body aux) s

/-! ### Completion records (R538, R544, R545) -/

/-- A 32 B completion record without PHASE and LOST, which are set when it is written (R544). -/
def cplRecord (typ status tag et body : Nat) : W256 :=
  BitVec.ofNat 256 (pack [(8, typ), (4, status), (4, 0), (16, tag), (32, et), (192, body)])

def fCplEnable : RF := ⟨0x0068, 8, 1, 0⟩
def fCplLog : RF := ⟨0x0068, 0, 5, 0⟩
def fCmdEnable : RF := ⟨0x0048, 8, 1, 0⟩
def fCmdLog : RF := ⟨0x0048, 0, 5, 0⟩

/-- A record dropped: counted in LOST, saturating, and flagged in the next one written (R538). -/
def dropRecord (c : Nat) (s : State) : State :=
  updComp c (fun p => { p with lost := min (p.lost + 1) 0xFFFF, lostOwed := true }) s

/-- A record posted to a compartment's staging area (R538, R539, R545). -/
def postRecord (c typ status tag body : Nat) (s : State) : State :=
  let cmd := typ == 1
  let p := s.comp c
  let mayDrop := typ == 0x09 || typ == 0x0B || typ == 0x0C
  if mayDrop && (p.st == .stopped || p.st == .closed) then s
  else if s.jf c fCplEnable == 0 then dropRecord c s
  else if !cmd && decide ((p.staged.filter (fun r => !r.cmd)).length ≥ 48) then dropRecord c s
  else updComp c (fun p => { p with staged := p.staged ++ [⟨cplRecord typ status tag s.et body, cmd⟩] }) s

/-- A held command that executes, with a TAG and an opcode. -/
def runsCmd (tag opcode : Nat) (h : Held) : Bool := h.stage == .executing && fld h.pkt 16 16 == tag && fld h.pkt 0 8 == opcode

/-- An executing command of a compartment completes: its CMD record is posted, once (R536, R544, R552). RESULT is 20 bytes from
offset 12. A record that finds its ring disabled is dropped, and the command no longer counts (R539). -/
def completeCmd (c tag opcode status result : Nat) (s : State) : State :=
  let p := s.comp c
  if p.held.any (runsCmd tag opcode) then
    let s := postRecord c 1 status tag (pack [(8, opcode), (24, 0), (160, result)]) s
    let i := p.held.findIdx (runsCmd tag opcode)
    if s.jf c fCplEnable == 0 then updComp c (fun p => { p with held := p.held.eraseIdx i }) s
    else updComp c (fun p => { p with held := p.held.modify i (fun h => { h with stage := .completed }) }) s
  else s

/-! ### Trace (R460, R461) -/

/-- A 32 B trace record. -/
def traceRecord (typ comp flags locus seq et payload : Nat) : W256 :=
  BitVec.ofNat 256 (pack [(8, typ), (4, comp), (4, flags), (16, locus), (32, seq), (64, et), (128, payload)])

/-- A compartment's trace. -/
def State.trace (s : State) (c : Nat) : Trace := s.obs.traces.get c Trace.reset

/-- A record enters staging; where staging is full it is lost and counted, and after a loss a GAP goes first (R461). -/
def Trace.add (t : Trace) (et : Tick) (mk : Nat → W256) (gap : Nat → Nat → Nat → Nat → W256) : Trace :=
  let room := if t.lost = 0 then 1023 else 1022
  if t.staged.length ≥ room then
    { t with seq := (t.seq + 1) % 2 ^ 32, lost := min (t.lost + 1) (2 ^ 32 - 1),
             lostFirst := if t.lost = 0 then et else t.lostFirst, lostLast := et }
  else if t.lost = 0 then { t with staged := t.staged ++ [(et, mk t.seq)], seq := (t.seq + 1) % 2 ^ 32 }
  else { t with staged := t.staged ++ [(et, gap t.seq t.lostFirst t.lost t.lostLast), (et, mk ((t.seq + 1) % 2 ^ 32))],
                seq := (t.seq + 2) % 2 ^ 32, lost := 0, lostFirst := 0, lostLast := 0 }

/-- A GAP record (R460). -/
def gapRecord (c seq first lost last : Nat) : W256 := traceRecord 1 c 0 0 seq first (pack [(32, lost), (32, last)])

/-- A trace record of an enabled class of compartment c (R458, R460). No record is made while the compartment is stopped (R543). -/
def trace (c typ flags locus payload : Nat) (s : State) : State :=
  let t := s.trace c
  let on := decide (t.log2 ≠ 0) && nfld t.classes (typ - 2) 1 == 1 && (s.comp c).st == .opened
  if on then
    let t' := t.add s.et (fun q => traceRecord typ c flags locus q s.et payload) (gapRecord c)
    { s with obs := { s.obs with traces := s.obs.traces.put c t' } }
  else s

/-! ### Hub bank words, policy tables, cellar bytes -/

/-- The stored 288 bits of a bank word (R416). -/
def bankWord (s : State) (bank word : Nat) : BitVec 288 := s.bnk.words.get (16384 * bank + word) 0

/-- A bank word stored with its check symbols (R416). -/
def bankStore (bank word : Nat) (d : W256) (s : State) : State :=
  { s with bnk := { s.bnk with words := s.bnk.words.putD (16384 * bank + word) (s32Enc d) 0 } }

/-- The data bits of a bank word. -/
def bankData (s : State) (bank word : Nat) : W256 := BitVec.ofNat 256 (fld (bankWord s bank word) 0 256)

/-- A bank's registers changed. -/
def updBank (bank : Nat) (f : BankReg → BankReg) (s : State) : State := { s with bnk := { s.bnk with regs := s.bnk.regs.upd bank BankReg.reset f } }

/-- A checked read of a bank word: a correction is written back and counted, an uncorrectable word counted, and each raised
(R417, R421). The second value is 0 good or corrected, 1 uncorrectable, 2 blazed. -/
def bankFetch (bank word : Nat) (s : State) : W256 × Nat × State :=
  let d := (bank + 64 * word)
  match s32Dec (bankWord s bank word) with
  | (v, .ok) => (v, 0, s)
  | (v, .blazed) => (v, 2, s)
  | (v, .corrected) =>
    (v, 0, raiseHub uBanks Kind.hmCe (hubLoc uBanks) (detail d none none) (updBank bank (fun r => { r with ce := min (r.ce + 1) 255 }) (bankStore bank word v s)))
  | (v, .uncorrectable) =>
    (v, 1, raiseHub uBanks Kind.hmUe (hubLoc uBanks) (detail d none none) (updBank bank (fun r => { r with ue := min (r.ue + 1) 255 }) s))

/-- `len` bytes of a bank from a byte offset, within one 32 B word. -/
def bankRead (s : State) (bank off len : Nat) : Nat := fld (bankData s bank (off / 32)) (8 * (off % 32)) (8 * len)

/-- A write of bank 32 carried to the selectors' working copies: an entry that it touches is the table's again (R529). -/
def carryLfsr (bank off len : Nat) (s : State) : State :=
  if bank ≠ 32 then s
  else { s with gov := { s.gov with lfsrs := s.gov.lfsrs.filter (fun e => decide (e.1 + 4 ≤ off ∨ off + len ≤ e.1)) } }

/-- `len` bytes of a bank written, within one 32 B word. -/
def bankWrite (bank off len v : Nat) (s : State) : State :=
  carryLfsr bank off len <| bankStore bank (off / 32) (BitVec.ofNat 256 (nset (bankData s bank (off / 32)).toNat (8 * (off % 32)) (8 * len) v)) s

/-- Bytes of a bank from any byte offset. -/
def bankBytes (s : State) (bank off : Nat) (n : Nat) : List Byte :=
  (List.range n).map (fun i => BitVec.ofNat 8 (bankRead s bank (off + i) 1))

/-- A field of the policy tables, which lie in bank 32 (R528). -/
def polRead (s : State) (off len : Nat) : Nat := bankRead s 32 off len
def polWrite (off len v : Nat) (s : State) : State := bankWrite 32 off len v s

/-- One step of the selector LFSR whose table entry is at an offset of bank 32: its working copy steps (R131, R139, R529). -/
def stepSelector (off : Nat) (s : State) : Nat × State :=
  let v := lfsrStep (match s.gov.lfsrs.find? off with
    | some v => v
    | none => polRead s off 4)
  (v, { s with gov := { s.gov with lfsrs := s.gov.lfsrs.put off v } })

/-- The selectors write their stepped states back into the table, once a millisecond (R529). -/
def writeBackLfsrs (s : State) : State := foldS s.gov.lfsrs (fun e t => polWrite e.1 4 e.2 t) s

/-- A byte of the cellar; a byte nothing has written reads 0 (log entry 10), and of an absent cellar every byte (R583: all that is
kept there starts empty). -/
def cellarByte (s : State) (a : Nat) : Byte := if s.recd.cellarAbsent then 0 else Tbl.get s.recd.cellar a 0

/-- The cellar's canonical form: addresses strictly rise, and no entry equals what an unlisted address reads as. -/
def Memory.wf (m : List Host.Cell) : Bool := Tbl.canon m (0 : Byte)

/-- The canonical form of the hub bank words: every listed word differs from the all-zero word that an unlisted one holds. -/
def Words.wf (m : Tbl (BitVec 288)) : Bool := Tbl.canon m (0 : BitVec 288)

/-- Bytes of the cellar from an address. -/
def cellarBytes (s : State) (a n : Nat) : List Byte := (List.range n).map (fun i => cellarByte s (a + i))

/-- Bytes put into the cellar from an address, below 64 MiB (R480). -/
def putBytes (m : List Host.Cell) : Nat → List Byte → List Host.Cell
  | _, [] => m
  | a, b :: r => putBytes (if a < 0x4000000 then Tbl.putD m a b 0 else m) (a + 1) r

/-- A cellar write (R480); nothing is written where the device does not answer (R583). -/
def cellarWrite (a : Nat) (bs : List Byte) (s : State) : State :=
  if s.recd.cellarAbsent then s else { s with recd := { s.recd with cellar := putBytes s.recd.cellar a bs } }

/-- GEN of a copy kept under the two-copy rule: MAGIC at 0, GEN at 4, DIE_ID at 8, CHECK in the last 8 bytes (R292, R483, R595). -/
def copyGen (s : State) (a size magic : Nat) : Option Nat :=
  let b := cellarBytes s a size
  let v := ofBytes b
  if nfld v 0 32 == magic && nfld v 64 64 == s.fuse.dieId.toNat && nfld v (8 * (size - 8)) 64 == chipperSig (b.take (size - 8))
  then some (nfld v 32 32) else none

/-- The correct copy with the higher GEN, and its GEN (R291). -/
def bestCopy (s : State) (a b size magic : Nat) : Option (Nat × Nat) :=
  match copyGen s a size magic, copyGen s b size magic with
  | some x, some y => if y > x then some (b, y) else some (a, x)
  | some x, none => some (a, x)
  | none, some y => some (b, y)
  | none, none => none

/-- The bytes of one copy: MAGIC, GEN, DIE_ID, the middle, CHECK. -/
def copyBytes (s : State) (size magic gen mid : Nat) : List Byte :=
  let body := toBytes (size - 8) (pack [(32, magic), (32, gen), (64, s.fuse.dieId.toNat), (8 * (size - 24), mid)])
  body ++ toBytes 8 (chipperSig body)

/-- A record written to the copy with the lower GEN, with GEN one above the higher (R292). -/
def twoCopyWrite (a b size magic mid : Nat) (s : State) : State :=
  let gen := match bestCopy s a b size magic with
    | some (_, g) => g + 1
    | none => 1
  let at_ := match bestCopy s a b size magic with
    | some (x, _) => if x = a then b else a
    | none => a
  cellarWrite at_ (copyBytes s size magic gen mid) s

/-! ### Policy records numbered as for PWRITE (R516) -/

/-- Reset values: escrow policy, journal policy, quota, Collector policy, stop policy, spare record, lease record. -/
def polDefault (rec_ : Nat) : Nat :=
  match rec_ with
  | 1 => pack [(8, 0), (8, 32), (16, 1200), (16, 1000)]
  | 2 => pack [(16, 200), (4, 3), (1, 1)]
  | 5 => pack [(16, 100), (16, 1000)]
  | 6 => pack [(5, 4)]
  | 3 => pack [(32, 8192), (16, 1024), (16, 2048), (16, 256), (4, 1), (12, 0), (16, 32), (16, 64)]
  | 4 => pack [(4, 1), (4, 3), (8, 24), (4, 1), (4, 3), (4, 3), (4, 4), (4, 8), (1, 1)]
  | _ => 0

/-- A policy record: record number and compartment or lease; die-wide records lie at 0. -/
def policy (s : State) (rec_ c : Nat) : Nat := (s.gov.policy.get (32 * rec_ + c) (BitVec.ofNat 256 (polDefault rec_))).toNat

/-- A policy record stored. -/
def setPolicy (rec_ c v : Nat) (s : State) : State :=
  { s with gov := { s.gov with policy := s.gov.policy.put (32 * rec_ + c) (BitVec.ofNat 256 v) } }

/-- A quota field: LATCHES 0, ESCROW 1, CORDS 2, TENSORS 3, CRUISE_W 4, STREAM 5, VCS 6 (R306). -/
def quota (s : State) (c k : Nat) : Nat :=
  let q := policy s 3 c
  match k with
  | 0 => nfld q 0 32
  | 1 => nfld q 32 16
  | 2 => nfld q 48 16
  | 3 => nfld q 64 16
  | 4 => nfld q 80 4
  | 5 => nfld q 96 16
  | _ => nfld q 112 16

/-- Collector policy fields (R288). -/
def fellPersist (s : State) : Nat := nfld (policy s 4 0) 0 4
def fellIntermit (s : State) : Nat := nfld (policy s 4 0) 4 4
def intermitH (s : State) : Nat := nfld (policy s 4 0) 8 8
def fellSelftest (s : State) : Nat := nfld (policy s 4 0) 16 4
def tapRetryMax (s : State) : Nat := nfld (policy s 4 0) 20 4
def unitEsc (s : State) : Nat := nfld (policy s 4 0) 24 4
def clusterEsc (s : State) : Nat := nfld (policy s 4 0) 28 4
def ueBurst (s : State) : Nat := nfld (policy s 4 0) 32 4
def liftTransient (s : State) : Bool := nfld (policy s 4 0) 36 1 == 1

/-! ### The Gate (R556, R557) -/

/-- A RESPONSE lands in M_GATE_RX: BUSY clears (R557). -/
def gateRespond (tag status body : Nat) (s : State) : State :=
  { s with isl := { s.isl with gateRx := BitVec.ofNat 512 (pack [(16, 0x0080), (16, tag), (4, status), (28, 0), (448, body)]),
                                gateValid := true, gateBusy := false } }

/-- Codes of the messages whose body is key material, which is readable from neither side once it is sent: ROOT_KEY and
CAPTURE_KEY (R45, R556). -/
def keyCode (code : Nat) : Bool := code == 0x0020 || code == 0x0021

/-- A catalogue message sent by the management side: ERR 1 while the hub is not up, ERR 2 while a message or a RESPONSE is there,
with nothing sent; else the message passes to its unit with BUSY set (R557). -/
def atGate (code tag : Nat) (body : BitVec 448) (f : State → State) (s : State) : State :=
  if s.isl.st == .off then s
  else if !s.hubUp then { s with isl := { s.isl with gateErr := 1 } }
  else if s.isl.gateBusy || s.isl.gateValid then { s with isl := { s.isl with gateErr := 2 } }
  else f { s with isl := { s.isl with gateTx := BitVec.ofNat 512 (pack [(16, code), (16, tag), (32, 0), (448, if keyCode code then 0 else body.toNat)]), gateBusy := true } }

/-- The bytes a message's SRC names: hub-bank addresses in banks 42–47, 32 B aligned, owned by Firmware (R556). -/
def gateSrc (s : State) (src n : Nat) : Option (List Byte) :=
  let last := (src + n - 1) >>> 19
  let banks := (List.range 6).map (fun k => 42 + k)
  let mine (k : Nat) : Bool := k < src >>> 19 || last < k || (s.bnk.regs.get k BankReg.reset).owner == .firmware
  if 42 ≤ src >>> 19 && last ≤ 47 && src % 32 == 0 && banks.all mine
  then some ((List.range n).map (fun i => BitVec.ofNat 8 (bankRead s ((src + i) >>> 19) ((src + i) % 2 ^ 19) 1))) else none

/-- A crossing refused under R44: counted, recorded as REC_GATE and raised as GATE_DENIED. -/
def refuseCrossing (code : Nat) (management : Bool) (l : Loc) (s : State) : State :=
  raiseHub uGate Kind.gateDenied (hubLoc uGate) 0
    (recEvent Kind.recGate code (pack [(1, b2n management), (16, l.toNat)]) 0 (countHub 192 1 s))

end Sys2Proof.Machine
end

