-- ==== Sys2Proof/Machine/Fabric.lean ====
section
/-! DEFINITION. Sending and receiving on VC-S: branches, groups and budgets (10_latches_and_stop R331–R340, R554, R309). -/
namespace Sys2Proof.Machine

/-- VC-S classes (R332). -/
abbrev vcControl : Nat := 0
abbrev vcEscrow : Nat := 1
abbrev vcLatch : Nat := 2
abbrev vcDigest : Nat := 3
abbrev vcLease : Nat := 4
abbrev vcTime : Nat := 5
abbrev vcStop : Nat := 6
abbrev vcFault : Nat := 7

/-- How a branch left: on the fabric (or waiting for its window), delivered on this die, failed at issue (R337, R554). -/
inductive SendEnd where
  | out | here | failed
deriving DecidableEq, Repr

/-- A branch before it is issued. -/
def mkBranch (cls dst group plen payload : Nat) (use : BranchFor) : Branch :=
  ⟨0, cls, dst, group, BitVec.ofNat 384 payload, plen, 1, 0, use, false⟩

/-- A branch issued: it takes the next MSEQ, and its first attempt leaves (R331, R338). -/
def placeBranch (b : Branch) (s : State) : State :=
  let b := { b with mseq := s.fab.mseq, firstEt := s.et }
  let s : State := { s with fab := { s.fab with mseq := (s.fab.mseq + 1) % 2 ^ 32, branches := s.fab.branches ++ [b] } }
  emit (.vcs b.dst b.mseq b.cls b.payload) s

/-- A message taken into the intake (R335). -/
def takeMsg (m : VcsMsg) (s : State) : State := { s with fab := { s.fab with intake := s.fab.intake ++ [m] } }

/-- A compartment's VCS budget of the window is spent (R306, R309). -/
def vcsSpent (s : State) (c : Nat) : Bool := decide (s.fab.vcsUsed.get c 0 ≥ Tbl.get s.fab.vcsBudget c 64 * 1024) || s.fab.waiting.any (fun w => w.1 == c)

/-- What VC-S carries on to other dies after a die stop: control, lease, time and fault messages, stop markers, RECANT_ACK, and latch
RESULTs with status FENCED (R284). DEDUCED: time and fault messages are no job traffic (log entry 58). -/
def pastDieStop (b : Branch) : Bool :=
  b.cls == vcControl || b.cls == vcLease || b.cls == vcTime || b.cls == vcStop || b.cls == vcFault
    || (b.cls == vcEscrow && fld b.payload 0 4 == 3)
    || (b.cls == vcLatch && fld b.payload 0 4 == 8 && fld b.payload 12 4 == stFenced)

/-- A branch issued for a compartment whose messages are counted, or for none (R284, R309, R337, R554). -/
def issueBranch (cnt : Option Nat) (b : Branch) (s : State) : SendEnd × State :=
  if !s.dieSet then (.failed, s)
  else if b.dst = s.die then
    (.here, takeMsg ⟨b.cls, b.plen, s.die, s.die, b.group, s.fab.mseq, s.et % 2 ^ 32, b.payload⟩
      { s with fab := { s.fab with mseq := (s.fab.mseq + 1) % 2 ^ 32 } })
  else if s.col.quietDie && !pastDieStop b then (.failed, s)
  else match cnt with
    | none => (.out, placeBranch b s)
    | some c =>
      if vcsSpent s c then (.out, { s with fab := { s.fab with waiting := s.fab.waiting ++ [(c, b)] } })
      else (.out, placeBranch b { s with fab := { s.fab with vcsUsed := s.fab.vcsUsed.upd c 0 (· + 1) } })

/-- Counted messages that waited are issued in order, as far as the new window's budgets go (R309). -/
def releaseVcs (s : State) : State :=
  let w := s.fab.waiting
  foldS w (fun e t => (issueBranch (some e.1) e.2 t).2) { s with fab := { s.fab with waiting := [] } }

/-- The member dies of a group with the compartment each range names, in member order; none where this die does not define it (R337). -/
def groupMembers (s : State) (g : Nat) : Option (List (Nat × Nat)) :=
  match s.fab.groups.find? g with
  | none => none
  | some rs => some (rs.flatMap (fun r => (List.range (r.2.2.1 + 1 - r.2.1)).map (fun i => (r.2.1 + i, r.2.2.2))))

/-- The compartment that a group names on this die (R337). -/
def groupComp (s : State) (g : Nat) : Option Nat :=
  match s.fab.groups.find? g with
  | none => none
  | some rs => (List.find? (fun r => decide (r.2.1 ≤ s.die ∧ s.die ≤ r.2.2.1)) rs).map (fun r => r.2.2.2)

/-- What became of a multicast: dies whose branches are out, whether it came here, dies whose branches failed at issue. -/
structure Multi where
  out : List Nat
  here : Bool
  failed : List Nat
  /-- the group is not defined on this die. -/
  undefined : Bool
deriving DecidableEq, Repr

/-- A multicast issued branch by branch in member order; an undefined group issues nothing and is one failed branch (R337, R338). -/
def sendMulti (cnt : Option Nat) (b : Branch) (s : State) : Multi × State :=
  match groupMembers s b.group with
  | none =>
    let kind := if b.cls = vcEscrow then Kind.escBranch else Kind.vcsBranchFail
    (⟨[], false, [], true⟩, whenS s.dieSet (raiseFabric kind dieLoc (detail b.group none none)) s)
  | some ms => ms.foldl (fun (r : Multi × State) m =>
      match issueBranch cnt { b with dst := m.1 } r.2 with
      | (.out, t) => ({ r.1 with out := r.1.out ++ [m.1] }, t)
      | (.here, t) => ({ r.1 with here := true }, t)
      | (.failed, t) => ({ r.1 with failed := r.1.failed ++ [m.1] }, t)) (⟨[], false, [], false⟩, s)

/-- A unicast for nobody who waits for its branch (R337). -/
def sendPlain (cnt : Option Nat) (cls dst plen payload : Nat) (s : State) : State :=
  (issueBranch cnt (mkBranch cls dst 0 plen payload .plain) s).2

/-- A multicast for nobody who waits for its branches. -/
def multiPlain (cnt : Option Nat) (cls group plen payload : Nat) (s : State) : State :=
  (sendMulti cnt (mkBranch cls 0 group plen payload .plain) s).2

/-- The first message of the intake that passes a test. -/
def findMsg (p : VcsMsg → Bool) (s : State) : Option VcsMsg := s.fab.intake.find? p

/-- A message handled: it leaves the intake. -/
def dropMsg (m : VcsMsg) (s : State) : State := { s with fab := { s.fab with intake := s.fab.intake.erase m } }

/-- The first message of a class and TYPE (or OP) is taken from the intake and handled; none: nothing happens. -/
def withMsg (cls typ : Nat) (f : VcsMsg → State → State) (s : State) : State :=
  match findMsg (fun m => m.cls == cls && fld m.payload 0 4 == typ) s with
  | some m => f m (dropMsg m s)
  | none => s

/-- A message discarded under R13: VCS_MALFORMED against the sending die at system level (R13, R274). -/
def vcsBad (src d : Nat) (s : State) : State := raiseFabric Kind.vcsMalformed systemLoc (detail d (some src) none) s

/-- A compartment's stop changed. -/
def updStop (c : Nat) (f : Stop → Stop) (s : State) : State :=
  match s.fab.stops.find? c with
  | some p => { s with fab := { s.fab with stops := s.fab.stops.put c (f p) } }
  | none => s

/-- A DACK or NACK answered to a die (R335, R336). -/
def answer (src mseq : Nat) (good : Bool) (s : State) : State := emit (.dack src mseq good) s

end Sys2Proof.Machine
end

