-- ==== Sys2Proof/Machine/Quoper.lean ====
section
/-! DEFINITION. The Quoper pairs: registers, guards, malformed instructions, the scalar class (16_quoper_isa R494–R506). -/
namespace Sys2Proof.Machine

/-! ### Fields of an instruction, bits 55:0 (R501) -/

def qPred (q : BitVec 56) : Nat := fld q 53 3
def qNeg (q : BitVec 56) : Bool := bitAt q 52
def qRd (q : BitVec 56) : Nat := fld q 47 5
def qRa (q : BitVec 56) : Nat := fld q 42 5
def qRb (q : BitVec 56) : Nat := fld q 37 5
def qPd (q : BitVec 56) : Nat := fld q 34 3
def qX (q : BitVec 56) : Bool := bitAt q 33
def qImm (q : BitVec 56) : Nat := fld q 0 32
/-- sext(IMM) as 64 bits (R501). -/
def qSext (q : BitVec 56) : W64 := (BitVec.ofNat 32 (qImm q)).signExtend 64

/-- Bits that the tables name: PRED and PNEG always, then RD, RA, RB, PD, X and the named bits of IMM. -/
def qNamed (rd ra rb pd x : Nat) (imm : Nat) : Nat := 15 * 2 ^ 52 + rd * 2 ^ 47 + ra * 2 ^ 42 + rb * 2 ^ 37 + pd * 2 ^ 34 + x * 2 ^ 33 + imm

/-- Every bit outside the named ones is zero (R501, R504). -/
def qClean (q : BitVec 56) (mask : Nat) : Bool := q.toNat &&& mask == q.toNat

abbrev immAll : Nat := 0xFFFFFFFF

/-! ### A pair's registers (R499) -/

/-- Pair A or pair B. -/
def pairOf (b : Bool) (s : State) : Pair := if b then s.seq.pairB else s.seq.pairA

/-- A pair changed. -/
def updPair (b : Bool) (f : Pair → Pair) (s : State) : State :=
  if b then { s with seq := { s.seq with pairB := f s.seq.pairB } } else { s with seq := { s.seq with pairA := f s.seq.pairA } }

/-- g[i]; g0 reads zero (R499). -/
def Pair.reg (p : Pair) (i : Nat) : W64 := if i = 0 then 0 else p.g.get i 0
/-- g[i] written; a write of g0 is discarded (R499). -/
def Pair.setReg (p : Pair) (i : Nat) (v : W64) : Pair := if i = 0 then p else { p with g := p.g.putD i v 0 }
/-- p[i]; p0 reads 1 (R499). -/
def Pair.pred (p : Pair) (i : Nat) : Bool := i == 0 || p.p.getLsbD i
/-- p[i] written; a write of p0 is discarded (R499). -/
def Pair.setPred (p : Pair) (i : Nat) (v : Bool) : Pair :=
  if i = 0 then p else { p with p := if v then p.p ||| (1#8 <<< i) else p.p &&& ~~~(1#8 <<< i) }
/-- The program counter is a 16-bit instruction index (R498). -/
def Pair.jump (p : Pair) (n : Nat) : Pair := { p with pc := n % 65536 }
/-- The next instruction. -/
def Pair.next (p : Pair) : Pair := p.jump (p.pc + 1)

/-- The pair serves. -/
def serves (b : Bool) (s : State) : Bool := (pairOf b s).st == .serving

/-- The status and p[PD] of an instruction that reports one, and the next instruction (R503). -/
def Pair.report (p : Pair) (q : BitVec 56) (status : Nat) : Pair := ({ p with stat := status }.setPred (qPd q) (status == stOk)).next

/-- A malformed instruction: no effect, INVALID, SEQ_FAULT against the pair's first sequencer, next instruction (R504, R612). -/
def malformed (b : Bool) (q : BitVec 56) (s : State) : State :=
  let u := if b then uQB0 else uQA0
  raiseHub u Kind.seqFault (hubLoc u) 0 (updPair b (fun p => p.report q stInvalid) s)

/-- A pair executes: it holds a role and no WAIT of it is open (R496, R513). -/
def runs (b : Bool) (s : State) : Bool :=
  let p := pairOf b s
  (p.st == .serving || p.st == .standby) && p.waiting.isNone

/-- An instruction of a pair under its guard: no effect but the next instruction where the guard is 0 (R502, R504). -/
def qIssue (b : Bool) (q : BitVec 56) (good : Bool) (f : State → State) (s : State) : State :=
  if !runs b s then s
  else if (pairOf b s).pred (qPred q) == qNeg q then updPair b Pair.next s
  else if !good then malformed b q s
  else f s

/-- A scalar instruction that writes g[RD] (R506). -/
def qScalar (b : Bool) (q : BitVec 56) (mask : Nat) (f : Pair → W64) (s : State) : State :=
  qIssue b q (qClean q mask) (updPair b (fun p => (p.setReg (qRd q) (f p)).next)) s

/-- A register-to-register instruction. -/
def qRRR (b : Bool) (q : BitVec 56) (f : W64 → W64 → W64) (s : State) : State :=
  qScalar b q (qNamed 31 31 31 0 0 0) (fun p => f (p.reg (qRa q)) (p.reg (qRb q))) s

/-- A register-to-immediate instruction. -/
def qRRI (b : Bool) (q : BitVec 56) (f : W64 → W64) (s : State) : State :=
  qScalar b q (qNamed 31 31 0 0 0 immAll) (fun p => f (p.reg (qRa q))) s

/-- The shift amount amt (R506). -/
def qAmt (p : Pair) (q : BitVec 56) : Nat := ((p.reg (qRb q)).toNat + qImm q % 64) % 64

/-- A shift or rotate. -/
def qShift (b : Bool) (q : BitVec 56) (f : W64 → Nat → W64) (s : State) : State :=
  qScalar b q (qNamed 31 31 31 0 0 63) (fun p => f (p.reg (qRa q)) (qAmt p q)) s

/-- zext(IMM). -/
def qZext (q : BitVec 56) : W64 := BitVec.ofNat 64 (qImm q)

/-- Index of the lowest set bit, 64 for zero (R506). -/
def ffs (v : W64) : Nat := ((List.range 64).find? (fun i => v.getLsbD i)).getD 64
/-- Number of set bits. -/
def popc (v : W64) : Nat := ((List.range 64).filter (fun i => v.getLsbD i)).length

/-- The condition codes EQ, NE, LTU, GEU, LT, GE (R506). -/
def qCond (code : Nat) (x y : W64) : Bool :=
  match code with
  | 0 => x == y
  | 1 => x != y
  | 2 => x.ult y
  | 3 => !x.ult y
  | 4 => x.slt y
  | _ => !x.slt y

/-- The operations of PLOG (R506). -/
def qPlogOp (op : Nat) (x y : Bool) : Bool :=
  match op with
  | 0 => x && y
  | 1 => x || y
  | 2 => x != y
  | _ => x && !y

/-- A word of a program bank: the boot-ROM image, or what IMAGE_LOAD copied (R497, R605, R608). -/
def progWord (s : State) (bank : Bool) (i : Nat) : W64 :=
  if (if bank then s.seq.romB else s.seq.romA) then Config.romWord i else s.seq.prog.get (65536 * b2n bank + i) 0

/-- The value of a special register (R500). -/
def qSpecial (b : Bool) (s : State) (n : Nat) : W64 :=
  let p := pairOf b s
  match n with
  | 0 => BitVec.ofNat 64 s.et
  | 1 => BitVec.ofNat 64 (b2n b)
  | 2 => BitVec.ofNat 64 (b2n (p.st == .standby))
  | 3 => BitVec.ofNat 64 p.stat
  | 4 => BitVec.ofNat 64 s.isl.st.code
  | 5 => BitVec.ofNat 64 (s.die + 65536 * b2n s.dieSet)
  | 6 => BitVec.ofNat 64 (b2n s.isl.pf)
  | 7 => BitVec.ofNat 64 p.bankErr
  | 8 => BitVec.ofNat 64 p.turns
  | 9 => progWord s b 1
  | 10 => BitVec.ofNat 64 s.seq.lastCseq
  | _ => BitVec.ofNat 64 p.pc

def execQNop (b : Bool) (q : BitVec 56) (s : State) : Host.Outcome State Fault Refusal :=
  .next (qIssue b q (qClean q (qNamed 0 0 0 0 0 0)) (updPair b Pair.next) s)
def execQAdd (b : Bool) (q : BitVec 56) (s : State) : Host.Outcome State Fault Refusal := .next (qRRR b q (fun x y => x + y) s)
def execQAddi (b : Bool) (q : BitVec 56) (s : State) : Host.Outcome State Fault Refusal := .next (qRRI b q (fun x => x + qSext q) s)
def execQSub (b : Bool) (q : BitVec 56) (s : State) : Host.Outcome State Fault Refusal := .next (qRRR b q (fun x y => x - y) s)
def execQMul (b : Bool) (q : BitVec 56) (s : State) : Host.Outcome State Fault Refusal := .next (qRRR b q (fun x y => x * y) s)
def execQAnd (b : Bool) (q : BitVec 56) (s : State) : Host.Outcome State Fault Refusal := .next (qRRR b q (fun x y => x &&& y) s)
def execQOr (b : Bool) (q : BitVec 56) (s : State) : Host.Outcome State Fault Refusal := .next (qRRR b q (fun x y => x ||| y) s)
def execQXor (b : Bool) (q : BitVec 56) (s : State) : Host.Outcome State Fault Refusal := .next (qRRR b q (fun x y => x ^^^ y) s)
def execQAndi (b : Bool) (q : BitVec 56) (s : State) : Host.Outcome State Fault Refusal := .next (qRRI b q (fun x => x &&& qZext q) s)
def execQOri (b : Bool) (q : BitVec 56) (s : State) : Host.Outcome State Fault Refusal := .next (qRRI b q (fun x => x ||| qZext q) s)
def execQXori (b : Bool) (q : BitVec 56) (s : State) : Host.Outcome State Fault Refusal := .next (qRRI b q (fun x => x ^^^ qZext q) s)
def execQShl (b : Bool) (q : BitVec 56) (s : State) : Host.Outcome State Fault Refusal := .next (qShift b q (fun x n => x <<< n) s)
def execQShr (b : Bool) (q : BitVec 56) (s : State) : Host.Outcome State Fault Refusal := .next (qShift b q (fun x n => x >>> n) s)
def execQSar (b : Bool) (q : BitVec 56) (s : State) : Host.Outcome State Fault Refusal := .next (qShift b q (fun x n => x.sshiftRight n) s)
def execQRor (b : Bool) (q : BitVec 56) (s : State) : Host.Outcome State Fault Refusal := .next (qShift b q (fun x n => x.rotateRight n) s)
def execQGfmul (b : Bool) (q : BitVec 56) (s : State) : Host.Outcome State Fault Refusal :=
  .next (qRRR b q (fun x y => BitVec.ofNat 64 (gfMul x.toNat y.toNat)) s)
def execQMovi (b : Bool) (q : BitVec 56) (s : State) : Host.Outcome State Fault Refusal :=
  .next (qScalar b q (qNamed 31 0 0 0 0 immAll) (fun _ => qSext q) s)
def execQMovhi (b : Bool) (q : BitVec 56) (s : State) : Host.Outcome State Fault Refusal :=
  .next (qRRI b q (fun x => (qZext q <<< 32) ||| (x &&& 0xFFFFFFFF)) s)
def execQFfs (b : Bool) (q : BitVec 56) (s : State) : Host.Outcome State Fault Refusal :=
  .next (qScalar b q (qNamed 31 31 0 0 0 0) (fun p => BitVec.ofNat 64 (ffs (p.reg (qRa q)))) s)
def execQPopc (b : Bool) (q : BitVec 56) (s : State) : Host.Outcome State Fault Refusal :=
  .next (qScalar b q (qNamed 31 31 0 0 0 0) (fun p => BitVec.ofNat 64 (popc (p.reg (qRa q)))) s)

/-- A comparison into p[PD], with the condition code in RD (R506). -/
def qCompare (b : Bool) (q : BitVec 56) (mask : Nat) (y : Pair → W64) (s : State) : State :=
  qIssue b q (qClean q mask && decide (qRd q ≤ 5))
    (updPair b (fun p => (p.setPred (qPd q) (qCond (qRd q) (p.reg (qRa q)) (y p))).next)) s

def execQCmp (b : Bool) (q : BitVec 56) (s : State) : Host.Outcome State Fault Refusal :=
  .next (qCompare b q (qNamed 31 31 31 7 0 0) (fun p => p.reg (qRb q)) s)
def execQCmpi (b : Bool) (q : BitVec 56) (s : State) : Host.Outcome State Fault Refusal :=
  .next (qCompare b q (qNamed 31 31 0 7 0 immAll) (fun _ => qSext q) s)
def execQPlog (b : Bool) (q : BitVec 56) (s : State) : Host.Outcome State Fault Refusal :=
  .next (qIssue b q (qClean q (qNamed 0 7 7 7 0 3))
    (updPair b (fun p => (p.setPred (qPd q) (qPlogOp (qImm q % 4) (p.pred (qRa q)) (p.pred (qRb q)))).next)) s)
def execQSel (b : Bool) (q : BitVec 56) (s : State) : Host.Outcome State Fault Refusal :=
  .next (qScalar b q (qNamed 31 31 31 7 0 0) (fun p => if p.pred (qPd q) then p.reg (qRa q) else p.reg (qRb q)) s)

/-- MOVS reads a special register; a number not listed is reserved (R500). -/
def execQMovs (b : Bool) (q : BitVec 56) (s : State) : Host.Outcome State Fault Refusal :=
  .next (qIssue b q (qClean q (qNamed 31 0 0 0 0 0xFF) && decide (qImm q ≤ 11))
    (updPair b (fun p => (p.setReg (qRd q) (qSpecial b s (qImm q))).next)) s)

def execQBr (b : Bool) (q : BitVec 56) (s : State) : Host.Outcome State Fault Refusal :=
  .next (qIssue b q (qClean q (qNamed 0 0 0 0 0 immAll)) (updPair b (fun p => p.jump (p.pc + qImm q))) s)
def execQCall (b : Bool) (q : BitVec 56) (s : State) : Host.Outcome State Fault Refusal :=
  .next (qIssue b q (qClean q (qNamed 0 0 0 0 0 immAll))
    (updPair b (fun p => (p.setReg 31 (BitVec.ofNat 64 ((p.pc + 1) % 65536))).jump (p.pc + qImm q))) s)
/-- A hook has returned where the serving pair is back at the index that FOLLOW called it from (R530). -/
def hookReturns (b : Bool) (s : State) : State :=
  if serves b s && s.seq.hookRet == some (pairOf b s).pc then { s with seq := { s.seq with hookRet := none } } else s

def execQJr (b : Bool) (q : BitVec 56) (s : State) : Host.Outcome State Fault Refusal :=
  .next (qIssue b q (qClean q (qNamed 0 31 0 0 0 immAll))
    (fun s => hookReturns b (updPair b (fun p => p.jump ((p.reg (qRa q)).toNat + qImm q)) s)) s)

/-! ### Instructions that report a status (R503) -/

/-- An instruction outside the scalar class: DENIED where the pair stands by and the instruction is not open to it (R496). -/
def qStatus (b : Bool) (q : BitVec 56) (good standby : Bool) (f : State → Nat × State) (s : State) : State :=
  qIssue b q good (fun s =>
    if !serves b s && !standby then updPair b (fun p => p.report q stDenied) s
    else
      let r := f s
      updPair b (fun p => p.report q r.1) r.2) s

/-- The same, for one that also writes g[RD] when it answers a value. -/
def qStatusG (b : Bool) (q : BitVec 56) (good standby : Bool) (f : State → Nat × Option W64 × State) (s : State) : State :=
  qStatus b q good standby (fun s =>
    let r := f s
    (r.1, match r.2.1 with
      | some v => updPair b (fun p => p.setReg (qRd q) v) r.2.2
      | none => r.2.2)) s

/-- g[RA] + sext(IMM) mod 2^64. -/
def qAddr (b : Bool) (q : BitVec 56) (s : State) : Nat := ((pairOf b s).reg (qRa q) + qSext q).toNat

/-- g[RA] and g[RB]. -/
def gA (b : Bool) (q : BitVec 56) (s : State) : Nat := ((pairOf b s).reg (qRa q)).toNat
def gB (b : Bool) (q : BitVec 56) (s : State) : Nat := ((pairOf b s).reg (qRb q)).toNat

/-! ### Roles (R522–R524) -/

/-- A pair at the start of a role: registers of R499 and the role's entry index of its image (R497, R524). -/
def Pair.start (p : Pair) (st : PairSt) (entry : Nat) : Pair :=
  { Pair.reset with st := st, pc := entry, stops := p.stops }

/-- ENTRY_SERVE or ENTRY_STANDBY of a program bank's header (R497). -/
def entryServe (s : State) (bank : Bool) : Nat := fld (progWord s bank 2) 0 16
def entryStandby (s : State) (bank : Bool) : Nat := fld (progWord s bank 2) 16 16

/-- A system queue entry (R512). -/
def sysEntry (typ arg et : Nat) : W128 := BitVec.ofNat 128 (pack [(8, typ), (8, arg), (48, 0), (64, et)])

/-- An entry for the queue of a role: 16 deep, the oldest discarded and bit 7 of the next ARG set (R512). -/
def sysPush (serving : Bool) (typ arg : Nat) (s : State) : State :=
  if serving then
    let lost := decide (s.seq.sysServe.length ≥ 16)
    let e := sysEntry typ (arg ||| 128 * b2n lost) s.et
    { s with seq := { s.seq with sysServe := (if lost then s.seq.sysServe.drop 1 else s.seq.sysServe) ++ [e] } }
  else
    let lost := decide (s.seq.sysStandby.length ≥ 16)
    let e := sysEntry typ (arg ||| 128 * b2n lost) s.et
    { s with seq := { s.seq with sysStandby := (if lost then s.seq.sysStandby.drop 1 else s.seq.sysStandby) ++ [e] } }

/-- Both roles' queues told: PF_WARN, release, a change of state (R512). -/
def sysBoth (typ arg : Nat) (s : State) : State := sysPush false typ arg (sysPush true typ arg s)

/-- The pairs exchange roles; a pair that has stopped stays stopped (R522, R523). -/
def swapRoles (arg : Nat) (s : State) : State :=
  let newB := !s.seq.servingB
  let s := updPair newB (fun p => p.start .serving (entryServe s newB)) s
  let s := updPair (!newB) (fun p => if p.st == .stopped || p.st == .empty then p else p.start .standby (entryStandby s (!newB))) s
  sysPush true 4 arg { s with seq := { s.seq with servingB := newB, hookRet := none, handover := none } }

end Sys2Proof.Machine
end

