-- ==== Sys2Proof/Machine/QuoperMem.lean ====
section
/-! DEFINITION. The Quoper memory and queue classes, timers, WAIT and turns (16_quoper_isa R507–R513, R520, R521). -/
namespace Sys2Proof.Machine

/-- Whether a pair's role owns a bank (R423, R425, R507). -/
def ownsBank (b : Bool) (s : State) (bank : Nat) : Bool :=
  (s.bnk.regs.get bank BankReg.reset).owner == (if serves b s then Owner.serving else Owner.standby)

/-- The check of a hub-bank address for n bytes: INVALID misaligned or above bank 47, DENIED not owner (R507). -/
def addrCheck (b : Bool) (s : State) (a n : Nat) : Nat :=
  if a % n ≠ 0 || a >>> 19 > 47 then stInvalid else if !ownsBank b s (a >>> 19) then stDenied else stOk

/-- A refused bank access, counted (R425, R448). -/
def bankRefused (st : Nat) (s : State) : State := whenS (st == stDenied) (countHub 193 1) s

/-- A bank word as a sequencer reads it: data, BANKERR and what the read leaves (R417, R421, R500). -/
def qWord (a : Nat) (s : State) : W256 × Nat × State := bankFetch (a >>> 19) (a % 2 ^ 19 / 32) s

/-- Path parity failed also on the repeat: HM_PARITY, with the bank and the word (R422). -/
def parityFailed (a : Nat) (s : State) : State :=
  raiseHub uBanks Kind.hmParity (hubLoc uBanks) (detail (a >>> 19 + 64 * (a % 2 ^ 19 / 32)) none none) s

/-- LD (R422, R507): a read whose path parity fails twice ends with the uncorrectable flag. -/
def doLd (b : Bool) (q : BitVec 56) (path : PathParity) (s : State) : Nat × State :=
  let a := qAddr b q s
  let st := addrCheck b s a 8
  if st ≠ stOk then (st, bankRefused st s)
  else
    let (d, e, s) := qWord a s
    let (e, s) := if path = .failed then (1, parityFailed a s) else (e, s)
    let v := BitVec.ofNat 64 (fld d (8 * (a % 32)) 64)
    (if e = 0 then stOk else stSuspect, updPair b (fun p => { p.setReg (qRd q) v with bankErr := e }) s)

/-- ST (R422, R507): a write whose path parity fails twice is dropped. -/
def doSt (b : Bool) (q : BitVec 56) (path : PathParity) (s : State) : Nat × State :=
  let a := qAddr b q s
  let st := addrCheck b s a 8
  if st ≠ stOk then (st, bankRefused st s)
  else if path = .failed then (stOk, parityFailed a s)
  else (stOk, bankWrite (a >>> 19) (a % 2 ^ 19) 8 (gB b q s) s)

/-- LDW (R507). -/
def doLdw (b : Bool) (q : BitVec 56) (s : State) : Nat × State :=
  let a := qAddr b q s
  let st := addrCheck b s a 32
  if st ≠ stOk then (st, bankRefused st s)
  else
    let (d, e, s) := qWord a s
    let limb (l : Nat) : W64 := BitVec.ofNat 64 (fld d (64 * l) 64)
    (if e = 0 then stOk else stSuspect,
      updPair b (fun p => { [0, 1, 2, 3].foldl (fun p l => p.setReg (qRd q + l) (limb l)) p with bankErr := e }) s)

/-- STW (R507). -/
def doStw (b : Bool) (q : BitVec 56) (s : State) : Nat × State :=
  let a := qAddr b q s
  let st := addrCheck b s a 32
  if st ≠ stOk then (st, bankRefused st s)
  else
    let limb (l : Nat) : Nat := ((pairOf b s).reg (qRb q + l)).toNat
    (stOk, bankWrite (a >>> 19) (a % 2 ^ 19) 32 (pack [(64, limb 0), (64, limb 1), (64, limb 2), (64, limb 3)]) s)

/-- Registers that name a group of four: 4, 8, … or 28 (R507). -/
def quad (r : Nat) : Bool := r % 4 == 0 && decide (r ≥ 4)

def execQLd (b : Bool) (q : BitVec 56) (s : State) (path : PathParity := .good) : Host.Outcome State Fault Refusal :=
  .next (qStatus b q (qClean q (qNamed 31 31 0 7 0 immAll)) true (doLd b q path) s)
def execQSt (b : Bool) (q : BitVec 56) (s : State) (path : PathParity := .good) : Host.Outcome State Fault Refusal :=
  .next (qStatus b q (qClean q (qNamed 0 31 31 7 0 immAll)) true (doSt b q path) s)
def execQLdw (b : Bool) (q : BitVec 56) (s : State) : Host.Outcome State Fault Refusal :=
  .next (qStatus b q (qClean q (qNamed 31 31 0 7 0 immAll) && quad (qRd q)) true (doLdw b q) s)
def execQStw (b : Bool) (q : BitVec 56) (s : State) : Host.Outcome State Fault Refusal :=
  .next (qStatus b q (qClean q (qNamed 0 31 31 7 0 immAll) && quad (qRb q)) true (doStw b q) s)

/-! ### Operands in hub banks (R507; log entry 21) -/

/-- The 32 B words that n bytes from an address lie in. -/
def opWords (a n : Nat) : List Nat := (List.range (cdiv n 32)).map (fun k => (a + 32 * k) / 32 * 32)

/-- The check of an operand of n bytes: aligned to its size, to 32 B at most, in banks that the pair's role owns. -/
def opCheck (b : Bool) (s : State) (a n : Nat) : Nat :=
  let ws := opWords a n
  if a % min n 32 ≠ 0 || ws.any (fun w => decide (w >>> 19 > 47)) then stInvalid
  else if ws.all (fun w => ownsBank b s (w >>> 19)) then stOk else stDenied

/-- The bytes of an operand that has passed its check, and whether one of its words is uncorrectable or blazed. -/
def opRead (a n : Nat) (s : State) : Nat × Bool × State :=
  let (v, _, bad, s) := (opWords a n).foldl (fun (r : Nat × Nat × Bool × State) w =>
    let (v, k, bad, s) := r
    let (d, e, s) := qWord w s
    (v + 2 ^ (256 * k) * d.toNat, k + 1, bad || e != 0, s)) (0, 0, false, s)
  (nfld v (8 * (a % 32)) (8 * n), bad, s)

/-- The bytes of an operand stored where its check has passed. -/
def opWrite (a n v : Nat) (s : State) : State :=
  if n < 32 then bankWrite (a >>> 19) (a % 2 ^ 19) n v s
  else (foldS ((opWords a n).zipIdx) (fun w t => bankWrite (w.1 >>> 19) (w.1 % 2 ^ 19) 32 (nfld v (256 * w.2) 256) t) s)

/-! ### Queues (R508) -/

/-- Opcodes of commands that the serving pair carries out (R541). -/
def servingOpcode (op : Nat) : Bool := [0x03, 0x31, 0x55, 0x60].contains op

/-- The first command of a compartment that may start, if any: ring order and BARRIER (R536). -/
def nextHeld (p : Comp) : Option Held :=
  let busy := p.held.any (fun h => h.stage == .executing)
  match p.held.find? (fun h => h.stage == .fetched) with
  | none => none
  | some h => if bitAt h.pkt 8 && busy then none else some h

/-- Compartments whose next command is the serving pair's, with the packet (R508). -/
def servingCommands (s : State) : List (Nat × BitVec 512) :=
  (List.range 16).filterMap (fun c => match nextHeld (s.comp c) with
    | some h => if servingOpcode (fld h.pkt 0 8) then some (c, h.pkt) else none
    | none => none)

/-- The first command that may start begins to execute (R536). -/
def startHeld (c : Nat) (s : State) : State :=
  updComp c (fun p => match nextHeld p with
    | some _ =>
      let i := p.held.findIdx (fun h => h.stage == .fetched)
      { p with held := p.held.modify i (fun h => { h with stage := .executing }) }
    | none => p) s

/-- Queue identifiers (R508). -/
def queueKnown (id : Nat) : Bool := [1, 2, 3, 4, 0x10, 0x30, 0x31].contains id || decide (0x20 ≤ id ∧ id ≤ 0x2F)

/-- Entries in a queue (R509). -/
def queueLen (b : Bool) (s : State) (id : Nat) : Nat :=
  match id with
  | 1 => s.col.intake.length
  | 2 => if serves b s then s.seq.sysServe.length else s.seq.sysStandby.length
  | 3 => s.seq.responses.length
  | 4 => s.seq.requests.length
  | 0x10 => (servingCommands s).length
  | 0x30 => s.seq.gateIn.length
  | 0x31 => s.seq.gateOut.length
  | _ => (s.comp (id - 0x20)).staged.length

/-- Head entry of a queue that POP may take, as bytes and length (R508). -/
def queueHead (b : Bool) (s : State) (id : Nat) : Option (Nat × Nat) :=
  match id with
  | 1 => s.col.intake.head?.map (fun e => (32, (intakeWord e).toNat))
  | 2 => (if serves b s then s.seq.sysServe else s.seq.sysStandby).head?.map (fun e => (16, e.toNat))
  | 3 => s.seq.responses.head?.map (fun e => (32, e.toNat))
  | 0x10 => (servingCommands s).head?.map (fun e => (64, e.2.toNat))
  | 0x30 => s.seq.gateIn.head?.map (fun e => (64, e.toNat))
  | _ => none

/-- The head entry of a queue removed (R509). -/
def queueDrop (b : Bool) (id : Nat) (s : State) : State :=
  match id with
  | 1 => popIntake s
  | 2 => if serves b s then { s with seq := { s.seq with sysServe := s.seq.sysServe.drop 1 } }
         else { s with seq := { s.seq with sysStandby := s.seq.sysStandby.drop 1 } }
  | 3 => { s with seq := { s.seq with responses := s.seq.responses.drop 1 } }
  | 0x10 => match servingCommands s with
    | (c, _) :: _ => startHeld c s
    | [] => s
  | 0x30 => { s with seq := { s.seq with gateIn := s.seq.gateIn.drop 1 } }
  | _ => s

/-- The handle of a queue instruction (R501). -/
def qHandle (q : BitVec 56) : Nat := qRb q % 16

/-- A queue that can be popped, and one that can be pushed (R508). -/
def poppable (id : Nat) : Bool := [1, 2, 3, 0x10, 0x30].contains id
def pushable (id : Nat) : Bool := id == 4 || id == 0x31 || decide (0x20 ≤ id ∧ id ≤ 0x2F)

/-- BIND (R508, R509). -/
def doBind (b : Bool) (q : BitVec 56) (s : State) : Nat × State :=
  let id := qImm q
  if !queueKnown id then (stInvalid, s)
  else if !serves b s && id ≠ 2 then (stDenied, s)
  else (stOk, updPair b (fun p => { p with q := p.q.put (qHandle q) id }) s)

/-- POP (R509): the entry stays queued unless the status is OK. -/
def doPop (b : Bool) (q : BitVec 56) (s : State) : Nat × Option W64 × State :=
  match (pairOf b s).q.find? (qHandle q) with
  | none => (stInvalid, none, s)
  | some id =>
    if !poppable id then (stInvalid, none, s)
    else match queueHead b s id with
      | none => (stEmpty, none, s)
      | some (n, v) =>
        let a := qAddr b q s
        let st := opCheck b s a n
        if st ≠ stOk then (st, none, bankRefused st s)
        else (stOk, some (BitVec.ofNat 64 n), queueDrop b id (opWrite a n v s))

/-- Requests waiting for the unit that a UOP names: 0x01–0x05 Cruise Engine, 0x11–0x15 Journal Unit, 0x21 Digest Reducer (R514). -/
def uopUnit (uop : Nat) : Nat := uop / 16
def uopKnown (uop : Nat) : Bool := [1, 2, 3, 4, 5, 0x11, 0x12, 0x13, 0x14, 0x15, 0x21].contains uop

/-- A unit response (R511). -/
def unitResponse (req : W256) (status outcome r0 r1 et : Nat) : W256 :=
  BitVec.ofNat 256 (pack [(8, fld req 0 8), (4, status), (4, outcome), (16, fld req 16 16), (32, fld req 32 32), (64, r0), (64, r1),
    (32, fld req 192 32), (32, et)])

/-- A response that a unit has formed and will post (R511). -/
def formResponse (r : W256) (s : State) : State := { s with seq := { s.seq with forming := s.seq.forming ++ [r] } }

/-- A request taken by its unit's queue: INVALID for a reserved UOP or field, FENCED for a stopped compartment except UOP 0x15
and 0x21, each answered at once (R514). -/
def pushRequest (r : W256) (s : State) : Nat × State :=
  let uop := fld r 0 8
  let c := fld r 8 4
  if !uopKnown uop || fld r 12 4 ≠ 0 || fld r 224 32 ≠ 0 then (stOk, formResponse (unitResponse r stInvalid 0 0 0 s.et) s)
  else if (s.comp c).st == .stopped && uop ≠ 0x15 && uop ≠ 0x21 then (stOk, formResponse (unitResponse r stFenced 0 0 0 s.et) s)
  else if (s.seq.requests.filter (fun x => uopUnit (fld x 0 8) == uopUnit uop)).length ≥ 64 then (stQuota, s)
  else (stOk, { s with seq := { s.seq with requests := s.seq.requests ++ [r] } })

/-- A completion record pushed by a program; QUOTA where its places are taken (R509, R538). A CMD record ends its command. -/
def pushCompletion (c : Nat) (r : W256) (s : State) : Nat × State :=
  let p := s.comp c
  let cmd := fld r 0 8 == 1
  if decide (p.staged.length ≥ 64) || (!cmd && decide ((p.staged.filter (fun x => !x.cmd)).length ≥ 48)) then (stQuota, s)
  else if cmd && p.held.any (runsCmd (fld r 16 16) (fld r 64 8)) then (stOk, completeCmd c (fld r 16 16) (fld r 64 8) (fld r 8 4) (fld r 96 160) s)
  else (stOk, postRecord c (fld r 0 8) (fld r 8 4) (fld r 16 16) (fld r 64 192) s)

/-- PUSH (R509): a Gate message outside the catalogue is DENIED (R44). -/
def doPush (b : Bool) (q : BitVec 56) (s : State) : Nat × State :=
  match (pairOf b s).q.find? (qHandle q) with
  | none => (stInvalid, s)
  | some id =>
    if !pushable id then (stInvalid, s)
    else
      let n := if id = 0x31 then 64 else 32
      let a := qAddr b q s
      let st := opCheck b s a n
      if st ≠ stOk then (st, bankRefused st s)
      else
        let (v, _, s) := opRead a n s
        if id = 4 then pushRequest (BitVec.ofNat 256 v) s
        else if id = 0x31 then
          if nfld v 0 16 ≠ 0x80 then (stDenied, refuseCrossing (nfld v 0 16) false (hubLoc (if b then uQB0 else uQA0)) s)
          else if s.seq.gateOut.length ≥ 64 then (stQuota, s)
          else (stOk, { s with seq := { s.seq with gateOut := s.seq.gateOut ++ [BitVec.ofNat 512 v] } })
        else pushCompletion (id - 0x20) (BitVec.ofNat 256 v) s

/-- QLEN (R509). -/
def doQlen (b : Bool) (q : BitVec 56) (s : State) : Nat × Option W64 × State :=
  match (pairOf b s).q.find? (qHandle q) with
  | none => (stInvalid, none, s)
  | some id => (stOk, some (BitVec.ofNat 64 (queueLen b s id)), s)

def execQBind (b : Bool) (q : BitVec 56) (s : State) : Host.Outcome State Fault Refusal :=
  .next (qStatus b q (qClean q (qNamed 0 0 15 7 0 0xFFFF)) true (doBind b q) s)
def execQPop (b : Bool) (q : BitVec 56) (s : State) : Host.Outcome State Fault Refusal :=
  .next (qStatusG b q (qClean q (qNamed 31 31 15 7 0 immAll)) true (doPop b q) s)
def execQPush (b : Bool) (q : BitVec 56) (s : State) : Host.Outcome State Fault Refusal :=
  .next (qStatus b q (qClean q (qNamed 0 31 15 7 0 immAll)) false (doPush b q) s)
def execQQlen (b : Bool) (q : BitVec 56) (s : State) : Host.Outcome State Fault Refusal :=
  .next (qStatusG b q (qClean q (qNamed 31 0 15 7 0 0)) true (doQlen b q) s)

/-! ### Timers, WAIT and turns -/

/-- A timer expires: a response of UOP 0x50 for the serving pair, a system entry for a standby pair (R509). -/
def expireTimer (b : Bool) (n : Nat) (s : State) : State :=
  let s1 := updPair b (fun p => { p with timers := p.timers.del n }) s
  if serves b s then formResponse (BitVec.ofNat 256 (pack [(8, 0x50), (4, 0), (4, 0), (16, 0), (32, 0), (64, n), (64, 0), (32, 0), (32, s.et)])) s1
  else sysPush false 6 n s1

/-- TIMER (R509): 0 cancels, an ET that has passed expires at once. -/
def doTimer (b : Bool) (q : BitVec 56) (s : State) : Nat × State :=
  let n := qImm q % 16
  let t := gA b q s
  if t = 0 then (stOk, updPair b (fun p => { p with timers := p.timers.del n }) s)
  else if t ≤ s.et then (stOk, expireTimer b n s)
  else (stOk, updPair b (fun p => { p with timers := p.timers.put n t }) s)

def execQTimer (b : Bool) (q : BitVec 56) (s : State) : Host.Outcome State Fault Refusal :=
  .next (qStatus b q (qClean q (qNamed 0 31 0 7 0 15)) true (doTimer b q) s)

/-- TIMER_EXPIRY (R509): a timer whose ET has come. -/
def execTimerExpiry (b : Bool) (timer : Nat) (s : State) : Host.Outcome State Fault Refusal :=
  .next (match (pairOf b s).timers.find? timer with
    | some t => if t ≤ s.et then expireTimer b timer s else s
    | none => s)

/-- The lowest handle of a mask whose queue holds an entry (R513). -/
def readyHandle (b : Bool) (s : State) (mask : Nat) : Option Nat :=
  (List.range 16).find? (fun h => mask.testBit h && (match (pairOf b s).q.find? h with
    | some id => decide (queueLen b s id > 0)
    | none => false))

/-- A WAIT completes and a turn begins (R513, R520). -/
def waitDone (b : Bool) (w : Waiting) (h status : Nat) (s : State) : State :=
  updPair b (fun p => { ({ p with waiting := none, stat := status }.setReg w.rd (BitVec.ofNat 64 h)).setPred w.pd (status == stOk) with
    turnStart := some s.et }) s

/-- A pair whose WAIT can complete goes on: an entry has come, or the deadline has passed (R513). -/
def wakePair (b : Bool) (s : State) : State :=
  match (pairOf b s).waiting with
  | none => s
  | some w =>
    match readyHandle b s w.mask with
    | some h => waitDone b w h stOk s
    | none => if w.deadline ≠ 0 && decide (w.deadline ≤ s.et) then waitDone b w 16 stEmpty s else s

/-- A turn of a pair ends where its WAIT is issued: TURN and LONGEST (R500, R520, R526). -/
def endTurn (b : Bool) (s : State) : State :=
  match (pairOf b s).turnStart with
  | none => s
  | some t =>
    let us := (s.et - t) / 400
    let s := whenS (serves b s) (fun s => { s with seq := { s.seq with longest := max s.seq.longest (min us 0xFFFF) } }) s
    updPair b (fun p => { p with turnStart := none, turns := p.turns + 1 }) s

/-- A handover that waits is carried out while the serving pair waits at a handover point: its RESPONSE carries the ET of the
swap (R521, R522, R607). -/
def tryHandover (s : State) : State :=
  match s.seq.handover, (pairOf s.seq.servingB s).waiting with
  | some (_, tag), some w => if w.point then gateRespond tag stOk s.et (swapRoles 0 s) else s
  | _, _ => s

/-- WAIT (R513): INVALID at once for an unbound handle, or for no handle and no deadline. -/
def doWait (b : Bool) (q : BitVec 56) (s : State) : State :=
  let mask := qImm q
  let dl := gA b q s
  let unbound := (List.range 16).any (fun h => mask.testBit h && !(pairOf b s).q.has h)
  let s := endTurn b s
  if unbound || (mask == 0 && dl == 0) then
    updPair b (fun p => { p.report q stInvalid with turnStart := some s.et }) s
  else
    let s := updPair b (fun p => { p.next with waiting := some ⟨mask, qRd q, qPd q, dl, qX q⟩ }) s
    wakePair b (whenS (serves b s && s.seq.handover.isSome) tryHandover s)

def execQWait (b : Bool) (q : BitVec 56) (s : State) : Host.Outcome State Fault Refusal :=
  .next (qIssue b q (qClean q (qNamed 31 31 0 7 1 0xFFFF)) (doWait b q) s)

end Sys2Proof.Machine
end

