-- ==== Sys2Proof/Machine/Latch.lean ====
section
/-! DEFINITION. The Latch Array: latch operations, completion, RESULT and DONE (10_latches_and_stop R341–R351). -/
namespace Sys2Proof.Machine

/-! ### The operation's fields (R343) -/

def lopOp (o : W128) : Nat := fld o 0 4
def lopDrain (o : W128) : Bool := bitAt o 4
def lopDigest (o : W128) : Bool := bitAt o 5
def lopReply (o : W128) : Bool := bitAt o 6
def lopAnygen (o : W128) : Bool := bitAt o 7
def lopComp (o : W128) : Nat := fld o 8 4
def lopStatus (o : W128) : Nat := fld o 12 4
def lopHome (o : W128) : Nat := fld o 16 16
def lopLatch (o : W128) : Nat := fld o 32 32
def lopValue (o : W128) : Nat := fld o 64 32
def lopGen (o : W128) : Nat := fld o 96 16
def lopAux (o : W128) : Nat := fld o 112 16

/-- A latch operation (R343). -/
def lop (op flags comp status home latch value gen aux : Nat) : W128 :=
  BitVec.ofNat 128 (pack [(4, op), (4, flags), (4, comp), (4, status), (16, home), (32, latch), (32, value), (16, gen), (16, aux)])

/-- A FREE latch taken: IDLE, GEN 0, STRAG 31 (R344). -/
def Latch.fresh (c : Nat) : Latch := ⟨0, 0, c, .idle, 0, 0, 0, false, false, 31, 0, 0, 0, 0, 0, 0⟩

/-- A latch that is not FREE. -/
def State.latch (s : State) (i : Nat) : Option Latch := s.fab.latches.find? i
def putLatch (i : Nat) (l : Latch) (s : State) : State := { s with fab := { s.fab with latches := s.fab.latches.put i l } }

/-- The RESULT of an operation (R343). -/
def lopResult (o : W128) (status latch : Nat) (l : Option Latch) : W128 :=
  match l with
  | some l => lop 8 0 (lopComp o) status (lopHome o) latch l.count l.gen l.st.code
  | none => lop 8 0 (lopComp o) status (lopHome o) latch 0 0 0

/-! ### Completion (R345, R349) -/

/-- A straggler's report, when the spread of a completed generation exceeds its threshold (R349). -/
def straggle (i gen : Nat) (l : Latch) (s : State) : State :=
  let spread := (l.lastEt + 2 ^ 32 - l.firstEt) % 2 ^ 32
  let late := l.strag != 31 && decide (spread > 400 * 2 ^ l.strag)
  let s := trace l.comp 5 (b2n late) 0 (pack [(32, i), (16, gen), (16, l.lastSrc), (32, spread)]) s
  if late then
    let s : State := { s with fab := { s.fab with stragglers := s.fab.stragglers.upd l.comp 0 (· + 1) } }
    countHub (128 + l.comp) 1 (postRecord l.comp 0x09 stOk 0 (pack [(32, i), (16, gen), (16, l.lastSrc), (32, spread)]) s)
  else s

/-- A latch whose COUNT has reached TARGET completes; a re-armed latch whose EARLY already reaches it completes again (R345). -/
def latchComplete : Nat → Nat → Nat → State → State
  | 0, _, _, s => s
  | n + 1, i, src, s =>
    match s.latch i with
    | none => s
    | some l =>
      if l.st != .opened || l.count != l.target then s
      else
        let gen := l.gen
        let l := { l with lastEt := s.et % 2 ^ 32, lastSrc := src }
        let l' := if l.auto then { l with gen := (gen + 1) % 65536, count := l.early, early := 0, firstEt := s.et % 2 ^ 32 } else { l with st := .done }
        let s := straggle i gen l (putLatch i l' s)
        let s := postRecord l.comp 0x08 stOk 0 (pack [(32, i), (16, gen), (16, s.die), (24, l.target)]) s
        let s := if l.group ≠ 0 ∧ !s.isl.pf then multiPlain (some l.comp) vcLatch l.group 1 (lop 9 0 l.comp 0 s.die i l.target gen 0).toNat s else s
        let s := if l.fwd && !s.isl.pf then sendPlain (some l.comp) vcLatch l.pdie 1 (lop 4 8 l.pcomp 0 l.pdie l.platch 1 0 0).toNat s else s
        latchComplete n i src s

/-! ### Applying an operation (R344, R346) -/

/-- The first run of n FREE latches from a position, in a rising table. -/
def latchRun (n : Nat) : Nat → Tbl Latch → Option Nat
  | i, [] => if i + n ≤ 131072 then some i else none
  | i, (k, _) :: r => if i + n ≤ k then some i else latchRun n (max i (k + 1)) r

/-- Latches a compartment holds (R348). -/
def latchUse (s : State) (c : Nat) : Nat := s.fab.latches.count (fun _ l => l.comp == c)

/-- An operation's unused and reserved bits are 0 (R13, R343). -/
def lopClean (o : W128) : Bool :=
  match lopOp o with
  | 3 => lopStatus o == 0 && fld o 101 11 == 0
  | 6 => lopStatus o == 0 && fld o 101 11 == 0
  | 8 => fld o 116 12 == 0
  | _ => lopStatus o == 0 && lopAux o == 0

/-- Fields of an operation within their ranges (R343). -/
def lopGood (o : W128) : Bool :=
  let v := lopValue o
  let i := lopLatch o
  lopClean o && (match lopOp o with
  | 1 => v ≤ 4096 && (i == 0xFFFFFFFF || decide (i + v ≤ 131072))
  | 2 => v ≤ 4096 && decide (i + v ≤ 131072)
  | 3 => decide (v < 2 ^ 24) && decide (i < 131072) && (decide (fld o 96 5 ≤ 20) || fld o 96 5 == 31)
  | 4 => decide (v < 2 ^ 24) && decide (i < 131072)
  | 5 => decide (i < 131072)
  | 6 => decide (v < 131072) && decide (i < 131072)
  | _ => false)

/-- A latch operation applied by the home die: status, RESULT and state. `own` marks the home die's own host, firmware or sequencers. -/
def latchApply (src : Nat) (own : Bool) (o : W128) (s : State) : Nat × W128 × State :=
  let c := lopComp o
  let i := lopLatch o
  let v := lopValue o
  let fail (st : Nat) : Nat × W128 × State := (st, lopResult o st i (s.latch i), s)
  let done (i : Nat) (s : State) : Nat × W128 × State := (stOk, lopResult o stOk i (s.latch i), s)
  let tooFar (st : Nat) (s : State) : Nat × W128 × State :=
    (st, lopResult o st i (s.latch i), raiseHub uLatch Kind.latchOver dieLoc (detail i none (some c)) s)
  if !lopGood o then fail stInvalid
  else if (lopOp o = 1 || lopOp o = 2 || lopOp o = 3 || lopOp o = 6) && !own then fail stDenied
  else if s.cmd.dieStop || !s.compLive c then fail stFenced
  else match lopOp o with
    | 1 =>
      match (if i = 0xFFFFFFFF then latchRun v 0 s.fab.latches
          else if (s.fab.latches.any (fun e => decide (i ≤ e.1 ∧ e.1 < i + v))) then none else some i) with
      | none => fail stDenied
      | some a =>
        if v = 0 then fail stEmpty
        else if latchUse s c + v > quota s c 0 then fail stQuota
        else done a (foldS (List.range v) (fun k t => putLatch (a + k) (Latch.fresh c) t) s)
    | 2 =>
      if s.fab.latches.any (fun e => decide (i ≤ e.1 ∧ e.1 < i + v) && e.2.comp != c) then fail stDenied
      else if v = 0 then fail stEmpty
      else done i { s with fab := { s.fab with latches := s.fab.latches.keep (fun k _ => !decide (i ≤ k ∧ k < i + v)) } }
    | _ => match s.latch i with
      | none => fail stDenied
      | some l =>
        if l.comp != c then fail stDenied
        else match lopOp o with
          | 3 =>
            if l.st = .lost then fail stSuspect
            else if v = 0 then fail stEmpty
            else
              let l := { l with target := v, gen := (l.gen + 1) % 65536, count := l.early, early := 0, auto := lopAnygen o, group := lopAux o,
                                strag := fld o 96 5, st := .opened, firstEt := s.et % 2 ^ 32 }
              done i (latchComplete 2 i src (putLatch i l s))
          | 4 =>
            let now := lopAnygen o || lopGen o == l.gen
            let next := !now && lopGen o == (l.gen + 1) % 65536
            if l.st = .idle then fail stInvalid
            else if l.st = .lost then fail stSuspect
            else if !now && !next then fail stInvalid
            else if now && l.st == .done then tooFar stInvalid s
            else if v = 0 then fail stEmpty
            else if now then
              if l.count + v > l.target then tooFar stInvalid s
              else
                let l := { l with count := l.count + v, firstEt := if l.count = 0 then s.et % 2 ^ 32 else l.firstEt }
                done i (latchComplete 2 i src (putLatch i l s))
            else if l.early + v > l.target then tooFar stInvalid s
            else done i (putLatch i { l with early := l.early + v } s)
          | 5 => done i s
          | _ => done i (putLatch i { l with pdie := lopAux o, platch := v, pcomp := fld o 96 4, fwd := bitAt o 100 } s)

/-- The owning compartment of the latch an operation names, for the budget of its RESULT (R348). -/
def latchRow (src : Nat) (o : W128) (s : State) : State :=
  let s := match findMsg (fun m => m.cls == vcLatch && m.src == src && fld m.payload 0 128 == o.toNat) s with
    | some m => dropMsg m s
    | none => s
  let (_, r, s) := latchApply src (src == s.die) o s
  if !lopReply o then s
  else if src = s.die then emit (.latchResult r) s
  else sendPlain (some (lopComp o)) vcLatch src 1 r.toNat s

/-- The operation reaches the array only under its own OP; any other changes nothing. -/
def latchRowOf (op src : Nat) (o : W128) (s : State) : State := whenS (lopOp o == op && s.hubUp) (latchRow src o) s

/-- ALLOC (R344). -/
def execAlloc (src : Nat) (op : W128) (s : State) : Host.Outcome State Fault Refusal := .next (atHub (latchRowOf 1 src op) s)
/-- FREE (R344). -/
def execFree (src : Nat) (op : W128) (s : State) : Host.Outcome State Fault Refusal := .next (atHub (latchRowOf 2 src op) s)
/-- ARM (R344). -/
def execArm (src : Nat) (op : W128) (s : State) : Host.Outcome State Fault Refusal := .next (atHub (latchRowOf 3 src op) s)
/-- What the S32 check of a latch entry finds: a correctable error is corrected and counted; an uncorrectable one leaves the entry LOST,
or FREE where COMP is not intact, and raises LATCH_ENTRY (R350); a reserved STATE is LOST (R342). -/
def latchUpset (i : Nat) (u : EntryUpset) (s : State) : State :=
  match s.latch i with
  | none => s
  | some l =>
    let tell (s : State) : State := raiseHub uLatch Kind.latchEntry (hubLoc uLatch) (detail i none (some l.comp)) s
    match u with
    | .corrected => { s with fab := { s.fab with corrected := s.fab.corrected + 1 } }
    | .lost => tell (putLatch i { l with st := .lost } s)
    | .compLost => tell { s with fab := { s.fab with latches := s.fab.latches.del i } }
    | .reserved => putLatch i { l with st := .lost } s

/-- An arrival finds its latch's entry as the S32 check leaves it (R344, R346, R350). -/
def doArrive (src : Nat) (o : W128) (upset : Option EntryUpset) (s : State) : State :=
  latchRowOf 4 src o (match upset with
    | some u => whenS (lopOp o == 4) (latchUpset (lopLatch o) u) s
    | none => s)

/-- ARRIVE (R344, R346, R350). -/
def execArrive (src : Nat) (op : W128) (s : State) (upset : Option EntryUpset := none) : Host.Outcome State Fault Refusal := .next (atHub (doArrive src op upset) s)
/-- READ (R344). -/
def execLatchRead (src : Nat) (op : W128) (s : State) : Host.Outcome State Fault Refusal := .next (atHub (latchRowOf 5 src op) s)
/-- SETFWD (R344). -/
def execSetfwd (src : Nat) (op : W128) (s : State) : Host.Outcome State Fault Refusal := .next (atHub (latchRowOf 6 src op) s)

/-- The RESULT of a LOP to another die, for the serving pair (R514). -/
def lopResponse (r : W128) (s : State) : State :=
  formResponse (BitVec.ofNat 256 (pack [(8, 0x40), (4, lopStatus r), (4, 0), (16, 0), (32, 0), (128, r.toNat), (32, 0), (32, s.et)])) s

/-- An operation to another die is answered, an ALLOC of any index under the index it found: its command completes, or the serving pair gets its response (R542, R514). -/
def answerOp (home latch status : Nat) (r : W128) (s : State) : State :=
  let exact := s.fab.pendOps.find? (fun p => p.1 == home && p.2.1 == latch)
  match exact.or (s.fab.pendOps.find? (fun p => p.1 == home && p.2.1 == 0xFFFFFFFF)) with
  | none => s
  | some p =>
    let s : State := { s with fab := { s.fab with pendOps := s.fab.pendOps.erase p } }
    match p.2.2.2 with
    | some tag => completeCmd p.2.2.1 tag 0x10 status r.toNat s
    | none => lopResponse r s

/-- RESULT (R343): a RESULT from another die is delivered to its requester. -/
def execResult (s : State) : Host.Outcome State Fault Refusal :=
  .next (atHub (withMsg vcLatch 8 (fun m t =>
    let r : W128 := BitVec.ofNat 128 (fld m.payload 0 128)
    answerOp m.src (lopLatch r) (lopStatus r) r t)) s)

/-- DONE (R345): the compartment that the group names here gets a LATCH record; a stop waiting on that latch notes it (R359). -/
def doDone (s : State) : State :=
  withMsg vcLatch 9 (fun m t =>
    let r : W128 := BitVec.ofNat 128 (fld m.payload 0 128)
    match groupComp t m.group with
    | none => t
    | some c =>
      let t := postRecord c 0x08 stOk 0 (pack [(32, lopLatch r), (16, lopGen r), (16, lopHome r), (24, lopValue r)]) t
      updStop c (fun p => if p.home = lopHome r ∧ p.latch = lopLatch r then { p with done := true } else p) t) s

/-- DONE. -/
def execDone (s : State) : Host.Outcome State Fault Refusal := .next (atHub doDone s)

/-- A latch operation sent to another die: it counts against the compartment's budget, and QUOTA answers where that is spent (R348, R541). -/
def sendLatch (c : Nat) (tag : Option Nat) (o : W128) (s : State) : Nat × State :=
  if vcsSpent s c then (stQuota, s)
  else
    let use := match tag with
      | some t => if lopReply o then .plain else .command c t
      | none => .plain
    match issueBranch (some c) (mkBranch vcLatch (lopHome o) 0 1 o.toNat use) s with
    | (.failed, s) => (stInvalid, s)
    | (_, s) =>
      if lopReply o then (stOk, { s with fab := { s.fab with pendOps := s.fab.pendOps ++ [(lopHome o, lopLatch o, c, tag)] } })
      else match tag with
        | some t => (stOk, { s with fab := { s.fab with mcasts := s.fab.mcasts ++ [⟨c, t, 0x10, 1, [], false, stOk⟩] } })
        | none => (stOk, s)

/-- Whether an operation's HOME is this die. -/
def lopHere (s : State) (o : W128) : Bool := lopHome o == s.die

end Sys2Proof.Machine
end

