-- ==== Sys2Proof/Machine/Arrival.lean ====
section
/-! DEFINITION. Latch operations of the host, and the arrivals the block holds for DRAIN and for the part of a closing step
(10_latches_and_stop R343–R348, 05_escrow_and_taint R196, 06_weight_digests R213). -/
namespace Sys2Proof.Machine

/-- A digest compartment changed. -/
def updDig (c : Nat) (f : DigComp → DigComp) (s : State) : State :=
  { s with dig := { s.dig with comps := s.dig.comps.upd c DigComp.reset f } }

/-- A digest compartment. -/
def State.digComp (s : State) (c : Nat) : DigComp := Tbl.get s.dig.comps c DigComp.reset

/-- A host's latch operation goes to the array, or to its home die (R541, R542). -/
def startLatch (c tag : Nat) (op : W128) (s : State) : State :=
  if lopHere s op then
    let (st, r, s) := latchApply s.die true op s
    completeCmd c tag 0x10 st r.toNat s
  else
    let (st, s) := sendLatch c (some tag) op s
    whenS (st != stOk) (completeCmd c tag 0x10 st (lopResult op st (lopLatch op) none).toNat) s

/-- Held arrivals that wait for nothing any more go, in order; one whose entries were recanted ends RECANTED (R196, R213). -/
def releaseArrivals (c : Nat) (s : State) : State :=
  let ready (h : HeldArr) : Bool := h.part.isNone && h.waits.isEmpty
  let l := (s.digComp c).held
  let s := updDig c (fun d => { d with held := d.held.filter (fun h => !ready h) }) s
  foldS (l.filter ready) (fun h t =>
    if h.bad then completeCmd c h.tag 0x10 stRecanted (lopResult h.op stRecanted (lopLatch h.op) none).toNat t else startLatch c h.tag h.op t) s

/-- Compartments that hold arrivals. -/
def holders (s : State) : List Nat := (s.dig.comps.filter (fun e => !e.2.held.isEmpty)).map (fun e => e.1)

/-- An outbound entry was recanted or dropped before it left: arrivals that wait for it will not arrive (R196). -/
def drainBad (i reuse : Nat) (s : State) : State :=
  foldS (holders s) (fun c t => updDig c (fun d =>
    { d with held := d.held.map (fun h => if h.waits.contains (i, reuse) then { h with bad := true } else h) }) t) s

/-- An outbound entry is FREE (R196). -/
def drained (i reuse : Nat) (s : State) : State :=
  foldS (holders s) (fun c t => releaseArrivals c (updDig c (fun d =>
    { d with held := d.held.map (fun h => { h with waits := h.waits.filter (fun w => w != (i, reuse)) }) }) t)) s

end Sys2Proof.Machine
end

