-- ==== Sys2Proof/Machine/Checker.lean ====
section
/-! DEFINITION. The tap's own arithmetic on tickets and words (02_exact_residue_check R66–R90,
03_tolerance_and_cruise R104–R115), as functions of a tile. -/
namespace Sys2Proof.Machine

/-- TAG (R66). -/
def tkTag (t : W256) : Nat := fld t 0 6
def tkUnit (t : W256) : Nat := fld t 8 8
def tkComp (t : W256) : Nat := fld t 16 4
def tkKind (t : W256) : Nat := fld t 24 8
def tkCord (t : W256) : Nat := fld t 32 32
def tkM (t : W256) : Nat := fld t 64 16
def tkN (t : W256) : Nat := fld t 80 16
def tkK (t : W256) : Nat := fld t 96 32
def tkFmtA (t : W256) : Nat := fld t 128 4
def tkFmtB (t : W256) : Nat := fld t 132 4
def tkFmtC (t : W256) : Nat := fld t 136 4
def tkPin (t : W256) : Bool := bitAt t 140
def tkReh (t : W256) : Bool := bitAt t 141
def tkXoffA (t : W256) : Int := sint 16 (fld t 144 16)
def tkXoffB (t : W256) : Int := sint 16 (fld t 160 16)
def tkXoffC (t : W256) : Int := sint 16 (fld t 176 16)
def tkSeq (t : W256) : Nat := fld t 192 32

/-- Every reserved field of a ticket is zero (R66). -/
def tkReservedZero (t : W256) : Bool :=
  fld t 6 2 == 0 && fld t 20 4 == 0 && fld t 142 2 == 0 && fld t 224 32 == 0

/-- Whether tap `tap` is a slab tap. -/
def isSlabTap (tap : Nat) : Bool := tap ≥ 128

/-- An exponent offset in −1,023 to 1,023 (R66). -/
def xoffOk (x : Int) : Bool := -1023 ≤ x && x ≤ 1023

/-- A ticket's own fields are in range for its tap; zero M, N and K count as in range (R66–R70, R113). -/
def tkFieldsOk (tap : Nat) (t : W256) : Bool :=
  let slab := isSlabTap tap
  tkReservedZero t
  && (if slab then tkTag t < 16 && tkUnit t == 0 else tkUnit t < 32)
  && (1 ≤ tkKind t && tkKind t ≤ 4)
  && (if slab then tkM t ≤ 1024 && tkN t ≤ 1024 else tkM t ≤ 256 && tkN t ≤ 256)
  && tkK t ≤ 65536
  && fmtAB (tkFmtA t) && fmtAB (tkFmtB t)
  && (if tkKind t == 2 then tkFmtC t == 9 || tkFmtC t == 0xA else tkFmtC t == 0)
  && xoffOk (tkXoffA t) && xoffOk (tkXoffB t) && xoffOk (tkXoffC t)
  && (tkKind t != 4 || tkM t * tkN t * tkK t ≤ 2 ^ 27)

/-- A CHAIN ticket's shape is that of the unit's previous ticket, where it has one; a zero M or N meets it (R69, R70). -/
def tkChainOk (u : UnitSt) (t : W256) : Bool :=
  tkKind t != 3 || u.count == 0 || ((tkM t == 0 || tkM t == u.prevM) && (tkN t == 0 || tkN t == u.prevN))

/-- A ticket with a zero dimension (R69). -/
def tkEmpty (t : W256) : Bool := tkM t == 0 || tkN t == 0 || tkK t == 0

/-- Words of one slice of A, and of B (R72). -/
def wordsA (t : W256) : Nat := cdiv (tkM t) (fmtPer (tkFmtA t))
def wordsB (t : W256) : Nat := cdiv (tkN t) (fmtPer (tkFmtB t))
/-- Cin words of one row (R72). -/
def wordsC (t : W256) : Nat := cdiv (tkN t) (fmtPer (tkFmtC t))
/-- Scale blocks along K of a format (R76). -/
def blocksK (f K : Nat) : Nat := if fmtBlock f = 0 then 0 else cdiv K (fmtBlock f)

/-- The counts a tile requires: A, B, C, A scales, B scales (R76). -/
def required (t : W256) : List Nat :=
  [ tkK t * wordsA t, tkK t * wordsB t, if tkKind t == 2 then tkM t * wordsC t else 0,
    blocksK (tkFmtA t) (tkK t) * cdiv (tkM t) 32, blocksK (tkFmtB t) (tkK t) * cdiv (tkN t) 32 ]

/-- Element `e` of a word in a format (R12, R73). -/
def wordElem (f : Nat) (w : W256) (e : Nat) : Elem := decElem f (fld w (fmtBits f * e) (fmtBits f))

/-- The words `base` to `base + n − 1` are all held. -/
def allHeld (t : Tbl W256) (base n : Nat) : Bool := (List.range n).all (fun i => t.has (base + i))

/-- The A (or B) data of every slice up to `last` has been presented. -/
def presentedTo (nextK : Nat) (t : Tbl W256) (n last : Nat) : Bool :=
  if last < nextK then true
  else if last ≥ nextK + 2 then false
  else (List.range (last + 1 - nextK)).all (fun d => allHeld t ((nextK + d) * n) n)

/-- Row or column `i`'s block scale exponent at slice k; none where the scale byte is NaN (R63, R64). -/
def scaleXs (f : Nat) (sc : Tbl W256) (dim i k : Nat) : Option Int :=
  if fmtBlock f = 0 then some 0
  else
    let w := sc.get (k / fmtBlock f * cdiv dim 32 + i / 32) 0
    let s := fld w (8 * (i % 32)) 8
    if s = 255 then none else some ((s : Int) - 127)

/-- An operand element of a slice: its signed significand and total exponent; none where it is not finite; and whether it
was the invalid code (R62–R65). -/
def operandElem (f : Nat) (ws sc : Tbl W256) (dim per : Nat) (xoff : Int) (i k : Nat) : Option (Int × Int) × Bool :=
  let w := ws.get (k * per + i / fmtPer f) 0
  match wordElem f w (i % fmtPer f), scaleXs f sc dim i k with
  | .val n e, some xs => (some (n, e + xs + xoff), false)
  | .invalid, some _ => (some (0, 0), true)
  | .invalid, none => (none, true)
  | _, _ => (none, false)

/-- The FP64 value of n·2^e (R107). -/
def fl64 (n e : Int) : Fl := flRound f64 (decide (n < 0)) n.natAbs e

/-- Plain, weighted, absolute and weighted absolute FP64 sums and the two residue sums of one operand of a slice,
taken in increasing index (R84, R107). -/
structure SideSum where
  r : Nat
  rw : Nat
  u : Fl
  uw : Fl
  ua : Fl
  uaw : Fl
  nonfin : Bool
  inv : Bool
deriving DecidableEq, Repr

/-- One operand of one slice summed over its rows or columns (R84, R107). -/
def sideSum (f : Nat) (ws sc : Tbl W256) (dim per : Nat) (xoff : Int) (k : Nat) : SideSum :=
  (List.range dim).foldl (fun a i =>
    match operandElem f ws sc dim per xoff i k with
    | (some (n, e), inv) =>
      let x := dyResidue n e
      let v := fl64 n e
      let w := flNat f64 (i + 1)
      { r := (a.r + x) % m61, rw := (a.rw + x * 2 ^ (i % 61)) % m61,
        u := flAdd f64 a.u v, uw := flAdd f64 a.uw (flMul f64 w v),
        ua := flAdd f64 a.ua (flAbs v), uaw := flAdd f64 a.uaw (flMul f64 w (flAbs v)),
        nonfin := a.nonfin, inv := a.inv || inv }
    | (none, inv) => { a with nonfin := true, inv := a.inv || inv })
    ⟨0, 0, Fl.zero, Fl.zero, Fl.zero, Fl.zero, false, false⟩

/-- Reduce slice `nextK`: three residue products and six FP64 products; its words are let go (R84, R107). -/
def reduceSlice (t : Tile) : Tile :=
  let tk := t.ticket
  let k := t.nextK
  let a := sideSum (tkFmtA tk) t.aw t.asc (tkM tk) (wordsA tk) (tkXoffA tk) k
  let b := sideSum (tkFmtB tk) t.bw t.bsc (tkN tk) (wordsB tk) (tkXoffB tk) k
  let six : Six := ⟨flMul f64 a.u b.u, flMul f64 a.uw b.u, flMul f64 a.u b.uw,
                    flMul f64 a.ua b.ua, flMul f64 a.uaw b.ua, flMul f64 a.ua b.uaw⟩
  { t with
    nextK := k + 1
    aw := t.aw.keep (fun i _ => i ≥ (k + 1) * wordsA tk)
    bw := t.bw.keep (fun i _ => i ≥ (k + 1) * wordsB tk)
    s0 := (t.s0 + a.r * b.r) % m61
    srow := (t.srow + a.rw * b.r) % m61
    scol := (t.scol + a.r * b.rw) % m61
    usum := (t.usum + a.r) % m61
    vsum := (t.vsum + b.r) % m61
    slices := six :: t.slices
    nonfin := t.nonfin || a.nonfin || b.nonfin
    invCode := t.invCode || a.inv || b.inv }

/-- Reduce the open slices that are whole, at most two (R74). -/
def reduceReady (t : Tile) : Tile :=
  let ready (t : Tile) : Bool :=
    decide (t.nextK < tkK t.ticket) && allHeld t.aw (t.nextK * wordsA t.ticket) (wordsA t.ticket)
      && allHeld t.bw (t.nextK * wordsB t.ticket) (wordsB t.ticket)
  let t := if ready t then reduceSlice t else t
  if ready t then reduceSlice t else t

/-- The scale words of a block are all held (R75). -/
def scalesHeld (f dim : Nat) (sc : Tbl W256) (k : Nat) : Bool :=
  fmtBlock f = 0 || allHeld sc (k / fmtBlock f * cdiv dim 32) (cdiv dim 32)

/-- The scale bytes of a scale word that name rows or columns of the tile (R73). -/
def scaleBytes (dim index : Nat) (w : W256) : List Nat :=
  let first := index % cdiv dim 32 * 32
  (List.range 32).filterMap (fun p => if first + p < dim then some (fld w (8 * p) 8) else none)

/-- A scale word of an operand, its events and sums noted (R64, R143). -/
def noteScales (t : Tile) (bytes : List Nat) (roleA : Bool) : Tile :=
  let fin := bytes.filter (fun s => s != 255)
  let xs : Int := (fin.map (fun (s : Nat) => (s : Int) - 127)).foldl (fun a b => a + b) 0
  let t := { t with nonfin := t.nonfin || bytes.any (fun s => s == 255),
                    scaleEdge := t.scaleEdge || bytes.any (fun s => s == 0 || s == 254) }
  if roleA then { t with xsA := t.xsA + xs, cntA := t.cntA + fin.length }
  else { t with xsB := t.xsB + xs, cntB := t.cntB + fin.length }

/-- The residues of one Cin word's elements entered into the expected sums (R84). -/
def sumCin (t : Tile) (index : Nat) (w : W256) : Tile :=
  let tk := t.ticket
  let i := index / wordsC tk
  (List.range (fmtPer (tkFmtC tk))).foldl (fun t p =>
    let j := index % wordsC tk * fmtPer (tkFmtC tk) + p
    if j < tkN tk then
      match wordElem (tkFmtC tk) w p with
      | .val n e =>
        let x := dyResidue n (e + tkXoffC tk)
        { t with s0 := (t.s0 + x) % m61, srow := (t.srow + x * 2 ^ (i % 61)) % m61, scol := (t.scol + x * 2 ^ (j % 61)) % m61 }
      | _ => { t with nonfin := true }
    else t) t

/-- A snooped word accepted by a lane, and whether it broke R74, R75 or the range of its role (R72–R76). -/
def acceptOperand (t : Tile) (role index : Nat) (w : W256) : Tile × Bool :=
  let tk := t.ticket
  let bad (t : Tile) : Tile × Bool := ({ t with breached := true }, !t.breached)
  match role with
  | 0 =>
    let t := { t with nA := t.nA + 1 }
    let k := index / wordsA tk
    if index ≥ tkK tk * wordsA tk || k < t.nextK || k ≥ t.nextK + 2 || !scalesHeld (tkFmtA tk) (tkM tk) t.asc k then bad t
    else (reduceReady { t with aw := t.aw.put index w }, false)
  | 1 =>
    let t := { t with nB := t.nB + 1 }
    let k := index / wordsB tk
    if index ≥ tkK tk * wordsB tk || k < t.nextK || k ≥ t.nextK + 2 || !scalesHeld (tkFmtB tk) (tkN tk) t.bsc k then bad t
    else (reduceReady { t with bw := t.bw.put index w }, false)
  | 2 =>
    let t := { t with nC := t.nC + 1 }
    if tkKind tk != 2 || index ≥ tkM tk * wordsC tk then bad t
    else (sumCin { t with cw := t.cw.put index w } index w, false)
  | 4 =>
    let t := { t with nAs := t.nAs + 1 }
    let f := tkFmtA tk
    let b := index / cdiv (tkM tk) 32
    if b ≥ blocksK f (tkK tk) then bad t
    else if b ≥ 2 && !presentedTo t.nextK t.aw (wordsA tk) ((b - 1) * fmtBlock f - 1) then bad t
    else (noteScales { t with asc := t.asc.put index w } (scaleBytes (tkM tk) index w) true, false)
  | 5 =>
    let t := { t with nBs := t.nBs + 1 }
    let f := tkFmtB tk
    let b := index / cdiv (tkN tk) 32
    if b ≥ blocksK f (tkK tk) then bad t
    else if b ≥ 2 && !presentedTo t.nextK t.bw (wordsB tk) ((b - 1) * fmtBlock f - 1) then bad t
    else (noteScales { t with bsc := t.bsc.put index w } (scaleBytes (tkN tk) index w) false, false)
  | _ => bad t

/-- Position p of an EOR word: residue, EXACT, VALID (R78). -/
def eorRes (w : W256) (p : Nat) : Nat := canon61 (fld w (64 * p) 61)
def eorExact (w : W256) (p : Nat) : Bool := bitAt w (64 * p + 61)
def eorValid (w : W256) (p : Nat) : Bool := bitAt w (64 * p + 62)

/-- One EOR word summed into the observed sums; a PIN ticket keeps its candidates (R79, R84, R92). -/
def acceptEor (t : Tile) (index : Nat) (w : W256) : Tile :=
  let per := cdiv (tkN t.ticket) 4
  let i := index / per
  let t := { t with nE := t.nE + 1 }
  (List.range 4).foldl (fun t p =>
    let j := 4 * (index % per) + p
    if eorValid w p then
      let r := eorRes w p
      { t with o0 := (t.o0 + r) % m61, orow := (t.orow + r * 2 ^ (i % 61)) % m61, ocol := (t.ocol + r * 2 ^ (j % 61)) % m61,
               anyInexact := t.anyInexact || !eorExact w p,
               cand := if t.candRows.contains i && t.candCols.contains j then t.cand.put (1024 * i + j) r else t.cand }
    else t) t

/-- One value word: eight FP32 values of a row (R104–R107). -/
def acceptValue (t : Tile) (index : Nat) (w : W256) : Tile :=
  let per := cdiv (tkN t.ticket) 8
  let i := index / per
  if t.retired.isSome || index < t.nextV || index ≥ tkM t.ticket * per then { t with valBad := true, nV := t.nV + 1 }
  else
    let t := { t with nV := t.nV + 1, nextV := index + 1 }
    (List.range 8).foldl (fun t p =>
      let j := 8 * (index % per) + p
      if j < tkN t.ticket then
        let x := flTo f64 (dec32 (fld w (32 * p) 32))
        { t with o := flAdd f64 t.o x, orr := flAdd f64 t.orr (flMul f64 (flNat f64 (i + 1)) x),
                 oc := flAdd f64 t.oc (flMul f64 (flNat f64 (j + 1)) x),
                 rho := t.rho.put i (flAdd f64 (t.rho.get i Fl.zero) x),
                 kappa := t.kappa.put j (flAdd f64 (t.kappa.get j Fl.zero) x),
                 valNonfin := t.valNonfin || !flFinite x }
      else t) t

/-- Six sums added place by place. -/
def Six.add (a b : Six) : Six :=
  ⟨flAdd f64 a.s b.s, flAdd f64 a.sr b.sr, flAdd f64 a.sc b.sc, flAdd f64 a.p b.p, flAdd f64 a.pr b.pr, flAdd f64 a.pc b.pc⟩

/-- The base of an ACC tile: its Cin in increasing i, then j (R108). -/
def cinBase (t : Tile) : Six :=
  let tk := t.ticket
  (List.range (tkM tk)).foldl (fun a i => (List.range (tkN tk)).foldl (fun a j =>
    let w := t.cw.get (i * wordsC tk + j / fmtPer (tkFmtC tk)) 0
    match wordElem (tkFmtC tk) w (j % fmtPer (tkFmtC tk)) with
    | .val n e =>
      let x := fl64 n (e + tkXoffC tk)
      let wi := flNat f64 (i + 1)
      let wj := flNat f64 (j + 1)
      Six.add a ⟨x, flMul f64 wi x, flMul f64 wj x, flAbs x, flMul f64 wi (flAbs x), flMul f64 wj (flAbs x)⟩
    | _ => a) a) Six.zero

/-- The six sums of a tile over its base (R107, R108). -/
def tileSix (u : UnitSt) (t : Tile) : Six :=
  let base := match tkKind t.ticket with
    | 2 => cinBase t
    | 3 => u.six
    | _ => Six.zero
  t.slices.reverse.foldl Six.add base

/-- K_r, the rounding steps of an element (R109). -/
def kr (kind kchain : Nat) : Nat := if kind = 4 then cdiv kchain 32 else 2

/-- b = ceil(log2 K_r) (R109). -/
def bucket (k : Nat) : Nat := if k ≤ 1 then 0 else Nat.log2 (k - 1) + 1

/-- The three thresholds (R109), evaluated left to right in FP64. -/
def tau (cb : Fl) (krn : Nat) (p : Fl) : Fl :=
  flAdd f64 (flMul f64 (flMul f64 (flMul f64 cb (flNat f64 krn)) (flPow2 (-24))) p) (flPow2 (-1000))

/-- Expected minus observed: d0, drow, dcol (R84), a chain base added for CHAIN (R85). -/
def ercDiffs (u : UnitSt) (t : Tile) : Nat × Nat × Nat :=
  let chain := tkKind t.ticket == 3
  let b (x : Nat) := if chain then x else 0
  (sub61 (t.s0 + b u.base0) t.o0, sub61 (t.srow + b u.baseR) t.orow, sub61 (t.scol + b u.baseC) t.ocol)

/-- Every role's count is what the tile requires (R76). -/
def countsOk (t : Tile) : Bool :=
  [t.nA, t.nB, t.nC, t.nAs, t.nBs] == required t.ticket && t.nE == tkM t.ticket * cdiv (tkN t.ticket) 4

/-- The value stream is whole and in order (R105, R106). -/
def valuesOk (t : Tile) : Bool := !t.valBad && t.nV == tkM t.ticket * cdiv (tkN t.ticket) 8

/-- Slots for retained and for tolerance records (R90, R115). -/
def recSlots (tap : Nat) : Nat := if isSlabTap tap then 4 else 8

/-- The unit's previous ticket as a tile's compare finds it: how it ended, passing EMPTY ones over (R85). -/
def prevEnd (u : UnitSt) (t : Tile) : Option TileEnd := if t.no = 0 then none else (u.ends.find? (t.no - 1)).map (fun e => e.1)

/-- The kind of the fault that the previous ticket ended with; 0 for none (R85, R185). -/
def prevKind (u : UnitSt) (t : Tile) : Nat := ((u.ends.find? (t.no - 1)).map (fun e => e.2)).getD 0

/-- A tile has the place that an injection names (R101, R124). -/
def injectFits (inj : Inject) (t : Tile) : Bool :=
  match inj with
  | .eor _ i j | .value _ i j => decide (i < tkM t.ticket ∧ j < tkN t.ticket)
  | .s0 _ => true

/-- An injection applied to a tile's sums; a value is the stated multiple of its τ0 (R101, R124). -/
def applyInject (inj : Inject) (tau0 : Fl) (t : Tile) : Tile :=
  match inj with
  | .eor b i j =>
    let x := 2 ^ b % m61
    { t with o0 := (t.o0 + x) % m61, orow := (t.orow + x * 2 ^ (i % 61)) % m61, ocol := (t.ocol + x * 2 ^ (j % 61)) % m61 }
  | .s0 r => { t with s0 := (t.s0 + r) % m61 }
  | .value n i j =>
    let x := flMul f64 (flNat f64 n) tau0
    { t with o := flAdd f64 t.o x, orr := flAdd f64 t.orr (flMul f64 (flNat f64 (i + 1)) x),
             oc := flAdd f64 t.oc (flMul f64 (flNat f64 (j + 1)) x),
             rho := t.rho.put i (flAdd f64 (t.rho.get i Fl.zero) x),
             kappa := t.kappa.put j (flAdd f64 (t.kappa.get j Fl.zero) x) }

/-- What the compare of a retired tile decides (R83–R88, R106, R111, R112). -/
inductive Verdict where
  /-- counts or order broke R76: SUSPECT. -/
  | stream
  /-- CHAIN after a ticket that ended so: the same status (R85). -/
  | inherit (e : TileEnd)
  /-- ERC_FLAG (R88). -/
  | flag
  /-- residue compare made (R86). -/
  | exact (l : Local)
  /-- TOL_STREAM (R106). -/
  | tolStream
  /-- non-finite operand on the tolerance path (R112). -/
  | unchecked
  /-- tolerance compare passed (R111). -/
  | tolPass
  /-- tolerance alarm (R111). -/
  | tolAlarm
deriving DecidableEq, Repr

/-- The tolerance quantities of a tile: sums, differences, thresholds (R107, R109). -/
structure TolQ where
  six : Six
  d0 : Fl
  dr : Fl
  dc : Fl
  t0 : Fl
  tr : Fl
  tc : Fl
deriving DecidableEq, Repr

/-- The tolerance quantities (R107–R109). -/
def tolQ (u : UnitSt) (t : Tile) : TolQ :=
  let x := tileSix u t
  let k := kr (tkKind t.ticket) t.kchain
  ⟨x, flSub f64 x.s t.o, flSub f64 x.sr t.orr, flSub f64 x.sc t.oc, tau t.cb k x.p, tau t.cb k x.pr, tau t.cb k x.pc⟩

/-- An alarm: a difference over its threshold, or anything not finite (R111). -/
def tolFails (t : Tile) (q : TolQ) : Bool :=
  !(flLe (flAbs q.d0) q.t0 && flLe (flAbs q.dr) q.tr && flLe (flAbs q.dc) q.tc)
  || t.valNonfin
  || [q.six.s, q.six.sr, q.six.sc, q.six.p, q.six.pr, q.six.pc, q.d0, q.dr, q.dc, q.t0, q.tr, q.tc].any (fun x => !flFinite x)
  || t.rho.any (fun e => !flFinite e.2) || t.kappa.any (fun e => !flFinite e.2)

/-- The decision, in the order the rules apply (R76, R85, R83, R106, R112, R111, R88, R86). Two meetings that the spec does not order are the
model's choice (DESIGN CHOICE, log entry 11): a CHAIN tile whose own stream breached R76 ends SUSPECT under R76 also where its previous ticket
ended FENCED or INVALID; and a WIDE tile with a non-finite operand whose EXACT flags are all set goes the way of R83 and R112, not of R88. -/
def judge (u : UnitSt) (t : Tile) : Verdict :=
  let tk := t.ticket
  let prev := prevEnd u t
  if t.breached || !countsOk t then .stream
  else if tkKind tk == 3 && (prev == some .suspect || prev == some .fenced || prev == some .invalid) then
    .inherit (prev.getD .suspect)
  else if t.anyInexact || tkKind tk == 4 || (tkKind tk == 3 && prev == some .inexact) then
    if !valuesOk t then .tolStream
    else if t.nonfin then .unchecked
    else if tolFails t (tolQ u t) then .tolAlarm else .tolPass
  else if t.nonfin then .flag
  else
    let d := ercDiffs u t
    .exact (localise d.1 d.2.1 d.2.2)

/-- How a tile ends under a verdict (R34, R83, R86). -/
def Verdict.ends : Verdict → TileEnd
  | .stream => .suspect
  | .inherit e => e
  | .flag => .suspect
  | .exact .ok => .ok
  | .exact _ => .suspect
  | .tolStream => .suspect
  | .unchecked | .tolPass | .tolAlarm => .inexact

end Sys2Proof.Machine
end

