-- ==== Sys2Proof/Machine/Cords.lean ====
section
/-! DEFINITION. Cords in the journal cache: the descriptor's fields, taint, proof and the tap watermarks
(07_journal_and_replay R235–R242, 05_escrow_and_taint R171, R182–R184). -/
namespace Sys2Proof.Machine

/-! ### Descriptor fields (R235, R236) -/

/-- A buffer field (R235). -/
structure Buf where
  addr : Nat
  space : Nat
  cluster : Nat
  len : Nat
deriving DecidableEq, Repr

/-- Buffer n of a descriptor: 0–2 inputs, 3 BUFO. -/
def descBuf (d : BitVec 768) (n : Nat) : Buf :=
  let b := 128 * (n + 1)
  ⟨fld d b 48, fld d (b + 48) 4, fld d (b + 56) 7, fld d (b + 64) 32⟩

def Cord.id (k : Cord) : Nat := fld k.desc 0 32
def Cord.comp (k : Cord) : Nat := fld k.desc 32 4
def Cord.kind (k : Cord) : Nat := fld k.desc 40 8
def Cord.flag (k : Cord) (i : Nat) : Bool := bitAt k.desc (48 + i)
def Cord.unit (k : Cord) : Loc := BitVec.ofNat 16 (fld k.desc 64 16)
def Cord.buf (k : Cord) (n : Nat) : Buf := descBuf k.desc n
def Cord.slots (k : Cord) : List Nat := [fld k.desc 704 16, fld k.desc 720 16].filter (fun x => x != 0)
def Cord.det (k : Cord) : Bool := k.flag 0
def Cord.digw (k : Cord) : Bool := k.flag 2
def Cord.noreplay (k : Cord) : Bool := k.flag 4
def Cord.keepIn (k : Cord) : Bool := k.flag 5
/-- A live cord: registered and not settled (R238, R242). -/
def Cord.live (k : Cord) : Bool := k.st != .settled

/-- The cord in a cache slot. -/
def State.cord (s : State) (slot : Nat) : Option Cord := s.jrn.cords.find? slot

/-- Cache slots of a compartment's cords that pass a test, in slot order. -/
def cordSlots (s : State) (p : Cord → Bool) : List Nat := (s.jrn.cords.filter (fun e => p e.2)).map (fun e => e.1)

/-- The slot of a live cord of a compartment (R235). -/
def findCord (s : State) (c cord : Nat) : Option Nat := (cordSlots s (fun k => k.live && k.comp == c && k.id == cord)).head?

/-- The slot of a compartment's cord by JSN. -/
def findJsn (s : State) (c jsn : Nat) : Option Nat := (cordSlots s (fun k => k.comp == c && k.jsn == jsn)).head?

/-- A cord changed. -/
def updCord (slot : Nat) (f : Cord → Cord) (s : State) : State :=
  match s.cord slot with
  | some k => { s with jrn := { s.jrn with cords := s.jrn.cords.put slot (f k) } }
  | none => s

/-- A cord's STATE changed, with its trace record (R237, R460). -/
def setCordSt (slot : Nat) (st : CordSt) (s : State) : State :=
  match s.cord slot with
  | some k =>
    if k.st = st then s
    else trace k.comp 3 0 k.placed.toNat (pack [(32, k.id), (32, k.jsn), (4, k.st.code), (4, st.code), (4, k.attempt)])
      (updCord slot (fun k => { k with st := st }) s)
  | none => s

/-- A cord's slot freed. -/
def freeCord (slot : Nat) (s : State) : State := { s with jrn := { s.jrn with cords := s.jrn.cords.del slot } }

/-- A CORD completion record (R545). -/
def postCord (k : Cord) (final : Bool) (status : Nat) (s : State) : State :=
  postRecord k.comp 0x02 status 0 (pack [(32, k.id), (32, k.jsn), (4, k.attempt), (1, b2n final), (1, b2n k.sampled), (1, b2n k.twinned),
    (1, 0), (4, k.pin)]) s

/-- A RECANT completion record: cause 0 cord recant, 1 late recant, 2 revoke (R191, R192, R545). -/
def postRecant (c cord die reason cause epoch : Nat) (s : State) : State :=
  postRecord c 0x04 stRecanted 0 (pack [(32, cord), (16, die), (12, reason), (4, cause), (64, epoch)]) s

/-! ### Taint (R182, R183) -/

/-- An inbound entry reference whose entry still taints (R182). -/
def refLive (s : State) (r : Nat × Nat) : Bool :=
  match s.esc.entries.find? r.1 with
  | some e => e.inbound && e.reuse == r.2 && (e.st == .opened || e.st == .recalling)
  | none => false

/-- A cord carries taint (R182). -/
def tainted (s : State) (k : Cord) : Bool := k.taint.any (refLive s) || k.overSet.any (refLive s)

/-- References of a compartment's OPEN inbound entries. -/
def openRefs (s : State) (c : Nat) : List (Nat × Nat) :=
  (s.esc.entries.filter (fun e => e.2.inbound && e.2.comp == c && e.2.st == .opened)).map (fun e => (e.1, e.2.reuse))

/-- A cord gains one taint reference; a fifth sets OVERFLOW (R182). -/
def gainRef (s : State) (k : Cord) (r : Nat × Nat) : Cord :=
  let live := k.taint.filter (refLive s)
  if live.contains r then { k with taint := live }
  else if !k.overflow && decide (live.length < 4) then { k with taint := live ++ [r] }
  else { k with taint := live, overflow := true, overSet := (k.overSet.filter (refLive s) ++ openRefs s k.comp ++ [r]).eraseDups }

/-- The taint a cord carries, as references. -/
def taintRefs (s : State) (k : Cord) : List (Nat × Nat) := (k.taint ++ k.overSet).filter (refLive s)

/-- The deadline of a tainted cord: the earliest of its set, or with OVERFLOW the earliest of its compartment's OPEN entries (R183). -/
def taintDeadline (s : State) (k : Cord) : Option Tick :=
  let rs := if k.overflow && k.overSet.any (refLive s) then openRefs s k.comp else taintRefs s k
  ((rs.filterMap (fun r => (s.esc.entries.find? r.1).map (fun e => e.deadline))).foldl (fun (m : Option Nat) d =>
    match m with
    | none => some d
    | some x => some (min x d)) none)

/-- Live cords that name a cord as producer (R241). -/
def consumers (s : State) (k : Cord) : List Nat :=
  cordSlots s (fun j => j.live && j.comp == k.comp && (j.dep0 == some k.jsn || j.dep1 == some k.jsn))

/-- A cord and the live cords that depend on it, in turn; each slot once. -/
def chainOf (s : State) : Nat → List Nat → List Nat
  | 0, l => l
  | n + 1, l =>
    let more := l.flatMap (fun i => match s.cord i with
      | some k => consumers s k
      | none => [])
    let new := (more.filter (fun i => !l.contains i)).eraseDups
    if new.isEmpty then l else chainOf s n (l ++ new)

/-- A cord and all that depend on it. -/
def dependants (s : State) (slot : Nat) : List Nat := chainOf s s.jrn.cords.length [slot]

/-- An inbound entry taints the cords that read its slot and those that depend on them (R182). -/
def spreadTaint (c slot : Nat) (r : Nat × Nat) (s : State) : State :=
  let roots := cordSlots s (fun k => k.live && k.comp == c && k.slots.contains slot)
  foldS (chainOf s s.jrn.cords.length roots) (fun i t => updCord i (fun k => gainRef t k r) t) s

/-! ### Watermarks and proof (R171, R241) -/

/-- A tap and unit by locus: a medium core, or a slab as a whole. -/
def unitKey (l : Loc) : Option (Nat × Nat) :=
  match named l with
  | .core c u => some (c, u)
  | .slab r => some (128 + r, 0)
  | _ => none

/-- A unit's watermark, when it is not none (R171). -/
def wmark (s : State) (tap unit : Nat) : Option Wmark := s.esc.wmarks.find? (32 * tap + unit)

/-- The watermark passes every following SEQ that may be passed. -/
def Wmark.advance : Nat → Wmark → Wmark
  | 0, w => w
  | n + 1, w =>
    let q := (w.mark + 1) % 2 ^ 32
    if w.good.contains q then Wmark.advance n { w with mark := q, good := w.good.filter (fun x => x != q) } else w

/-- The first ticket accepted while the watermark is none sets it to its SEQ − 1 (R171). -/
def wmarkAccept (tap unit seq : Nat) (s : State) : State :=
  if (wmark s tap unit).isSome then s
  else { s with esc := { s.esc with wmarks := s.esc.wmarks.put (32 * tap + unit) ⟨(seq + 2 ^ 32 - 1) % 2 ^ 32, [], []⟩ } }

/-- A ticket may be passed: OK, EMPTY, or the tolerance path ended PASS, UNCHECKED or FALSE_ALARM (R171). -/
def wmarkGood (tap unit seq : Nat) (s : State) : State :=
  match wmark s tap unit with
  | some w =>
    let w := Wmark.advance (w.good.length + 1) { w with good := w.good ++ [seq % 2 ^ 32] }
    { s with esc := { s.esc with wmarks := s.esc.wmarks.put (32 * tap + unit) w } }
  | none => s

/-- A ticket failed; sends of its cord that need it drop (R177). -/
def wmarkBad (tap unit seq cord kind : Nat) (s : State) : State :=
  match wmark s tap unit with
  | some w => { s with esc := { s.esc with wmarks := s.esc.wmarks.put (32 * tap + unit) { w with bad := w.bad ++ [(seq % 2 ^ 32, cord, kind)] } } }
  | none => s

/-- A cord starts again: its earlier failed tickets no longer concern it (R246). -/
def wmarkReplay (tap unit cord : Nat) (s : State) : State :=
  match wmark s tap unit with
  | some w => { s with esc := { s.esc with wmarks := s.esc.wmarks.put (32 * tap + unit) { w with bad := w.bad.filter (fun b => b.2.1 != cord) } } }
  | none => s

/-- A unit's watermark has reached a SEQ (R171). -/
def reached (s : State) (tap unit seq : Nat) : Bool :=
  match wmark s tap unit with
  | some w => serialLe seq w.mark
  | none => false

/-- A cord is proven: retired, watermark at its last ticket, clean; an open adjudication holds the watermark back (R241). -/
def provenCord (s : State) (k : Cord) : Bool :=
  (k.st == .retired || k.st == .settled) && !tainted s k && (match unitKey k.placed with
    | some (t, u) => reached s t u k.seqLast
    | none => false)

/-- A dependency is satisfied: none, a producer gone from the cache, or a proven one (R241). -/
def depOk (s : State) (c : Nat) (d : Option Nat) : Bool :=
  match d with
  | none => true
  | some j => match findJsn s c j with
    | some slot => (match s.cord slot with
      | some k => provenCord s k
      | none => true)
    | none => true

/-- A cord's dispatch slots are held for a producer (R241). -/
def heldDep (s : State) (k : Cord) : Bool := !(depOk s k.comp k.dep0 && depOk s k.comp k.dep1)

/-- The run of a cord that has this ATTEMPT goes on: the cord is in the journal, not replayed since and not withdrawn (R138, R195). -/
def standing (s : State) (c jsn attempt : Nat) : Bool :=
  ((findJsn s c jsn).bind (fun i => s.cord i)).any (fun k => k.attempt == attempt && k.recanted.isNone)

/-- Outbound entries of a cord that are not FREE, by index (R184). -/
def outEntries (s : State) (c cord : Nat) : List Nat :=
  (s.esc.entries.filter (fun e => !e.2.inbound && e.2.comp == c && e.2.cord == cord)).map (fun e => e.1)

/-- A cord's unit is quiet, fenced or felled. -/
def unitOut (s : State) (l : Loc) : Bool := fenced s l || felled s l || isQuiet s l

/-- The core of a cluster that takes the work of a core number: the same number, or where that one is out of service the lowest that is
in service (R255, R290; the second is DEDUCED, log entry 56). -/
def liveCore (s : State) (t u : Nat) : Option Nat :=
  if unitOut s (coreLoc t u) then (List.range 32).find? (fun x => !unitOut s (coreLoc t x)) else some u

/-- The core number that a cord's work has: its own, or 0 for a slab. -/
def coreNo (l : Loc) : Nat :=
  match named l with
  | .core _ u => u
  | _ => 0

end Sys2Proof.Machine
end

