-- ==== Sys2Proof/Machine/Escrow.lean ====
section
/-! DEFINITION. Sends, credits, proof, recant and the escrow messages (05_escrow_and_taint; 18_boundary_signals R563). -/
namespace Sys2Proof.Machine

/-! ### Policy and table (R172–R175, R193) -/

/-- Escrow policy fields of a compartment (R193). -/
def escForward (s : State) (c : Nat) : Bool := nfld (policy s 1 c) 0 1 == 1
def escPool (s : State) (c : Nat) : Nat := nfld (policy s 1 c) 8 8
def escWindow (s : State) (c : Nat) : Nat := nfld (policy s 1 c) 16 16
def escInb (s : State) (c : Nat) : Nat := nfld (policy s 1 c) 32 16
def escGroup (s : State) (c : Nat) : Nat := nfld (policy s 1 c) 48 16

/-- Entries and credits that count against a compartment's quota (R172, R174). -/
def escUse (s : State) (c : Nat) : Nat :=
  s.esc.entries.count (fun _ e => e.comp == c)
    + (s.esc.pools.filter (fun p => p.2.comp == some c)).foldl (fun n p => n + p.2.credits) 0

/-- A free entry index, where the compartment's quota leaves one (R173, R181). -/
def escRoom (s : State) (c : Nat) : Option Nat := if escUse s c < quota s c 1 then Tbl.free s.esc.entries 16384 else none

/-- An entry, by index. -/
def State.escEntry (s : State) (i : Nat) : Option EscEntry := s.esc.entries.find? i

/-- The reuse count of an index (R173). -/
def reuseOf (s : State) (i : Nat) : Nat := s.esc.reuse.get i 0

def putEntry (i : Nat) (e : EscEntry) (s : State) : State := { s with esc := { s.esc with entries := s.esc.entries.put i e } }

/-- The entry leaves use; its reuse count advances (R173), and an arrival that waited for it may go (R196). -/
def freeEntry (i : Nat) (s : State) : State :=
  let r := reuseOf s i
  drained i r { s with esc := { s.esc with entries := s.esc.entries.del i, reuse := s.esc.reuse.put i ((r + 1) % 4) } }

/-- SEND_ID of an index and its reuse count (R173). -/
def sendIdOf (i reuse : Nat) : Nat := i + 16384 * reuse

/-- The tap and handle of an entry's send (R563). -/
def sendOf (s : State) (i : Nat) : Option (Nat × SendSt) :=
  List.find? (fun (e : Nat × SendSt) => e.2.index == i && !e.2.granted) s.esc.sends

/-- The compartment's open epoch is marked tainted (R192). -/
def taintEpoch (c : Nat) (s : State) : State := updDig c (fun d => { d with tainted := true }) s

/-- A trace SEND record: 0 grant, 1 clear, 2 recant, 3 drop (R460). -/
def traceSend (flags i : Nat) (e : EscEntry) (s : State) : State :=
  trace e.comp 4 flags e.locus.toNat (pack [(16, sendIdOf i e.reuse), (16, e.peer), (32, e.cord)]) s

/-! ### Messages (R185) -/

/-- An escrow payload (R185). -/
def escMsg (typ srcComp dstComp sendId cord origin reason epoch : Nat) : Nat :=
  pack [(4, typ), (4, 0), (4, srcComp), (4, dstComp), (16, sendId), (32, cord), (32, origin), (12, reason), (4, 0), (16, epoch)]

/-- The entry's message of a type, to its DEST (R176, R186). -/
def entryMsg (typ i : Nat) (e : EscEntry) (reason : Nat) : Nat :=
  escMsg typ e.comp (if e.group then 0 else e.peerComp) (sendIdOf i e.reuse) e.cord e.origin reason 0

/-- An event that the state of its entry does not answer is counted (R176). -/
def countUnmatched (s : State) : State := { s with esc := { s.esc with unmatched := s.esc.unmatched + 1 } }

/-- A RECANT branch of an entry failed: it is kept in BRANCH_FAILED for 10 ms (R176). -/
def escBranchFailed (i reuse : Nat) (s : State) : State :=
  match s.escEntry i with
  | some e =>
    if e.st = .recanting ∧ e.reuse = reuse then putEntry i { e with st := .branchFailed, deadline := s.et + 4000000 } s else countUnmatched s
  | none => countUnmatched s

/-- RECANT sent for an outbound entry, which becomes RECANTING (R176, R179). -/
def sendRecant (i reason : Nat) (s : State) : State :=
  match s.escEntry i with
  | none => s
  | some e =>
    let b := mkBranch vcEscrow e.peer 0 1 (entryMsg 2 i e reason) (.escOut i e.reuse)
    let s := traceSend 2 i e (drainBad i e.reuse s)
    if e.group then
      let (m, s) := sendMulti none { b with group := e.peer } s
      let s := putEntry i { e with st := .recanting, reason := reason, acks := m.out.length + b2n m.here } s
      whenS (m.undefined || !m.failed.isEmpty) (escBranchFailed i e.reuse) s
    else
      let (r, s) := issueBranch none b s
      whenS (r == .failed) (escBranchFailed i e.reuse) (putEntry i { e with st := .recanting, reason := reason, acks := 1 } s)

/-- A send of a cord's run has been granted and cleared (R192). -/
def noteSent (c cord : Nat) (s : State) : State :=
  match findCord s c cord with
  | some slot => updCord slot (fun k => { k with sent := true }) s
  | none => s

/-- CLEAR sent for a proven entry, which is freed (R176, R179). -/
def sendClear (i : Nat) (s : State) : State :=
  match s.escEntry i with
  | none => s
  | some e =>
    let s := traceSend 1 i e (freeEntry i (noteSent e.comp e.cord s))
    if e.group then multiPlain none vcEscrow e.peer 1 (entryMsg 1 i e 0) s else sendPlain none vcEscrow e.peer 1 (entryMsg 1 i e 0) s

/-! ### Grant and drop (R176–R178, R563) -/

/-- SND_RSP (R563). -/
def sndRsp (handle kind prov sendId origin : Nat) : W64 := BitVec.ofNat 64 (pack [(8, handle), (2, kind), (1, prov), (16, sendId), (32, origin)])

/-- SEND_DROP counted at the entry's tap (R444). -/
def countDrop (e : EscEntry) (s : State) : State :=
  match unitKey e.locus with
  | some (t, u) => countTap t 14 u 1 s
  | none => s

/-- A HELD send is dropped: the tap answers DROP and the entry is freed (R176). -/
def dropHeld (i : Nat) (s : State) : State :=
  match s.escEntry i with
  | none => s
  | some e =>
    let s := countDrop e (traceSend 3 i e (freeEntry i (whenS (!e.forward) (drainBad i e.reuse) s)))
    match sendOf s i with
    | some (k, _) => emit (.sndRsp (k / 256) (sndRsp (k % 256) 1 0 0 0)) { s with esc := { s.esc with sends := s.esc.sends.del k } }
    | none => s

/-- The hub drops or recants an outbound entry; one that is past both counts the event as unmatched (R176). -/
def recantOut (reason i : Nat) (s : State) : State :=
  match s.escEntry i with
  | some e =>
    if e.inbound then s
    else if e.st = .held then dropHeld i s
    else if e.st = .provisional then countDrop e (sendRecant i reason s)
    else countUnmatched s
  | none => s

/-- A tap drops a send: a HELD one at once, a PROVISIONAL one by a drop report to the hub (R176, R179). -/
def dropAtTap (reason i : Nat) (s : State) : State :=
  match s.escEntry i with
  | some e =>
    if e.inbound then s
    else if e.st = .held then dropHeld i s
    else if e.st = .provisional && !s.esc.reports.any (fun r => r.index == i && r.reuse == e.reuse) then
      { s with esc := { s.esc with reports := s.esc.reports ++ [⟨i, e.reuse, false, reason⟩] } }
    else s
  | none => s

/-- A send is proven: the watermark of its unit reaches SEQ_NEED and its cord carries no taint (R171). -/
def sendProven (s : State) (e : EscEntry) : Bool :=
  (match unitKey e.locus with
  | some (t, u) => reached s t u e.seqNeed
  | none => false) && (match findCord s e.comp e.cord with
  | some slot => (match s.cord slot with
    | some k => !tainted s k
    | none => true)
  | none => true)

/-- The kind of a failed dependency of a send, if one has failed (R177). -/
def sendBad (s : State) (e : EscEntry) : Option Nat :=
  match unitKey e.locus with
  | some (t, u) => (match wmark s t u with
    | some w => (w.bad.find? (fun b => b.2.1 == e.cord && serialLe b.1 e.seqNeed)).map (fun b => b.2.2)
    | none => none)
  | none => none

/-- Taps report the PROVISIONAL sends that are proven or whose dependency failed, and drop HELD ones whose dependency failed (R177, R179). -/
def sweepSends (s : State) : State :=
  foldS s.esc.entries (fun ie t =>
    match t.escEntry ie.1 with
    | some e =>
      if e.inbound || !(e.st == .held || e.st == .provisional) then t
      else match sendBad t e with
        | some kind => dropAtTap kind ie.1 t
        | none =>
          if e.st == .provisional && sendProven t e && !t.esc.reports.any (fun r => r.index == ie.1 && r.reuse == e.reuse)
          then { t with esc := { t.esc with reports := t.esc.reports ++ [⟨ie.1, e.reuse, true, 0⟩] } } else t
    | none => t) s

/-- The compartment's consistent stop holds its gates and sends: ET_STOP reached and RESUME not applied (R356). -/
def stopHolds (s : State) (c : Nat) : Bool :=
  match s.fab.stops.find? c with
  | some p => p.etStop.isSome || decide (s.et ≥ p.t)
  | none => false

/-- The compartment's send accounting is lost (R352). -/
def acctLost (c : Nat) (s : State) : State :=
  if s.fab.acctLost.contains c then s
  else raiseFabric Kind.stopAcctLost dieLoc (detail 0 none (some c)) { s with fab := { s.fab with acctLost := setAdd s.fab.acctLost c } }

/-- A send granted is counted for its destination key (R352). -/
def countGranted (c dest : Nat) (group : Bool) (s : State) : State :=
  let key := 2 * (65536 * c + dest) + b2n group
  if s.fab.granted.has key || decide (s.fab.granted.length + s.fab.landed.length < 16384)
  then { s with fab := { s.fab with granted := s.fab.granted.upd key 0 (fun n => (n + 1) % 2 ^ 32) } }
  else acctLost c s

/-- ORIGIN at the grant: now, or for a tainted cord the earliest ORIGIN of the entries that taint it (R178, R190). -/
def originOf (s : State) (c cord : Nat) : Nat :=
  let refs := match findCord s c cord with
    | some slot => (match s.cord slot with
      | some k => taintRefs s k
      | none => [])
    | none => []
  let first (o : Option Nat) (r : Nat × Nat) : Option Nat := match s.escEntry r.1, o with
    | some e, some x => some (if serialLe e.origin x then e.origin else x)
    | some e, none => some e.origin
    | none, o => o
  (refs.foldl first none).getD (s.et % 2 ^ 32)

/-- A send granted at its tap: provisional in forward mode, released in escrow mode (R177, R178). -/
def grantSend (key : Nat) (s : State) : State :=
  match s.esc.sends.find? key with
  | none => s
  | some p => match s.escEntry p.index with
    | none => s
    | some e =>
      if p.granted || e.st != .held || stopHolds s e.comp then s
      else
        let tap := key / 256
        let s : State := { s with esc := { s.esc with sends := s.esc.sends.put key { p with granted := true } } }
        if e.forward then
          let o := originOf s e.comp e.cord
          let s := putEntry p.index { e with st := .provisional, origin := o } s
          let s := emit (.sndRsp tap (sndRsp (key % 256) 0 1 (sendIdOf p.index e.reuse) o)) s
          sweepSends (countGranted e.comp e.peer e.group (traceSend 0 p.index e (countTap tap 13 p.unit 1 s)))
        else if sendProven s e then
          let s := emit (.sndRsp tap (sndRsp (key % 256) 0 0 (sendIdOf p.index e.reuse) 0)) (freeEntry p.index (noteSent e.comp e.cord s))
          let wait := (s.et - p.et) * s.cclkPerTick tap
          countGranted e.comp e.peer e.group (traceSend 0 p.index e (countTap tap 16 p.unit wait (countTap tap 13 p.unit 1 s)))
        else { s with esc := { s.esc with sends := s.esc.sends.put key p } }

/-- A HANDLE used out of its span, or SND_LEFT for one not granted: the send port counts as failed (R590). -/
def sendPortFailed (tap : Nat) (s : State) : State := raiseTap tap Kind.linkFail false (tapWholeLoc tap) 0 s

/-- A send that may not leave: its cord is withdrawn, or the unit runs the cord's twin or third run, of which the capture digest alone
leaves the cluster (R140, R189). -/
def sendBarred (s : State) (e : EscEntry) : Bool :=
  ((findCord s e.comp e.cord).bind (fun i => s.cord i)).any (fun k => k.recanted.isSome || k.placed != e.locus)

/-- SEND_REQUEST (R170, R172, R173, R563). -/
def doSendRequest (tap : Nat) (req : W128) (s : State) : State :=
  let handle := fld req 0 8
  let unit := fld req 8 5
  let c := fld req 13 4
  let key := 256 * tap + handle
  let pool := Tbl.get s.esc.pools tap Pool.reset
  if s.esc.sends.has key then sendPortFailed tap s
  else match (if pool.comp == some c && decide (pool.credits > 0) then Tbl.free s.esc.entries 16384 else none) with
    | none => { s with esc := { s.esc with pools := s.esc.pools.put tap { pool with stalls := pool.stalls + 1, waits := setAdd pool.waits unit } } }
    | some i =>
      let e : EscEntry := ⟨.held, false, escForward s c, reuseOf s i, c, fld req 98 4, tapUnitLoc tap unit, fld req 17 32, fld req 49 32,
        fld req 82 16, bitAt req 81, sendIdOf i (reuseOf s i), 0, 0, 0, 0, 0, 0⟩
      let s : State := { s with esc := { s.esc with pools := s.esc.pools.put tap { pool with credits := pool.credits - 1, waits := setDel pool.waits unit } } }
      let p : SendSt := ⟨i, unit, c, e.cord, e.seqNeed, false, s.et⟩
      let s : State := putEntry i e { s with esc := { s.esc with sends := s.esc.sends.put key p } }
      if unitOut s e.locus || sendBarred s e || compQuiet s c || !(s.comp c).st == .opened || (sendBad s e).isSome then dropHeld i s
      else if stopHolds s c then updStop c (fun p => { p with held := p.held + 1 }) s
      else whenS e.forward (grantSend key) s

/-- SEND_REQUEST. -/
def execSendRequest (tap : Nat) (req : W128) (s : State) : Host.Outcome State Fault Refusal := .next (atTapPort tap (doSendRequest tap req) s)

/-- SEND_GRANT (R177, R178). -/
def execSendGrant (tap handle : Nat) (s : State) : Host.Outcome State Fault Refusal := .next (atTapPort tap (grantSend (256 * tap + handle)) s)

/-- SEND_LEFT (R563): the handle of a granted send is free. -/
def execSendLeft (tap handle : Nat) (s : State) : Host.Outcome State Fault Refusal :=
  .next (atTapPort tap (fun s => match s.esc.sends.find? (256 * tap + handle) with
    | some p => if p.granted then { s with esc := { s.esc with sends := s.esc.sends.del (256 * tap + handle) } } else sendPortFailed tap s
    | none => sendPortFailed tap s) s)

/-! ### Credits (R172) -/

/-- A tap begins to serve a compartment: it asks for a fill to POOL. -/
def serveTap (tap c : Nat) (s : State) : State :=
  let p := Tbl.get s.esc.pools tap Pool.reset
  { s with esc := { s.esc with pools := s.esc.pools.put tap ⟨some c, 0, escPool s c, p.stalls, []⟩ } }

/-- A tap stops serving: its credits return to the hub. -/
def unserveTap (tap : Nat) (s : State) : State :=
  let p := Tbl.get s.esc.pools tap Pool.reset
  { s with esc := { s.esc with pools := s.esc.pools.put tap ⟨none, 0, 0, p.stalls, []⟩ } }

/-- CREDIT_REFILL (R172): as much of the fill or refill as keeps use within quota; none after PF_WARN (R195). -/
def doCreditRefill (tap : Nat) (s : State) : State :=
  let p := Tbl.get s.esc.pools tap Pool.reset
  match p.comp with
  | none => s
  | some c =>
    let room := escPool s c - p.credits
    let asked := if p.asked > 0 then p.asked else if p.credits ≤ 8 then min 8 room else 0
    let total := s.esc.entries.length + s.esc.pools.foldl (fun n q => n + q.2.credits) 0
    let give := if s.isl.pf then 0 else min asked (min (quota s c 1 - escUse s c) (16384 - total))
    let left := escPool s c - (p.credits + give)
    let next := if give < asked then asked - give else min 8 left
    { s with esc := { s.esc with pools := s.esc.pools.put tap { p with credits := p.credits + give, asked := next } } }

/-- CREDIT_REFILL. -/
def execCreditRefill (tap : Nat) (s : State) : Host.Outcome State Fault Refusal := .next (atTapPort tap (doCreditRefill tap) s)

/-! ### Proof reports (R179) -/

/-- PROOF_REPORT (R176, R179). -/
def doProofReport (s : State) : State :=
  match s.esc.reports with
  | [] => s
  | r :: rest =>
    let s : State := { s with esc := { s.esc with reports := rest } }
    match s.escEntry r.index with
    | some e =>
      if e.inbound || e.reuse != r.reuse || e.st != .provisional then countUnmatched s
      else if r.proven then sendClear r.index s else recantOut r.reason r.index s
    | none => countUnmatched s

/-! ### Recant (R189) -/

/-- A recanted cord's samples and twin are discarded; its replay is a new unit (R195). A follow-up that works on one ends without a finding. -/
def discardChecks (slot : Nat) (s : State) : State :=
  match s.cord slot with
  | some k =>
    let other (x : Sample) : Bool := !(x.comp == k.comp && x.jsn == k.jsn)
    let s : State := { s with gov := { s.gov with samples := s.gov.samples.filter other, mismatched := s.gov.mismatched.filter other } }
    updCord slot (fun k => { k with checksOpen := 0, twin := none }) s
  | none => s

/-- The tiles in flight of a withdrawn cord complete, and their outputs are those of a SUSPECT tile (R34, R189). -/
def withdrawTiles (c cord reason : Nat) (s : State) : State :=
  let mark (t : Tile) : Tile := if tkComp t.ticket == c && tkCord t.ticket == cord then { t with withdrawn := some reason } else t
  { s with taps := s.taps.mapV (fun _ p => { p with tags := p.tags.mapV (fun _ t => mark t) }) }

/-- The completion of a withdrawn cord: RECANTED in its first record, or in a RECANT record after that one (R189, R191). -/
def tellRecanted (slot reason : Nat) (k : Cord) (s : State) : State :=
  if k.posted then postRecant k.comp k.id s.die reason 0 0 s
  else if k.st == .retired then updCord slot (fun k => { k with posted := true }) (postCord k false stRecanted s)
  else s

/-- A cord is withdrawn: its gate closes, its tiles in flight count as SUSPECT, its completion carries RECANTED, its outbound entries are
recanted (R189, R191). One that is withdrawn already waits for the further slots too. -/
def recantCord (reason : Nat) (slots : List Nat) (slot : Nat) (s : State) : State :=
  match s.cord slot with
  | none => s
  | some k =>
    let wait (k : Cord) : Cord := { k with waitSlots := (k.waitSlots ++ slots).eraseDups }
    if k.recanted.isSome then updCord slot wait s
    else
      let s := withdrawTiles k.comp k.id reason (tellRecanted slot reason k (discardChecks slot s))
      let s := whenS (k.st != .skid) (setCordSt slot .replayWait) s
      let s := updCord slot (fun k => { wait k with recanted := some reason, status := stRecanted, trigger := reason }) s
      foldS (outEntries s k.comp k.id) (recantOut reason) s

/-- R189: the cords that an inbound entry taints, and their consumers, are withdrawn; the entry's slot is awaited. -/
def applyRecant (i reason : Nat) (s : State) : State :=
  match s.escEntry i with
  | none => s
  | some e =>
    let found := cordSlots s (fun k => k.live && k.comp == e.comp && (k.taint.contains (i, e.reuse) || (k.overflow && tainted s k)))
    foldS (chainOf s s.jrn.cords.length found) (recantCord reason [e.slot]) s

/-- RECANT_ACK returned to a sender. -/
def sendAck (m : VcsMsg) (s : State) : State :=
  sendPlain none vcEscrow m.src 1 (escMsg 3 (fld m.payload 8 4) (fld m.payload 12 4) (fld m.payload 16 16) (fld m.payload 32 32) (fld m.payload 64 32) 0 0) s

/-- The receiving compartment of an escrow message: DST_COMP, or what the group names (R170, R185). -/
def escDst (s : State) (m : VcsMsg) : Option Nat := if m.group = 0 then some (fld m.payload 12 4) else groupComp s m.group

/-- The inbound entry of a message, in one of the given states (R187). -/
def findInbound (s : State) (src srcComp sendId c : Nat) (p : EscSt → Bool) : Option Nat :=
  (List.find? (fun (ie : Nat × EscEntry) => ie.2.inbound && ie.2.peer == src && ie.2.peerComp == srcComp && ie.2.sendId == sendId && ie.2.comp == c && p ie.2.st)
    s.esc.entries).map (fun ie => ie.1)

/-- OPEN or RECALLING. -/
def escOpen (t : EscSt) : Bool := t == .opened || t == .recalling

/-- A message that matched no entry (R187, R194). -/
def escUnmatched (c : Option Nat) (s : State) : State := raiseHub uEscrow Kind.escUnmatched (hubLoc uEscrow) (detail 0 none c) (countUnmatched s)

/-- An EARLY entry; where none can be allocated the message stays unmatched (R187). -/
def earlyEntry (m : VcsMsg) (c : Nat) (st : EscSt) (s : State) : State :=
  match escRoom s c with
  | none => escUnmatched (some c) s
  | some i =>
    putEntry i ⟨st, true, false, reuseOf s i, c, fld m.payload 8 4, 0, fld m.payload 32 32, 0, m.src, false, fld m.payload 16 16, 0,
      fld m.payload 64 32, 0, s.et + 400 * escInb s c, fld m.payload 96 12, s.et⟩ s

/-- CLEAR (R187). -/
def onClear (m : VcsMsg) (s : State) : State :=
  match escDst s m with
  | none => escUnmatched none s
  | some c =>
    if (s.comp c).st != .opened then s
    else match findInbound s m.src (fld m.payload 8 4) (fld m.payload 16 16) c escOpen with
      | some i => sweepSends (freeEntry i s)
      | none => earlyEntry m c .earlyClear s

/-- A compartment's stop notes that a RECANT or LATE_RECANT was applied between ET_STOP and ET_CUT (R360). -/
def noteRecant (c : Nat) (s : State) : State :=
  updStop c (fun p => if p.etStop.isSome && p.etCut.isNone then { p with recanted := true } else p) s

/-- RECANT (R187, R189). -/
def onRecant (m : VcsMsg) (s : State) : State :=
  match escDst s m with
  | none => escUnmatched none s
  | some c =>
    if (s.comp c).st != .opened then sendAck m s
    else match findInbound s m.src (fld m.payload 8 4) (fld m.payload 16 16) c escOpen with
      | some i => sweepSends (freeEntry i (sendAck m (noteRecant c (applyRecant i (fld m.payload 96 12) s))))
      | none => sendAck m (earlyEntry m c .earlyRecant s)

/-- An outbound entry by the SEND_ID of a message: its index and reuse count (R173, R185). -/
def findOutbound (s : State) (m : VcsMsg) : Option (Nat × EscEntry) :=
  ((s.escEntry (fld m.payload 16 14)).filter (fun e => !e.inbound && e.reuse == fld m.payload 30 2)).map (fun e => (fld m.payload 16 14, e))

/-- RECANT_ACK (R176). One that names no entry of a compartment that is not stopped is ESC_UNMATCHED (R187). -/
def onRecantAck (m : VcsMsg) (s : State) : State :=
  let c := fld m.payload 8 4
  match findOutbound s m with
  | some (i, e) =>
    if e.st != .recanting then countUnmatched s
    else if e.acks ≤ 1 then freeEntry i s else putEntry i { e with acks := e.acks - 1 } s
  | none => whenS ((s.comp c).st != .stopped) (escUnmatched (some c)) s

/-- RECANT repeated to the die that asked; its branch is one of the entry's (R176, R188). -/
def repeatRecant (i dst : Nat) (e : EscEntry) (s : State) : State :=
  let (r, s) := issueBranch none (mkBranch vcEscrow dst 0 1 (entryMsg 2 i e e.reason) (.escOut i e.reuse)) s
  whenS (r == .failed) (escBranchFailed i e.reuse) s

/-- RECALL (R188 step 2). A PROVISIONAL entry is recanted for no fault that the sender knows of: REASON is 0 (R185 gives 0 where there is no
kind code; DEDUCED, log entry 55). -/
def onRecall (m : VcsMsg) (s : State) : State :=
  let clear := escMsg 1 (fld m.payload 8 4) (fld m.payload 12 4) (fld m.payload 16 16) (fld m.payload 32 32) (fld m.payload 64 32) 0 0
  match findOutbound s m with
  | some (i, e) =>
    if e.st = .provisional then countDrop e (sendRecant i 0 s)
    else if e.st = .recanting || e.st = .branchFailed then repeatRecant i m.src e s
    else countUnmatched s
  | none => sendPlain none vcEscrow m.src 1 clear s

/-- The epoch number a 16-bit EPOCH names: the one nearest the open epoch (R185, R192). -/
def epochOf16 (openE low : Nat) : Nat :=
  let d := (low + 65536 - openE % 65536) % 65536
  if d < 32768 then openE + d else openE - (65536 - d)

/-- The open epoch's number (R210, R212). -/
def openEpoch (s : State) (c : Nat) : Nat :=
  let d := Tbl.get s.dig.comps c DigComp.reset
  (fld d.vote 128 64 + d.epochs) % 2 ^ 64

end Sys2Proof.Machine
end

