-- ==== Sys2Proof/Machine/Governor.lean ====
section
/-! DEFINITION. The escape estimate, the governor and the rehearsal schedule (04_coverage_and_escape_budget). -/
namespace Sys2Proof.Machine

/-- Offsets of the policy tables in bank 32 (R528). -/
def polExp (c k : Nat) : Nat := 0x1000 + 256 * c + k
def polLim (c k : Nat) : Nat := 0x2000 + 2 * (256 * c + k)
def polLfsr (c k : Nat) : Nat := 0x4000 + 4 * (256 * c + k)
def polTwin (c : Nat) : Nat := 0x8000 + 8 * c
def polTol (c b : Nat) : Nat := 0x8100 + 128 * c + 4 * b
def polNote (c e : Nat) : Nat := 0x8900 + 4 * (8 * c + e)
def polDrift (c : Nat) : Nat := 0x8B00 + c
def polWindow (c : Nat) : Nat := 0x8C00 + 2 * c
def polVuln (k : Nat) : Nat := 0x9000 + 4 * k
def polReh (m : Nat) : Nat := 0x9800 + 8 * m
def polHook (i : Nat) : Nat := 0xA000 + 8 * i
def polMicro (i : Nat) : Nat := 0xB000 + 512 * i

/-- A field of compartment c's governor record, by bit (R159). -/
def govField (s : State) (c lo len : Nat) : Nat := nfld (polRead s (32 * c) 32) lo len

/-- A sample exponent, its limits, a twin code and t of it (R130, R139, R160). -/
def expOf (s : State) (c k : Nat) : Nat := polRead s (polExp c k) 1
def nMin (s : State) (c k : Nat) : Nat := nfld (polRead s (polLim c k) 2) 0 5
def nMax (s : State) (c k : Nat) : Nat := nfld (polRead s (polLim c k) 2) 8 5
def twinCode (s : State) (c : Nat) : Nat := nfld (polRead s (polTwin c) 1) 0 3
def twinBits : Nat → Option Nat
  | 1 => some 8 | 2 => some 6 | 3 => some 4 | 4 => some 2 | 5 => some 1 | _ => none

/-- The twin fraction of a code (R139). -/
def twinFraction (code : Nat) : Rat :=
  match twinBits code with
  | some t => 1 / (2 ^ t : Nat)
  | none => 0

/-- The op-kind catalogue and the firmware kinds (R128, R129). -/
def catalogue : List Nat := [1, 2, 3, 4, 0x10, 0x11, 0x12, 0x13, 0x14, 0x20, 0x21, 0x22, 0x23, 0x30, 0x31, 0x32, 0x33, 0x34, 0x40, 0x41,
  0x50, 0x60, 0x61, 0x70, 0x71, 0x80]

/-- A kind of the catalogue, or a firmware kind with a loaded microprogram: STEPS not 0 (R129, R133, R531). -/
def kindKnown (s : State) (k : Nat) : Bool :=
  catalogue.contains k || (decide (0xF0 ≤ k ∧ k ≤ 0xFF) && nfld (polRead s (polMicro (k - 0xF0)) 1) 0 5 != 0)

/-- The vote record's fields that turn voting on: INTERVAL not 0 and at least two replicas (R148, R232). -/
def votingOn (s : State) (c : Nat) : Bool :=
  let v := (s.dig.comps.get c DigComp.reset).vote
  fld v 0 16 != 0 && fld v 20 4 != 0

/-- The value of a finite float. -/
def flRat : Fl → Rat
  | .fin neg m e =>
    let x : Rat := if e ≥ 0 then ((m * 2 ^ e.toNat : Nat) : Rat) else (m : Rat) / ((2 ^ (-e).toNat : Nat) : Rat)
    if neg then -x else x
  | _ => 0

/-- An FP32 field as a rational. -/
def ratOf32 (v : Nat) : Rat := flRat (dec32 v)

/-- A rational rounded to FP32, ties to even. -/
def rat32 (x : Rat) : Nat := enc32 (flDiv f32 (flNorm (decide (x.num < 0)) x.num.natAbs 0) (flNorm false x.den 0))

/-- v_k of the compartment: the voting-off rows for the optimizer kinds (R148). The row for ineligible work is used for kinds outside the
catalogue; the ineligible units of a kind of the catalogue count with that kind's own v_k, as R153 writes it (DESIGN CHOICE, log entry 13). -/
def vuln (s : State) (c k : Nat) : Rat :=
  let i := if (k = 0x60 || k = 0x61) && !votingOn s c then 256 + (k - 0x60) else if kindKnown s k then k else 258
  ratOf32 (polRead s (polVuln i) 4)

/-- λ_floor and W, of compartment 0's record (R159). -/
def lamFloor (s : State) : Rat := ratOf32 (govField s 0 64 32)
def windowH (s : State) : Nat := govField s 0 96 16

/-- n_W: confirmed silent errors in the hour bins of the window; a felled unit contributes at most one (R154). -/
def nW (s : State) : Nat :=
  let hour := s.et / 1440000000000
  let live := s.gov.bins.filter (fun e => decide (e.1 / 65536 + windowH s > hour))
  let loci := (live.map (fun e => e.1 % 65536)).eraseDups
  loci.foldl (fun a l =>
    let n := (live.filter (fun e => e.1 % 65536 == l)).foldl (fun m e => m + e.2) 0
    a + (if felled s (BitVec.ofNat 16 l) then min n 1 else n)) 0

/-- One confirmed silent error counted at its locus (R154). -/
def countSilent (l : Loc) (s : State) : State :=
  { s with gov := { s.gov with bins := s.gov.bins.upd (65536 * (s.et / 1440000000000) + l.toNat) 0 (· + 1) } }

/-- λ̂ (R154). -/
def lamHat (s : State) : Rat :=
  let l := lamFloor s
  if l = 0 then 0 else
    let x := (1 + (nW s : Rat)) / (1 / l + (windowH s : Rat))
    if x < l then l else x

/-- What the governor knows of one kind of a compartment (R152, R155). -/
structure KindIn where
  kind : Nat
  /-- λ̂ · a · v / 1e-9. -/
  e : Rat
  elig : Rat
  teli : Rat
  /-- fraction of eligible units left unsampled. -/
  u : Rat
  wfull : Rat
  nmin : Nat
  nmax : Nat
deriving Repr

/-- Length of compartment c's period in seconds. -/
def periodS (s : State) (c : Nat) : Rat := (govField s c 16 16 : Rat) / 1000

/-- The kinds with work in the period, with their measurements (R152); sampling stopped die-wide makes every kind ineligible (R162). Before a
first sample of a kind has been measured, its mean work, which the spec does not give, is taken as 1 HCLK (DESIGN CHOICE, log entry 13). -/
def kindInputs (s : State) (c : Nat) : List KindIn :=
  let total := s.gov.dieBusy - s.gov.dieBase.get c 0
  (s.gov.meas.filter (fun e => e.1 / 256 == c && decide (e.2.busy > 0))).map (fun (key, m) =>
    let k := key % 256
    let frac (a b : Nat) : Rat := if b = 0 then 0 else (a : Rat) / (b : Rat)
    { kind := k, e := lamHat s * frac m.busy total * vuln s c k * 1000000000,
      elig := if s.gov.sampleOff then 0 else frac m.eligible m.units, teli := frac m.twinElig m.cords,
      u := 1 - frac m.sampled m.eligible,
      wfull := if periodS s c = 0 then 0 else (m.eligible : Rat) / periodS s c * (if m.samples = 0 then 1 else frac m.work m.samples),
      nmin := nMin s c k, nmax := nMax s c k })

/-- The escape estimate in FIT for a miss fraction of each kind's eligible units and a twin fraction (R153). -/
def escape (ks : List KindIn) (miss : KindIn → Rat) (f : Rat) : Rat :=
  ks.foldl (fun a k => a + k.e * ((1 - k.elig) + k.elig * miss k) * ((1 - k.teli) + k.teli * (1 - f))) 0

/-- Exponents under consideration, by kind. -/
abbrev Exps := List (Nat × Nat)

def expIn (n : Exps) (k : Nat) : Nat := ((n.find? (fun e => e.1 == k)).map (fun e => e.2)).getD 0
def missOf (n : Exps) (k : KindIn) : Rat := 1 - 1 / ((2 ^ expIn n k.kind : Nat) : Rat)
def lower (n : Exps) (k : Nat) : Exps := n.map (fun e => if e.1 = k then (e.1, e.2 - 1) else e)

/-- A step considered: removed FIT, energy rate, the kind (none for twin) and its load (R155). -/
structure GovStep where
  gain : Rat
  cost : Rat
  kind : Option Nat
  add : Rat

/-- The step with the larger ratio of gain to cost; on a tie the first (R155). -/
def better (a : Option GovStep) (b : GovStep) : Option GovStep :=
  match a with
  | none => some b
  | some x => if b.gain * x.cost > x.gain * b.cost then some b else some x

/-- The procedure govern of R155: exponents, twin code and whether the target is met. -/
def governLoop (ks : List KindIn) (target cap cruiseNj twinNj twinWork : Rat) (twinMax : Nat) : Nat → Exps → Nat → Rat → Exps × Nat × Bool
  | 0, n, code, _ => (n, code, false)
  | fuel + 1, n, code, load =>
    let est := escape ks (missOf n) (twinFraction code)
    if est ≤ target then (n, code, true)
    else
      let cruise := ks.foldl (fun (best : Option GovStep) k =>
        let add := k.wfull / ((2 ^ expIn n k.kind : Nat) : Rat)
        if expIn n k.kind > k.nmin ∧ k.elig > 0 ∧ load + add ≤ cap then
          better best ⟨est - escape ks (missOf (lower n k.kind)) (twinFraction code), add * cruiseNj, some k.kind, add⟩
        else best) none
      let best := if code < twinMax then
          better cruise ⟨est - escape ks (missOf n) (twinFraction (code + 1)),
            twinWork * (twinFraction (code + 1) - twinFraction code) * twinNj, none, 0⟩
        else cruise
      match best with
      | none => (n, code, false)
      | some b =>
        match b.kind with
        | some k => governLoop ks target cap cruiseNj twinNj twinWork twinMax fuel (lower n k) code (load + b.add)
        | none => governLoop ks target cap cruiseNj twinNj twinWork twinMax fuel n (code + 1) load

/-- The Cruise Engine allowance of a compartment in HCLK per second (R156). -/
def govCap (s : State) (c : Nat) : Rat :=
  let sum := ((List.range 16).filter (fun d => s.compLive d)).foldl (fun a d => a + quota s d 4) 0
  if sum = 0 || quota s c 4 = 0 || periodS s c = 0 then 0
  else (quota s c 4 : Rat) / (sum : Rat) * 1080000000 - (s.gov.adjWork.get c 0 : Rat) / periodS s c

/-- Counts of the period put back to zero; the mean work per sample is kept (R152; log entry 13). -/
def newPeriod (c : Nat) (s : State) : State :=
  let m := s.gov.meas.mapV (fun key m => if key / 256 = c then { m with busy := 0, units := 0, eligible := 0, sampled := 0, cords := 0, twinElig := 0 } else m)
  { s with gov := { s.gov with meas := m, adjWork := s.gov.adjWork.put c 0, dieBase := s.gov.dieBase.put c s.gov.dieBusy, periodStart := s.gov.periodStart.put c s.et } }

/-- EST and STATUS of compartment c's record (R159). -/
def setEst (c : Nat) (est : Option Nat) (status : Nat) (s : State) : State :=
  let s := match est with
    | some e => polWrite (32 * c + 24) 4 e s
    | none => s
  polWrite (32 * c + 28) 1 status s

/-- The new exponents and twin code written: down at once, up by one (R157, R158). -/
def applySettings (c : Nat) (n : Exps) (code : Nat) (s : State) : State :=
  let s1 := foldS n (fun e t => polWrite (polExp c e.1) 1 (min e.2 (expOf s c e.1 + 1)) t) s
  polWrite (polTwin c) 1 (max code (twinCode s c - 1)) s1

/-- While voting is off the SCALE_DRIFT reference is that of the previous governor period (R143). -/
def driftPeriod (c : Nat) (s : State) : State :=
  if votingOn s c then s
  else
    let d := s.dig.comps.get c DigComp.reset
    { s with dig := { s.dig with comps := s.dig.comps.put c { d with driftRef := d.driftRun, driftRun := [(0, 0), (0, 0)] } } }

/-- The governor's run for a compartment at its period boundary (R155–R162). -/
def governRun (c : Nat) (s : State) : State :=
  let ks := kindInputs s c
  let enable := govField s c 0 1 == 1
  if ks.isEmpty then setEst c none 2 s
  else
    let margin := govField s c 8 8
    let target := ratOf32 (govField s c 32 32) * ((if margin = 0 then 256 else margin : Nat) : Rat) / 256
    let twinWork := (ks.foldl (fun a k => a + k.teli * ((s.gov.meas.get (256 * c + k.kind) Meas.zero).busy : Rat)) 0) / periodS s c
    let (n, code, met) := governLoop ks target (govCap s c) (ratOf32 (govField s c 128 32)) (ratOf32 (govField s c 160 32)) twinWork
      (govField s c 1 3) 6500 ((List.range 256).map (fun k => (k, nMax s c k))) 0 0
    let est := rat32 (escape ks (fun k => k.u) (twinFraction (twinCode s c)))
    let s := setEst c (some est) (if met then 0 else 1) s
    let s := whenS enable (applySettings c n code) s
    let last := s.gov.unmetEt.find? c
    if met || (match last with
      | some t => decide (s.et < t + 24000000000)
      | none => false) then s
    else raiseHub (svUnit s) Kind.govUnmet dieLoc (detail 0 none (some c)) { s with gov := { s.gov with unmetEt := s.gov.unmetEt.put c s.et } }

/-- GOVERNOR_PERIOD: at the boundary of an open compartment's period, unless PF_WARN is asserted (R155, R162). -/
def doGovernorPeriod (c : Nat) (s : State) : State :=
  let due := s.et ≥ s.gov.periodStart.get c 0 + govField s c 16 16 * 400000
  if !due || s.isl.pf || !s.inLoaded || !s.compLive c then s
  else newPeriod c (driftPeriod c (governRun c s))

/-- GOVERNOR_PERIOD. -/
def execGovernorPeriod (c : Nat) (s : State) : Host.Outcome State Fault Refusal := .next (atHub (doGovernorPeriod c) s)

/-- One step of the (c, k) cruise LFSR (R131). -/
def stepLfsr (c k : Nat) (s : State) : Nat × State := stepSelector (polLfsr c k) s

/-- The next rehearsal point and end of an interval: a point the (0, 0x00) LFSR chooses within it (R164). -/
def nextPoint (mech tap : Nat) (s : State) : State :=
  let (v, s) := stepLfsr 0 0 s
  let iv := nfld (polRead s (polReh mech) 8) 0 32 * 400000000
  let start := s.et
  { s with gov := { s.gov with points := s.gov.points.put (1024 * mech + tap) (start + (if iv = 0 then 0 else v * iv / 2 ^ 32), start + iv) } }

/-- The rehearsal under way for a mechanism, if any. -/
def rehearsalOf (s : State) (mech tap : Nat) : Option Rehearsal := s.gov.rehearsals.find? (fun r => r.mech == mech && r.tap == tap)

/-- What the follow-up names from an LFSR state: for the exact check a bit of element (i, j) or, by the top bit, a residue for S0; for the
tolerance path 64 to 127 times τ0 at (i, j); i and j lie in the first block of 32 outputs (R101, R124; DESIGN CHOICE, log entry 14). -/
def injection (mech v : Nat) : Inject :=
  let i := nfld v 8 5
  let j := nfld v 16 5
  if mech = 0 then (if nfld v 31 1 = 1 then .s0 (v % m61 + 1) else .eor (v % 61) i j) else .value (64 + v % 64) i j

/-- A mechanism's rehearsal is enabled (R164). -/
def rehOn (s : State) (mech : Nat) : Bool := nfld (polRead s (polReh mech) 8) 32 1 == 1

/-- A tap's rehearsal is held off: its tap is fenced or its compartment stopped (R165). -/
def rehHeld (s : State) (mech tap : Nat) : Bool :=
  decide (mech < 2) && (fenced s (tapWholeLoc tap) || (match tapComp s tap with
    | some c => (s.comp c).st == .stopped
    | none => false))

/-- REHEARSAL_POINT (R164, R165): the point has come, and the mechanism is armed. -/
def doRehearsalPoint (mech tap : Nat) (s : State) : State :=
  match s.gov.points.find? (1024 * mech + tap) with
  | none => if rehOn s mech && s.inLoaded then nextPoint mech tap s else s
  | some (pt, _) =>
    if !rehOn s mech || s.et < pt || (rehearsalOf s mech tap).isSome || s.isl.pf || rehHeld s mech tap then s
    else
      let (v, s) := stepLfsr 0 0 s
      let place := if mech < 2 then some (injection mech v) else none
      let s := { s with gov := { s.gov with rehearsals := s.gov.rehearsals ++ [⟨mech, tap, false, place, s.et, false⟩] } }
      match place with
      | some inj => { s with taps := s.taps.upd tap Tap.reset (fun t => { t with inject := t.inject.put mech inj }) }
      | none => s

/-- REHEARSAL_POINT. -/
def execRehearsalPoint (mech tap : Nat) (s : State) : Host.Outcome State Fault Refusal := .next (atHub (doRehearsalPoint mech tap) s)

/-- A rehearsal of a hub mechanism is armed and its injection may be made now, into work of a unit (R164, R165). -/
def armed (s : State) (mech c : Nat) (l : Loc) : Bool :=
  !s.isl.pf && (s.comp c).st != .stopped && !fenced s l && (rehearsalOf s mech 0).any (fun r => !r.injected)

/-- The injection of a rehearsal has been made. -/
def injectNow (mech tap : Nat) (s : State) : State :=
  { s with gov := { s.gov with rehearsals := s.gov.rehearsals.map (fun r => if r.mech = mech ∧ r.tap = tap then { r with injected := true, startEt := s.et } else r) } }

end Sys2Proof.Machine
end

