-- ==== Sys2Proof/Machine/Digest.lean ====
section
/-! DEFINITION. Folding, closing and sending weight digests (06_weight_digests R204–R219, R224, R228–R232). -/
namespace Sys2Proof.Machine

/-! ### The vote record (R232) -/

def voteInterval (v : BitVec 512) : Nat := fld v 0 16
def voteReplica (v : BitVec 512) : Nat := fld v 16 4
def voteReplicas (v : BitVec 512) : Nat := fld v 20 4 + 1
def voteArbComp (v : BitVec 512) : Nat := fld v 24 4
def voteAbsentLimit (v : BitVec 512) : Nat := fld v 28 4
def voteArbiter (v : BitVec 512) : Nat := fld v 32 16
def voteGroup (v : BitVec 512) : Nat := fld v 48 16
def voteArrivals (v : BitVec 512) : Nat := fld v 96 8
def voteBase (v : BitVec 512) : Nat := fld v 128 64
def voteDies (v : BitVec 512) (r : Nat) : Nat := fld v (192 + 16 * r) 16
/-- VOTE_WAIT in ticks. -/
def voteWait (v : BitVec 512) : Nat := 400000 * fld v 112 16

/-- Every field within its range, reserved bits 0 (R232). -/
def voteOk (v : BitVec 512) : Bool :=
  decide (voteInterval v ≤ 1024 ∧ 1 ≤ voteAbsentLimit v ∧ fld v 64 32 < 131072 ∧ 1 ≤ voteArrivals v ∧ fld v 104 3 ≤ 4)
    && fld v 107 5 == 0 && decide (1 ≤ fld v 112 16 ∧ fld v 112 16 ≤ 60000) && fld v 448 64 == 0

/-- Epoch the open fold window folds under (R212, R227). -/
def DigComp.epoch (d : DigComp) : Nat :=
  match d.mode with
  | .normal => (voteBase d.vote + d.epochs) % 2 ^ 64
  | .reseed e | .restore e | .certify e => e

/-- The step now running closes an epoch: its number; or the reseed or restore window's (R210, R227). -/
def DigComp.closes (d : DigComp) : Option Nat :=
  if d.mode != .normal then some d.epoch
  else if voteInterval d.vote ≠ 0 ∧ d.steps + 1 ≥ voteInterval d.vote then some d.epoch else none

/-! ### Tensor entries and extents (R207–R209) -/

/-- A compartment's valid entries in force, by slot. -/
def tensorsOf (s : State) (c : Nat) : Tbl Tensor := s.dig.tensors.filter (fun e => e.2.valid && e.2.comp == c)

/-- An entry's extents, in a table of extents; an index never written holds no words. -/
def extentsIn (x : Tbl Extent) (t : Tensor) : List Extent := (List.range t.extCount).filterMap (fun i => x.find? (t.extFirst + i))

/-- WORDS and OFFSUM (R208). -/
def extWords (l : List Extent) : Nat := l.foldl (fun n e => n + e.nwords) 0
def extOffsum (l : List Extent) : Nat := l.foldl (fun n e => (n + e.nwords * e.woff + e.nwords * (e.nwords - 1) / 2) % 2 ^ 64) 0

/-- Two extents overlap in WOFF (R208). -/
def extOverlap (l : List Extent) : Bool :=
  (List.range l.length).any (fun i => (List.range i).any (fun j => match l[i]?, l[j]? with
    | some a, some b => decide (a.woff < b.woff + b.nwords ∧ b.woff < a.woff + a.nwords)
    | _, _ => false))

/-- Staged changes laid over those in force (R209). -/
def overlaid {α : Type} (t : Tbl α) (staged : Tbl (Nat × α)) : Tbl α := staged.foldl (fun (m : Tbl α) e => m.put e.1 e.2.2) t
def extentsAhead (s : State) : Tbl Extent := overlaid s.dig.extents s.dig.stagedExtents
def tensorsAhead (s : State) : Tbl Tensor := overlaid s.dig.tensors s.dig.stagedTensors

/-- WORDS and OFFSUM of a compartment's entries computed again. -/
def recount (c : Nat) (s : State) : State :=
  let f (t : Tensor) : Tensor := if t.comp = c then
      let l := extentsIn s.dig.extents t
      { t with words := extWords l, offsum := extOffsum l }
    else t
  { s with dig := { s.dig with tensors := s.dig.tensors.mapV (fun _ t => f t) } }

/-- A compartment's staged entries and extents take effect; a changed entry's folds begin empty (R209). -/
def applyStaged (c : Nat) (s : State) : State :=
  let ts : Tbl (Nat × Tensor) := s.dig.stagedTensors.filter (fun e => e.2.1 == c)
  let xs : Tbl (Nat × Extent) := s.dig.stagedExtents.filter (fun e => e.2.1 == c)
  let s : State := { s with dig := { s.dig with tensors := overlaid s.dig.tensors ts, extents := overlaid s.dig.extents xs } }
  let s : State := { s with dig := { s.dig with stagedTensors := s.dig.stagedTensors.filter (fun e => e.2.1 != c) } }
  let s : State := { s with dig := { s.dig with stagedExtents := s.dig.stagedExtents.filter (fun e => e.2.1 != c) } }
  recount c { s with dig := { s.dig with folds := s.dig.folds.keep (fun k _ => !ts.has (k / 16)) } }

/-- TENSOR_SET of an entry given as 32 B (R207, R308, R541). -/
def tensorSet (c slot : Nat) (v : W256) (s : State) : Nat × State :=
  let t : Tensor := ⟨fld v 0 24, fld v 24 4, bitAt v 28, bitAt v 29, fld v 32 16, fld v 48 16, 0, 0⟩
  let old := (tensorsAhead s).find? slot
  let other := old.any (fun o => o.valid && o.comp != c)
  let used := (tensorsAhead s).count (fun k o => o.valid && o.comp == c && k != slot)
  if fld v 30 2 ≠ 0 ∨ fld v 64 192 ≠ 0 ∨ t.extFirst > 16383 ∨ t.extCount > 16384 ∨ t.extFirst + t.extCount > 16384 then (stInvalid, s)
  else if other || t.comp != c then (stDenied, s)
  else if t.valid && extOverlap (extentsIn (extentsAhead s) t) then (stInvalid, s)
  else if t.valid && !(old.any (fun o => o.valid)) && decide (used ≥ quota s c 3) then (stQuota, s)
  else
    let s : State := { s with dig := { s.dig with stagedTensors := s.dig.stagedTensors.put slot (c, t) } }
    (stOk, if voteInterval (s.digComp c).vote = 0 then applyStaged c s else s)

/-- EXTENT_SET of an extent given as 16 B (R208, R541). -/
def extentSet (c i : Nat) (v : W128) (s : State) : Nat × State :=
  let x : Extent := ⟨fld v 0 40, fld v 40 3, fld v 64 32, fld v 96 32⟩
  let holds (t : Tensor) : Bool := t.valid && decide (t.extFirst ≤ i ∧ i < t.extFirst + t.extCount)
  let ahead : Tbl Extent := (extentsAhead s).put i x
  if fld v 43 21 ≠ 0 then (stInvalid, s)
  else if (tensorsAhead s).any (fun e => holds e.2 && e.2.comp != c) then (stDenied, s)
  else if x.nwords = 0 then (stEmpty, s)
  else if (tensorsAhead s).any (fun e => holds e.2 && extOverlap (extentsIn ahead e.2)) then (stInvalid, s)
  else
    let s : State := { s with dig := { s.dig with stagedExtents := s.dig.stagedExtents.put i (c, x) } }
    (stOk, if voteInterval (s.digComp c).vote = 0 then applyStaged c s else s)

/-! ### Folding (R214, R215) -/

def foldKey (slot bank ctrl : Nat) : Nat := (2 * slot + bank) * 8 + ctrl
def updFold (k : Nat) (f : Fold → Fold) (s : State) : State := { s with dig := { s.dig with folds := s.dig.folds.upd k Fold.zero f } }

/-- An entry being scanned for some close of its compartment (R217). -/
def scanning (d : DigComp) (slot : Nat) : Bool := d.closing.any (fun k => k.toScan.has slot)

/-- DIG_SCAN_RACE, and the part of the close that scans is cast with ABSENT (R217). -/
def scanRace (ctrl c slot : Nat) (s : State) : State :=
  let s := updDig c (fun d => { d with closing := d.closing.map (fun k => if k.toScan.has slot then { k with flags := nset k.flags 1 1 1 } else k) }) s
  raiseMem ctrl Kind.digScanRace (ctrlLoc ctrl) (detail slot none (some c)) s

/-- A tagged write of an entry inside an open window (R215). -/
def foldWrite (ctrl c slot woff : Nat) (masked drop : Bool) (word : BitVec 288) (t : Tensor) (s : State) : State :=
  let d := s.digComp c
  let k := foldKey slot d.bank ctrl
  let (w, r) := s32Dec word
  let s := whenS (scanning d slot) (scanRace ctrl c slot) s
  if drop then s
  else if masked then countMem ctrl 1 1 (updFold k (fun f => { f with count := (f.count + 1) % 2 ^ 40, partialW := true }) s)
  else if r = .blazed then countMem ctrl 2 1 (updFold k (fun f => { f with count := (f.count + 1) % 2 ^ 40, blazed := true }) s)
  else
    let x := wordTerm d.root d.epoch (digPos t.tid woff) w
    countMem ctrl 0 1 (updFold k (fun f => { f with acc := f.acc ^^^ x, count := (f.count + 1) % 2 ^ 40, woffSum := (f.woffSum + woff) % 2 ^ 64 }) s)

/-! ### The close (R209–R217) -/

/-- The eight taps' folds of an entry together (R216). -/
def foldTotal (s : State) (slot bank : Nat) : Fold :=
  (List.range 8).foldl (fun a m =>
    let f := Tbl.get s.dig.folds (foldKey slot bank m) Fold.zero
    ⟨a.acc ^^^ f.acc, a.count + f.count, (a.woffSum + f.woffSum) % 2 ^ 64, a.partialW || f.partialW, a.blazed || f.blazed⟩) Fold.zero

/-- An extent put among others in increasing WADDR. -/
def insertExtent (x : Extent) : List Extent → List Extent
  | [] => [x]
  | y :: r => if x.waddr ≤ y.waddr then x :: y :: r else y :: insertExtent x r

/-- A shard's extents as its taps read them: tap by tap, each in increasing WADDR (R217). -/
def scanOrder (l : List Extent) : List Extent :=
  (List.range 8).flatMap (fun m => (l.filter (fun x => x.ctrl == m)).foldr insertExtent [])

/-- The scan reads of a shard (R217, R568). -/
def scanReads (l : List Extent) (s : State) : State := foldS (scanOrder l) (fun x t => emit (.scanRead x.ctrl x.waddr x.nwords) t) s

/-- An entry at the close: its digest stands, or its shard is scanned; a failed exactly-once check is a fallback (R216, R217). -/
def closeEntry (c bank : Nat) (all : Bool) (e : Nat × Tensor) (r : Closing × State) : Closing × State :=
  let (k, s) := r
  let t := e.2
  let x := extentsIn s.dig.extents t
  let scan (k : Closing) (s : State) : Closing × State :=
    if t.words = 0 then ({ k with done := k.done.put e.1 (t.tid, 0, false) }, s)
    else ({ k with toScan := k.toScan.put e.1 (t.tid, scanOrder x) }, scanReads x s)
  if all || t.scan then scan k s
  else
    let f := foldTotal s e.1 bank
    if f.count = t.words ∧ f.woffSum = t.offsum ∧ !f.partialW then
      ({ k with done := k.done.put e.1 (t.tid, f.acc, f.blazed), flags := if f.blazed then nset k.flags 3 1 1 else k.flags }, s)
    else
      scan { k with flags := nset k.flags 2 1 1 } (raiseHub uDigest Kind.digOnce (hubLoc uDigest) (detail e.1 none (some c)) s)

/-- FLAGS bit of a mode (R219). -/
def DigMode.flag : DigMode → Nat
  | .normal => 0 | .certify _ => 16 | .restore _ => 32 | .reseed _ => 64

/-- A close begun over every entry of the compartment (R216, R217, R228). -/
def beginClose (c : Nat) (mode : DigMode) (epoch flags : Nat) (all : Bool) (s : State) : State :=
  let d := s.digComp c
  let k : Closing := ⟨epoch, mode, s.et, flags + mode.flag, kcv d.root epoch, d.root, [], []⟩
  let (k, s) := (tensorsOf s c).foldl (fun r e => closeEntry c d.bank all e r) (k, s)
  updDig c (fun d => { d with closing := d.closing ++ [k] }) s

/-- A fold window opens: a new root key applies, and the other bank begins empty (R201, R214). -/
def openWindow (c : Nat) (s : State) : State :=
  let s := updDig c (fun d => { d with root := d.rootNext.getD d.root, rootNext := none, bank := 1 - d.bank, windowOpen := true }) s
  let b := (s.digComp c).bank
  let mine (slot : Nat) : Bool := ((s.dig.tensors.find? slot).map (fun t => t.comp)) == some c
  { s with dig := { s.dig with folds := s.dig.folds.keep (fun k _ => !(k / 8 % 2 == b && mine (k / 16))) } }

/-- The window that the count of steps asks for (R210). -/
def openDue (c : Nat) (s : State) : State :=
  let d := s.digComp c
  if voteInterval d.vote ≠ 0 ∧ d.steps + 1 ≥ voteInterval d.vote then openWindow c s else updDig c (fun d => { d with windowOpen := false }) s

/-- A vote record comes into force; a new interval or base counts anew, and voting off lets staged changes take effect (R209, R212, R232). -/
def applyVote (c : Nat) (v : BitVec 512) (s : State) : State :=
  let s := updDig c (fun d =>
    let anew := voteInterval v != voteInterval d.vote || voteBase v != voteBase d.vote
    { d with vote := v, voteNext := none, steps := if anew then 0 else d.steps, epochs := if anew then 0 else d.epochs }) s
  whenS (voteInterval v == 0) (applyStaged c) s

/-- A correct vote record of VOTE_SET: DIES at once, the rest at the next close tick. DEDUCED: while voting is off and no window is open
no close tick can come, and the record applies at once (R210, R232; log entry 57). -/
def voteSet (c : Nat) (v : BitVec 512) (s : State) : State :=
  let d := s.digComp c
  if voteInterval d.vote = 0 ∧ d.mode = .normal then openDue c (applyVote c v s)
  else updDig c (fun d => { d with vote := BitVec.ofNat 512 (nset d.vote.toNat 192 256 (fld v 192 256)), voteNext := some v }) s

/-- Arrivals held for the part of an epoch go (R213). -/
def releaseParts (c epoch : Nat) (s : State) : State :=
  releaseArrivals c (updDig c (fun d => { d with held := d.held.map (fun h => if h.part == some epoch then { h with part := none } else h) }) s)

/-- The reference means of SCALE_DRIFT at an epoch's close (R143). -/
def driftClose (d : DigComp) : DigComp := { d with driftRef := d.driftRun, driftRun := [(0, 0), (0, 0)] }

/-- CLOSE_TICK (R209–R213, R227): the window closes, staged changes apply, and the next window opens where one is due. -/
def doCloseTick (c : Nat) (s : State) : State :=
  let d := s.digComp c
  match d.tclose with
  | none => s
  | some t =>
    if s.et < t then s
    else
      let e := d.epoch
      let flags := b2n d.tainted + 2 * b2n d.absent
      let closed := d.closes.isSome
      let s := if closed && d.windowOpen then foldS (List.range 8) (fun m t => countMem m 10 1 t) (beginClose c d.mode e flags false s)
        else whenS closed (releaseParts c e) s
      let s := updDig c (fun d =>
        let d : DigComp := { d with arrivals := 0, tclose := none, dirty := false }
        if !closed then { d with steps := d.steps + 1 }
        else match d.mode with
          | .normal => driftClose { d with steps := 0, epochs := d.epochs + 1, tainted := false, absent := false }
          | .reseed e => { d with steps := 0, epochs := (e + 1 + 2 ^ 64 - voteBase d.vote) % 2 ^ 64, tainted := false, absent := false, mode := .normal }
          | _ => { d with steps := 0, tainted := false, absent := false, mode := .normal }) s
      let s := applyStaged c s
      let s := match (s.digComp c).voteNext with
        | some v => applyVote c v s
        | none => s
      openDue c s

/-- CLOSE_TICK. -/
def execCloseTick (c : Nat) (s : State) : Host.Outcome State Fault Refusal := .next (atHub (doCloseTick c) s)

/-- The fold finds an uncorrectable S32 error in its accumulator: the epoch's part is cast absent, and DIG_TAP raised (R224). -/
def accLost (ctrl c : Nat) (s : State) : State :=
  raiseHub uDigest Kind.digTap (memTapLoc ctrl) 0 (updDig c (fun d => { d with absent := true }) s)

/-- TAGGED_WRITE (R211, R215, R217, R224, R284): a write accepted at or after T_close belongs to the next window; `acc`: what the
S32 check of the accumulator that it folds into finds (R447). -/
def doTaggedWrite (ctrl : Nat) (word : BitVec 288) (masked drop dg : Bool) (c slot woff : Nat) (acc : Option WordUpset) (s : State) : State :=
  let s := whenS drop (countMem ctrl 9 1) (whenS dg (doCloseTick c) s)
  if !dg then s
  else match s.dig.tensors.find? slot with
    | some t =>
      if !t.valid || t.comp != c then raiseMem ctrl Kind.digTag (ctrlLoc ctrl) (detail slot none (some c)) (countMem ctrl 3 1 s)
      else if !(s.digComp c).windowOpen then
        countMem ctrl 4 1 (updDig c (fun d => { d with dirty := true }) (whenS (scanning (s.digComp c) slot) (scanRace ctrl c slot) s))
      else foldWrite ctrl c slot woff masked drop word t (match acc with
        | none => s
        | some .corrected => countMem ctrl 12 1 s
        | some .lost => accLost ctrl c s)
    | none => raiseMem ctrl Kind.digTag (ctrlLoc ctrl) (detail slot none (some c)) (countMem ctrl 3 1 s)

/-- TAGGED_WRITE. -/
def execTaggedWrite (ctrl : Nat) (word : BitVec 288) (masked drop dg : Bool) (comp slot woff ch : Nat) (s : State) (acc : Option WordUpset := none) :
    Host.Outcome State Fault Refusal :=
  .next (if s.hubUp && decide (ch < 16) then doTaggedWrite ctrl word masked drop dg comp slot woff acc s else s)

/-- One word read in a scan (R217). -/
def scanWord (root e tid : Nat) (a : W128 × Bool) (w : Nat × BitVec 288) : W128 × Bool :=
  match s32Dec w.2 with
  | (_, .blazed) | (_, .uncorrectable) => (a.1, true)
  | (d, _) => (a.1 ^^^ wordTerm root e (digPos tid w.1) d, a.2)

/-- The word offsets of a shard, extent by extent as they are read. -/
def shardOffsets (l : List Extent) : List Nat := l.flatMap (fun e => (List.range e.nwords).map (fun i => e.woff + i))

/-- SHARD_SCAN_DONE (R217): the words of a shard, in the order of its scan reads. -/
def doShardScanDone (c slot : Nat) (words : List (BitVec 288)) (s : State) : State :=
  let d := s.digComp c
  match d.closing.findIdx? (fun k => k.toScan.has slot) with
  | none => s
  | some n => match d.closing[n]? with
    | none => s
    | some k =>
      let (tid, x) := Tbl.get k.toScan slot (0, [])
      if words.length ≠ extWords x then s
      else
        let (acc, blz) := ((shardOffsets x).zip words).foldl (scanWord k.root k.epoch tid) (0, false)
        let k := { k with toScan := k.toScan.del slot, done := k.done.put slot (tid, acc, blz), flags := if blz then nset k.flags 3 1 1 else k.flags }
        let s := foldS x (fun e t => countMem e.ctrl 5 e.nwords t) s
        updDig c (fun d => { d with closing := d.closing.set n k }) s

/-- SHARD_SCAN_DONE. -/
def execShardScanDone (c slot : Nat) (words : List (BitVec 288)) (s : State) : Host.Outcome State Fault Refusal := .next (atHub (doShardScanDone c slot words) s)

/-! ### The part (R218, R219, R224) -/

/-- A DIGEST_PART sent to the arbiter (R219). -/
def sendPart (c epoch flags kc : Nat) (lanes : W128) (s : State) : State :=
  let v := (s.digComp c).vote
  let l := if nfld flags 1 1 = 1 then 0 else lanes.toNat
  sendPlain (some c) vcDigest (voteArbiter v) 2
    (pack [(4, 1), (4, voteReplica v), (4, voteArbComp v), (4, 0), (16, kc), (32, epoch), (8, flags), (56, 0), (128, l)]) s

/-- The oldest retained epoch goes where a third has closed (R218). -/
def retain (r : Retained) (d : DigComp) : DigComp := { d with retained := (d.retained ++ [r]).drop (d.retained.length + 1 - 2) }

/-- DIGEST_PART_SEND (R213, R218): the oldest close whose scans are done. -/
def doDigestPartSend (c : Nat) (s : State) : State :=
  match (s.digComp c).closing with
  | [] => s
  | k :: rest =>
    if !k.toScan.isEmpty then s
    else
      let lanes := k.done.foldl (fun (a : W128) e => a ^^^ e.2.2.1) 0
      let s := updDig c (fun d =>
        let d : DigComp := { d with closing := rest }
        if k.mode = .normal then { retain ⟨k.epoch, k.flags, k.done, s.et⟩ d with awaited := d.awaited ++ [(k.epoch, s.et)] } else d) s
      releaseParts c k.epoch (sendPart c k.epoch k.flags k.kcv lanes s)

/-- DIGEST_PART_SEND. -/
def execDigestPartSend (c : Nat) (s : State) : Host.Outcome State Fault Refusal := .next (atHub (doDigestPartSend c) s)

/-- The compartment stops or closes while an epoch is open: its part goes with ABSENT at once (R224, R600). -/
def stopDigest (c : Nat) (s : State) : State :=
  let d := s.digComp c
  let votes := voteInterval d.vote ≠ 0 || d.mode != .normal
  let e := d.epoch
  let normal := d.mode == .normal
  let flags := b2n d.tainted + 2 + d.mode.flag
  let own := normal && votes
  let s := updDig c (fun d =>
    let d : DigComp := { d with windowOpen := false, steps := 0, arrivals := 0, tclose := none, tainted := false, absent := false, mode := .normal }
    { d with epochs := if own then d.epochs + 1 else d.epochs, awaited := if own && !s.isl.pf then d.awaited ++ [(e, s.et)] else d.awaited }) s
  let s := whenS (votes && !s.isl.pf) (sendPart c e flags (kcv d.root e) 0) s
  releaseParts c e s

/-- PF_WARN before the close: the open epoch is abandoned, and nothing is sent for it (R55, R224). -/
def abandonEpoch (c : Nat) (s : State) : State := updDig c (fun d => { d with windowOpen := false, mode := .normal }) s

/-- A memory tap fails: the parts of open epochs with words on its controller, and of closes it still scans for, are cast absent, and
DIG_TAP raised (R56, R224). -/
def memTapFailed (m : Nat) (s : State) : State :=
  let on (l : List Extent) : Bool := l.any (fun x => x.ctrl == m)
  let hit (c : Nat) : Bool := (tensorsOf s c).any (fun e => on (extentsIn s.dig.extents e.2))
  let scans (k : Closing) : Bool := k.toScan.any (fun e => on e.2.2)
  let s := foldS ((List.range 16).filter hit) (fun c t => updDig c (fun d => { d with absent := true }) t) s
  let s := foldS (List.range 16) (fun c t =>
    updDig c (fun d => { d with closing := d.closing.map (fun k => if scans k then { k with flags := nset k.flags 1 1 1 } else k) }) t) s
  raiseHub uDigest Kind.digTap (memTapLoc m) 0 s

/-! ### The host's arrivals and commands (R213, R227, R228, R231) -/

/-- A DIGEST arrival of the host (R211, R213); `waits` are the entries that DRAIN waits for (R196). -/
def digestArrival (c tag : Nat) (op : W128) (waits : List (Nat × Nat)) (s : State) : State :=
  let d := s.digComp c
  let counts := voteInterval d.vote ≠ 0 || d.mode != .normal
  let s := updDig c (fun d =>
    let n := d.arrivals + 1
    let d : DigComp := { d with held := d.held ++ [⟨op, tag, waits, false, if counts then d.closes else none⟩] }
    if counts then { d with arrivals := n, tclose := if n = voteArrivals d.vote then some (s.et + 64) else d.tclose } else d) s
  releaseArrivals c s

/-- A window of RESEED or RESTORE opens under epoch e's subkeys (R227, R231). -/
def openCheck (c : Nat) (mode : DigMode) (s : State) : State := openWindow c (updDig c (fun d => { d with mode := mode, arrivals := 0, tclose := none }) s)

/-- An epoch this die knows to have ended uncommitted: RECANTED where tainted, else SUSPECT (R228). -/
def epochEnded (s : State) (c e : Nat) : Option Nat :=
  (List.find? (fun (v : Nat × Nat × Bool) => v.1 == e) (s.digComp c).verdicts).map (fun v => if v.2.2 then stRecanted else stSuspect)

/-- CERTIFY (R228): none where the scan has begun and the verdict is awaited. -/
def certify (c tag e : Nat) (s : State) : Option Nat × State :=
  let d := s.digComp c
  if d.dirty then (some stInvalid, s)
  else match epochEnded s c e with
    | some st => (some st, s)
    | none => (none, beginClose c (.certify e) e 0 true (updDig c (fun d => { d with waits := d.waits ++ [⟨tag, 0x24, e, false⟩] }) s))

/-- RESTORE (R231): on the arbiter die the lanes to compare with, elsewhere the window. -/
def restore (c tag e : Nat) (lanes : W128) (arb : Bool) (s : State) : State :=
  let s := updDig c (fun d => { d with waits := d.waits ++ [⟨tag, 0x25, e, arb⟩] }) s
  if arb then { s with dig := { s.dig with arbs := s.dig.arbs.upd c Arb.reset (fun a => { a with restoreRef := some (e, lanes) }) } }
  else openCheck c (.restore e) s

/-! ### Certificates (R229, R230) -/

/-- The epoch and those after it lose their certificates (R230). -/
def revokeCerts (c e : Nat) (d : DigComp) : DigComp :=
  { d with certs := d.certs.mapV (fun _ x => if fld x 64 64 ≥ e ∧ fld x 0 4 = c then BitVec.ofNat 512 (nset x.toNat 4 4 2) else x) }

/-- A revocation applied on this die (R230). -/
def applyRevoke (c die reason e : Nat) (s : State) : State :=
  let s := updDig c (revokeCerts c e) s
  raiseHub uDigest Kind.digRevoke dieLoc (detail 0 none (some c)) (postRecant c 0 die reason 2 e s)

/-- Withdrawal of an epoch's certification by the die that found it: REVOKE to GROUP, applied here too (R137, R230). -/
def withdrawCert (c e reason : Nat) (s : State) : State :=
  let p := pack [(4, 5), (4, 0), (8, 0), (12, reason), (4, 0), (32, 0), (64, e)]
  let g := voteGroup (s.digComp c).vote
  let (m, s) := sendMulti (some c) (mkBranch vcDigest 0 g 1 p .plain) s
  if m.here then s else applyRevoke c s.die reason e s

/-- REVOKE (R230). -/
def execRevoke (s : State) : Host.Outcome State Fault Refusal :=
  .next (atHub (withMsg vcDigest 5 (fun m t =>
    match groupComp t m.group with
    | some c => applyRevoke c m.src (fld m.payload 16 12) (fld m.payload 64 64) t
    | none => t)) s)

end Sys2Proof.Machine
end

