-- ==== Sys2Proof/Machine/Window.lean ====
section
/-! DEFINITION. Reference accumulation of tiles, and the Cruise Engine's recompute of a tile from the words of its cord's buffers
(02_exact_residue_check R64, R80, R92, 03_tolerance_and_cruise R116, R117, R120, 16_quoper_isa R532). -/
namespace Sys2Proof.Machine

/-! ### Exact values -/

/-- The exact product; infinities and NaN as IEEE 754 multiplies them (R116, R117). -/
def exMul : Fl → Fl → Fl
  | .fin n1 m1 e1, .fin n2 m2 e2 => .fin (n1 != n2) (m1 * m2) (e1 + e2)
  | x, y => flMul f64 x y

/-- The exact sum; infinities and NaN as IEEE 754 adds them, and +0.0 where nothing is left (R117). -/
def exAdd : Fl → Fl → Fl
  | .fin n1 m1 e1, .fin n2 m2 e2 => let r := exactAdd n1 m1 e1 n2 m2 e2; .fin r.1 r.2.1 r.2.2
  | x, y => flAdd f64 x y

/-- What terms that are not finite make of their element: NaN, or the one infinity there is (log entry 53). -/
def special (ts : List Fl) : Option Fl :=
  let bad := ts.filter (fun t => !flFinite t)
  if bad.isEmpty then none else some (bad.foldl exAdd Fl.zero)

/-! ### The exact window (R81, R116) -/

/-- A window's contents x·2^f, and whether every step was exact. -/
structure Win where
  x : Int
  f : Int
  exact : Bool
deriving DecidableEq, Repr

/-- n / 2^k to the nearest integer, ties to even. -/
def rneInt (n : Int) (k : Nat) : Int :=
  let q : Int := rneShift n.natAbs k
  if n < 0 then -q else q

/-- Halve, with one rounding a step, until 159 bits are enough (R116). -/
def winFit : Nat → Win → Win
  | 0, w => w
  | k + 1, w =>
    if bitLen w.x.natAbs > 159 then winFit k ⟨rneInt w.x 1, w.f + 1, w.exact && w.x % 2 == 0⟩ else w

/-- One nonzero term added to a window that has begun (R116). -/
def winAdd (w : Win) (n e : Int) : Win :=
  let g := if e < w.f then min (w.f - e) (159 - bitLen w.x.natAbs : Int) else 0
  let x := w.x * 2 ^ g.toNat
  let f := w.f - g
  let t := if e < f then rneInt n (f - e).toNat else n * 2 ^ (e - f).toNat
  let kept := decide (f ≤ e) || t * 2 ^ (f - e).toNat == n
  winFit (bitLen (x + t).natAbs) ⟨x + t, f, w.exact && kept⟩

/-- window_accumulate: terms n·2^e in ticket order (R116). -/
def windowAccumulate (ts : List (Int × Int)) : Win :=
  match ts.filter (fun t => t.1 != 0) with
  | [] => ⟨0, 0, true⟩
  | t :: r => r.foldl (fun w t => winAdd w t.1 t.2) ⟨t.1, t.2, true⟩

/-- The value-stream value of a window: rounded once to FP32, +0.0 for an empty one (R116). -/
def Win.value (w : Win) : Fl := flRound f32 (decide (w.x < 0)) w.x.natAbs w.f

/-- A finite value as a term. -/
def termOf : Fl → Int × Int
  | .fin n m e => (if n then -(m : Int) else m, e)
  | _ => (0, 0)

/-- One rounding of accumulator plus the exact sum of a block (R117). -/
def wideStep (acc s : Fl) : Fl :=
  match exAdd acc s with
  | .fin n m e => if m = 0 then Fl.zero else flRound f32 n m e
  | x => x

/-- WIDE: blocks of 32 products, one rounding each (R117). -/
def wideAccumulate (ts : List Fl) : Fl :=
  (List.range (cdiv ts.length 32)).foldl (fun acc b => wideStep acc (((ts.drop (32 * b)).take 32).foldl exAdd Fl.zero)) Fl.zero

/-! ### A tile's operands in its cord's buffers (R532) -/

/-- The tile that a cord's buffers hold: the ticket of BUF2, and the words of A, B and Cin. -/
structure TileData where
  tk : W256
  a : List W256
  b : List W256
  c : List W256
deriving DecidableEq, Repr

/-- Bytes of a tile's A, B, ticket with Cin, and FP32 outputs, in whole words (R532). -/
def tileLens (tk : W256) : List Nat :=
  let n := required tk
  let at_ (i : Nat) : Nat := n.getD i 0
  [32 * (at_ 0 + at_ 3), 32 * (at_ 1 + at_ 4), 32 * (1 + at_ 2), 32 * cdiv (tkM tk * tkN tk) 8]

/-- An element's value, exact, with its scale and offset (R62–R66). -/
def elemFl (f v : Nat) (xs : Option Int) (xoff : Int) : Fl :=
  match xs, decElem f v with
  | none, _ => .nan
  | some x, .val n e => .fin (decide (n < 0)) n.natAbs (e + x + xoff)
  | some _, .invalid => Fl.zero
  | some _, .nonfinite =>
    let eb := if f = 5 || f = 8 then 5 else 8
    let mb := if f = 5 || f = 8 then 2 else if f = 9 then 7 else 23
    if f = 4 || f = 7 || nfld v 0 mb ≠ 0 then .nan else .inf (nfld v (eb + mb) 1 == 1)

/-- Element (i, k) of an operand whose data words stand in INDEX order, its scale words after them (R72, R532). -/
def bufElem (f dim K : Nat) (xoff : Int) (ws : List W256) (i k : Nat) : Fl :=
  let per := cdiv dim (fmtPer f)
  let w := ws.getD (k * per + i / fmtPer f) 0
  let sc := ws.getD (K * per + k / fmtBlock f * cdiv dim 32 + i / 32) 0
  let s := fld sc (8 * (i % 32)) 8
  let xs : Option Int := if fmtBlock f = 0 then some 0 else if s = 255 then none else some ((s : Int) - 127)
  elemFl f (fld w (fmtBits f * (i % fmtPer f)) (fmtBits f)) xs xoff

def TileData.elemA (t : TileData) (i k : Nat) : Fl := bufElem (tkFmtA t.tk) (tkM t.tk) (tkK t.tk) (tkXoffA t.tk) t.a i k
def TileData.elemB (t : TileData) (k j : Nat) : Fl := bufElem (tkFmtB t.tk) (tkN t.tk) (tkK t.tk) (tkXoffB t.tk) t.b j k

/-- Where an element's accumulation starts: Cin for ACC, Cprev for CHAIN, which no buffer holds (free value, log entry 53). -/
def TileData.start (t : TileData) (i j : Nat) : List Fl :=
  if tkKind t.tk = 2 then
    let f := tkFmtC t.tk
    let w := t.c.getD (i * wordsC t.tk + j / fmtPer f) 0
    [elemFl f (fld w (fmtBits f * (j % fmtPer f)) (fmtBits f)) (some 0) (tkXoffC t.tk)]
  else if tkKind t.tk = 3 then
    let p := Config.chainPrev t.tk i j
    [.fin (decide (p.1 < 0)) p.1.natAbs p.2]
  else []

/-- The terms of output element (i, j), in ticket order (R116). -/
def TileData.terms (t : TileData) (i j : Nat) : List Fl :=
  t.start i j ++ (List.range (tkK t.tk)).map (fun k => exMul (t.elemA i k) (t.elemB k j))

/-- The FP32 value of output element (i, j) (R116, R117). -/
def TileData.value (t : TileData) (i j : Nat) : Fl :=
  let ts := t.terms i j
  match special ts with
  | some x => x
  | none => if tkKind t.tk = 4 then wideAccumulate ts else (windowAccumulate (ts.map termOf)).value

/-- Its residue and exact flag: zero and clear where its value is not finite (R64, R80). -/
def TileData.residue (t : TileData) (i j : Nat) : Nat × Bool :=
  let ts := t.terms i j
  if (special ts).isSome then (0, false)
  else
    let w := windowAccumulate (ts.map termOf)
    (dyResidue w.x w.f, w.exact)

/-- The residue of an operand element, zero where it is not finite (R64). -/
def flResidue (x : Fl) : Nat :=
  let t := termOf x
  dyResidue t.1 t.2

/-- The sum of residues over an index range. -/
def sumRes (n : Nat) (f : Nat → Nat) : Nat := (List.range n).foldl (fun a i => (a + f i) % m61) 0

/-- usum and vsum over a tile's operands (R84, R92). -/
def TileData.usum (t : TileData) : Nat := sumRes (tkK t.tk) (fun k => sumRes (tkM t.tk) (fun i => flResidue (t.elemA i k)))
def TileData.vsum (t : TileData) : Nat := sumRes (tkK t.tk) (fun k => sumRes (tkN t.tk) (fun j => flResidue (t.elemB k j)))

/-- The three sums over the whole tile's outputs (R84, R92). -/
def TileData.sums (t : TileData) : List Nat :=
  let all (w : Nat → Nat → Nat) : Nat := sumRes (tkM t.tk) (fun i => sumRes (tkN t.tk) (fun j => w i j * (t.residue i j).1))
  [all (fun _ _ => 1), all (fun i _ => 2 ^ (i % 61)), all (fun _ j => 2 ^ (j % 61))]

/-- Residues of the candidate elements of a located class, by row and then column; the three sums for class multiple (R87, R92). -/
def TileData.candidates (t : TileData) (rows cols : List Nat) (l : Local) : List Nat :=
  match l with
  | .multiple => t.sums
  | _ => rows.flatMap (fun i => cols.map (fun j => (t.residue i j).1))

/-- The FP64 sum of output row i in increasing j, and of column j in increasing i (R107, R120). -/
def TileData.rowSum (t : TileData) (i : Nat) : Fl := (List.range (tkN t.tk)).foldl (fun a j => flAdd f64 a (t.value i j)) Fl.zero
def TileData.colSum (t : TileData) (j : Nat) : Fl := (List.range (tkM t.tk)).foldl (fun a i => flAdd f64 a (t.value i j)) Fl.zero

/-- FP32 values packed eight to a word, the last word filled with zeros (R12, R532). -/
def packFp32 (l : List Nat) : List W256 :=
  (List.range (cdiv l.length 8)).map (fun w => BitVec.ofNat 256 (pack ((List.range 8).map (fun p => (32, l.getD (8 * w + p) 0)))))

/-- The output words of a tile: FP32, row-major (R128, R532). -/
def TileData.words (t : TileData) : List W256 :=
  packFp32 ((List.range (tkM t.tk)).flatMap (fun i => (List.range (tkN t.tk)).map (fun j => enc32 (t.value i j))))

/-! ### Reading by descriptor (R92, R118, R299) -/

/-- The words of a buffer as read: none where the read hit a blazed word or an address fault, or a needed buffer has SPACE 0 (R299). -/
def bufWords (d : BitVec 768) (r : CruiseRead) (n : Nat) (need : Bool) : Option (List W256) :=
  let b := descBuf d n
  let ws := if n = 0 then r.buf0 else if n = 1 then r.buf1 else r.buf2
  if r.bad || (need && b.space == 0) || ws.length * 32 ≠ b.len then none else some ws

/-- The tile of a tile-kind cord, where its operands can be read and their lengths are those of the ticket in BUF2 (R299, R532). -/
def readTile (tap : Nat) (d : BitVec 768) (r : CruiseRead) : Option TileData :=
  match bufWords d r 0 true, bufWords d r 1 true, bufWords d r 2 true with
  | some a, some b, some (tk :: c) =>
    if tkFieldsOk tap tk && !tkEmpty tk && tkKind tk == fld d 40 8 && [(descBuf d 0).len, (descBuf d 1).len, (descBuf d 2).len, (descBuf d 3).len] == tileLens tk
    then some ⟨tk, a, b, c⟩ else none
  | _, _, _ => none

end Sys2Proof.Machine
end

