-- ==== Sys2Proof/Machine/Reference.lean ====
section
/-! DEFINITION. The cruise catalogue's reference semantics: binary32 arithmetic, lane order, the five functions, conversions and
firmware microprograms, over the words of a cord's buffers (03_tolerance_and_cruise R125–R129, 16_quoper_isa R531, R532). -/
namespace Sys2Proof.Machine

/-! ### binary32 steps (R125) -/

def add32 (a b : Fl) : Fl := flAdd f32 a b
def sub32 (a b : Fl) : Fl := flSub f32 a b
def mul32 (a b : Fl) : Fl := flMul f32 a b
def fma32 (a b c : Fl) : Fl := flFma f32 a b c
/-- A constant written in decimal: the FP32 value nearest to n / d (R128). -/
def const32 (n d : Nat) : Fl := flDiv f32 (.fin false n 0) (.fin false d 0)
def one32 : Fl := flNat f32 1

/-- Fold a list that is not empty. -/
def fold1 (f : Fl → Fl → Fl) : List Fl → Option Fl
  | [] => none
  | x :: r => some (r.foldl f x)

/-- Two lanes combined; a lane without elements adds nothing (log entry 53). -/
def laneJoin (f : Fl → Fl → Fl) : Option Fl → Option Fl → Option Fl
  | some a, some b => some (f a b)
  | some a, none => some a
  | none, b => b

/-- Lanes l and l + h combined, for h = 2^k / 2 down to 1 (R125). -/
def laneTree (f : Fl → Fl → Fl) : Nat → List (Option Fl) → Option Fl
  | 0, l => l.headD none
  | k + 1, l => laneTree f k (List.zipWith (laneJoin f) (l.take (2 ^ k)) (l.drop (2 ^ k)))

/-- A reduction in lane order over 256 lanes (R125). -/
def laneReduce (f : Fl → Fl → Fl) (xs : List Fl) : Fl :=
  let n := cdiv xs.length 256
  ((laneTree f 8 ((List.range 256).map (fun l => fold1 f ((List.range n).filterMap (fun r => xs[256 * r + l]?)))))).getD Fl.zero

/-- The larger of two values: +0.0 above −0.0, and NaN where either is NaN (R128). -/
def max32 (a b : Fl) : Fl :=
  match a, b with
  | .nan, _ => .nan
  | _, .nan => .nan
  | .fin n1 0 _, .fin n2 0 _ => .fin (n1 && n2) 0 0
  | x, y => if flLt x y then y else x

def laneSum (xs : List Fl) : Fl := laneReduce add32 xs
def laneMax (xs : List Fl) : Fl := laneReduce max32 xs

/-! ### The five functions (R126, R127) -/

/-- Coefficient c of segment g of function f in the descriptor's words (R127). -/
def coefAt (ft : List W256) (f g c : Nat) : Fl :=
  let o := 64 + 12288 * f + 12 * g + 4 * c
  dec32 (fld (ft.getD (o / 32) 0) (8 * (o % 32)) 32)

/-- The function descriptor is whole, with its MAGIC, FORMAT and COUNT, and the chipper signature of every table is the one it carries
(R126, R127). -/
def descriptorGood (ft : List W256) : Bool :=
  let h := ft.headD 0
  let sig (f : Nat) : Nat := fld (ft.getD ((8 + 8 * f) / 32) 0) (8 * ((8 + 8 * f) % 32)) 64
  let table (f : Nat) : Nat := ((ft.drop (2 + 384 * f)).take 384).foldr (fun w v => w.toNat + 2 ^ 256 * v) 0
  ft.length == 1922 && fld h 0 32 == 0x43544E46 && fld h 32 16 == 1 && fld h 48 16 == 5
    && (List.range 5).all (fun f => sig f == chipperVal 12288 (table f))

/-- The quadratic of a segment at r (R126). -/
def quadAt (ft : List W256) (f g : Nat) (r : Fl) : Fl := fma32 r (fma32 r (coefAt ft f g 2) (coefAt ft f g 1)) (coefAt ft f g 0)

/-- The fraction below one of m·2^e: its top ten bits, and what they leave (R126). -/
def splitFrac (m : Nat) (e : Int) : Nat × Fl :=
  let k := (-e).toNat
  let fr := if e ≥ 0 then 0 else m % 2 ^ k
  let g := if k < 10 then fr * 2 ^ (10 - k) else fr / 2 ^ (k - 10)
  (g, flNorm false (if k < 10 then 0 else fr % 2 ^ (k - 10)) e)

/-- A value times 2^k, rounded once. -/
def ldexp32 (k : Int) : Fl → Fl
  | .fin n m e => flRound f32 n m (e + k)
  | x => x

/-- What a function answers where the spec gives no result (free value, log entry 53): a NaN operand gives NaN all the same (R125). -/
def corner (f : Nat) (x : Fl) : Fl := if x = .nan then .nan else dec32 (Config.functionCorner f (enc32 x)).toNat

/-- EXP2: x = m + f with m = floor(x) (R126). -/
def exp2 (ft : List W256) : Fl → Fl
  | .fin n m e =>
    let k := (-e).toNat
    let whole : Int := if e ≥ 0 then (m * 2 ^ e.toNat : Nat) else (m / 2 ^ k : Nat)
    let frac := if e ≥ 0 then 0 else m % 2 ^ k
    let fl : Int := if !n then whole else if frac = 0 then -whole else -whole - 1
    let (g, r) := splitFrac (if n && frac ≠ 0 then 2 ^ k - frac else frac) (min e 0)
    ldexp32 fl (quadAt ft 0 g r)
  | x => corner 0 x

/-- x = 2^k · f with f in [1, 2), for x above zero: k, and f's fraction split (R126). -/
def splitLog : Fl → Option (Int × Nat × Fl)
  | .fin false m e =>
    if m = 0 then none
    else
      let b := bitLen m - 1
      let (g, r) := splitFrac m (-(b : Int))
      some (e + b, g, r)
  | _ => none

/-- LOG2 (R126). -/
def log2Fn (ft : List W256) (x : Fl) : Fl :=
  match splitLog x with
  | some (k, g, r) => add32 (.fin (decide (k < 0)) k.natAbs 0) (quadAt ft 1 g r)
  | none => corner 1 x

/-- RCP (R126). -/
def rcp (ft : List W256) (x : Fl) : Fl :=
  match splitLog x with
  | some (k, g, r) => ldexp32 (-k) (quadAt ft 2 g r)
  | none => corner 2 x

/-- RSQRT, with m even: for f in [2, 4) the ten fraction bits do not tell its segment from that of f − 1 or f − 2, and the answer is
free (R126, log entry 53). -/
def rsqrt (ft : List W256) (x : Fl) : Fl :=
  match splitLog x with
  | some (k, g, r) => if k % 2 = 0 then ldexp32 (-(k / 2)) (quadAt ft 3 g r) else corner 3 x
  | none => corner 3 x

/-- TANH: f = min(|x|, 9.0) / 9.0, the sign restored at the end; f = 1 lies past the last segment, and the answer is free (R126, log entry 53). -/
def tanhFn (ft : List W256) (x : Fl) : Fl :=
  let nine := flNat f32 9
  let a := flAbs x
  let f := flDiv f32 (if flLt a nine then a else nine) nine
  match x, f with
  | .fin n _ _, .fin _ m e =>
    if e ≥ 0 && m ≠ 0 then corner 4 x
    else
      let (g, r) := splitFrac m e
      let y := quadAt ft 4 g r
      if n then flNeg y else y
  | _, _ => corner 4 x

/-! ### Elementwise and row kinds on FP32 values (R128) -/

def reluFn (a : Fl) : Fl := if flLt Fl.zero a then a else Fl.zero
def siluFn (ft : List W256) (a : Fl) : Fl := mul32 a (rcp ft (add32 one32 (exp2 ft (mul32 (flNeg (const32 1442695 1000000)) a))))
def geluFn (ft : List W256) (a : Fl) : Fl :=
  let t := tanhFn ft (mul32 (const32 7978846 10000000) (fma32 (mul32 (mul32 (const32 44715 1000000) a) a) a a))
  mul32 (mul32 (const32 1 2) a) (add32 one32 t)

/-- Rows of w values, in order. -/
def rowsOf (w : Nat) (l : List Fl) : List (List Fl) := if w = 0 then [] else (List.range (l.length / w)).map (fun r => (l.drop (r * w)).take w)

/-- 1/w. -/
def invW (w : Nat) : Fl := flDiv f32 one32 (flNat f32 w)

def rmsNorm (ft : List W256) (w : Nat) (g : List Fl) (eps : Fl) (a : List Fl) : List Fl :=
  let q := laneSum (a.map (fun x => mul32 x x))
  let r := rsqrt ft (fma32 q (invW w) eps)
  List.zipWith (fun x y => mul32 (mul32 x r) y) a g

def layerNorm (ft : List W256) (w : Nat) (g beta : List Fl) (eps : Fl) (a : List Fl) : List Fl :=
  let mu := mul32 (laneSum a) (invW w)
  let c := a.map (fun x => sub32 x mu)
  let r := rsqrt ft (fma32 (laneSum (c.map (fun x => mul32 x x))) (invW w) eps)
  List.zipWith add32 (List.zipWith (fun x y => mul32 (mul32 x r) y) c g) beta

def softmax (ft : List W256) (a : List Fl) : List Fl :=
  let m := laneMax a
  let e := a.map (fun x => exp2 ft (mul32 (sub32 x m) (const32 1442695 1000000)))
  let r := rcp ft (laneSum e)
  e.map (fun x => mul32 x r)

/-- ADAMW: w′, then m′, then v′ (R128, R532). -/
def adamw (ft : List W256) (ps w g m v : List Fl) : List Fl :=
  let p (i : Nat) : Fl := ps.getD i Fl.zero
  let m' := List.zipWith (fun m g => fma32 (p 0) m (mul32 (sub32 one32 (p 0)) g)) m g
  let v' := List.zipWith (fun v g => fma32 (p 1) v (mul32 (mul32 (sub32 one32 (p 1)) g) g)) v g
  let u := List.zipWith (fun m v => mul32 (mul32 m (p 2)) (rsqrt ft (fma32 v (p 3) (p 4)))) m' v'
  List.zipWith (fun w u => sub32 w (mul32 (p 5) (fma32 (p 6) w u))) w u ++ m' ++ v'

/-- SGDM: w′, then m′ (R128, R532). -/
def sgdm (ps w g m : List Fl) : List Fl :=
  let p (i : Nat) : Fl := ps.getD i Fl.zero
  let m' := List.zipWith (fun m g => fma32 (p 0) m g) m g
  List.zipWith (fun w m => sub32 w (mul32 (p 1) (fma32 (p 2) w m))) w m' ++ m'

/-- Pairs (a0, a1) turned by (cs, sn) (R128). -/
def rope : List Fl → List Fl → List Fl
  | a0 :: a1 :: a, cs :: sn :: t => fma32 a0 cs (mul32 (flNeg a1) sn) :: fma32 a1 cs (mul32 a0 sn) :: rope a t
  | _, _ => []

/-- The FP32 kinds 0x20–0x80 on their three inputs and PARAM; none where an input is too short for the kind (R128, R532). -/
def vectorKind (ft : List W256) (kind param : Nat) (x y z : List Fl) : Option (List Fl) :=
  let n := x.length
  let fit (b : Bool) (l : List Fl) : Option (List Fl) := if b then some l else none
  let rows := decide (param ≠ 0 ∧ n % param = 0)
  let per (f : List Fl → List Fl) : List Fl := (rowsOf param x).flatMap f
  match kind with
  | 0x20 => fit (decide (y.length ≥ n)) (List.zipWith add32 x y)
  | 0x21 => fit (decide (y.length ≥ n)) (List.zipWith mul32 x y)
  | 0x22 => fit (decide (y.length ≥ n ∧ z.length ≥ n)) (List.zipWith (fun a p => fma32 a p.1 p.2) x (y.zip z))
  | 0x23 => some (x.map (fun a => mul32 a (dec32 param)))
  | 0x30 => fit (rows && decide (y.length ≥ param)) (per (fun r => List.zipWith add32 r y))
  | 0x31 => some (x.map reluFn)
  | 0x32 => some (x.map (geluFn ft))
  | 0x33 => some (x.map (siluFn ft))
  | 0x34 => fit (decide (y.length ≥ n)) (List.zipWith (fun a b => mul32 (siluFn ft a) b) x y)
  | 0x40 => fit (rows && decide (y.length ≥ param ∧ z.length ≥ 1)) (per (rmsNorm ft param y (z.headD Fl.zero)))
  | 0x41 => fit (rows && decide (y.length ≥ 2 * param ∧ z.length ≥ 1)) (per (layerNorm ft param (y.take param) (y.drop param) (z.headD Fl.zero)))
  | 0x50 => fit rows (per (softmax ft))
  | 0x60 => fit (decide (y.length ≥ n ∧ z.length ≥ 8 + 2 * n)) (adamw ft z x y (z.drop 8) (z.drop (8 + n)))
  | 0x61 => fit (decide (y.length ≥ n ∧ z.length ≥ 8 + n)) (sgdm z x y (z.drop 8))
  | 0x70 => fit rows ((rowsOf param x).map laneSum)
  | 0x71 => fit rows ((rowsOf param x).map laneMax)
  | 0x80 => fit (decide (y.length ≥ n ∧ n % 2 = 0)) (rope x y)
  | _ => none

/-! ### Conversions (R128) -/

/-- A small float format: exponent bits, mantissa bits, exponent of its least subnormal, largest finite code without sign. -/
structure Small where
  eb : Nat
  mb : Nat
  emin : Int
  top : Nat
deriving DecidableEq, Repr

/-- The formats of FMT 0x1–0x5, 0x7 and 0x8 (R62, R68). -/
def smallOf : Nat → Small
  | 0x1 => ⟨2, 1, -1, 7⟩
  | 0x2 => ⟨2, 3, -3, 31⟩
  | 0x3 => ⟨3, 2, -4, 31⟩
  | 0x4 | 0x7 => ⟨4, 3, -9, 0x7E⟩
  | _ => ⟨5, 2, -16, 0x7B⟩

/-- The largest exponent of an element format (R128). -/
def emaxOf : Nat → Int
  | 0x1 => 2 | 0x2 => 2 | 0x3 => 4 | 0x4 => 8 | 0x5 => 15 | _ => 0

/-- A converted element: its code, whether it was clamped, whether it lost a nonzero value (R143). -/
structure Code where
  v : Nat
  sat : Bool
  under : Bool
deriving DecidableEq, Repr

/-- (−1)^n · m · 2^e in a small format: nearest, ties to even, saturating (R128). -/
def toSmall (F : Small) (n : Bool) (m : Nat) (e : Int) : Code :=
  let sign := b2n n * 2 ^ (F.eb + F.mb)
  let sh := max (max ((bitLen m : Int) - (F.mb + 1)) (F.emin - e)) 0
  let q := rneShift m sh.toNat
  if m = 0 || q = 0 then ⟨sign, false, decide (m ≠ 0)⟩
  else
    let v := flEnc ⟨F.mb + 1, F.emin, 0⟩ F.eb F.mb (flNorm false q (e + sh))
    if v > F.top then ⟨sign + F.top, true, false⟩ else ⟨sign + v, false, false⟩

/-- The nearest integer, ties to even, clamped to a range and kept in `w` bits. -/
def toFixed (w : Nat) (lo hi : Int) (n : Bool) (m : Nat) (e : Int) : Code :=
  let q := rneInt (if n then -(m : Int) else m) (-e).toNat * 2 ^ e.toNat
  let c := if q < lo then lo else if q > hi then hi else q
  ⟨(c % (2 ^ w : Nat)).toNat, decide (c ≠ q), decide (m ≠ 0 ∧ q = 0)⟩

/-- An element converted under a block exponent; what the spec does not state of a value that is not finite is free (log entry 53). -/
def convElem (kind fmt : Nat) (xs : Int) (x : Fl) : Code :=
  match kind, x with
  | 0x12, _ => ⟨flEnc ⟨8, -133, 127⟩ 8 7 (flTo ⟨8, -133, 127⟩ x), false, decide (x ≠ .fin false 0 0 ∧ x ≠ .fin true 0 0 ∧ (flTo ⟨8, -133, 127⟩ x = .fin false 0 0 ∨ flTo ⟨8, -133, 127⟩ x = .fin true 0 0))⟩
  | 0x10, .fin n m e => if fmt = 6 then toFixed 8 (-128) 127 n m (e - xs + 6) else toSmall (smallOf fmt) n m (e - xs)
  | 0x11, .fin n m e => toSmall (smallOf fmt) n m (e + xs)
  | 0x13, .fin n m e => toFixed 2 (-1) 1 n m (e - xs)
  | 0x14, .fin n m e => toFixed 2 (-2) 1 n m (e - xs)
  | _, y => ⟨(Config.convCorner kind fmt (enc32 y)).toNat, false, false⟩

/-- floor(log2) of the largest magnitude of a block of finite values; none for a block of zeros. -/
def blockTop (b : List Fl) : Option Int :=
  b.foldl (fun a x => match x with
    | .fin _ m e => if m = 0 then a else
      let t := e + (bitLen m : Int) - 1
      some (match a with
        | some y => max y t
        | none => t)
    | _ => a) none

/-- The scale byte of a block (R128): free where the block holds a value that is not finite, where the exponent has no E8M0 code, and
for the zeros of a VT2 or VI2 block (log entry 53). -/
def blockScale (kind fmt : Nat) (b : List Fl) : Nat :=
  let free := (Config.scaleCorner kind fmt (b.map enc32)).toNat
  if !b.all flFinite then free
  else match blockTop b with
    | none => if kind = 0x10 then 0 else free
    | some t =>
      let x := t - (if kind = 0x10 then emaxOf fmt else 0) + 127
      if 0 ≤ x ∧ x ≤ 254 then x.toNat else free

/-- Elements packed into words, element order (R73, R532). -/
def packElems (bits : Nat) (l : List Nat) : List W256 :=
  let per := 256 / bits
  (List.range (cdiv l.length per)).map (fun w => BitVec.ofNat 256 (pack ((List.range per).map (fun p => (bits, l.getD (per * w + p) 0)))))

/-- Elements along a block of a conversion, and its element bits. -/
def convBlock (kind : Nat) : Nat := if kind = 0x13 then 16 else 32
def convBits (kind fmt : Nat) : Nat := if kind = 0x10 then fmtBits fmt else if kind = 0x11 then 8 else if kind = 0x12 then 16 else 2

/-- FMT of a conversion that names an element format (R532). -/
def convFmtOk (kind param : Nat) : Bool :=
  let fmt := nfld param 0 4
  match kind with
  | 0x10 => within 1 6 fmt
  | 0x11 => within 7 8 fmt
  | _ => true

/-- A conversion that makes block scales. -/
def convScaled (kind : Nat) : Bool := kind == 0x10 || kind == 0x13 || kind == 0x14

/-- A conversion: its output words, and whether it saturated or underflowed (R128, R143, R532). -/
def convKind (kind param : Nat) (x : List Fl) : Option (List W256 × Bool × Bool) :=
  let fmt := nfld param 0 4
  let n := convBlock kind
  if !convFmtOk kind param || (convScaled kind && x.length % n ≠ 0) then none
  else if convScaled kind then
    let bs := (List.range (x.length / n)).map (fun b => (x.drop (n * b)).take n)
    let ss := bs.map (blockScale kind fmt)
    let cs := (List.zipWith (fun b s => b.map (convElem kind fmt ((s : Int) - 127))) bs ss).flatten
    some (packElems (convBits kind fmt) (cs.map (fun c => c.v)) ++ packElems 8 ss, cs.any (fun c => c.sat), cs.any (fun c => c.under))
  else
    let cs := x.map (convElem kind fmt (sint 8 (nfld param 8 8)))
    some (packElems (convBits kind fmt) (cs.map (fun c => c.v)), cs.any (fun c => c.sat), cs.any (fun c => c.under))

/-! ### Lengths (R532) -/

/-- The bytes of FP32 elements, in whole words. -/
def fpLen (n : Nat) : Nat := 32 * cdiv n 8

/-- Whether the lengths of a cord's buffers are those of its kind; the tile kinds' are the ticket's (R133, R532). -/
def lensOk (d : BitVec 768) : Bool :=
  let kind := fld d 40 8
  let w := fld d 96 32
  let l (i : Nat) : Nat := (descBuf d i).len
  let n := l 0 / 4
  let rows := decide (w ≠ 0 ∧ n % w = 0)
  let bits := convBits kind (nfld w 0 4)
  let blocks := if convScaled kind then n / convBlock kind else 0
  match kind with
  | 0x10 | 0x11 | 0x12 | 0x13 | 0x14 => convFmtOk kind w && (!convScaled kind || n % convBlock kind == 0) && l 3 == 32 * (cdiv n (256 / bits) + cdiv blocks 32)
  | 0x20 | 0x21 | 0x34 => l 1 == l 0 && l 3 == l 0
  | 0x22 => l 1 == l 0 && l 2 == l 0 && l 3 == l 0
  | 0x23 | 0x31 | 0x32 | 0x33 => l 3 == l 0
  | 0x30 => rows && l 1 == fpLen w && l 3 == l 0
  | 0x40 => rows && l 1 == fpLen w && l 2 == 32 && l 3 == l 0
  | 0x41 => rows && l 1 == fpLen (2 * w) && l 2 == 32 && l 3 == l 0
  | 0x50 => rows && l 3 == l 0
  | 0x60 => l 1 == l 0 && l 2 == 32 + 2 * l 0 && l 3 == 3 * l 0
  | 0x61 => l 1 == l 0 && l 2 == 32 + l 0 && l 3 == 2 * l 0
  | 0x70 | 0x71 => rows && l 3 == fpLen (n / w)
  | 0x80 => l 1 == l 0 && l 3 == l 0
  | _ => true

/-- A row kind of width zero, or a unit without input: nothing to do (R19, R532). -/
def emptyUnit (d : BitVec 768) : Bool :=
  let kind := fld d 40 8
  let rowKind := [0x30, 0x40, 0x41, 0x50, 0x70, 0x71].contains kind
  decide (kind ≥ 0x10) && ((descBuf d 0).len == 0 || (rowKind && fld d 96 32 == 0))

/-- The input buffers a kind needs (R532). -/
def needs (kind : Nat) : List Bool :=
  match kind with
  | 0x20 | 0x21 | 0x34 | 0x30 | 0x80 => [true, true, false]
  | 0x22 | 0x40 | 0x41 | 0x60 | 0x61 => [true, true, true]
  | 0x01 | 0x02 | 0x03 | 0x04 => [true, true, true]
  | _ => [true, false, false]

/-! ### Microprograms (R129, R531) -/

/-- FP32 values of words. -/
def fpOf (l : List W256) : List Fl := l.flatMap (fun w => (List.range 8).map (fun p => dec32 (fld w (32 * p) 32)))

/-- One step of a microprogram on the buffers, temporaries and output so far. -/
def microStep (ft : List W256) (step : Nat) (bufs : Tbl (List Fl)) : Option (Tbl (List Fl)) :=
  let n := (Tbl.get bufs 0 []).length
  let src (i : Nat) : List Fl := if i = 8 then List.replicate n (dec32 (nfld step 32 32)) else Tbl.get bufs i []
  (vectorKind ft (nfld step 0 8) (nfld step 64 32) (src (nfld step 8 4)) (src (nfld step 12 4)) (src (nfld step 16 4))).map
    (fun y => bufs.put (nfld step 20 4) y)

/-- A microprogram run over a cord's buffers: what stands in BUFO at its end. -/
def microRun (ft : List W256) (steps : List Nat) (bufs : Tbl (List Fl)) : Option (List Fl) :=
  (steps.foldl (fun (b : Option (Tbl (List Fl))) step => b.bind (microStep ft step)) (some bufs)).bind (fun b => b.find? 9)

/-! ### The recompute of a sample unit (R134, R136) -/

/-- A recomputed unit: its output words, and the numeric events of a conversion (R143). -/
structure Redone where
  words : List W256
  sat : Bool
  under : Bool
deriving DecidableEq, Repr

/-- The unit of a cord recomputed from what its descriptor's reads returned; none where the Cruise Engine cannot read it (R136, R299). -/
def recompute (ft : List W256) (micro : List Nat) (tap : Nat) (d : BitVec 768) (r : CruiseRead) : Option Redone :=
  let kind := fld d 40 8
  let param := fld d 96 32
  if kind ≤ 4 then (readTile tap d r).map (fun t => ⟨t.words, false, false⟩)
  else if emptyUnit d then some ⟨[], false, false⟩
  else
    let need (i : Nat) : Bool := (needs kind).getD i false
    match bufWords d r 0 (need 0), bufWords d r 1 (need 1), bufWords d r 2 (need 2) with
    | some a, some b, some c =>
      if !lensOk d then none
      else if kind < 0x20 then (convKind kind param (fpOf a)).map (fun x => ⟨x.1, x.2.1, x.2.2⟩)
      else
        let y := if kind ≥ 0xF0 then microRun ft micro [(0, fpOf a), (1, fpOf b), (2, fpOf c)]
          else vectorKind ft kind param (fpOf a) (fpOf b) (fpOf c)
        y.map (fun l => ⟨packFp32 (l.map enc32), false, false⟩)
    | _, _, _ => none

/-- The capture digest over output words at word offsets from 0 (R134). -/
def digestOf (key cord : Nat) (ws : List W256) : W128 :=
  ((ws.zipIdx).foldl (fun (x : W128) e => x ^^^ wordTerm key 0 (cord % 2 ^ 24 * 2 ^ 40 + e.2) e.1) 0)

end Sys2Proof.Machine
end

