-- ==== Sys2Proof/Machine/Sampling.lean ====
section
/-! DEFINITION. Selecting units for cruise and twin, the sample queue and the numerics watch (03_tolerance_and_cruise R130–R145). -/
namespace Sys2Proof.Machine

/-- Bytes that fit the compartment's cruise window, in MiB (R133). -/
def fitsWindow (s : State) (c bytes : Nat) : Bool := decide (bytes ≤ polRead s (polWindow c) 2 * 2 ^ 20)

/-- A cord of another than a tile kind is eligible for cruise: a known kind, write-once outputs, lengths that agree with the packing, inputs
and outputs within the window (R130, R133, R532). -/
def cruiseEligible (s : State) (d : BitVec 768) : Bool :=
  kindKnown s (fld d 40 8) && bitAt d 49 && (lensOk d || emptyUnit d)
    && fitsWindow s (fld d 32 4) ([0, 1, 2, 3].foldl (fun n i => n + (descBuf d i).len) 0)

/-- A tile of a cord is eligible: the unit is the tile, and its own lengths count (R130, R133, R532). -/
def tileEligible (s : State) (d : BitVec 768) (tk : W256) : Bool :=
  kindKnown s (fld d 40 8) && bitAt d 49 && fld d 40 8 == tkKind tk
    && [0, 1, 2, 3].map (fun i => (descBuf d i).len) == tileLens tk && fitsWindow s (tkComp tk) ((tileLens tk).foldl (fun n x => n + x) 0)

/-- A unit left unsampled is counted (R133, R448). -/
def unsampled (c : Nat) (s : State) : State := countHub (144 + c) 1 s

/-- CRUISE_SKIPPED raised, and the unit counted as unsampled (R133, R151). -/
def skipSample (c k cord : Nat) (s : State) : State :=
  let s := trace c 8 0 0 (pack [(32, cord), (8, k), (4, 3)]) s
  raiseHub uCruise Kind.cruiseSkipped (hubLoc uCruise) (detail cord none (some c)) (unsampled c s)

/-- A measurement of the running governor period changed (R152). -/
def updMeas (c k : Nat) (f : Meas → Meas) (s : State) : State :=
  { s with gov := { s.gov with meas := s.gov.meas.upd (256 * c + k) Meas.zero f } }

/-- One unit offered to cruise selection (R131, R133, R136): whether it is sampled. -/
def cruiseSelect (c k : Nat) (eligible : Bool) (s : State) : Bool × State :=
  let s := updMeas c k (fun m => { m with units := m.units + 1, eligible := m.eligible + b2n eligible }) s
  if !eligible then (false, unsampled c s)
  else
    let (v, s) := stepLfsr c k s
    let forced := s.jrn.forceSample.contains (c, k)
    let s : State := { s with jrn := { s.jrn with forceSample := s.jrn.forceSample.erase (c, k) } }
    if !(forced || v % 2 ^ expOf s c k == 0) then (false, s)
    else if s.gov.sampleOff then (false, unsampled c s)
    else (true, updMeas c k (fun m => { m with sampled := m.sampled + 1 }) s)

/-- A cord is twin-eligible: DET and WONCE, a kind that is not reserved, and lengths that agree with the packing (R128, R129, R140, R532). -/
def twinEligible (d : BitVec 768) : Bool :=
  let kind := fld d 40 8
  bitAt d 48 && bitAt d 49 && (catalogue.contains kind || decide (kind ≥ 0xF0)) && (lensOk d || emptyUnit d)

/-- The SUSPECT flag of a medium core, a slab or a cluster twins the work placed there at fraction 1/2 (R277). -/
def suspectUnit (s : State) (l : Loc) : Bool :=
  s.col.suspects.any (fun q => covers (BitVec.ofNat 16 q) l && (match named (BitVec.ofNat 16 q) with
    | .core _ _ | .slab _ | .cluster _ => true
    | _ => false))

/-- One cord offered to twin selection (R139, R277): whether it is selected. -/
def twinSelect (c : Nat) (placed : Loc) (d : BitVec 768) (s : State) : Bool × State :=
  let el := twinEligible d
  let s := updMeas c (fld d 40 8) (fun m => { m with cords := m.cords + 1, twinElig := m.twinElig + b2n el }) s
  if !el then (false, s)
  else
    let (v, s) := stepSelector (polTwin c + 4) s
    let forced := s.jrn.forceTwin.contains (c, 0)
    let s : State := { s with jrn := { s.jrn with forceTwin := s.jrn.forceTwin.erase (c, 0) } }
    match twinBits (if forced || suspectUnit s placed then 5 else twinCode s c) with
    | none => (false, s)
    | some t => (v % 2 ^ t == 0, s)

/-- One of a cord's open checks is over (R184, R235). -/
def checkOver (c jsn : Nat) (s : State) : State :=
  match findJsn s c jsn with
  | some slot => updCord slot (fun k => { k with checksOpen := k.checksOpen - 1 }) s
  | none => s

/-- The same for a check of one run of the cord; a later run has its own (R138). -/
def checkEnds (c jsn attempt : Nat) (s : State) : State :=
  match (findJsn s c jsn).bind (fun i => s.cord i) with
  | some k => if k.attempt = attempt then checkOver c jsn s else s
  | none => s

/-- A sampled unit that has retired is queued, or skipped where it is not eligible any more, the queue is full or PF_WARN is asserted
(R48, R55, R133). -/
def queueSample (eligible : Bool) (x : Sample) (s : State) : State :=
  if s.isl.pf || !eligible || decide (s.gov.samples.length ≥ Config.sampleQueue) then
    skipSample x.comp x.kind x.cord (checkEnds x.comp x.jsn x.attempt (updMeas x.comp x.kind (fun m => { m with sampled := m.sampled - 1 }) s))
  else { s with gov := { s.gov with samples := s.gov.samples ++ [x] } }

/-- Numeric events in the order of R143. -/
abbrev evInexact : Nat := 0
abbrev evTolFalse : Nat := 1
abbrev evNonfinite : Nat := 2
abbrev evSat : Nat := 3
abbrev evUnderflow : Nat := 4
abbrev evScaleEdge : Nat := 5
abbrev evScaleDrift : Nat := 6
abbrev evInvalidCode : Nat := 7

/-- A numeric event counted; its note limit reached in a window posts one NOTE (R143–R145). -/
def numericEvent (c e : Nat) (s : State) : State :=
  let n := Tbl.get s.gov.numeric (8 * c + e) 0 + 1
  let s := countHub (8 * c + e) 1 { s with gov := { s.gov with numeric := s.gov.numeric.put (8 * c + e) n } }
  let limit := polRead s (polNote c e) 4
  if limit = 0 || n < limit || s.gov.noted.contains (8 * c + e) then s
  else postRecord c 0x0B stOk 0 (pack [(8, e), (32, n)]) { s with gov := { s.gov with noted := setAdd s.gov.noted (8 * c + e) } }

end Sys2Proof.Machine
end

