-- ==== Sys2Proof/Machine/Stream.lean ====
section
/-! DEFINITION. Stream Port transfers: how they are cut, issued and held back (18_boundary_signals R576–R578, R309). -/
namespace Sys2Proof.Machine

/-- The lane of a transfer (R576). -/
def XferFor.lane : XferFor → Nat
  | .trace .. | .view .. | .census .. | .cut .. => 1
  | _ => 0

/-- Transfers that go ahead of the budget: command fetches, completion writes and reads (R309, R539). -/
def XferFor.free : XferFor → Bool
  | .fetch _ | .completion .. | .ringFetch .. | .voteFetch .. => true
  | _ => false

/-- The header beat of a request (R577). -/
def xferHeader (x : Xfer) : W256 :=
  BitVec.ofNat 256 (pack [(4, if x.write then 1 else 2), (4, 0), (4, x.comp), (4, 0), (16, x.tag), (32, x.len), (64, x.addr)])

/-- A transfer placed on its lane. -/
def sendXfer (x : Xfer) (beats : List W256) (s : State) : State :=
  let used := s.fab.streamUsed.get x.comp 0 + (if x.use.free then 0 else x.len)
  let s := emit (.stream x.lane (xferHeader x) beats) s
  { s with cmd := { s.cmd with xfers := s.cmd.xfers ++ [{ x with issued := s.et }] },
           fab := { s.fab with streamUsed := s.fab.streamUsed.put x.comp used } }

/-- A compartment's STREAM budget of the window is spent: units of 100 MB/s over 1 ms (R306, R309). -/
def streamSpent (s : State) (c : Nat) : Bool := decide (s.fab.streamUsed.get c 0 ≥ Tbl.get s.fab.streamBudget c 32 * 100000)

/-- A transfer issued, or held for the next window where the budget is spent (R309); none starts while PF_WARN is asserted
or, for a write, while the die is stopped (R284, R591). -/
def issueXfer (x : Xfer) (beats : List W256) (s : State) : State :=
  let x := { x with tag := s.cmd.nextTag }
  let s := { s with cmd := { s.cmd with nextTag := (s.cmd.nextTag + 1) % 65536 } }
  if s.isl.pf || (x.write && s.cmd.dieStop) || (!x.use.free && streamSpent s x.comp)
  then { s with cmd := { s.cmd with xwait := s.cmd.xwait ++ [(x, beats)] } }
  else sendXfer x beats s

/-- The beats of bytes, 32 B each. -/
def beatsOf : Nat → List Byte → List W256
  | 0, _ => []
  | _, [] => []
  | n + 1, bs => BitVec.ofNat 256 (ofBytes (bs.take 32)) :: beatsOf n (bs.drop 32)

/-- Pieces of a range: none crosses a 4 KiB boundary (R577). -/
def pieces : Nat → Nat → Nat → List (Nat × Nat)
  | 0, _, _ => []
  | n + 1, a, len =>
    if len = 0 then [] else
      let k := min len (4096 - a % 4096)
      (a, k) :: pieces n (a + k) (len - k)

/-- Bytes written to host memory in pieces, each a transfer with the same purpose (R577). -/
def streamWrite (comp addr : Nat) (bs : List Byte) (use : XferFor) (s : State) : State :=
  foldS (pieces (bs.length / 4096 + 2) addr bs.length) (fun p t =>
    let part := (bs.drop (p.1 - addr)).take p.2
    issueXfer ⟨0, use.lane, true, comp, p.1, p.2, use, 0, false⟩ (beatsOf (p.2 / 32 + 1) part) t) s

/-- Host memory read in pieces (R577). -/
def streamRead (comp addr len : Nat) (use : XferFor) (s : State) : State :=
  foldS (pieces (len / 4096 + 2) addr len) (fun p t => issueXfer ⟨0, use.lane, false, comp, p.1, p.2, use, 0, false⟩ [] t) s

/-- Transfers that waited for a window are issued again in order, journal spill first and trace last (R309, R461). -/
def releaseXfers (s : State) : State :=
  let w := s.cmd.xwait
  let rank (u : XferFor) : Nat := match u with
    | .spill _ => 0
    | .trace .. => 2
    | _ => 1
  let l := [0, 1, 2].flatMap (fun k => w.filter (fun e => rank e.1.use == k))
  foldS l (fun e t => issueXfer e.1 e.2 t) { s with cmd := { s.cmd with xwait := [] } }

end Sys2Proof.Machine
end

