-- ==== Sys2Proof/Machine/Journal.lean ====
section
/-! DEFINITION. The journal: spares, redirections, registration, retire, settling, the spill ring, replay and unreplayable cords
(07_journal_and_replay R235–R253, R259–R265). -/
namespace Sys2Proof.Machine

/-! ### Policy and descriptors -/

/-- Journal policy fields (R262): SKID_WAIT in µs, REPLAY_LIMIT, PROMOTE. -/
def skidWait (s : State) (c : Nat) : Nat := nfld (policy s 2 c) 0 16
def replayLimit (s : State) (c : Nat) : Nat := nfld (policy s 2 c) 16 4
def promote (s : State) (c : Nat) : Bool := nfld (policy s 2 c) 20 1 == 1

/-- The 128 B descriptor of a cord (R235). -/
def cordImage (s : State) (k : Cord) : BitVec 1024 :=
  let refs := k.taint.filter (refLive s)
  let taint := refs.foldr (fun r v => (r.1 + 16384 * r.2) + 65536 * v) 0
  BitVec.ofNat 1024 (pack [(768, k.desc.toNat), (32, k.jsn), (4, k.st.code), (4, k.attempt), (3, refs.length), (1, b2n k.overflow),
    (1, b2n k.sampled), (1, b2n k.twinned), (1, b2n k.inPlace), (1, 0), (16, k.placed.toNat), (32, k.seqLast), (32, k.dep0.getD 0xFFFFFFFF),
    (32, k.dep1.getD 0xFFFFFFFF), (64, taint), (8, (outEntries s k.comp k.id).length), (8, k.checksOpen)])

/-- A journal fault at die level with the detail of R265. -/
def raiseJrn (kind cord cause trigger c : Nat) (s : State) : State :=
  raiseHub uJournal kind dieLoc (detail (pack [(32, cord), (8, cause), (8, 0), (12, trigger)]) none (some c)) s

/-! ### Spares (R250–R252) -/

/-- The default order of regions (R250). -/
def spareRegions : List Nat := [7, 15, 3, 11, 5, 13, 1, 9, 6, 14, 2, 10, 4, 12, 0, 8]

/-- The spare record's mask and count (R250). -/
def spareMask (s : State) : Nat := nfld (policy s 6 0) 128 128
def spareCount (s : State) : Nat := nfld (policy s 6 0) 0 5

/-- A cluster that the record in force lets be a spare: with a mask, its set bits alone (R250). -/
def spareAllowed (s : State) (c : Nat) : Bool := spareMask s == 0 || (spareMask s).testBit c

/-- Spares in the order of R250: by region, the highest slot first. -/
def spareOrder (s : State) : List (Nat × SpareSt) :=
  spareRegions.flatMap (fun r => ((List.range 8).reverse.map (fun k => 8 * r + k)).filterMap (fun c =>
    if spareAllowed s c then (s.jrn.spares.find? c).map (fun v => (c, v)) else none))

/-- A spare that a skid or a twin may take: one under a slice gives it up (R49, R251). -/
def SpareSt.free (v : SpareSt) : Bool := v == .idle || v == .testing

/-- A cluster that a draw may take: not felled, not assigned, not a spare already (R250). -/
def drawable (s : State) (c : Nat) : Bool := !felled s (clusterLoc c) && (assigned s c).isNone && !s.jrn.spares.has c

/-- One draw: the first region that gives none yet gives its slot-7 cluster, or its highest free slot (R250). -/
def drawOne (s : State) : Option Nat :=
  (spareRegions.filter (fun r => !s.jrn.spares.any (fun e => e.1 / 8 == r))).findSome? (fun r =>
    ((List.range 8).reverse.map (fun k => 8 * r + k)).find? (drawable s))

/-- Up to n draws. -/
def drawSpares : Nat → State → State
  | 0, s => s
  | n + 1, s => match drawOne s with
    | some c => drawSpares n (setSpare c .idle s)
    | none => s

/-- The spare set drawn again at entry to LOADED and at a change of the record (R250). A cluster that acts goes on with its work; one that
the mask does not name is no spare for anything new, and leaves when it holds no more work. -/
def redrawSpares (s : State) : State :=
  let acting := s.jrn.spares.keep (fun _ v => match v with
    | .acting _ => true
    | _ => false)
  let s : State := { s with jrn := { s.jrn with spares := acting } }
  if spareMask s ≠ 0 then
    foldS ((List.range 128).filter (fun c => (spareMask s).testBit c && !s.jrn.spares.has c && (assigned s c).isNone && !felled s (clusterLoc c)))
      (fun c t => setSpare c (if fenced t (clusterLoc c) then .fenced else .idle) t) s
  else drawSpares (spareCount s - s.jrn.spares.length) s

/-- One spare drawn by the rule of R250. A mask names them all: then none can be drawn. Where none is, the set shrinks and SPARE_LOW counts
it (R252). -/
def redrawOne (s : State) : State :=
  match (if spareMask s = 0 then drawOne s else none) with
  | some c => setSpare c .idle s
  | none => countHub 191 1 { s with jrn := { s.jrn with spareLow := s.jrn.spareLow + 1 } }

/-- A spare that holds no cord of its compartment returns to IDLE and stops serving it, or leaves a set that it is no member of; so does one
whose twin is over (R140, R250, R251). -/
def spareIdle (c : Nat) (s : State) : State :=
  match s.jrn.spares.find? c with
  | some (.acting n) =>
    let busy := s.jrn.cords.any (fun e => e.2.comp == n && e.2.live && clusterOf e.2.placed == some c)
      || s.jrn.skids.any (fun k => k.spare == some c && (!k.queue.isEmpty || !k.pend.isEmpty))
    if busy then s
    else unserveTap c (if spareAllowed s c then setSpare c .idle s else placeSpare c none s)
  | some _ => if (Tbl.get s.esc.pools c Pool.reset).comp.isSome && (twinning s c).isNone then unserveTap c s else s
  | none => s

/-- Every acting spare looked at (R251). -/
def sparesIdle (s : State) : State := foldS (s.jrn.spares.map (fun e => e.1)) spareIdle s

/-! ### Redirections (R259) -/

/-- The cores of a cluster in turn: the n-th of those in service (R255). -/
def turnCore (s : State) (t n : Nat) : Loc :=
  let l := (List.range 32).filter (fun u => !unitOut s (coreLoc t u))
  coreLoc t ((l[n % l.length]?).getD 0)

/-- The core of a cluster for a cord placed on a unit: of a core the same number, of a slab the cores in turn by `n` (R255). -/
def coreFor (s : State) (t n : Nat) (l : Loc) : Loc :=
  match named l with
  | .core _ u => coreLoc t ((liveCore s t u).getD u)
  | _ => turnCore s t n

/-- Where a redirection sends a cord of a JSN that was placed on a unit: the core named, or one of the cluster named (R259). -/
def redirOne (s : State) (c jsn : Nat) (l : Loc) : Option Loc :=
  (s.jrn.redirs.find? (fun r => r.2.2 == c && covers r.1 l)).map (fun r =>
    match named r.2.1 with
    | .cluster t => coreFor s t jsn l
    | _ => r.2.1)

/-- The unit on which such a cord runs: redirections are followed while the unit is out of service. -/
def redirOf (s : State) (c jsn : Nat) : Nat → Loc → Option Loc
  | 0, _ => none
  | n + 1, l =>
    if !(fenced s l || felled s l) then some l
    else match redirOne s c jsn l with
      | some t => redirOf s c jsn n t
      | none => none

/-! ### Registration (R238–R240) -/

/-- BUFO lies in the same SPACE as an input and overlaps it (R238). -/
def overlaps (a b : Buf) : Bool :=
  a.len != 0 && b.len != 0 && a.space == b.space && (a.space != 2 || a.cluster == b.cluster) && decide (a.addr < b.addr + b.len) && decide (b.addr < a.addr + a.len)

def descInPlace (d : BitVec 768) : Bool := [0, 1, 2].any (fun i => overlaps (descBuf d 3) (descBuf d i))

/-- No reserved bit of a descriptor is set and no SPACE is reserved (R235, R239). -/
def descClean (d : BitVec 768) : Bool :=
  fld d 36 4 == 0 && fld d 54 10 == 0 && fld d 80 16 == 0 && fld d 736 32 == 0 &&
  [0, 1, 2, 3].all (fun i => let b := 128 * (i + 1); fld d (b + 50) 6 == 0 && fld d (b + 63) 1 == 0 && fld d (b + 96) 32 == 0)

/-- Buffer lengths and addresses (R239). -/
def bufOk (b : Buf) : Bool := ((b.len == 0) == (b.space == 0)) && b.addr % 32 == 0 && b.len % 32 == 0

/-- A unit of compartment c: assigned to it, or a spare acting for it (R239). -/
def ofComp (s : State) (c tap : Nat) : Bool := assigned s tap == some c || acting s tap == some c

/-- The status of a registration (R239). -/
def registerStatus (s : State) (d : BitVec 768) : Nat :=
  let c := fld d 32 4
  let unit : Loc := BitVec.ofNat 16 (fld d 64 16)
  let bufs := [0, 1, 2, 3].map (descBuf d)
  match unitKey unit with
  | none => stInvalid
  | some (tap, _) =>
    if !descClean d || (findCord s c (fld d 0 32)).isSome || !bufs.all bufOk then stInvalid
    else if !(ofComp s c tap && bufs.all (fun b => b.space != 2 || ofComp s c b.cluster)) then stDenied
    else if (redirOf s c (s.jrn.nextJsn.get c 0) 4 unit).isNone || (s.comp c).st != .opened then stFenced
    else stOk

/-- The answer on the journal port (R571). -/
def journalAnswer (cord status : Nat) (cap : Bool) (jsn placed : Nat) : W128 :=
  BitVec.ofNat 128 (pack [(32, cord), (4, status), (1, b2n cap), (3, 0), (32, jsn), (16, placed)])

/-- Tile kinds are sampled tile by tile, other kinds cord by cord (R130). -/
def tileKind (k : Nat) : Bool := 1 ≤ k && k ≤ 4

/-- A core of cluster t for a second or third run of work placed at l: the cluster is not out of service, and a spare serves no other
compartment (R140, R251, R290). -/
def runPlace (s : State) (c : Nat) (l : Loc) (t : Nat) : Option Loc :=
  if fenced s (clusterLoc t) || felled s (clusterLoc t) || !(tapComp s t == none || tapComp s t == some c) then none
  else (liveCore s t (coreNo l)).map (coreLoc t)

/-- The unit of a cord's twin: on an active cluster of the compartment in another region, else on a spare (R140). -/
def twinPlace (s : State) (c : Nat) (l : Loc) : Option Loc :=
  let away (t : Nat) : Bool := assigned s t == some c && regionOf l != some (t / 8)
  match (List.range 128).findSome? (fun t => if away t then runPlace s c l t else none) with
  | some u => some u
  | none => (spareOrder s).findSome? (fun e => if e.2.free then runPlace s c l e.1 else none)

/-- The capture digest of a cord at a unit's tap (R134). -/
def cordDigest (s : State) (l : Loc) (cord : Nat) : W128 :=
  match unitKey l with
  | some (t, _) => Tbl.get (Tbl.get s.taps t Tap.reset).capture (2 * cord + 1) 0
  | none => 0

/-- A cord's capture digest starts again at 0. -/
def dropCapture (l : Loc) (cord : Nat) (s : State) : State :=
  match unitKey l with
  | some (t, _) => { s with taps := s.taps.upd t Tap.reset (fun p => { p with capture := p.capture.del (2 * cord + 1) }) }
  | none => s

/-- A spare is ordered awake and its tap serves a compartment (R172, R253). -/
def wakeSpare (t c : Nat) (s : State) : State :=
  emit (.wake t) (serveTap t c { s with jrn := { s.jrn with waking := setAdd s.jrn.waking t } })

/-- A second or third run of a cord begins on a unit: its digest starts at 0, a spare is woken for it, and the descriptor goes to the
unit's dispatcher (R140, R141). -/
def startRun (k : Cord) (u : Loc) (s : State) : State :=
  let s := match clusterOf u with
    | some t => whenS ((s.jrn.spares.find? t).any SpareSt.free) (wakeSpare t k.comp) s
    | none => s
  emit (.handover (cordImage s k) u) (dropCapture u k.id s)

/-- A twin that is skipped or does not finish counts as unsampled (R140, R142, R448). -/
def twinUnsampled (c : Nat) (s : State) : State := countHub (160 + c) 1 s

/-- Cruise and twin selection of a cord's run: a non-tile cord is one unit; the twin is dispatched at once (R130, R139, R140). -/
def selectCord (slot : Nat) (s : State) : State :=
  match s.cord slot with
  | none => s
  | some k =>
    let (samp, s) := if tileKind k.kind then (false, s) else cruiseSelect k.comp k.kind (cruiseEligible s k.desc) s
    let (tw, s) := twinSelect k.comp k.placed k.desc s
    match (if tw then twinPlace s k.comp k.placed else none) with
    | some u =>
      let k' := { k with sampled := samp, twinned := true, checksOpen := b2n samp + 1, twin := some ⟨u, none, none, none⟩ }
      startRun k' u (updCord slot (fun _ => k') s)
    | none =>
      let s := whenS tw (twinUnsampled k.comp) s
      updCord slot (fun k => { k with sampled := samp, twinned := false, checksOpen := b2n samp, twin := none }) s

/-- Taint a cord starts with: the OPEN or RECALLING entries of its slots and its producers' taint (R182). -/
def startTaint (s : State) (k : Cord) : Cord :=
  let own := (s.esc.entries.filter (fun e => e.2.inbound && e.2.comp == k.comp && escOpen e.2.st && k.slots.contains e.2.slot)).map (fun e => (e.1, e.2.reuse))
  let dep (d : Option Nat) : List (Nat × Nat) := match d with
    | some j => (match findJsn s k.comp j with
      | some i => (match s.cord i with
        | some p => taintRefs s p
        | none => [])
      | none => [])
    | none => []
  (own ++ dep k.dep0 ++ dep k.dep1).foldl (gainRef s) k

/-- The hang watch of a compartment that had no live cord starts here (R464; DESIGN CHOICE, log entry 8: the rule names the last retire
alone). -/
def watchFrom (c : Nat) (s : State) : State :=
  { s with obs := { s.obs with lastRetire := s.obs.lastRetire.put c (s.et, (Tbl.get s.obs.lastRetire c (0, false)).2) } }

/-- CORD_REGISTER of a descriptor (R238–R240, R571). -/
def doCordRegister (region : Nat) (d : BitVec 768) (s : State) : State :=
  let c := fld d 32 4
  let st := registerStatus s d
  if st ≠ stOk then
    let s := emit (.answer region (journalAnswer (fld d 0 32) st false 0 0)) s
    postRecord c 0x0D st 0 (pack [(32, fld d 0 32), (16, fld d 64 16)]) s
  else
    let used := (cordSlots s (fun k => k.comp == c)).length
    match (if used < quota s c 2 then Tbl.free s.jrn.cords 32768 else none) with
    | none => { s with jrn := { s.jrn with stalls := s.jrn.stalls.upd c 0 (· + 1) } }
    | some slot =>
      let jsn := s.jrn.nextJsn.get c 0
      let unit : Loc := BitVec.ofNat 16 (fld d 64 16)
      let placed := (redirOf s c jsn 4 unit).getD unit
      let dep (v : Nat) : Option Nat := if v = 0 then none else match findCord s c v with
        | some i => (s.cord i).map (fun p => p.jsn)
        | none => none
      let k : Cord := ⟨d, jsn, .waiting, 0, [], false, [], false, false, descInPlace d, placed, 0, dep (fld d 640 32), dep (fld d 672 32), 0, none,
        [], none, false, 0, 0, false, [], false, 0⟩
      let k := startTaint s k
      let k := { k with depHeld := heldDep s k }
      let s := if s.jrn.cords.any (fun e => e.2.comp == c && e.2.st != .settled) then s else watchFrom c s
      let s : State := { s with jrn := { s.jrn with cords := s.jrn.cords.put slot k, nextJsn := s.jrn.nextJsn.put c ((jsn + 1) % (2 ^ 32 - 1)) } }
      let s := selectCord slot s
      let cap := match s.cord slot with
        | some k => k.sampled || k.twinned
        | none => false
      emit (.answer region (journalAnswer (fld d 0 32) stOk cap jsn placed.toNat)) s

/-! ### Twins (R140–R142) -/

/-- The later run of a twinned cord has retired: the capture digests are compared (R141). A rehearsal flips one bit of the primary's digest as
the compare uses it, and the twin stays until its follow-up ends (R164, R167). -/
def twinCompare (slot : Nat) (s : State) : State :=
  match s.cord slot with
  | none => s
  | some k => match k.twin with
    | none => s
    | some t => match t.prim, t.second with
      | some a, some b =>
        let d := detail (k.id + 2 ^ 32 * t.unit.toNat) none (some k.comp)
        let told := updCord slot (fun k => { k with posted := true }) (postCord k false (if a = b then k.status else stSuspect) s)
        if a ≠ b then raiseHub uJournal Kind.twinMismatch k.placed d told
        else if armed s 3 k.comp k.placed then
          injectNow 3 0 (raiseOn 33 uJournal (mkMsg Kind.twinMismatch 5 true k.placed d)
            (updCord slot (fun k => { k with twin := some { t with prim := some (a ^^^ 1) } }) told))
        else updCord slot (fun k => { k with checksOpen := k.checksOpen - 1, twin := none }) told
      | _, _ => s

/-- A twin that has not retired ends FENCED: the cord completes on the primary alone (R142, R263). -/
def twinFenced (slot : Nat) (s : State) : State :=
  match s.cord slot with
  | none => s
  | some k => match k.twin with
    | none => s
    | some t =>
      if t.second.isSome then s
      else
        let s := whenS (t.prim.isSome && !k.posted) (postCord k false k.status) s
        twinUnsampled k.comp (updCord slot (fun k => { k with checksOpen := k.checksOpen - 1, twin := none, posted := k.posted || t.prim.isSome }) s)

/-- Second and third runs that lie in a scope and have not retired end there: a third run then gives no opinion (R141, R142). -/
def fenceTwins (p : Loc → Bool) (s : State) : State :=
  let s := foldS (cordSlots s (fun k => k.twin.any (fun t => p t.unit))) twinFenced s
  let end3 (t : Twin) : Twin := match t.third with
    | some (u, none) => if p u then { t with third := none } else t
    | _ => t
  foldS (cordSlots s (fun k => k.twin.isSome)) (fun i t => updCord i (fun k => { k with twin := k.twin.map end3 }) t) s

/-! ### Retire and settle (R242, R243) -/

/-- Skids whose last cord has been reported retired are complete: SKID_DONE and its event record (R260). -/
def finishSkids (s : State) : State :=
  let done (k : Skid) : Bool := k.told && k.goal.isSome && k.queue.isEmpty && k.pend.isEmpty
  let finished := s.jrn.skids.filter (fun k => done k && !k.parked)
  let s : State := { s with jrn := { s.jrn with skids := s.jrn.skids.filter (fun k => !done k) } }
  sparesIdle (foldS finished (fun k t =>
    let new := (k.goal.getD 0).toNat
    recEvent Kind.recSkidDone k.cords (pack [(16, k.scope.toNat), (16, new), (4, k.comp)]) 0
      (postRecord k.comp 0x06 stOk 0 (pack [(16, k.scope.toNat), (16, new), (32, k.cords)]) t)) s)

/-- Cords leave the skids that move them: retired on the new placement, or gone (R260, R261). -/
def leaveSkids (c : Nat) (jsns : List Nat) (s : State) : State :=
  let drop (k : Skid) : Skid :=
    if k.comp = c then { k with queue := k.queue.filter (fun e => !jsns.contains e.1), pend := k.pend.filter (fun j => !jsns.contains j) } else k
  finishSkids { s with jrn := { s.jrn with skids := s.jrn.skids.map drop } }

/-- A skid's cord has retired on its new placement (R260). -/
def skidRetired (c jsn : Nat) (s : State) : State :=
  let drop (k : Skid) : Skid := if k.comp = c then { k with pend := k.pend.erase jsn } else k
  finishSkids { s with jrn := { s.jrn with skids := s.jrn.skids.map drop } }

/-- A third run has retired: a third opinion (R141). -/
def thirdRun (slot region : Nat) (s : State) : State :=
  match s.cord slot with
  | none => s
  | some k => match k.twin with
    | none => s
    | some t => match t.third with
      | some (u, _) => if regionOf u = some region then updCord slot (fun k => { k with twin := some { t with third := some (u, some (cordDigest s u k.id)) } }) s else s
      | none => s

/-- The retire report of a region is the second run's: it runs there, and the primary elsewhere; where both run in one region, the first report
is taken as the primary's (R140, R571; the second is DEDUCED, log entry 56). -/
def secondRetires (region : Nat) (k : Cord) : Bool :=
  k.twin.any (fun t => regionOf t.unit == some region && t.second.isNone && (regionOf k.placed != some region || t.prim.isSome))

/-- The second run of a cord has retired. -/
def retireSecond (slot : Nat) (s : State) : State :=
  match s.cord slot with
  | some k => match k.twin with
    | some t => sparesIdle (twinCompare slot (updCord slot (fun k => { k with twin := some { t with second := some (cordDigest s t.unit k.id) } }) s))
    | none => s
  | none => s

/-- The primary run of a cord has retired: a sampled cord joins the queue, a twinned one is compared, and what a first record is due for is
posted (R133, R141, R242, R545). -/
def retirePrimary (slot seqLast : Nat) (s : State) : State :=
  match s.cord slot with
  | none => s
  | some k =>
    let s : State := { s with obs := { s.obs with lastRetire := s.obs.lastRetire.put k.comp (s.et, false) } }
    let s := updCord slot (fun k => { k with seqLast := seqLast }) s
    let s := whenS (k.st == .waiting || k.st == .running) (setCordSt slot .retired) s
    let stands := k.recanted.isNone
    let s := whenS (stands && k.sampled && !tileKind k.kind) (fun s => match unitKey k.placed with
      | some (tap, u) => queueSample (cruiseEligible s k.desc) ⟨tap, u, k.comp, k.kind, k.id, k.jsn, cordDigest s k.placed k.id, s.et, k.attempt, false, none⟩ s
      | none => s) s
    let s := match k.twin with
      | some t => whenS stands (fun s => twinCompare slot (updCord slot (fun k => { k with twin := some { t with prim := some (cordDigest s k.placed k.id) } }) s)) s
      | none => whenS ((k.sampled || k.twinned || k.status ≠ stOk) && !k.posted) (fun s => updCord slot (fun k => { k with posted := true }) (postCord k false k.status s)) s
    skidRetired k.comp k.jsn s

/-- CORD_RETIRE (R242, R141, R571): a run retires on the region of its unit. -/
def doCordRetire (region : Nat) (jt : BitVec 96) (s : State) : State :=
  match findCord s (fld jt 0 4) (fld jt 4 32) with
  | none => s
  | some slot => match s.cord slot with
    | none => s
    | some k =>
      if secondRetires region k then retireSecond slot s
      else if regionOf k.placed != some region then thirdRun slot region s
      else retirePrimary slot (fld jt 36 32) s

/-- A cord may settle (R184, R242). -/
def settles (s : State) (k : Cord) : Bool :=
  k.st == .retired && provenCord s k && (outEntries s k.comp k.id).isEmpty && k.checksOpen == 0

/-- The gate releases the consumers of a producer that is proven (R241). -/
def releaseDeps (slot : Nat) (s : State) : State :=
  match s.cord slot with
  | none => s
  | some k =>
    if !provenCord s k then s
    else foldS (consumers s k) (fun i t => match t.cord i with
      | some j => if heldDep t j then t else updCord i (fun j => { j with depHeld := false }) t
      | none => t) s

/-- CORD_SETTLE (R242): the closing completion, and the write to the ring; without one the slot is freed at once. -/
def doCordSettle (slot : Nat) (s : State) : State :=
  match s.cord slot with
  | none => s
  | some k =>
    if !settles s k then s
    else
      let s := sparesIdle (releaseDeps slot (setCordSt slot .settled (postCord k true stOk s)))
      match s.jrn.rings.find? k.comp with
      | some (base, log2) =>
        if log2 = 0 then freeCord slot s
        else
          let img := cordImage s { k with st := .settled }
          let s : State := { s with jrn := { s.jrn with spills := s.jrn.spills ++ [(slot, s.et)] } }
          streamWrite k.comp (base + 128 * (k.jsn % 2 ^ log2)) (toBytes 128 img.toNat) (.spill slot) s
      | none => freeCord slot s

/-- A spill ends: the slot is freed, unless its cord runs again since (R242, R256). -/
def spillDone (slot : Nat) (s : State) : State :=
  whenS ((s.cord slot).any (fun k => !k.live)) (freeCord slot) { s with jrn := { s.jrn with spills := s.jrn.spills.filter (fun e => e.1 != slot) } }

/-- JRN_SPILL (R243): the ring write has not completed within 10 ms. -/
def doJrnSpill (slot : Nat) (s : State) : State :=
  match s.jrn.spills.find? (fun e => e.1 == slot), s.cord slot with
  | some (_, t), some k => if s.et ≥ t + 4000000 then raiseJrn Kind.jrnSpill k.id 0 0 k.comp (spillDone slot s) else s
  | _, _ => s

/-- JRN_SPILL. -/
def execJrnSpill (slot : Nat) (s : State) : Host.Outcome State Fault Refusal := .next (atHub (doJrnSpill slot) s)

/-- DEP_RELEASE. -/
def execDepRelease (slot : Nat) (s : State) : Host.Outcome State Fault Refusal := .next (atHub (releaseDeps slot) s)

/-! ### Replay (R246, R249, R261) -/

/-- A cord completes FENCED and its entry is freed without a spill. -/
def endFenced (slot : Nat) (s : State) : State :=
  match s.cord slot with
  | some k => freeCord slot (postCord k true stFenced s)
  | none => s

/-- Cords held on those of a list under R241, and those held on these in turn: they have not started, and a producer is not proven. -/
def heldOn (s : State) : Nat → List Nat → List Nat
  | 0, l => l
  | n + 1, l =>
    let held (i : Nat) : Bool := (s.cord i).any (fun j => (j.st == .waiting || j.st == .skid || j.st == .replayWait) && heldDep s j)
    let more := l.flatMap (fun i => match s.cord i with
      | some k => (consumers s k).filter held
      | none => [])
    let new := (more.filter (fun i => !l.contains i)).eraseDups
    if new.isEmpty then l else heldOn s n (l ++ new)

/-- Cords end FENCED for want of a run: their sends fall, their entries are freed, and the skids that move them go on without them (R261). -/
def endUnrun (c trigger : Nat) (slots : List Nat) (s : State) : State :=
  let jsns := slots.filterMap (fun i => (s.cord i).map (fun k => k.jsn))
  let s := foldS slots (fun i t => endFenced i (match t.cord i with
    | some k => foldS (outEntries t k.comp k.id) (recantOut trigger) t
    | none => t)) s
  let s : State := { s with jrn := { s.jrn with fetches := s.jrn.fetches.filter (fun f => !(f.1 == c && jsns.contains f.2.2.1)) } }
  leaveSkids c jsns s

/-- R261: the cord, and the cords held on it in turn, end FENCED; the open epoch is tainted; one message is raised. -/
def unreplayable (cause trigger slot : Nat) (s : State) : State :=
  match s.cord slot with
  | none => s
  | some k =>
    let s := endUnrun k.comp trigger (heldOn s s.jrn.cords.length [slot]) s
    raiseJrn (if cause = 6 then Kind.jrnReplayLimit else Kind.jrnNoreplay) k.id cause trigger k.comp (taintEpoch k.comp s)

/-- An entry of the cache whose S32 check finds an error: a correctable one is corrected and counted; one that is not, or a reserved STATE,
ends a WAITING cord FENCED, and with it what is held on it; makes one that has run unreplayable; and frees a SETTLED one (R237, R264). That
what is held on a lost WAITING cord ends with it is DEDUCED from R241 (log entry 56). -/
def cacheError (slot : Nat) (correctable : Bool) (s : State) : State :=
  match s.cord slot with
  | none => s
  | some k =>
    if correctable then { s with jrn := { s.jrn with corrected := s.jrn.corrected + 1 } }
    else
      let s := match k.st with
        | .waiting => endUnrun k.comp 0 (heldOn s s.jrn.cords.length [slot]) s
        | .settled => spillDone slot s
        | _ => unreplayable 5 0 slot s
      raiseJrn Kind.jrnEntry k.id 0 0 k.comp s

/-- CORD_REGISTER: the search of the cache also finds the entries of `upsets` in error (R238, R264). -/
def execCordRegister (region : Nat) (desc : BitVec 768) (s : State) (upsets : List (Nat × Bool) := []) : Host.Outcome State Fault Refusal :=
  .next (atRegion region (fun s => doCordRegister region desc (foldS upsets (fun e t => cacheError e.1 e.2 t) s)) s)

/-- Why a cord cannot be run again after its first admission; none where it can (R249, R265). -/
def noReplayCause (s : State) (k : Cord) : Option Nat :=
  if !k.det then some 1
  else if k.inPlace then some 2
  else if k.noreplay then some 3
  else if k.attempt ≥ replayLimit s k.comp then some 6
  else none

/-- A cord starts again on a unit: it is handed to that unit's dispatcher (R246). -/
def handCord (slot : Nat) (target : Loc) (again : Bool) (s : State) : State :=
  match s.cord slot with
  | none => s
  | some k =>
    let s := whenS again (fun t => match unitKey k.placed with
      | some (tap, u) => wmarkReplay tap u k.id (dropCapture k.placed k.id t)
      | none => t) s
    let s := whenS again (updCord slot (fun k => { k with checksOpen := 0, twin := none })) s
    let s := setCordSt slot .waiting s
    let fresh (k : Cord) : Cord := { k with placed := target, attempt := if again then k.attempt + 1 else k.attempt, status := 0, recanted := none, waitSlots := [], pin := 0, sent := false }
    let s := updCord slot (fun k => let k := if again then fresh k else { k with placed := target }; { k with depHeld := heldDep s k }) s
    let s : State := { s with jrn := { s.jrn with spills := s.jrn.spills.filter (fun e => e.1 != slot) } }
    let s := whenS again (selectCord slot) s
    match s.cord slot with
    | some k => emit (.handover (cordImage s k) target) s
    | none => s

/-- A cord of a skid reaches its new unit; a withdrawn one waits there for its resent data (R189, R263). -/
def handOver (slot : Nat) (target : Loc) (again : Bool) (s : State) : State :=
  match s.cord slot with
  | none => s
  | some k =>
    if k.recanted.isSome && !k.waitSlots.isEmpty then updCord slot (fun k => { k with placed := target }) (setCordSt slot .replayWait s)
    else handCord slot target (again || k.recanted.isSome) s

/-! ### Regeneration of lost inputs (R256) -/

/-- Every buffer that names a lost cluster in SPACE 2 is rewritten to the cluster that takes its place. -/
def rewriteDesc (lost spare : Nat) (d : BitVec 768) : BitVec 768 :=
  BitVec.ofNat 768 ([0, 1, 2, 3].foldl (fun v i =>
    let b := descBuf d i
    if b.space = 2 ∧ b.cluster = lost then nset v (128 * (i + 1) + 56) 7 spare else v) d.toNat)

/-- Buffers of a descriptor that name a cluster in SPACE 2. -/
def bufsIn (d : BitVec 768) (c : Nat) : List Nat :=
  [0, 1, 2, 3].filter (fun i => (descBuf d i).space == 2 && (descBuf d i).cluster == c)

/-- A descriptor under the cluster redirections of a compartment. -/
def rewriteAll (s : State) (c : Nat) (d : BitVec 768) : BitVec 768 :=
  s.jrn.redirs.foldl (fun d r => match named r.1, named r.2.1 with
    | .cluster a, .cluster b => if r.2.2 = c then rewriteDesc a b d else d
    | _, _ => d) d

/-- Where a regenerated producer runs: the spare that holds its BUFO, else the skid's first spare, by the core rule; without either, its own
unit or redirection (R256). -/
def regenTarget (s : State) (first : Option Nat) (k : Cord) : Loc :=
  let o := k.buf 3
  match (if o.space == 2 && acting s o.cluster == some k.comp then some o.cluster else first) with
  | some t => coreFor s t k.jsn k.placed
  | none => (redirOf s k.comp k.jsn 4 k.placed).getD k.placed

/-- A producer in the cache can be run again: a live one by R249, a settled one with DET and KEEP and without IN_PLACE (R256). -/
def regenerable (s : State) (k : Cord) : Bool := if k.live then (noReplayCause s k).isNone else k.det && k.keepIn && !k.inPlace

/-- An entry put in a skid's queue by JSN. -/
def queuePut (q : List (Nat × Loc × Bool)) (e : Nat × Loc × Bool) : List (Nat × Loc × Bool) :=
  q.filter (fun x => decide (x.1 < e.1)) ++ [e] ++ q.filter (fun x => decide (x.1 > e.1))

/-- A cord starts on a target: by the queue of the skid that fills that spare, or at once. -/
def startOn (slot : Nat) (target : Loc) (again : Bool) (s : State) : State :=
  match s.cord slot with
  | none => s
  | some k =>
    let mine (q : Skid) : Bool := q.comp == k.comp && !q.told && q.spare.isSome && clusterOf target == q.spare
    if s.jrn.skids.any mine then
      let put (q : Skid) : Skid := if mine q then { q with queue := queuePut q.queue (k.jsn, target, again), cords := q.cords + 1 } else q
      setCordSt slot .skid { s with jrn := { s.jrn with skids := s.jrn.skids.map put } }
    else handCord slot target again s

/-- The spare that took the place of the cluster that a cord's first lost input names (R256). -/
def lostSpare (k : Cord) : Option Nat := k.lost.head?.map (fun i => (k.buf i).cluster)

/-- The ring slots of the producers that the cache no longer holds are fetched (R245, R256). -/
def fetchAway (n c consumer : Nat) (away : List Nat) (s : State) : Bool × State :=
  match s.jrn.rings.find? c with
  | some (base, log2) =>
    if log2 = 0 || away.isEmpty then (false, s)
    else (true, foldS away (fun j t =>
      if t.jrn.fetches.any (fun f => f.1 == c && f.2.1 == j && f.2.2.1 == consumer) then t
      else streamRead c (base + 128 * (j % 2 ^ log2)) 128 (.ringFetch c j) { t with jrn := { t.jrn with fetches := t.jrn.fetches ++ [(c, j, consumer, n)] } }) s)
  | none => (false, s)

/-- The lost inputs of a cord are made again, down to n levels: false where one cannot be (R256). -/
def regen (first : Option Nat) : Nat → Nat → State → Bool × State
  | 0, slot, s => (match s.cord slot with
    | some k => k.lost.isEmpty
    | none => false, s)
  | n + 1, slot, s =>
    match s.cord slot with
    | none => (false, s)
    | some k =>
      let first := first.or (lostSpare k)
      let step (r : Bool × State) (i : Nat) : Bool × State :=
        if !r.1 then r else
          let s := r.2
          let deps := [k.dep0, k.dep1].filterMap id
          match (deps.filterMap (findJsn s k.comp)).find? (fun p => (s.cord p).any (fun q => overlaps (q.buf 3) (k.buf i))) with
          | some p => (match s.cord p with
            | some q =>
              if q.st == .waiting || q.st == .skid || q.st == .replayWait then (true, s)
              else if !regenerable s q then (false, s)
              else
                let (ok, s) := regen first n p s
                if ok then (true, startOn p (regenTarget s first q) true s) else (false, s)
            | none => (false, s))
          | none => fetchAway n k.comp k.jsn (deps.filter (fun j => (findJsn s k.comp j).isNone)) s
      let (ok, s) := k.lost.foldl step (true, s)
      let waits := s.jrn.fetches.any (fun f => f.1 == k.comp && f.2.2.1 == k.jsn)
      (ok, whenS (ok && !waits) (updCord slot (fun k => { k with lost := [] })) s)

/-- A replay with nowhere to run waits in STATE SKID for a spare or for RETARGET (R246, R258). -/
def parkCord (trigger slot : Nat) (s : State) : State :=
  match s.cord slot with
  | none => s
  | some k =>
    let mine (q : Skid) : Bool := q.parked && q.spare.isNone && q.comp == k.comp && q.scope == k.placed
    let e := (k.jsn, k.placed, true)
    let skids := if s.jrn.skids.any mine then s.jrn.skids.map (fun q => if mine q then { q with queue := queuePut q.queue e, cords := q.cords + 1 } else q)
      else s.jrn.skids ++ [⟨k.comp, k.placed, none, none, trigger, true, [e], [], 1, 0, s.et, true, true⟩]
    setCordSt slot .skid { s with jrn := { s.jrn with skids := skids } }

/-- A replay (R246, R249): on PLACED, on its redirection's target, or in STATE SKID where there is none. -/
def replaySlot (trigger slot : Nat) (s : State) : State :=
  match s.cord slot with
  | none => s
  | some k =>
    match noReplayCause s k with
    | some cause => unreplayable cause trigger slot s
    | none =>
      let s := updCord slot (fun k => { k with trigger := trigger }) s
      let (ok, s) := regen none 4 slot s
      if !ok then unreplayable 4 trigger slot s
      else match redirOf s k.comp k.jsn 4 k.placed with
        | some t => handCord slot t true s
        | none => parkCord trigger slot s

/-- The arrival of resent data in a slot releases the recanted cords that wait for it; one that a skid moves replays on its new unit (R189, R263). -/
def slotResent (c slot : Nat) (s : State) : State :=
  foldS (cordSlots s (fun k => k.comp == c && k.recanted.isSome && k.waitSlots.contains slot)) (fun i t =>
    let t := updCord i (fun k => { k with waitSlots := k.waitSlots.filter (fun x => x != slot) }) t
    match t.cord i with
    | some k => if k.waitSlots.isEmpty && k.st == .replayWait then replaySlot (k.recanted.getD 0) i t else t
    | none => t) s

end Sys2Proof.Machine
end

