-- ==== Sys2Proof/Machine/Slices.lean ====
section
/-! DEFINITION. Ending self-test slices that other work or a fence takes the core from (01_block_architecture R49, R50,
11_in_field_screening R377, R378). -/
namespace Sys2Proof.Machine

/-- A finding of a slice raised by its warden, or by the host-core tap (R380, R381). -/
def raiseScreen (l : Loc) (kind d : Nat) (s : State) : State :=
  match regionOf l, named l with
  | some r, _ => raiseWarden r kind l d s
  | none, .hcore h => raiseHcore h kind l d s
  | none, _ => s

/-- DETAIL of ST_FAIL and ST_UNSTABLE (R378; log entry 17): expected, observed, DEFECT_ID, segment, pack slot, PREEMPTED. -/
def screenDetail (x : Slice) (preempted : Bool) : Nat :=
  pack [(32, x.expected), (32, x.observed), (16, ((x.segs[x.seg]?).map (fun g => g.defect)).getD 0), (7, x.seg), (4, x.pack), (1, b2n preempted)]

/-- A slice's core: the counter of its cluster tap (R444). -/
def countSlice (l : Loc) (ev : Nat) (s : State) : State :=
  match clusterOf l with
  | some c => countTap c ev 0x3F 1 s
  | none => s

/-- An UNSTABLE finding: one intermittent finding of the core (R378, R379). -/
def unstable (x : Slice) (preempted : Bool) (s : State) : State :=
  let s : State := { s with col := { s.col with intermit := s.col.intermit.upd x.locus.toNat [] (fun l => s.et :: l) } }
  let s : State := { s with scr := { s.scr with findings := s.scr.findings.put x.locus.toNat x } }
  raiseScreen x.locus Kind.stUnstable (screenDetail x preempted) (countSlice x.locus 22 s)

/-- Whoever ordered a slice hears its outcome: 0 PASS, 1 FAIL, 2 UNSTABLE, 3 ABORTED (R514, R542, R544). -/
def tellOutcome (x : Slice) (o : Nat) (s : State) : State :=
  match x.kind, x.tag with
  | .directed, _ => formResponse (BitVec.ofNat 256 (pack [(8, 0x60), (4, stOk), (4, o), (16, x.locus.toNat), (192, 0), (32, s.et)])) s
  | .offer, some (c, tag) => completeCmd c tag 0x60 stOk o s
  | _, _ => s

/-- A screen hold goes (R368). -/
def dropHold (l : Loc) (s : State) : State := { s with scr := { s.scr with holds := setDel s.scr.holds l.toNat } }

/-- The spare cluster of a core under a slice is TESTING, and IDLE again once its last slice has ended (R251). -/
def spareTesting (l : Loc) (s : State) : State :=
  match clusterOf l with
  | some c => match s.jrn.spares.find? c, s.scr.slices.any (fun e => clusterOf e.2.locus == some c) with
    | some .idle, true => setSpare c .testing s
    | some .testing, false => setSpare c .idle s
    | _, _ => s
  | none => s

/-- A slice leaves its slot. -/
def dropSlice (key : Nat) (x : Slice) (s : State) : State :=
  spareTesting x.locus { s with scr := { s.scr with slices := s.scr.slices.del key, lastSlice := s.scr.lastSlice.put x.locus.toNat s.et } }

/-- The compare of a confirm has been made, and its finding raised (R378). -/
def Slice.decided (x : Slice) : Bool := x.confirm && x.stage == 2

/-- One slice stopped: neither passed nor failed (R49). A confirm that work pre-empts before its compare is UNSTABLE (R378). -/
def abortSlice (preempt : Bool) (key : Nat) (x : Slice) (s : State) : State :=
  let s := emit (.slice x.locus 6) (dropHold x.locus (dropSlice key x s))
  if x.decided then tellOutcome x x.outcome s
  else
    let s := countSlice x.locus 23 { s with scr := { s.scr with aborts := s.scr.aborts + 1 } }
    if x.confirm && preempt then tellOutcome x 2 (unstable x true s) else tellOutcome x 3 s

/-- Work takes cores from their slices and from confirms that wait (R49, R378). -/
def abortSlices (p : Loc → Bool) (s : State) : State :=
  let s := foldS (s.scr.slices.filter (fun e => p e.2.locus)) (fun e t => abortSlice true e.1 e.2 t) s
  let wait := s.scr.confirms.filter (fun x => p x.locus)
  let s : State := { s with scr := { s.scr with confirms := s.scr.confirms.filter (fun x => !p x.locus) } }
  foldS wait (fun x t => tellOutcome x 2 (unstable x true (dropHold x.locus t))) s

/-- Slices that end for want of their warden (R56). -/
def loseSlices (p : Loc → Bool) (s : State) : State :=
  let s := foldS (s.scr.slices.filter (fun e => p e.2.locus)) (fun e t => abortSlice false e.1 e.2 t) s
  let wait := s.scr.confirms.filter (fun x => p x.locus)
  let s : State := { s with scr := { s.scr with confirms := s.scr.confirms.filter (fun x => !p x.locus) } }
  foldS wait (fun x t => tellOutcome x 3 (dropHold x.locus t)) s

/-- A fence reaches cores under slices: an idle one is stopped, also in its last clear; a directed one, or a confirm whose finding
stands, goes on to step 5 (R50, R377). -/
def fenceSlices (p : Loc → Bool) (s : State) : State :=
  foldS (s.scr.slices.filter (fun e => p e.2.locus && e.2.kind != .directed && !e.2.decided)) (fun e t => abortSlice false e.1 e.2 t) s

end Sys2Proof.Machine
end

