-- ==== Sys2Proof/Machine/Skid.lean ====
section
/-! DEFINITION. The skid: from a fence to the hand-over of its cords (07_journal_and_replay R254–R260, R263). -/
namespace Sys2Proof.Machine

/-- Live cords of a compartment that a fence of a scope moves (R255). -/
def affected (s : State) (c : Nat) (scope : Loc) : List Nat :=
  cordSlots s (fun k => k.comp == c && covers scope k.placed &&
    (k.st == .waiting || k.st == .running || k.st == .replayWait || (k.st == .retired && (k.status == stFenced || k.status == stSuspect))))

/-- The lowest core of a spare that no skid targets and that is in service (R255). -/
def freeCore (s : State) (t : Nat) : Option Nat :=
  (List.range 32).find? (fun u => !unitOut s (coreLoc t u) && !s.jrn.redirs.any (fun r => r.2.1 == coreLoc t u || r.2.1 == clusterLoc t))

/-- The spares in order that are in service, apart from the one on which the fence lies (R255, R263). -/
def sparesFor (s : State) (scope : Loc) : List (Nat × SpareSt) :=
  (spareOrder s).filter (fun e => !fenced s (clusterLoc e.1) && clusterOf scope != some e.1)

/-- The spare of a unit skid: one acting for the compartment with a free core, else the first idle one (R255). -/
def spareForUnit (s : State) (c : Nat) (scope : Loc) : Option Nat :=
  let ok := sparesFor s scope
  match ok.find? (fun e => e.2 == .acting c && (freeCore s e.1).isSome) with
  | some e => some e.1
  | none => (ok.find? (fun e => e.2.free)).map (fun e => e.1)

/-- The spare of a cluster or slab skid: the first idle one, else one acting for the compartment (R255). -/
def spareForCluster (s : State) (c : Nat) (scope : Loc) : Option Nat :=
  let ok := sparesFor s scope
  match ok.find? (fun e => e.2.free) with
  | some e => some e.1
  | none => (ok.find? (fun e => e.2 == .acting c)).map (fun e => e.1)

/-- A scope is that of a medium core. -/
def isCore (l : Loc) : Bool :=
  match named l with
  | .core _ _ => true
  | _ => false

/-- The spare of a skid (R255). -/
def spareFor (s : State) (c : Nat) (scope : Loc) : Option Nat := if isCore scope then spareForUnit s c scope else spareForCluster s c scope

/-- A spare starts to act: slices and twins on it end, an idle one is ordered awake, its tap serves the compartment (R172, R251, R253, R263). -/
def takeSpare (t c : Nat) (s : State) : State :=
  match s.jrn.spares.find? t with
  | some (.acting _) => s
  | _ => wakeSpare t c (setSpare t (.acting c) (fenceTwins (fun l => clusterOf l == some t) (abortSlices (fun l => clusterOf l == some t) s)))

/-- A pair put into a list by its first number. -/
def insertBy (e : Nat × Nat) : List (Nat × Nat) → List (Nat × Nat)
  | [] => [e]
  | x :: l => if e.1 ≤ x.1 then e :: x :: l else x :: insertBy e l

/-- Cache slots in the order of their JSNs (R255, R257). -/
def byJsn (s : State) (slots : List Nat) : List Nat :=
  ((slots.filterMap (fun i => (s.cord i).map (fun k => (k.jsn, i)))).foldr insertBy []).map (fun e => e.2)

/-- The cluster whose memory is lost with a scope (R256). -/
def lostCluster (scope : Loc) : Option Nat :=
  match named scope with
  | .cluster x => some x
  | _ => none

/-- Live cords of a compartment with a buffer in a lost cluster (R256). -/
def usersOf (s : State) (c : Nat) (scope : Loc) : List Nat :=
  match lostCluster scope with
  | some x => cordSlots s (fun k => k.live && k.comp == c && !(bufsIn k.desc x).isEmpty)
  | none => []

/-- Cords that have run and cannot run again are unreplayable at the start of their skid (R249). -/
def dropUnrunnable (trigger : Nat) (slots : List Nat) (s : State) : State :=
  foldS slots (fun i t => match t.cord i with
    | some k => if k.st == .waiting then t else match noReplayCause t k with
      | some cause => unreplayable cause trigger i t
      | none => t
    | none => t) s

/-- No spare is free: the cords stay in STATE SKID, JRN_SPARE_OUT is raised and the record is FENCED (R258). -/
def skidShort (c : Nat) (scope : Loc) (trigger : Nat) (fenceEt : Tick) (again : Bool) (slots : List Nat) (s : State) : State :=
  let entry (i : Nat) : Option (Nat × Loc × Bool) := (s.cord i).map (fun k => (k.jsn, k.placed, k.st != .waiting))
  let q : Skid := ⟨c, scope, none, none, trigger, false, slots.filterMap entry, [], slots.length, 0, fenceEt, true, false⟩
  let head := ((slots.head?.bind (fun i => s.cord i)).map (fun k => k.id)).getD 0
  let s := foldS slots (fun i t => setCordSt i .skid (updCord i (fun k => { k with trigger := trigger }) t)) s
  let s : State := { s with jrn := { s.jrn with skids := s.jrn.skids ++ [q] } }
  if again then s
  else raiseJrn Kind.jrnSpareOut head 0 trigger c (postRecord c 0x05 stFenced 0 (pack [(16, scope.toNat), (16, 0), (32, slots.length), (32, 0)]) s)

/-- CLUSTER is rewritten in every buffer that names a lost cluster; inputs so rewritten hold no data (R256). -/
def rewriteUsers (x t : Nat) (users : List Nat) (s : State) : State :=
  foldS users (fun i u => updCord i (fun k =>
    { k with desc := rewriteDesc x t k.desc, lost := (k.lost ++ (bufsIn k.desc x).filter (fun b => decide (b < 3))).eraseDups }) u) s

/-- The number of buffers that name a lost cluster (R257). -/
def rewriteCount (s : State) (x : Nat) (users : List Nat) : Nat :=
  users.foldl (fun n i => n + (match s.cord i with
    | some k => (bufsIn k.desc x).length
    | none => 0)) 0

/-- Affected cords go to a spare in the order of their JSNs: to the goal itself, to the core of the same number, or to the cores in turn (R255). -/
def moveCords (t : Nat) (goal : Loc) (scope : Loc) (trigger : Nat) (slots : List Nat) (s : State) : State :=
  (slots.foldl (fun (r : Nat × State) i => match r.2.cord i with
    | some k =>
      let target := if isCore scope then goal else coreFor r.2 t r.1 k.placed
      (r.1 + 1, startOn i target (k.st != .waiting && k.st != .replayWait) (updCord i (fun k => { k with trigger := trigger }) r.2))
    | none => r) (0, s)).2

/-- Inputs that lie lost are made again for every cord that will run without a new fault; without one its cord is unreplayable (R256). -/
def regenAll (c : Nat) (first : Option Nat) (trigger : Nat) (s : State) : State :=
  foldS (cordSlots s (fun k => k.live && k.comp == c && !k.lost.isEmpty && (k.st == .skid || k.st == .waiting || k.st == .replayWait)))
    (fun i t => match regen first 4 i t with
      | (true, u) => u
      | (false, u) => unreplayable 4 trigger i u) s

/-- The fence's work of one compartment moves to a spare (R255–R257). -/
def skidTo (t : Nat) (first : Option Nat) (c : Nat) (scope : Loc) (trigger : Nat) (fenceEt : Tick) (again : Bool) (slots users : List Nat) (s : State) : State :=
  let s := takeSpare t c s
  let goal := if isCore scope then coreLoc t ((freeCore s t).getD 0) else clusterLoc t
  let s : State := { s with jrn := { s.jrn with redirs := s.jrn.redirs.filter (fun r => !(r.1 == scope && r.2.2 == c)) ++ [(scope, goal, c)] } }
  let rewrites := match lostCluster scope with
    | some x => rewriteCount s x users
    | none => 0
  let s := match lostCluster scope with
    | some x => rewriteUsers x t users s
    | none => s
  let q : Skid := ⟨c, scope, some t, some goal, trigger, false, [], [], 0, rewrites, fenceEt, again, false⟩
  let s : State := { s with jrn := { s.jrn with skids := s.jrn.skids ++ [q] } }
  regenAll c (first.or (some t)) trigger (moveCords t goal scope trigger slots s)

/-- A fence's work of one compartment moves, or waits for a spare (R254–R258); `again` where it has waited already. -/
def skidPart (scope : Loc) (fenceEt : Tick) (trigger : Nat) (first : Option Nat) (again : Bool) (c : Nat) (s : State) : State :=
  let s := dropUnrunnable trigger (byJsn s (affected s c scope)) s
  let slots := byJsn s (affected s c scope)
  let users := usersOf s c scope
  let chosen := match named scope, first with
    | .slab _, some t => some t
    | _, _ => spareFor s c scope
  if slots.isEmpty && users.isEmpty then s
  else match chosen with
  | some t => skidTo t first c scope trigger fenceEt again slots users s
  | none => skidShort c scope trigger fenceEt again slots s

/-- The parts of a fence that move by themselves: a unit, a cluster, a slab, each cluster of a region and its slab (R255, R257). -/
def skidScopes (scope : Loc) : List Loc :=
  match named scope with
  | .core _ _ | .cluster _ | .slab _ => [scope]
  | .region r => (List.range 8).map (fun k => clusterLoc (8 * r + k)) ++ [slabLoc r]
  | _ => []

/-- The first spare that the skid of a region has taken for a compartment; none for other scopes (R255, R256). -/
def firstSpare (s : State) (c : Nat) (scope : Loc) : Option Nat :=
  match named scope with
  | .region _ => (s.jrn.skids.find? (fun k => k.comp == c && k.spare.isSome && regionOf k.scope == regionOf scope)).bind (fun k => k.spare)
  | _ => none

/-- A skid starts for every compartment with work in the scope (R254, R255); none after PF_WARN (R263). -/
def startSkid (scope : Loc) (s : State) : State :=
  let fenceEt := ((s.jrn.waits.find? (fun w => w.scope == scope)).map (fun w => w.et)).getD s.et
  let trigger := ((s.col.fences.find? (fun f => f.scope == scope)).map (fun f => f.kind)).getD 0
  let s : State := { s with jrn := { s.jrn with waits := s.jrn.waits.filter (fun w => w.scope != scope) } }
  if s.isl.pf then s
  else foldS (List.range 16) (fun c t => if (t.comp c).st = .opened then
      foldS (skidScopes scope) (fun p u => skidPart p fenceEt trigger (firstSpare u c scope) false c u) t
    else t) s

/-- A fence in force will start a skid: at once, or for a unit fence whose cause leads to pinpoint after SKID_WAIT (R254). -/
def waitSkid (scope : Loc) (pinpoint : Bool) (s : State) : State :=
  if (skidScopes scope).isEmpty || s.jrn.waits.any (fun w => w.scope == scope) then s
  else { s with jrn := { s.jrn with waits := s.jrn.waits ++ [⟨scope, s.et, pinpoint⟩] } }

/-- The ET at which a waiting skid starts, by the SKID_WAIT in force (R254, R262). -/
def skidDueEt (s : State) (w : SkidWait) : Tick := w.et + (if w.pinpoint then 400 * skidWait s ((locComp s w.scope).getD 0) else 0)

/-- SKID_START (R254). -/
def doSkidStart (scope : Loc) (s : State) : State :=
  match s.jrn.waits.find? (fun w => w.scope == scope) with
  | some w => if s.et ≥ skidDueEt s w then startSkid scope s else s
  | none => s

/-- SKID_START. -/
def execSkidStart (scope : Loc) (s : State) : Host.Outcome State Fault Refusal := .next (atHub (doSkidStart scope) s)

/-- The skid of a scope whose hand-over has not ended. -/
def skidOf (s : State) (scope : Loc) : Option Skid := s.jrn.skids.find? (fun k => k.scope == scope && k.spare.isSome && (!k.told || !k.queue.isEmpty))

/-- A skid changed. -/
def updSkid (q : Skid) (f : Skid → Skid) (s : State) : State :=
  { s with jrn := { s.jrn with skids := s.jrn.skids.map (fun k => if k = q then f k else k) } }

/-- CORD_HANDOVER (R257): the next cord in JSN order, once the spare is awake and no ring fetch is out. -/
def doCordHandover (scope : Loc) (s : State) : State :=
  match skidOf s scope with
  | none => s
  | some q =>
    if (match q.spare with
      | some t => s.jrn.waking.contains t
      | none => true) || s.jrn.fetches.any (fun f => f.1 == q.comp) then s
    else match q.queue with
      | [] => s
      | (jsn, target, again) :: rest =>
        let s := updSkid q (fun k => { k with queue := rest, pend := k.pend ++ [jsn] }) s
        match findJsn s q.comp jsn with
        | some slot => handOver slot target again s
        | none => s

/-- CORD_HANDOVER. -/
def execCordHandover (scope : Loc) (s : State) : Host.Outcome State Fault Refusal := .next (atHub (doCordHandover scope) s)

/-- SKID (R257): the hand-over ends and the SKID record is posted. -/
def doSkid (scope : Loc) (s : State) : State :=
  match skidOf s scope with
  | none => s
  | some q =>
    if !q.queue.isEmpty then s
    else finishSkids (postRecord q.comp 0x05 stOk 0 (pack [(16, scope.toNat), (16, (q.goal.getD 0).toNat), (32, q.cords), (32, q.rewrites)])
      (updSkid q (fun k => { k with told := true }) s))

/-- SKID. -/
def execSkid (scope : Loc) (s : State) : Host.Outcome State Fault Refusal := .next (atHub (doSkid scope) s)

/-- SPARE_WAKE_DONE (R253, R571): bit k of a region's answer reports its slot k. -/
def doSpareWakeDone (region : Nat) (bits : BitVec 8) (s : State) : State :=
  { s with jrn := { s.jrn with waking := s.jrn.waking.filter (fun c => !(c / 8 == region && bits.getLsbD (c % 8))) } }

/-- SPARE_WAKE_DONE. -/
def execSpareWakeDone (region : Nat) (bits : BitVec 8) (s : State) : Host.Outcome State Fault Refusal := .next (atRegion region (doSpareWakeDone region bits) s)

/-- JRN_SKID_LATE (R258): 2 ms after the fence the hand-over has not ended. -/
def doJrnSkidLate (scope : Loc) (s : State) : State :=
  match skidOf s scope with
  | none => s
  | some q =>
    if q.late || q.queue.isEmpty || s.et < q.fenceEt + 800000 then s
    else
      let cord := (q.queue.head?.bind (fun e => (findJsn s q.comp e.1).bind (fun i => s.cord i))).map (fun k => k.id)
      raiseJrn Kind.jrnSkidLate (cord.getD 0) 0 q.trigger q.comp (updSkid q (fun k => { k with late := true }) s)

/-- JRN_SKID_LATE. -/
def execJrnSkidLate (scope : Loc) (s : State) : Host.Outcome State Fault Refusal := .next (atHub (doJrnSkidLate scope) s)

/-- A settled producer read back from the ring runs again: a new entry with its JSN and one more attempt (R256). -/
def adoptProducer (c : Nat) (img : BitVec 1024) (n : Nat) (first : Option Nat) (s : State) : Option State :=
  let old : BitVec 768 := BitVec.ofNat 768 (fld img 0 768)
  let d := rewriteAll s c old
  match Tbl.free s.jrn.cords 32768 with
  | none => none
  | some slot =>
    let lost := [0, 1, 2].filter (fun i => (descBuf d i).cluster != (descBuf old i).cluster)
    let dep (lo : Nat) : Option Nat := if fld img lo 32 = 0xFFFFFFFF then none else some (fld img lo 32)
    let k : Cord := ⟨d, fld img 768 32, .retired, fld img 804 4, [], false, [], false, false, false, BitVec.ofNat 16 (fld img 816 16), 0,
      dep 864, dep 896, 0, none, [], none, true, 0, 0, false, lost, false, 0⟩
    let s : State := { s with jrn := { s.jrn with cords := s.jrn.cords.put slot k } }
    let (ok, s) := regen first n slot s
    if ok then some (startOn slot (regenTarget s first k) true s) else none

/-- RING_FETCH (R245, R256): a descriptor comes back; where it is not the one sought or not regenerable the consumer is unreplayable. -/
def doRingFetch (tag : Nat) (bytes : BitVec 1024) (s : State) : State :=
  match s.cmd.xfers.find? (fun x => x.tag == tag) with
  | none => s
  | some x => match x.use with
    | .ringFetch c jsn =>
      let s : State := { s with cmd := { s.cmd with xfers := s.cmd.xfers.filter (fun y => y.tag != tag) } }
      let mine := s.jrn.fetches.filter (fun f => f.1 == c && f.2.1 == jsn)
      let s : State := { s with jrn := { s.jrn with fetches := s.jrn.fetches.filter (fun f => !(f.1 == c && f.2.1 == jsn)) } }
      let good := fld bytes 768 32 == jsn && fld bytes 800 4 == 6 && bitAt bytes 48 && bitAt bytes 53 && !bitAt bytes 814
      let depth := (mine.map (fun f => f.2.2.2)).foldl max 0
      let first := ((mine.head?.bind (fun f => findJsn s c f.2.2.1)).bind (fun i => s.cord i)).bind lostSpare
      let s' := if good && (findJsn s c jsn).isNone then adoptProducer c bytes depth first s else none
      foldS mine (fun f t => match findJsn t c f.2.2.1 with
        | none => t
        | some i => match t.cord i with
          | none => t
          | some k =>
            let made (b : Nat) : Bool := s'.isSome && overlaps (descBuf (rewriteAll t c (BitVec.ofNat 768 (fld bytes 0 768))) 3) (k.buf b)
            let left := k.lost.filter (fun b => !made b)
            let t := updCord i (fun k => { k with lost := left, depHeld := heldDep t k }) t
            if !left.isEmpty && !t.jrn.fetches.any (fun g => g.1 == c && g.2.2.1 == k.jsn) then unreplayable 4 k.trigger i t else t) (s'.getD s)
    | _ => s

/-- RING_FETCH. -/
def execRingFetch (tag : Nat) (bytes : BitVec 1024) (s : State) : Host.Outcome State Fault Refusal := .next (atHub (doRingFetch tag bytes) s)

/-- Skids and replays that found no spare take the first that is free (R246, R258). -/
def retrySkids (s : State) : State :=
  foldS (s.jrn.skids.filter (fun k => k.spare.isNone && k.goal.isNone)) (fun q t =>
    if s.isl.pf || (spareFor t q.comp q.scope).isNone then t
    else
      let t : State := { t with jrn := { t.jrn with skids := t.jrn.skids.erase q } }
      let t := foldS q.queue (fun e u => match findJsn u q.comp e.1 with
        | some i => setCordSt i (if e.2.2 then .running else .waiting) u
        | none => u) t
      skidPart q.scope q.fenceEt q.trigger none true q.comp t) s

/-- A compartment's stop ends its skids: cords in STATE SKID complete FENCED (R263). -/
def endSkids (c : Nat) (s : State) : State :=
  let s := foldS (cordSlots s (fun k => k.comp == c && k.st == .skid)) endFenced s
  sparesIdle { s with jrn := { s.jrn with skids := s.jrn.skids.filter (fun k => k.comp != c), fetches := s.jrn.fetches.filter (fun f => f.1 != c) } }

/-- A fence on a scope is lifted: its redirections end (R259). -/
def endRedirs (scope : Loc) (s : State) : State :=
  sparesIdle { s with jrn := { s.jrn with redirs := s.jrn.redirs.filter (fun r => !covers scope r.1), waits := s.jrn.waits.filter (fun w => !covers scope w.scope) } }

/-- CORD_SETTLE: a spare that it frees takes what waits for one (R242, R258). -/
def execCordSettle (slot : Nat) (s : State) : Host.Outcome State Fault Refusal := .next (atHub (fun s => retrySkids (doCordSettle slot s)) s)

end Sys2Proof.Machine
end

