-- ==== Sys2Proof/Machine/Observe.lean ====
section
/-! DEFINITION. Counters, tallies and the trace (14_observation). -/
namespace Sys2Proof.Machine

def fTallyMs : RF := ⟨0x1C00, 0, 16, 0⟩
def fHangMs : RF := ⟨0x1C00, 16, 16, 0⟩
def fLock : RF := ⟨0x1C00, 32, 7, 0⟩
def fObsSpace : RF := ⟨0x1C08, 0, 2, 0⟩
def fObsSlot : RF := ⟨0x1C08, 2, 3, 0⟩
def fObsIndex : RF := ⟨0x1C08, 8, 14, 0⟩
def fObsDone : RF := ⟨0x1C08, 25, 1, 0⟩
def fObsErr : RF := ⟨0x1C08, 26, 2, 0⟩
def fSelEvent : RF := ⟨0x1C10, 0, 5, 0⟩
def fSelCore : RF := ⟨0x1C10, 5, 6, 0x3F⟩
def fSelKind : RF := ⟨0x1C10, 12, 12, 0⟩
def fObsData : RF := ⟨0x1C18, 0, 64, 0⟩
def fJObsIndex : RF := ⟨0x100, 8, 14, 0⟩
def fJObsDone : RF := ⟨0x100, 25, 1, 0⟩
def fJObsErr : RF := ⟨0x100, 26, 2, 0⟩
def fJObsData : RF := ⟨0x108, 0, 64, 0⟩

/-- The site of a counter: taps 0–143, wardens 144–159, memory taps 160–167; none: the hub (R441). -/
def ctrSite (i : Nat) : Option Nat :=
  if i < 8192 then some (i / 64)
  else if i < 8704 then some (if (i - 8192) % 32 < 16 then 144 + (i - 8192) / 32 else 128 + (i - 8192) / 32)
  else if i < 8960 then none
  else some (160 + (i - 8960) / 16)

/-- A site that does not answer (R57, R454). -/
def siteMissing (s : State) (i : Nat) : Bool :=
  match ctrSite i with
  | some p => s.col.tapsMissing.contains p || (144 ≤ p && s.col.wardensMissing.contains (p - 144))
  | none => false

/-- A counter's entry (R456). -/
def ctrEntry (c : Ctr) (boundary valid : Bool) : Nat :=
  if valid then pack [(48, c.value), (1, b2n boundary), (1, b2n c.overflow), (1, 1)] else 0

/-- A sample of a counter (R450). -/
def sampleOf (s : State) (i : Nat) (boundary : Bool) : Nat := ctrEntry (s.obs.ctrs.get i Ctr.zero) boundary true

/-- Fields of M_OBS_SEL that suit counter i: EVENT and CORE for a programmable counter, KIND for a kind counter (R470; log entry 8). -/
def selSuits (i event core kind : Nat) : Bool :=
  if i < 8192 && decide (i % 64 ≥ 32) then decide (event ≤ 27) && (decide (core ≤ 31) || core == 0x3F) && kind == 0
  else if 8904 ≤ i && i < 8960 then event == 0 && core == 0x3F
  else false

/-- SETSEL: a new command, counting from zero (R450). -/
def setSel (i event core kind : Nat) (s : State) : State :=
  let s := resetCtr i s
  if i < 8192 then { s with obs := { s.obs with sel := s.obs.sel.put i (event, core) } }
  else { s with obs := { s.obs with kinds := s.obs.kinds.putD i kind 0 } }

/-- Counter i as a tally holds it, and whether T fell in its boundary cycle (R456). -/
def TallySlot.at (t : TallySlot) (i : Nat) : Ctr × Bool :=
  match t.bounds.find? i with
  | some c => (c, true)
  | none => (t.entries.get i Ctr.zero, false)

/-- The entry of counter i in a stored tally (R455, R456). -/
def slotEntry (t : TallySlot) (i : Nat) : Nat :=
  ctrEntry (t.at i).1 (t.at i).2 (match ctrSite i with
    | some p => !t.missing.contains p
    | none => true)

/-- The command that a write of M_OBS_PTR gives: SAMPLE, RESET and SETSEL together make the boundary sample (R450, R470). -/
def obsCommand (sample reset setsel : Bool) (s : State) : State :=
  let i := s.rf fObsIndex
  let s := (s.setRf fObsDone 1).setRf fObsErr 0
  match s.rf fObsSpace with
  | 0 =>
    if i > 9087 then s.setRf fObsErr 2
    else if siteMissing s i then s.setRf fObsErr 3
    else if setsel && !selSuits i (s.rf fSelEvent) (s.rf fSelCore) (s.rf fSelKind) then s.setRf fObsErr 2
    else
      let s := whenS sample (fun t => t.setRf fObsData (sampleOf t i (reset || setsel))) s
      let s := whenS reset (resetCtr i) s
      whenS setsel (setSel i (s.rf fSelEvent) (s.rf fSelCore) (s.rf fSelKind)) s
  | 1 =>
    match s.obs.slots.find? (s.rf fObsSlot) with
    | some t => if sample && decide (i ≤ 9087) then s.setRf fObsData (slotEntry t i) else s.setRf fObsErr 2
    | none => s.setRf fObsErr 2
  | 2 => if sample && decide (i < 384) then s.setRf fObsData (bankRead s 41 (8 * i) 8) else s.setRf fObsErr 2
  | _ => s.setRf fObsErr 2

/-- OBS_SAMPLE (R450). -/
def execObsSample (s : State) : Host.Outcome State Fault Refusal := .next (hubReg (obsCommand true false false) s)
/-- OBS_RESET (R450). -/
def execObsReset (s : State) : Host.Outcome State Fault Refusal := .next (hubReg (obsCommand false true false) s)
/-- OBS_SETSEL (R450). -/
def execObsSetsel (s : State) : Host.Outcome State Fault Refusal := .next (hubReg (obsCommand false false true) s)

/-- The boundary sample that a compartment gets of a counter taken from it in this tick (R452). -/
def lastOwned (s : State) (c i : Nat) : Option Ctr :=
  match s.obs.bounds.find? i with
  | some b => if b.et = s.et ∧ b.owner = some c ∧ ctrComp s i ≠ some c then some b.last else none
  | none => none

/-- J_OBS_SAMPLE (R451, R452): only a J-scope counter of the compartment; any other index is DENIED and is a refused crossing. -/
def doJObsSample (c index : Nat) (s : State) : State :=
  let s := ((s.setJf c fJObsIndex index).setJf c fJObsDone 1).setJf c fJObsErr 0
  if index ≤ 9087 && (lastOwned s c index).isSome && !siteMissing s index then
    s.setJf c fJObsData (ctrEntry ((lastOwned s c index).getD Ctr.zero) true true)
  else if index > 9087 || ctrComp s index != some c then refuseCrossing 0x00C4 false (hubLoc uCounter) (s.setJf c fJObsErr 1)
  else if siteMissing s index then s.setJf c fJObsErr 3
  else s.setJf c fJObsData (sampleOf s index false)

/-- J_OBS_SAMPLE. -/
def execJObsSample (c index : Nat) (s : State) : Host.Outcome State Fault Refusal := .next (atHub (doJObsSample c index) s)

/-- An order for tick T: 0 means 200 ticks from now. The tick it gets, or none where it is LATE against the ticks ordered or
taken (R454, R464). -/
def orderTick (et : Tick) (ticks : List Tick) (t : Nat) : Option Tick :=
  let tt := if t = 0 then et + 200 else t
  if tt < et + 200 then none
  else if ticks.any (fun f => f != tt && decide (f ≤ tt + 1600) && decide (tt ≤ f + 1600)) then none
  else some tt

/-- Freeze ticks ordered or taken, of tallies and censuses (R454, R464). -/
def freezeTicks (s : State) : List Tick := s.obs.orders.map (fun o => o.t) ++ s.obs.census.map (fun o => o.t) ++ s.obs.taken

/-- A freeze tick has been taken; those long past are forgotten. -/
def tookTick (t : Tick) (s : State) : State :=
  { s with obs := { s.obs with taken := (s.obs.taken.filter (fun f => decide (s.et ≤ f + 3200))) ++ [t] } }

/-- A tally ordered; false where it completes LATE (R454). -/
def orderTally (t cause : Nat) (comp : Option (Nat × Option Nat)) (s : State) : Bool × State :=
  match orderTick s.et (freezeTicks s) t with
  | none => (false, s)
  | some tt =>
    let bit := match comp with
      | some (c, _) => 2 ^ c
      | none => 0
    let tags := comp.toList
    let join (o : TallyOrder) : TallyOrder := { o with comps := o.comps ||| bit, tags := o.tags ++ tags }
    if s.obs.orders.any (fun o => o.t == tt)
    then (true, { s with obs := { s.obs with orders := s.obs.orders.map (fun o => if o.t == tt then join o else o) } })
    else (true, { s with obs := { s.obs with orders := s.obs.orders ++ [⟨tt, cause, bit, tags⟩] } })

/-- PERIODIC_TALLY (R453). -/
def doPeriodicTally (s : State) : State :=
  let ms := s.rf fTallyMs
  if ms = 0 || s.et < s.obs.lastPeriodic + ms * 400000 then s
  else (orderTally 0 1 none { s with obs := { s.obs with lastPeriodic := s.et } }).2

/-- PERIODIC_TALLY. -/
def execPeriodicTally (s : State) : Host.Outcome State Fault Refusal := .next (atHub doPeriodicTally s)

/-- The shadows at this tick: every counter, the final values of boundary cycles, and whose each tap is (R453, R456, R457). -/
def shadowOf (o : TallyOrder) (s : State) : Shadow :=
  ⟨o, s.obs.ctrs, (s.obs.bounds.filter (fun e => e.2.et == o.t)).map (fun e => (e.1, e.2.last)), (List.range 144).map (tapComp s), s.obs.sel⟩

/-- TALLY_FREEZE (R453): at tick T every counter is copied into its shadow; counting goes on. -/
def doTallyFreeze (s : State) : State :=
  match s.obs.orders.find? (fun o => decide (o.t ≤ s.et)) with
  | some o => tookTick o.t { s with obs := { s.obs with orders := s.obs.orders.erase o, shadow := s.obs.shadow ++ [shadowOf o s] } }
  | none => s

/-- TALLY_FREEZE. -/
def execTallyFreeze (s : State) : Host.Outcome State Fault Refusal := .next (atHub doTallyFreeze s)

/-- The next slot in rotation whose LOCK bit is 0 (R455). -/
def freeTally (s : State) : Option Nat :=
  ((List.range 7).map (fun k => (s.obs.nextSlot + k) % 7)).find? (fun k => nfld (s.rf fLock) k 1 == 0)

/-- A tally's slot header, with COMPS as given (R455). -/
def tallyHeader (t : TallySlot) (comps n : Nat) : List Byte :=
  toBytes 32 (pack [(32, t.id), (2, t.cause), (6, 0), (16, comps), (8, 0), (64, t.et), (64, t.drainEt), (16, n)])

/-- The J-scope counters that belonged to compartment c at T and are VALID in the tally, in rising INDEX (R457). -/
def viewIndices (sh : Shadow) (c : Nat) (t : TallySlot) : List Nat :=
  (List.range 9088).filter (fun i => ctrOwner (fun k => (sh.owners[k]?).getD none) sh.sel i == some c && (match ctrSite i with
    | some p => !t.missing.contains p
    | none => true))

/-- Entries with VALID = 0 in a tally (R455). -/
def missingEntries (sites : List Nat) : Nat :=
  ((List.range 9088).filter (fun i => match ctrSite i with
    | some p => sites.contains p
    | none => false)).length

/-- The compartment view written to its buffer (R457). -/
def writeView (sh : Shadow) (t : TallySlot) (quotaHit : Bool) (who : Nat × Option Nat) (s : State) : State :=
  let c := who.1
  let (addr, len) := s.obs.tallyBuf.get c (0, 0)
  let all := viewIndices sh c t
  let fit := if len < 32 then [] else all.take ((len - 32) / 8)
  let entry (i : Nat) : List Byte :=
    let (k, b) := t.at i
    toBytes 8 (pack [(48, k.value), (14, i), (1, b2n b), (1, b2n k.overflow)])
  let bytes := (tallyHeader t (2 ^ c) (missingEntries t.missing)) ++ fit.flatMap entry
  let bytes := bytes ++ List.replicate ((32 - bytes.length % 32) % 32) 0
  let q := quotaHit || decide (fit.length < all.length)
  if len < 32 then
    match who.2 with
    | some tag => completeCmd c tag 0x51 stQuota (pack [(32, all.length), (32, 0)]) s
    | none => s
  else streamWrite c addr bytes (.view c who.2 all.length fit.length q) s

/-- TALLY_DRAIN (R454, R455, R457, R469): sites named missing, and parts known to be missing, have not reported when the 4 µs ended. -/
def doTallyDrain (late : List Nat) (s : State) : State :=
  match s.obs.shadow with
  | [] => s
  | sh :: rest =>
    let missing := (late ++ s.col.tapsMissing ++ s.col.wardensMissing.map (fun r => 144 + r)).eraseDups
    if !missing.isEmpty && decide (s.et < sh.order.t + 1600) then s
    else
      let n := missingEntries missing
      let slot : TallySlot := ⟨s.obs.tallyId, sh.order.cause, sh.order.comps, sh.order.t, s.et, missing, sh.ctrs, sh.bounds⟩
      let s := { s with obs := { s.obs with shadow := rest } }
      let s := whenS (decide (n > 0)) (raiseHub uCounter Kind.obsTallyMissing (hubLoc uCounter) 0) s
      match freeTally s with
      | some k =>
        let s := { s with obs := { s.obs with slots := s.obs.slots.put k slot, tallyId := (s.obs.tallyId + 1) % 2 ^ 32, nextSlot := (k + 1) % 7 } }
        foldS sh.order.tags (writeView sh slot false) s
      | none =>
        foldS sh.order.tags (writeView sh slot true) (raiseHub uCounter Kind.obsTallyQuota (hubLoc uCounter) 0 s)

/-- TALLY_DRAIN. -/
def execTallyDrain (missing : List Nat) (s : State) : Host.Outcome State Fault Refusal := .next (atHub (doTallyDrain missing) s)

/-- A trace changed. -/
def setTrace (c : Nat) (t : Trace) (s : State) : State := { s with obs := { s.obs with traces := s.obs.traces.put c t } }

/-- ET of a trace record (R460). -/
def recEt (r : W256) : Nat := fld r 64 64

/-- n records lost: counted for the next GAP, from the ET of the first to that of the last (R461). -/
def Trace.loseRange (t : Trace) (n first last : Nat) : Trace :=
  { t with lost := min (t.lost + n) (2 ^ 32 - 1), lostFirst := if t.lost = 0 then first else t.lostFirst, lostLast := last }

/-- Records lost. -/
def Trace.lose (t : Trace) (rs : List W256) : Trace :=
  match rs with
  | [] => t
  | r :: _ => t.loseRange rs.length (recEt r) (recEt (rs.getLast?.getD r))

/-- Staged records dropped and counted lost (R463). -/
def dropTrace (c : Nat) (s : State) : State :=
  let t := s.trace c
  setTrace c (Trace.lose { t with staged := [] } (t.staged.map (fun e => e.2))) s

/-- TRACE_DRAIN (R461): up to 4 staged records in one write; fewer 2 µs after the oldest was staged; while the ring is full
they wait, and while the die is stopped or PF_WARN is asserted (R463). -/
def doTraceDrain (c : Nat) (s : State) : State :=
  let t := s.trace c
  let busy := s.cmd.xfers.any (fun x => match x.use with
    | .trace d _ _ _ => d == c
    | _ => false) || s.cmd.xwait.any (fun x => match x.1.use with
    | .trace d _ _ _ => d == c
    | _ => false)
  let room := 2 ^ t.log2 - (t.tail + 2 ^ 32 - t.head) % 2 ^ 32
  let k := min (min 4 t.staged.length) (min room (128 - t.tail % 128))
  match t.staged with
  | [] => s
  | (at_, _) :: _ =>
    if busy || t.log2 = 0 || k = 0 || s.isl.pf || s.cmd.dieStop || (decide (t.staged.length < 4) && decide (s.et < at_ + 800)) then s
    else
      let recs := (t.staged.take k).map (fun e => e.2)
      let s := setTrace c { t with staged := t.staged.drop k } s
      streamWrite c (t.base + 32 * (t.tail % 2 ^ t.log2)) (recs.flatMap (fun r => toBytes 32 r.toNat)) (.trace c k (recEt (recs.headD 0)) (recEt (recs.getLastD 0))) s

/-- TRACE_DRAIN. -/
def execTraceDrain (c : Nat) (s : State) : Host.Outcome State Fault Refusal := .next (atHub (doTraceDrain c) s)

/-- TRACE_HEAD_WRITE (R459): a HEAD after TAIL, or more than the ring before it, is ignored. -/
def doTraceHeadWrite (c : Nat) (v : BitVec 32) (s : State) : State :=
  let t := s.trace c
  if (t.tail + 2 ^ 32 - v.toNat) % 2 ^ 32 ≤ 2 ^ t.log2 then setTrace c { t with head := v.toNat } s else s

/-- TRACE_HEAD_WRITE. -/
def execTraceHeadWrite (c : Nat) (value : BitVec 32) (s : State) : Host.Outcome State Fault Refusal := .next (atHub (doTraceHeadWrite c value) s)

/-- A trace-setup record applied; INVALID where it is out of range (R458, R463). -/
def traceSetup (c : Nat) (r : W128) (s : State) : Nat × State :=
  let log2 := fld r 64 5
  if fld r 0 12 != 0 || (1 ≤ log2 && log2 ≤ 6) || log2 > 24 || fld r 69 3 != 0 || fld r 88 40 != 0 then (stInvalid, s)
  else
    let t := s.trace c
    let t := Trace.lose { t with staged := [] } (t.staged.map (fun e => e.2))
    (stOk, setTrace c { t with base := fld r 0 64, log2 := log2, classes := fld r 72 16, head := 0, tail := 0 } s)

end Sys2Proof.Machine
end

