-- ==== Sys2Proof/Machine/Time.lean ====
section
/-! DEFINITION. Clock ratios, ET copies, alignment, drift, slew and matched peers (09_clocks_and_time R310–R330). -/
namespace Sys2Proof.Machine

def fRatioRefused : RF := ⟨0x0C00, 32, 16, 0⟩
def fTimeRefused : RF := ⟨0x0C10, 8, 1, 0⟩
def fOffset : RF := ⟨0x0C10, 16, 16, 0⟩
def fEtHi : RF := ⟨0x0C1C, 0, 32, 0⟩

/-- Values of QUALITY (R329). -/
abbrev qFree : Nat := 0
abbrev qAligning : Nat := 1
abbrev qLocked : Nat := 2
abbrev qDrift : Nat := 3
abbrev qLost : Nat := 4
abbrev qMatched : Nat := 5

/-- The die counts the ET of an anchored system (R322, R327). -/
def anchored (s : State) : Bool := s.rf fTimeMode == 1 && (s.rf fQuality == qLocked || s.rf fQuality == qDrift)

/-! ### Ratios (R311, R312) -/

/-- The first multiple of 64 at or after a tick. -/
def next64 (t : Tick) : Tick := (t + 63) / 64 * 64

/-- A write of M_CLK_RATIO.DIV4, region by region (R311, R312). -/
def writeRatio (value : Nat) (s : State) : State :=
  foldS (List.range 16) (fun r t =>
    let want := value.testBit r
    match t.tim.switches.find? r with
    | some (at_, _) =>
      if want = t.div4 r then { t with tim := { t.tim with switches := t.tim.switches.del r } }
      else { t with tim := { t.tim with switches := t.tim.switches.put r (at_, want) } }
    | none =>
      if want = t.div4 r then t
      else if t.col.wardensMissing.contains r || fenced t (wardenLoc r) then t.setRf fRatioRefused (t.rf fRatioRefused ||| 2 ^ r)
      else { t with tim := { t.tim with switches := t.tim.switches.put r (next64 (t.et + 256), want) } }) s

/-- A write of M_CLK_RATIO: DIV4, and REFUSED bits cleared by writing 1 (R329). -/
def doClkRatioWrite (v : W64) (s : State) : State :=
  writeRatio (fld v 0 16) (s.setRf fRatioRefused (s.rf fRatioRefused - (s.rf fRatioRefused &&& fld v 32 16)))

/-- CLK_RATIO_WRITE. -/
def execClkRatioWrite (value : W64) (s : State) : Host.Outcome State Fault Refusal := .next (hubReg (doClkRatioWrite value) s)

/-- RATIO_SWITCH (R311, R446). -/
def doRatioSwitch (r : Nat) (s : State) : State :=
  match s.tim.switches.find? r with
  | some (t, d) =>
    if s.et < t then s
    else
      let v := s.rf fDiv4
      let s := s.setRf fDiv4 (if d then v ||| 2 ^ r else v - (v &&& 2 ^ r))
      countWarden r 15 { s with tim := { s.tim with switches := s.tim.switches.del r, switched := s.tim.switched.put r s.et } }
  | none => s

/-- RATIO_SWITCH. -/
def execRatioSwitch (r : Nat) (s : State) : Host.Outcome State Fault Refusal := .next (atHub (doRatioSwitch r) s)

/-! ### ET copies and neighbours (R315, R316) -/

/-- A beacon loads a part's copy with ET (R316). -/
def loadCopy (part : Nat) (s : State) : State :=
  { s with tim := { s.tim with copies := s.tim.copies.del part, beacons := s.tim.beacons.put part s.et } }

/-- LOAD_BEACON (R316): the part's link delay, measured by an echo, is kept; the beacon is compensated for it, and the copy loads ET. -/
def execLoadBeacon (part delay : Nat) (s : State) : Host.Outcome State Fault Refusal :=
  .next (atHub (fun s => loadCopy part { s with tim := { s.tim with delays := s.tim.delays.put part delay } }) s)

/-- CLK_ET_SLIP raised by a part against itself (R316, R330). -/
def raiseSlip (part : Nat) (s : State) : State :=
  if part < 144 then raiseTap part Kind.clkEtSlip false (tapPartLoc part) 0 (countWarden (if part ≥ 128 then part - 128 else part / 8) 12 s)
  else if part < 160 then raiseWarden (part - 144) Kind.clkEtSlip (wardenLoc (part - 144)) 0 s
  else if part < 168 then raiseMem (part - 160) Kind.clkEtSlip (memTapLoc (part - 160)) 0 s
  else if part < 176 then raiseHcore (part - 168) Kind.clkEtSlip (unitLoc (part - 168) 3 51) 0 s
  else if part = 176 then raiseHub uFabric Kind.clkEtSlip (hubLoc uFabric) 0 s
  else raiseHub uStream Kind.clkEtSlip (hubLoc uStream) 0 s

/-- A tap whose region switches its ratio in this tick (R312). -/
def switching (s : State) (part : Nat) : Bool :=
  let r := if part ≥ 128 then part - 128 else part / 8
  decide (part < 144) && ((s.tim.switches.find? r).any (fun e => e.1 == s.et) || s.tim.switched.find? r == some s.et)

/-- CHECK_BEACON (R312, R316): every 65,536 ticks a part's copy, which has slipped by so many ticks since, is compared with ET; off by more
than one tick it reloads and reports. A tap skips the check in its region's switch tick. -/
def doCheckBeacon (part : Nat) (slip : Int) (s : State) : State :=
  let d := Tbl.get s.tim.copies part 0 + slip
  let s : State := { s with tim := { s.tim with copies := s.tim.copies.putD part d 0 } }
  if s.et < Tbl.get s.tim.beacons part 0 + 65536 then s
  else
    let s : State := { s with tim := { s.tim with beacons := s.tim.beacons.put part s.et } }
    if switching s part || decide (d ≤ 1 ∧ -1 ≤ d) then s else raiseSlip part (loadCopy part s)

/-- CHECK_BEACON. -/
def execCheckBeacon (part : Nat) (slip : Int) (s : State) : Host.Outcome State Fault Refusal := .next (atHub (doCheckBeacon part slip) s)

/-- Regions that share an edge with region r in the 4 × 4 grid (R314). -/
def neighbours (r : Nat) : List Nat :=
  (if r ≥ 4 then [r - 4] else []) ++ (if r < 12 then [r + 4] else []) ++ (if r % 4 ≠ 0 then [r - 1] else []) ++ (if r % 4 ≠ 3 then [r + 1] else [])

/-- The last diode reading of a region, in 1/16 °C. -/
def diodeOf (s : State) (r : Nat) : Option Int := (Tbl.get s.thm.diodes r []).head?

/-- The VDD_CORE sense reading of a region in mV, while its rail answers (R411, R412). -/
def senseOf (s : State) (r : Nat) : Option Nat := match s.thm.rails.find? r with
  | some x => if x.valid then some x.vout else none
  | none => none

/-- One comparison counted: at the third consecutive breach the kind is raised with the neighbour and the difference (R315). -/
def spreadStep (r n which : Nat) (breach : Bool) (diff : Nat) (s : State) : State :=
  let key := 32 * r + 2 * n + which
  let k := if breach then Tbl.get s.tim.spread key 0 + 1 else 0
  let s : State := { s with tim := { s.tim with spread := s.tim.spread.putD key k 0 } }
  whenS (k == 3) (raiseWarden r (if which = 0 then Kind.clkTspread else Kind.clkVspread) (regionLoc r) (detail (n + 2 ^ 32 * diff) none none)) s

/-- NEIGHBOUR_COMPARE (R315): the warden of the hotter region, or of the lower supply, counts breaches of 35 °C and 60 mV. -/
def doNeighbourCompare (r : Nat) (s : State) : State :=
  foldS (neighbours r) (fun n t =>
    let t := match diodeOf t r, diodeOf t n with
      | some a, some b => spreadStep r n 0 (decide (a > b + 560)) ((a - b).toNat / 16) t
      | _, _ => t
    match senseOf t r, senseOf t n with
    | some a, some b => spreadStep r n 1 (decide (b > a + 60)) (b - a) t
    | _, _ => t) s

/-- NEIGHBOUR_COMPARE. -/
def execNeighbourCompare (r : Nat) (s : State) : Host.Outcome State Fault Refusal := .next (atHub (doNeighbourCompare r) s)

/-! ### Exchanges (R323) -/

/-- A time payload (R323). -/
def timeMsg (typ seq depth ta tb : Nat) : Nat := pack [(4, typ), (4, 0), (8, seq), (5, depth), (11, 0), (48, ta), (48, tb)]

/-- Fine time now: FCLK phase 0 of the tick (R323). -/
def State.ft (s : State) : Nat := 6 * s.et

/-- A T_REQ sent, T1 kept (R323). -/
def sendReq (peer : Nat) (s : State) : State :=
  let q := s.tim.seq
  let s : State := { s with tim := { s.tim with seq := (q + 1) % 256, reqs := s.tim.reqs ++ [(peer, q, s.ft)] } }
  sendPlain none vcTime peer 1 (timeMsg 1 q 0 0 0) s

/-- T_ANNOUNCE multicast to CHILDREN, with the sender's ET (R323, R324). -/
def sendAnnounce (s : State) : State :=
  let g := s.rf fChildren
  if g = 0 then s
  else multiPlain none vcTime g 1 (pack [(4, 3), (4, 0), (8, 0), (5, s.rf fDepth), (11, 0), (64, s.et), (32, 0)]) s

/-- CLK_PARENT_LOST against the parent at system level (R327, R330). -/
def raiseParentLost (s : State) : State := raiseFabric Kind.clkParentLost systemLoc (detail 0 (some (s.rf fParent)) none) s

/-- A signed 48-bit difference (R324). -/
def diff48 (a b : Nat) : Int := sint 48 (a % 2 ^ 48 + 2 ^ 48 - b % 2 ^ 48)

/-- The n exchanges with the smallest delay (R324, R326). -/
def bestOf (n : Nat) (l : List (Int × Int)) : List (Int × Int) :=
  let ins (acc : List (Int × Int)) (e : Int × Int) : List (Int × Int) :=
    acc.filter (fun x => decide (x.2 ≤ e.2)) ++ [e] ++ acc.filter (fun x => decide (x.2 > e.2))
  (l.foldl ins []).take n

/-- The mean offset of exchanges in whole RCLK, 2 per FCLK (R324). -/
def meanRclk (l : List (Int × Int)) : Int :=
  let n : Int := l.length
  (2 * 2 * l.foldl (fun a e => a + e.1) 0 + n).fdiv (2 * n)

/-- M_TIME_STATUS.OFFSET: signed, saturating (R329). -/
def setOffset (v : Int) (s : State) : State :=
  let v := max (-32767) (min 32767 v)
  s.setRf fOffset (v.emod 65536).toNat

/-- The alignment's step is fixed: whole ticks and remainder, at a multiple of 64 at least 4,000 ticks ahead (R324 steps 4 and 5). -/
def fixStep (a : Align) (s : State) : State :=
  let m := meanRclk (bestOf 16 a.exch)
  let s := setOffset m s
  { s with tim := { s.tim with align := some { a with step := some (next64 (s.et + 4000), m.fdiv 12, (m.emod 12).toNat) } } }

/-- A drift check's 8 exchanges are in: DRIFT and CLK_ANCHOR_DRIFT beyond 1 tick, LOCKED within it (R326). -/
def endDrift (s : State) : State :=
  let best := bestOf 4 s.tim.drift
  let sum : Int := best.foldl (fun a e => a + e.1) 0
  let s := setOffset (meanRclk best) { s with tim := { s.tim with drift := [] } }
  if sum.natAbs > 24 then
    (if s.rf fQuality == qLocked then raiseHub uFabric Kind.clkAnchorDrift dieLoc 0 (s.setRf fQuality qDrift) else s)
  else if s.rf fQuality == qDrift then s.setRf fQuality qLocked else s

/-- A TIME record in every compartment whose TIME class is enabled (R328, R460). -/
def traceTime (peer t1 t2 t3 t4 : Nat) (s : State) : State :=
  foldS (List.range 16) (fun c t => trace c 6 1 peer (pack [(32, t1), (32, t2), (32, t3), (32, t4)]) t) s

/-- A matched peer's exchange is kept and the fit made again (R328). -/
def matchExch (peer t4 : Nat) (offset : Int) (s : State) : State :=
  { s with tim := { s.tim with peers := s.tim.peers.mapV (fun _ m =>
    if m.valid && m.peer == peer then
      let l := ((t4, offset) :: m.exch).take 8
      { m with exch := l, offset := Config.fitOffset l, rate := Config.fitRate l, newest := some s.et, staleTold := false }
    else m) } }

/-- T_RESP (R323, R324): the exchange it closes enters the alignment, the drift check or the match table. -/
def doTResp (t4 : Nat) (s : State) : State :=
  withMsg vcTime 2 (fun m t =>
    let q := fld m.payload 8 8
    match t.tim.reqs.find? (fun r => r.1 == m.src && r.2.1 == q) with
    | none => t
    | some (_, _, t1) =>
      let t : State := { t with tim := { t.tim with reqs := t.tim.reqs.filter (fun r => !(r.1 == m.src && r.2.1 == q)) } }
      let t2 := fld m.payload 32 48
      let t3 := fld m.payload 80 48
      let offset := (diff48 t2 t1 - diff48 t4 t3).fdiv 2
      let delay := (diff48 t4 t1 - diff48 t3 t2).fdiv 2
      let t := matchExch m.src t4 offset (traceTime m.src t1 t2 t3 t4 t)
      if m.src ≠ t.rf fParent then t
      else match t.tim.align with
        | some a =>
          if a.step.isSome then t
          else
            let a := { a with exch := a.exch ++ [(offset, delay)] }
            let t : State := { t with tim := { t.tim with align := some a, failed := 0 } }
            if a.exch.length ≥ t.rf fExch then fixStep a t else sendReq m.src t
        | none =>
          if t.rf fTimeMode ≠ 1 then t
          else
            let t : State := { t with tim := { t.tim with drift := t.tim.drift ++ [(offset, delay)], failed := 0 } }
            if t.tim.drift.length ≥ 8 then endDrift t else t) s

/-- T_RESP. -/
def execTResp (t4 : Nat) (s : State) : Host.Outcome State Fault Refusal := .next (atHub (doTResp t4) s)

/-- T_REQ (R323): answered in every state from SELFTEST to DRAIN. -/
def doTReq (s : State) : State :=
  withMsg vcTime 1 (fun m t =>
    if t.isl.st == .selftest || t.inLoaded then sendPlain none vcTime m.src 1 (timeMsg 2 (fld m.payload 8 8) 0 t.ft t.ft) t else t) s

/-- T_REQ. -/
def execTReq (s : State) : Host.Outcome State Fault Refusal := .next (atHub doTReq s)

/-! ### Anchored alignment (R324–R327) -/

/-- An aligning die that has heard PARENT starts its exchanges (R324 steps 2 and 3). -/
def startExch (s : State) : State :=
  match s.tim.align with
  | some a =>
    if a.going || !s.tim.heard.has (s.rf fParent) then s
    else sendReq (s.rf fParent) { s with tim := { s.tim with align := some { a with going := true } } }
  | none => s

/-- ALIGN (R324): the write of ALIGN = 1. -/
def doAlign (s : State) : State :=
  if !(s.isl.st == .selftest || s.isl.st == .loaded) then s.setRf fTimeRefused 1
  else if s.rf fTimeMode ≠ 1 then s
  else if s.rf fRoot = 1 then sendAnnounce ((s.setRf fQuality qLocked).setRf fDepth 0)
  else
    let prev := s.rf fQuality
    startExch (State.setRf { s with tim := { s.tim with align := some ⟨prev, false, [], none⟩ } } fQuality qAligning)

/-- ALIGN. -/
def execAlign (s : State) : Host.Outcome State Fault Refusal := .next (hubReg doAlign s)

/-- T_ANNOUNCE (R324, R327): kept for the die that names its sender as PARENT, now or by the time it aligns. -/
def doTAnnounce (s : State) : State :=
  withMsg vcTime 3 (fun m t =>
    if fld m.payload 16 5 ≥ 16 then (if t.rf fTimeMode = 1 ∧ m.src = t.rf fParent then raiseParentLost t else t)
    else startExch { t with tim := { t.tim with heard := t.tim.heard.put m.src (fld m.payload 16 5) } }) s

/-- T_ANNOUNCE. -/
def execTAnnounce (s : State) : Host.Outcome State Fault Refusal := .next (atHub doTAnnounce s)

/-- ET_STEP (R324 steps 5 and 6, R321, R327). -/
def doEtStep (s : State) : State :=
  match s.tim.align with
  | some a => match a.step with
    | some (t, whole, rem) =>
      if s.et < t then s
      else
        let old := s.et
        let new := ((old : Int) + whole).toNat
        let depth := Tbl.get s.tim.heard (s.rf fParent) 0 + 1
        let shift := (s.tim.shift + rem) % 12
        let s : State := { s with tim := { s.tim with et := new, copies := [], align := none, shift := shift } }
        let move (e : EscEntry) : EscEntry := if e.inbound && e.st == .opened then { e with deadline := s.backEt e.origin + nfld (policy s 1 e.comp) 16 16 } else e
        let s : State := { s with esc := { s.esc with entries := s.esc.entries.mapV (fun _ e => move e) } }
        let s := emit (.shift shift) (recEvent Kind.recEtStep 0 (pack [(64, old), (64, new)]) 0 s)
        sendAnnounce ((s.setRf fQuality qLocked).setRf fDepth depth)
    | none => s
  | none => s

/-- ET_STEP. -/
def execEtStep (s : State) : Host.Outcome State Fault Refusal := .next (atHub doEtStep s)

/-- PF_WARN abandons an alignment whose step is not fixed (R327). -/
def abandonAlign (s : State) : State :=
  match s.tim.align with
  | some a => if a.step.isSome then s else { s with tim := { s.tim with align := none } }.setRf fQuality a.prevQuality
  | none => s

/-- DRIFT_EXCHANGE (R326, R327): 8 exchanges with PARENT; those of the last round that got no answer have failed. -/
def doDriftExchange (s : State) : State :=
  let p := s.rf fParent
  if !(s.rf fTimeMode == 1 && s.rf fRoot == 0 && (s.rf fQuality == qLocked || s.rf fQuality == qDrift) && s.inLoaded) then s
  else
    let lost := (s.tim.reqs.filter (fun r => r.1 == p)).length
    let failed := s.tim.failed + lost
    let s := whenS (decide (s.tim.failed < 8 ∧ failed ≥ 8)) raiseParentLost s
    let s : State := { s with tim := { s.tim with failed := failed, drift := [], reqs := s.tim.reqs.filter (fun r => r.1 != p) } }
    foldS (List.range 8) (fun _ t => sendReq p t) s

/-- DRIFT_EXCHANGE. -/
def execDriftExchange (s : State) : Host.Outcome State Fault Refusal := .next (atHub doDriftExchange s)

/-- PLL_UNLOCK (R327). -/
def execPllUnlock (s : State) : Host.Outcome State Fault Refusal :=
  .next (let s : State := { s with isl := { s.isl with pllLock := false } }
    whenS s.hubUp (raiseIsland Kind.clkPllUnlock dieLoc 0) s)

/-- REF_LOST (R327): on an anchored die QUALITY becomes LOST. -/
def execRefLost (s : State) : Host.Outcome State Fault Refusal :=
  .next (let s : State := { s with isl := { s.isl with refLost := true } }
    whenS (s.hubUp && s.rf fTimeMode == 1) (fun t => raiseIsland Kind.clkAnchorLost dieLoc 0 (t.setRf fQuality qLost)) s)

/-! ### Slew (R320, R326) -/

/-- ET_SLEW: a write of M_ET_SLEW; a value outside −1,024 to 1,024 is ignored (R329). -/
def doEtSlew (v : W64) (s : State) : State :=
  let n := sint 12 (fld v 0 12)
  if n > 1024 || n < -1024 then s
  else { s with tim := { s.tim with slewLeft := n, slewNext := s.et + 1024 } }

/-- ET_SLEW. -/
def execEtSlew (value : W64) (s : State) : Host.Outcome State Fault Refusal := .next (hubReg (doEtSlew value) s)

/-- SLEW_TICK (R320, R326): at a correction tick ET advances by 2 or by 0. -/
def doSlewTick (s : State) : State :=
  if s.tim.slewLeft = 0 ∨ s.et < s.tim.slewNext then s
  else if s.tim.slewLeft > 0 then { s with tim := { s.tim with et := s.et + 2, slewLeft := s.tim.slewLeft - 1, slewNext := s.tim.slewNext + 1024 } }
  else { s with tim := { s.tim with slewLeft := s.tim.slewLeft + 1, slewNext := s.tim.slewNext + 1024 } }

/-- SLEW_TICK. -/
def execSlewTick (s : State) : Host.Outcome State Fault Refusal := .next (atHub doSlewTick s)

/-! ### Matched alignment (R328) -/

/-- A match entry is fresh: its newest exchange is at most 100 ms old. -/
def matchFresh (s : State) (m : Match) : Bool :=
  match m.newest with
  | some t => m.valid && decide (s.et ≤ t + 40000000)
  | none => false

/-- MATCH_EXCHANGE: a request to a valid peer. -/
def execMatchExchange (entry : Nat) (s : State) : Host.Outcome State Fault Refusal :=
  .next (atHub (fun s => match s.tim.peers.find? entry with
    | some m => if m.valid && s.rf fTimeMode == 2 && s.inLoaded then sendReq m.peer s else s
    | none => s) s)

/-- CLK_MATCH_STALE: an entry not fresh for 1 s. -/
def doClkMatchStale (entry : Nat) (s : State) : State :=
  match s.tim.peers.find? entry with
  | some m =>
    if m.valid && !m.staleTold && s.rf fTimeMode == 2 && (match m.newest with
      | some t => decide (s.et ≥ t + 440000000)
      | none => decide (s.et ≥ 440000000)) then
      raiseFabric Kind.clkMatchStale systemLoc (detail 0 (some m.peer) none) { s with tim := { s.tim with peers := s.tim.peers.put entry { m with staleTold := true } } }
    else s
  | none => s

/-- CLK_MATCH_STALE. -/
def execClkMatchStale (entry : Nat) (s : State) : Host.Outcome State Fault Refusal := .next (atHub (doClkMatchStale entry) s)

/-- The match entry of a peer. -/
def matchOf (s : State) (peer : Nat) : Option Match := (List.find? (fun (e : Nat × Match) => e.2.valid && e.2.peer == peer) s.tim.peers).map (fun e => e.2)

/-- A peer's ET as local ET through a fresh match entry (R328). -/
def fromPeer (s : State) (peer : Nat) (t : Tick) : Option Tick :=
  match matchOf s peer with
  | some m =>
    if !matchFresh s m then none
    else
      let near : Int := 6 * (t : Int) - m.offset
      let since : Int := near - 6 * ((m.newest.getD 0 : Nat) : Int)
      some ((near - (m.rate * since).fdiv 1000000000 + 3).fdiv 6).toNat
  | none => none

/-- The upper half of ET latched for a J-page window, or for the M-page (R329). -/
def latchEt (c : Option Nat) (s : State) : State :=
  match c with
  | some c => { s with tim := { s.tim with jEtHi := s.tim.jEtHi.putD c (s.et / 2 ^ 32) 0 } }
  | none => s.setRf fEtHi (s.et / 2 ^ 32)

/-- ET_LO_READ (R329): a read of the low half latches the upper half. -/
def execEtLoRead (job : Bool) (c : Nat) (s : State) : Host.Outcome State Fault Refusal :=
  .next (if job then whenS s.hubUp (latchEt (some c)) s else hubReg (latchEt none) s)

end Sys2Proof.Machine
end

