-- ==== Sys2Proof/Machine/Stop.lean ====
section
/-! DEFINITION. The consistent stop (10_latches_and_stop R352–R363). -/
namespace Sys2Proof.Machine

/-- Stop policy (R361). -/
def cutWaitMs (s : State) : Nat := nfld (policy s 5 0) 0 16
def maxLeadMs (s : State) : Nat := nfld (policy s 5 0) 16 16

/-- RESULT of a multicast command: failed branches, MORE, the first six die indices (R340, R544). -/
def failedResult (l : List Nat) : Nat :=
  pack [(16, l.length), (1, b2n (decide (l.length > 6))), (15, 0), (96, (l.take 6).foldr (fun d v => d + 65536 * v) 0)]

/-- A STOP_ORDER of this die for its compartment c waits in the intake. -/
def orderWaits (s : State) (c : Nat) : Bool :=
  s.fab.intake.any (fun m => m.cls == vcStop && fld m.payload 0 4 == 1 && m.src == s.die && groupComp s m.group == some c)

/-- A multicast command completes once every branch is settled and, for STOP, the die's own stop is written (R340, R359). -/
def settleMcast (c tag : Nat) (s : State) : State :=
  match s.fab.mcasts.find? (fun m => m.comp == c && m.tag == tag) with
  | none => s
  | some m =>
    let busy := m.stop && (match s.fab.stops.find? c with
      | some p => p.issuer && p.tag == tag && !p.written
      | none => orderWaits s c)
    if m.left ≠ 0 || busy then s
    else
      let s : State := { s with fab := { s.fab with mcasts := s.fab.mcasts.erase m } }
      completeCmd c tag m.opcode (if m.opcode = 0x10 ∧ !m.failed.isEmpty then stSuspect else m.status) (if m.opcode = 0x10 then 0 else failedResult m.failed) s

/-- A command's multicast changed, then settled if it can be. -/
def updMcast (c tag : Nat) (f : Mcast → Mcast) (s : State) : State :=
  let l := s.fab.mcasts.map (fun m => if m.comp = c ∧ m.tag = tag then f m else m)
  settleMcast c tag { s with fab := { s.fab with mcasts := l } }

/-! ### Arming and the stop tick (R355, R356) -/

/-- The freeze of a stop with TALLY is ordered for its tick (R356, R455). -/
def stopTally (c : Nat) (t : Tick) (s : State) : State :=
  { s with obs := { s.obs with orders := s.obs.orders ++ [⟨t, 3, 2 ^ c, [(c, none)]⟩] } }

/-- A stop armed for a compartment (R355). -/
def armStop (c : Nat) (m : VcsMsg) (s : State) : State :=
  let t := fld m.payload 64 64
  let own := m.src == s.die
  let (t', late) := if s.rf fTimeMode = 2 ∧ !own then (match fromPeer s m.src t with
      | some x => (x, decide (s.et ≥ x))
      | none => (s.et, true))
    else (t, decide (s.et ≥ t))
  let tag := match s.fab.mcasts.find? (fun x => x.comp == c && x.opcode == 0x41) with
    | some x => x.tag
    | none => 0
  let tally := bitAt m.payload 12
  let at_ := if late then s.et else t'
  let p : Stop := {
    stopId := fld m.payload 16 16, t := t', issuer := own, tag := tag, home := fld m.payload 32 16, latch := fld m.payload 128 32,
    homeComp := fld m.payload 8 4, tally := tally, lateJoin := late, etStop := if late then some s.et else none, etQuiet := none, etCut := none,
    marksLeft := 0, arrived := false, done := false, fault := false, recanted := false, captures := [], captured := 0, held := 0,
    resume := none, written := false, incomplete := false }
  whenS tally (stopTally c at_) { s with fab := { s.fab with stops := s.fab.stops.put c p, targets := s.fab.targets.keep (fun k _ => nfld k 17 4 != c) } }

/-- An order that arms nothing here: where it is this die's own, its command no longer waits for a stop of its own. -/
def orderDropped (c status : Nat) (m : VcsMsg) (s : State) : State :=
  if m.src = s.die then
    foldS (s.fab.mcasts.filter (fun x => x.comp == c && x.opcode == 0x41 && x.stop)) (fun x t => updMcast c x.tag (fun y => { y with stop := false, status := status }) t) s
  else s

/-- STOP_ORDER (R355, R363). -/
def doStopOrder (s : State) : State :=
  withMsg vcStop 1 (fun m t =>
    match groupComp t m.group with
    | none => t
    | some c =>
      if (t.comp c).st = .closed || t.isl.pf then orderDropped c stSuspect m t
      else if t.fab.stops.has c then orderDropped c stInvalid m (countHub 195 1 { t with fab := { t.fab with stopDiscards := t.fab.stopDiscards + 1 } })
      else armStop c m t) s

/-- STOP_ORDER. -/
def execStopOrder (s : State) : Host.Outcome State Fault Refusal := .next (atHub doStopOrder s)

/-- STOP_TICK (R356). -/
def doStopTick (c : Nat) (s : State) : State :=
  updStop c (fun p => if p.etStop.isNone && decide (s.et ≥ p.t) then { p with etStop := some p.t } else p) s

/-- STOP_TICK. -/
def execStopTick (c : Nat) (s : State) : Host.Outcome State Fault Refusal := .next (atHub (doStopTick c) s)

/-! ### Quiet and marks (R357) -/

/-- A tile of a compartment is still under check at some tap. -/
def tilesOpen (s : State) (c : Nat) : Bool := s.taps.any (fun e => e.2.tags.any (fun x => fld x.2.ticket 16 4 == c))

/-- A granted send of a compartment has not left (R357). -/
def sendsOut (s : State) (c : Nat) : Bool := s.esc.sends.any (fun e => e.2.comp == c && e.2.granted)

/-- The die arrives at the stop latch once every mark is delivered (R357); not while the die is stopped (R363). -/
def stopArrive (c : Nat) (s : State) : State :=
  match s.fab.stops.find? c with
  | some p =>
    if p.etQuiet.isSome && p.marksLeft == 0 && !p.arrived && !s.cmd.dieStop then
      sendPlain (some c) vcLatch p.home 1 (lop 4 8 p.homeComp 0 p.home p.latch 1 0 0).toNat (updStop c (fun p => { p with arrived := true }) s)
    else s
  | none => s

/-- One STOP_MARK for a key (R357, R358). -/
def sendMark (c stopId key count : Nat) (s : State) : State :=
  let grp := key % 2 == 1
  let dest := key / 2 % 65536
  let b := mkBranch vcStop dest 0 1 (pack [(4, 2), (4, 0), (4, 0), (1, 0), (1, b2n grp), (2, 0), (16, stopId), (16, dest), (16, 0), (64, count)]) (.mark c)
  if grp then
    let (m, s) := sendMulti none { b with group := dest } s
    updStop c (fun p => { p with marksLeft := p.marksLeft + m.out.length + m.failed.length + b2n m.undefined }) s
  else
    let (r, s) := issueBranch none b s
    updStop c (fun p => { p with marksLeft := p.marksLeft + b2n (r != .here) }) s

/-- STOP_QUIET (R357, R363). -/
def doStopQuiet (c : Nat) (s : State) : State :=
  match s.fab.stops.find? c with
  | none => s
  | some p =>
    if p.etStop.isNone || p.etQuiet.isSome || s.cmd.dieStop || (!p.fault && (tilesOpen s c || sendsOut s c)) then s
    else
      let s := updStop c (fun p => { p with etQuiet := some s.et }) s
      let keys := s.fab.granted.filter (fun e => e.1 / 131072 == c && e.2 != Tbl.get s.fab.marked e.1 0)
      let s := foldS keys (fun e t => sendMark c p.stopId e.1 e.2 { t with fab := { t.fab with marked := t.fab.marked.put e.1 e.2 } }) s
      stopArrive c s

/-- STOP_QUIET. -/
def execStopQuiet (c : Nat) (s : State) : Host.Outcome State Fault Refusal := .next (atHub (doStopQuiet c) s)

/-- STOP_MARK (R359): the landed-count target of a source and key; a mark of a stop not armed here yet waits in the intake. -/
def doStopMark (s : State) : State :=
  match s.fab.intake.findSome? (fun m => if m.cls == vcStop && fld m.payload 0 4 == 2 then
      (List.find? (fun (e : Nat × Stop) => e.2.stopId == fld m.payload 16 16) s.fab.stops).map (fun e => (m, e.1)) else none) with
  | none => s
  | some (m, c) =>
    let key := 2 ^ 24 * m.src + 2 * (65536 * c + fld m.payload 32 16) + fld m.payload 13 1
    dropMsg m { s with fab := { s.fab with targets := s.fab.targets.put key (fld m.payload 64 32) } }

/-- STOP_MARK. -/
def execStopMark (s : State) : Host.Outcome State Fault Refusal := .next (atHub doStopMark s)

/-! ### The cut (R359, R360) -/

/-- Source and key pairs of a compartment whose landed count has not reached its target. -/
def shortKeys (s : State) (c : Nat) : Nat :=
  s.fab.targets.count (fun k v => nfld k 17 4 == c && !serialLe v (Tbl.get s.fab.landed k 0))

/-- The cut record's header (R360). -/
def cutHeader (s : State) (c : Nat) (p : Stop) (overflow : Bool) : BitVec 512 :=
  BitVec.ofNat 512 (pack [(16, p.stopId), (4, c), (1, b2n p.lateJoin), (1, b2n p.incomplete), (1, b2n p.recanted), (1, b2n overflow),
    (1, b2n p.fault), (7, 0), (16, s.die), (16, 0), (64, p.t), (64, p.etStop.getD 0), (64, p.etQuiet.getD 0), (64, p.etCut.getD 0),
    (32, p.captured), (32, p.held), (32, (cordSlots s (fun k => k.live && k.comp == c)).length), (32, shortKeys s c),
    (64, if p.tally then p.etStop.getD 0 else 0)])

/-- The cut record is written: STOP_DONE is posted, and the issuer's command completes (R359). -/
def finishCut (c status : Nat) (s : State) : State :=
  let s := updStop c (fun p => { p with written := true }) s
  match s.fab.stops.find? c with
  | none => s
  | some p =>
    let s := postRecord c 0x0A status 0 (pack [(16, p.stopId), (1, b2n p.lateJoin), (1, b2n p.incomplete), (14, 0), (32, p.captured), (32, p.held)]) s
    if p.issuer then updMcast c p.tag (fun m => { m with status := status }) s else s

/-- The cut record leaves for its buffer; without one only the header is kept (R353, R359). -/
def writeCut (c : Nat) (incomplete : Bool) (status : Nat) (s : State) : State :=
  let inc := incomplete || s.fab.acctLost.contains c
  let s := updStop c (fun p => { p with incomplete := inc, etCut := some s.et }) s
  match s.fab.stops.find? c with
  | none => s
  | some p =>
    let (addr, len) := Tbl.get s.fab.cutBuf c (0, 0)
    let room := (len - 64) / 32
    let hdr := cutHeader s c p (decide (len ≠ 0 ∧ p.captures.length > room))
    let bytes := ((toBytes 64 hdr.toNat) ++ (p.captures.take room).flatMap (fun e => toBytes 32 e.toNat)).take len
    let s : State := { s with fab := { s.fab with cutHdr := s.fab.cutHdr.put c hdr } }
    if len = 0 then finishCut c status s else streamWrite c addr bytes (.cut c status) s

/-- CUT_COMPLETE (R359). -/
def doCutComplete (c : Nat) (s : State) : State :=
  match s.fab.stops.find? c with
  | some p => if p.done && p.etCut.isNone && shortKeys s c == 0 then writeCut c false stOk s else s
  | none => s

/-- CUT_COMPLETE. -/
def execCutComplete (c : Nat) (s : State) : Host.Outcome State Fault Refusal := .next (atHub (doCutComplete c) s)

/-- STOP_INCOMPLETE (R359): ET_STOP + CUT_WAIT_MS with the capture incomplete. -/
def doStopIncomplete (c : Nat) (s : State) : State :=
  match s.fab.stops.find? c with
  | some p => match p.etStop with
    | some t =>
      if p.etCut.isSome || s.et < t + 400000 * cutWaitMs s then s
      else raiseHub uFabric Kind.stopIncomplete dieLoc (detail p.stopId none (some c)) (writeCut c true stSuspect s)
    | none => s
  | none => s

/-- STOP_INCOMPLETE. -/
def execStopIncomplete (c : Nat) (s : State) : Host.Outcome State Fault Refusal := .next (atHub (doStopIncomplete c) s)

/-- A send that lands at or after ET_STOP is captured (R359). -/
def captureSend (c src key : Nat) (grp prov : Bool) (slot len sendId srcComp : Nat) (s : State) : State :=
  updStop c (fun p =>
    if (p.etStop.isSome || decide (s.et ≥ p.t)) && p.etCut.isNone then
      let e : W256 := BitVec.ofNat 256 (pack [(64, s.et), (16, src), (16, key), (1, b2n grp), (1, b2n prov), (14, 0), (16, slot), (32, len),
        (16, if prov then sendId else 0), (16, 0), (4, srcComp)])
      { p with captures := p.captures ++ [e], captured := p.captured + 1 }
    else p) s

/-! ### Resume (R362) -/

/-- RESUME_RECEIVED (R362): a capture still open ends incomplete. -/
def doResumeReceived (s : State) : State :=
  withMsg vcStop 3 (fun m t =>
    match groupComp t m.group with
    | none => t
    | some c => match t.fab.stops.find? c with
      | some p =>
        if p.stopId ≠ fld m.payload 16 16 then t
        else
          let at_ := if t.rf fTimeMode = 2 ∧ m.src ≠ t.die then (fromPeer t m.src (fld m.payload 64 64)).getD t.et else fld m.payload 64 64
          updStop c (fun p => { p with resume := some at_ }) (whenS p.etCut.isNone (writeCut c true stSuspect) t)
      | none => t) s

/-- RESUME_RECEIVED. -/
def execResumeReceived (s : State) : Host.Outcome State Fault Refusal := .next (atHub doResumeReceived s)

/-- RESUME_RELEASE (R362): once the record is written, gates open and held sends are granted. -/
def doResumeRelease (c : Nat) (s : State) : State :=
  match s.fab.stops.find? c with
  | some p => match p.resume with
    | some t =>
      if s.et < t || !p.written then s
      else
        let s : State := { s with fab := { s.fab with stops := s.fab.stops.del c } }
        let keys := (s.esc.sends.filter (fun e => e.2.comp == c && !e.2.granted)).map (fun e => e.1)
        foldS keys grantSend s
    | none => s
  | none => s

/-- RESUME_RELEASE. -/
def execResumeRelease (c : Nat) (s : State) : Host.Outcome State Fault Refusal := .next (atHub (doResumeRelease c) s)

end Sys2Proof.Machine
end

