-- ==== Sys2Proof/Machine/ClosingRecord.lean ====
section
/-! DEFINITION. Closing packs, and the closing record in the cellar (11_in_field_screening R386–R391). -/
namespace Sys2Proof.Machine

def fIdleEn : RF := ⟨0x0D00, 0, 1, 1⟩
def fQuickEn : RF := ⟨0x0D00, 1, 1, 1⟩
def fTrustH : RF := ⟨0x0D00, 8, 8, 72⟩
def fTrustTemp : RF := ⟨0x0D00, 16, 8, 95⟩
def fIdleUs : RF := ⟨0x0D00, 32, 16, 20⟩
def fPeriodH : RF := ⟨0x0D00, 48, 16, 24⟩
def fTapRefused : RF := ⟨0x0D10, 1, 1, 0⟩

/-- The built-in pack of a target: PACK_ID the TARGET code, PACK_VER 1 (R386). -/
def builtinPack (target : Nat) : Pack :=
  ⟨target, 1, target, true, true, false, Config.builtinMasks target,
    (List.range (Config.builtinSegs target)).map (fun k =>
      let g := Config.builtinSegment target k
      ⟨fld g 0 64, fld g 64 32, fld g 96 4, fld g 100 4, fld g 112 16, Config.builtinExpect target k⟩)⟩

/-- A pack by slot: 0–7 loaded, 8 + TARGET built in. -/
def packAt (s : State) (slot : Nat) : Option Pack := if slot < 8 then s.scr.packs.find? slot else some (builtinPack (slot - 8))

/-- The slot of a target's closing pack: the CLOSING-flagged pack loaded last, else the built-in one (R386). -/
def closingSlot (s : State) (target : Nat) : Nat :=
  (s.scr.packOrder.reverse.find? (fun k => (Tbl.find? s.scr.packs k).any (fun p => p.target == target && p.closing))).getD (8 + target)

/-- A target's closing pack. -/
def closingPack (s : State) (target : Nat) : Pack := (packAt s (closingSlot s target)).getD (builtinPack target)

abbrev closingMagic : Nat := 0x44534C43

/-- Every tap, medium core, section and host-class core, by locus (R387). -/
def screenItems : List Loc :=
  (List.range 144).map tapPartLoc ++ (List.range 4096).map (fun i => coreLoc (i / 32) (i % 32))
    ++ (List.range 256).map (fun i => sectionLoc (i / 16) (i % 16)) ++ (List.range 8).map hcoreLoc

/-- Bits of loci passed in the current screen. -/
def passBits (s : State) (n : Nat) (loc : Nat → Loc) : Nat :=
  ((List.range n).filter (fun i => s.scr.screenPass.contains (loc i).toNat)).foldl (fun v i => v + 2 ^ i) 0

/-- A diode reading at or below TRUST_TEMP. -/
def tempTrusted (s : State) (t : Int) : Bool := decide (t ≤ 16 * (s.rf fTrustTemp : Int))

/-- STATE of the record of the current screen: 3 VOID after an excursion, 1 SCREENED, 2 PARTIAL (R388, R389). -/
def closingState (s : State) : Nat :=
  if !tempTrusted s s.scr.maxTemp then 3
  else if screenItems.all (fun l => felled s l || s.scr.screenPass.contains l.toNat) then 1 else 2

/-- The bytes of the record between DIE_ID and CHECK (R388). -/
def closingImage (s : State) : Nat :=
  pack [(4, closingState s), (12, 0), (16, s.scr.screenFell), (32, s.col.fellGen),
    (256, pack ([1, 2, 3, 4].map (fun t => (64, (closingPack s t).packId + 2 ^ 32 * (closingPack s t).ver)))),
    (32, s.isl.boots), (8, (s.scr.maxTemp / 16).toNat), (24, 0), (64, s.isl.sec), (64, s.isl.wall),
    (32, (s.scr.screenStop - s.scr.screenStart) / 400), (96, 0),
    (4096, passBits s 4096 (fun i => coreLoc (i / 32) (i % 32))), (256, passBits s 256 (fun i => sectionLoc (i / 16) (i % 16))),
    (8, passBits s 8 hcoreLoc), (56, 0), (128, passBits s 128 tapPartLoc), (16, passBits s 16 (fun r => tapPartLoc (128 + r)))]

/-- The record cannot be written: ST_RECORD (R390). -/
def recordFailed (s : State) : State := raiseHub uRecorder Kind.stRecord (hubLoc uRecorder) 0 s

/-- The closing record written (R388, R390). -/
def writeClosing (s : State) : State :=
  if s.recd.cellarAbsent then recordFailed { s with scr := { s.scr with recordOwed := true } }
  else
    let s := twoCopyWrite 0x1800 0x1C00 1024 closingMagic (closingImage s) s
    { s with scr := { s.scr with recordOwed := false } }

/-- Bytes 16–1015 of the correct copy with the higher GEN (R391). -/
def closingRecord (s : State) : Option Nat :=
  (bestCopy s 0x1800 0x1C00 1024 closingMagic).map (fun c => ofBytes (cellarBytes s (c.1 + 16) 1000))

/-- The record written anew with STATE VOID; EXC_PENDING goes once it is written (R389–R391). -/
def voidRecord (s : State) : State :=
  if s.recd.cellarAbsent then recordFailed s
  else
    let v := (closingRecord s).getD 0
    let s := twoCopyWrite 0x1800 0x1C00 1024 closingMagic (nset v 0 4 3) s
    { s with isl := { s.isl with excPending := false } }

/-- The age of a record in seconds, where it has one (R391). -/
def recordAge (s : State) (v : Nat) : Option Nat :=
  if nfld v 320 32 == s.isl.boots % 2 ^ 32 then some (s.isl.sec - nfld v 384 64)
  else if s.isl.wall ≠ 0 ∧ nfld v 448 64 ≠ 0 then some (s.isl.wall - nfld v 448 64) else none

/-- The record is trusted, with its age in seconds (R391). -/
def trustRecord (s : State) : Option Nat :=
  match closingRecord s with
  | none => none
  | some v =>
    let packs := [1, 2, 3, 4].all (fun t => nfld v (64 * t) 64 == (closingPack s t).packId + 2 ^ 32 * (closingPack s t).ver)
    if s.rf fQuickEn == 1 && s.rf fTrustH != 0 && !s.isl.excPending && nfld v 0 4 == 1 && decide (nfld v 352 8 ≤ s.rf fTrustTemp)
        && nfld v 32 32 == s.col.fellGen && packs
    then match recordAge s v with
      | some a => if a ≤ 3600 * s.rf fTrustH then some a else none
      | none => none
    else none

/-- A diode reading above TRUST_TEMP while a closing screen runs or after it (R389). -/
def excursionReading (t : Int) (s : State) : State := whenS (s.isl.st == .sealed && !tempTrusted s t) voidRecord s

end Sys2Proof.Machine
end

