-- ==== Sys2Proof/Machine/Thermal.lean ====
section
/-! DEFINITION. Sensors, thermal states and pause counts, canaries and regulator telemetry (12_thermal_and_margin R397–R415,
18_boundary_signals R585). -/
namespace Sys2Proof.Machine

/-! ### Registers (R415) -/

def fWarn : RF := ⟨0x1000, 0, 8, 95⟩
def fThrottle : RF := ⟨0x1000, 8, 8, 105⟩
def fTrip : RF := ⟨0x1000, 16, 8, 115⟩
def fDieTrip : RF := ⟨0x1000, 24, 8, 120⟩
def fHyst : RF := ⟨0x1000, 32, 4, 3⟩
def fThrN : RF := ⟨0x1000, 36, 4, 4⟩
def fThrStep : RF := ⟨0x1000, 40, 4, 2⟩
def fThrMax : RF := ⟨0x1000, 44, 4, 12⟩
def fRise : RF := ⟨0x1000, 48, 9, 50⟩
def fPaced : RF := ⟨0x1000, 57, 1, 0⟩
def fThermRefused : RF := ⟨0x1000, 58, 1, 0⟩
def fGuard : RF := ⟨0x1000, 59, 4, 10⟩
def fMWarn : RF := ⟨0x1008, 0, 4, 4⟩
def fMDroop : RF := ⟨0x1008, 4, 4, 2⟩
def fDroopN : RF := ⟨0x1008, 8, 4, 8⟩
def fDroopHold : RF := ⟨0x1008, 12, 12, 20⟩
def fMarginRefused : RF := ⟨0x1008, 24, 1, 0⟩
def fFloor (r : Nat) : RF := ⟨0x1100 + 8 * r, 20, 4, 0⟩

/-- A threshold in 1/16 °C. -/
def State.deg (s : State) (f : RF) : Int := 16 * (s.rf f : Int)

/-! ### Sensors by index (R397) -/

/-- The region of a sensor or canary index: 0–127 taps, 128 + 4r + k wardens. -/
def senseRegion (i : Nat) : Nat := if i < 128 then i / 8 else (i - 128) / 4
/-- The locus of a ring-oscillator sensor, and of a canary. -/
def sensorLoc (i : Nat) : Loc := if i < 128 then coreLoc i 34 else unitLoc ((i - 128) / 4) 1 (52 + (i - 128) % 4)
def canaryLoc (i : Nat) : Loc := if i < 128 then coreLoc i 35 else unitLoc ((i - 128) / 4) 1 (56 + (i - 128) % 4)
/-- The warden sensors of a region. -/
def wardenSensors (r : Nat) : List Nat := (List.range 4).map (fun k => 128 + 4 * r + k)

def State.ro (s : State) (i : Nat) : RoSensor := Tbl.get s.thm.ro i RoSensor.reset
def updRo (i : Nat) (f : RoSensor → RoSensor) (s : State) : State := { s with thm := { s.thm with ro := s.thm.ro.upd i RoSensor.reset f } }
/-- A thermal scope: cluster 0–127, region 128 + r. -/
def State.scope (s : State) (k : Nat) : ThScope := Tbl.get s.thm.scopes k ThScope.reset
def updScope (k : Nat) (f : ThScope → ThScope) (s : State) : State := { s with thm := { s.thm with scopes := s.thm.scopes.upd k ThScope.reset f } }
def State.canary (s : State) (i : Nat) : Canary := Tbl.get s.thm.canaries i Canary.reset
def updCanary (i : Nat) (f : Canary → Canary) (s : State) : State := { s with thm := { s.thm with canaries := s.thm.canaries.upd i Canary.reset f } }
def State.rail (s : State) (n : Nat) : Rail := Tbl.get s.thm.rails n Rail.reset
def updRail (n : Nat) (f : Rail → Rail) (s : State) : State := { s with thm := { s.thm with rails := s.thm.rails.upd n Rail.reset f } }

/-- The region's warden is missing: the hub reads its tap sensors and canaries (R413). -/
def wardenGone (s : State) (r : Nat) : Bool := s.col.wardensMissing.contains r

/-- A finding of a region's sensors is raised by its warden, or by the hub in its place (R272, R413). -/
def raiseSense (r kind : Nat) (l : Loc) (d : Nat) (s : State) : State :=
  if wardenGone s r then raiseHub uCollector kind l d s else raiseWarden r kind l d s

/-! ### Gates (R52, R404, R409) -/

/-- A canary's droop count is in force. -/
def droops (s : State) (i : Nat) : Bool := (s.canary i).droop.isSome

/-- A droop count acts on a tap's gates: its own canary's, or one of the region's warden canaries' (R409). -/
def droopOn (s : State) (tap : Nat) : Bool :=
  let r := if tap ≥ 128 then tap - 128 else tap / 8
  (decide (tap < 128) && droops s tap) || (wardenSensors r).any (droops s)

/-- The thermal count of a tap's gates: the larger of the cluster's n, the region's n and FLOOR (R404). -/
def thermalCount (s : State) (tap : Nat) : Nat :=
  let r := if tap ≥ 128 then tap - 128 else tap / 8
  max (max (if tap < 128 then (s.scope tap).n else 0) (s.scope (128 + r)).n) (s.rf (fFloor r))

/-- The count a tap's gates apply: the largest of every source (R52, R56, R404, R409). -/
def gateCount (s : State) (tap : Nat) : Nat :=
  let r := if tap ≥ 128 then tap - 128 else tap / 8
  max (max (thermalCount s tap) (if droopOn s tap then s.rf fDroopN else 0)) (if wardenGone s r then 4 else 0)

/-- A change of a region's sources, with a PAUSE trace record for each cluster whose count it changes (R460). -/
def withGates (r source : Nat) (f : State → State) (s : State) : State :=
  let t := f s
  foldS (List.range 8) (fun k t =>
    let c := 8 * r + k
    let a := gateCount s c
    let b := gateCount t c
    match tapComp t c with
    | some n => whenS (a != b) (trace n 7 0 (clusterLoc c).toNat (pack [(4, a), (4, b), (4, source)])) t
    | none => t) t

/-! ### Readings (R398–R402) -/

/-- A sensor counts as calibrated: CAL, and a valid supply reading (R398, R400). -/
def roCal (s : State) (i : Nat) : Bool := (s.ro i).cal && (senseOf s (senseRegion i)).isSome

/-- A reading as the absolute thresholds see it: 5 °C more while CAL is 0 (R400). -/
def absReading (s : State) (i : Nat) : Int := (s.ro i).temp + (if roCal s i then 0 else 80)

/-- The largest of a list, if any. -/
def maxInt (l : List Int) : Option Int := l.foldl (fun m x => match m with
  | none => some x
  | some y => some (max x y)) none

/-- The warden sensor that stands in for an excluded sensor: the hottest other one of the region in service (R401). -/
def standIn (s : State) (i : Nat) : Option Nat :=
  ((wardenSensors (senseRegion i)).filter (fun k => k != i && !(s.ro k).excl)).foldl (fun m k => match m with
    | none => some k
    | some j => if absReading s k > absReading s j then some k else m) none

/-- The substitute for an excluded sensor: the reading of its stand-in, or of the diode, plus GUARD (R401). -/
def substitute (s : State) (i : Nat) : Int :=
  (match standIn s i with
  | some k => absReading s k
  | none => (diodeOf s (senseRegion i)).getD 0) + s.deg fGuard

/-- The reading a sensor's place stands for: its own, or the substitute (R401, R402). -/
def placeReading (s : State) (i : Nat) : Int := if (s.ro i).excl then substitute s i else absReading s i

/-- The sensors of a scope: a cluster's tap sensor, or the region's four (R402). -/
def scopeSensors (k : Nat) : List Nat := if k < 128 then [k] else wardenSensors (k - 128)
/-- A scope's reading: the hottest of its places (R402). -/
def scopeReading (s : State) (k : Nat) : Int := (maxInt ((scopeSensors k).map (placeReading s))).getD 0

/-- The rate of rise of a sensor in 1/256 °C per ms, once it can be computed (R405). -/
def roRate (s : State) (i : Nat) : Option Int :=
  let x := s.ro i
  let old := x.samples.filter (fun e => decide (e.1 + 400000 ≤ s.et))
  if s.et < x.since + 400000 then none
  else if s.rf fPaced = 1 then match x.samples.head?, old.head? with
    | some a, some b => some (16 * (a.2 - b.2))
    | _, _ => none
  else if x.samples.length < 16 || old.length < 16 then none
  else
    let sum (l : List (Tick × Int)) : Int := (l.take 16).foldl (fun a e => a + e.2) 0
    some (sum x.samples - sum old)

/-- The rate has reached RISE, in units of 0.1 °C per ms; RISE 0 turns the check off (R405). -/
def roRises (s : State) (i : Nat) : Bool :=
  match roRate s i with
  | some v => s.rf fRise != 0 && decide (10 * v ≥ 256 * (s.rf fRise : Int))
  | none => false

/-- A scope's rate check: of its sensors, or of what stands in for them (R402, R405). -/
def scopeRises (s : State) (k : Nat) : Bool :=
  (scopeSensors k).any (fun i => if (s.ro i).excl then (standIn s i).any (roRises s) else roRises s i)

/-! ### Thermal states (R403–R405) -/

def ThState.code : ThState → Nat
  | .normal => 0 | .warn => 1 | .throttle => 2 | .trip => 3

/-- A region's state: the highest of its own and its clusters' (R403). -/
def regionTherm (s : State) (r : Nat) : Nat :=
  (List.range 8).foldl (fun m k => max m (s.scope (8 * r + k)).st.code) (s.scope (128 + r)).st.code

/-- Where a scope that is not held up falls back to, by its reading (R403). -/
def coolState (s : State) (x : ThScope) : ThState :=
  let hyst := s.deg fHyst
  match x.st with
  | .throttle => if x.n = 0 ∧ x.last < s.deg fThrottle - hyst then (if x.last < s.deg fWarn - hyst then .normal else .warn) else .throttle
  | .warn => if x.n = 0 ∧ x.last < s.deg fWarn - hyst then .normal else .warn
  | t => t

/-- The state a reading and a rate ask for (R403, R405). -/
def hotState (s : State) (v : Int) (rises : Bool) : ThState :=
  if v ≥ s.deg fTrip then .trip
  else if v ≥ s.deg fThrottle || rises then .throttle
  else if v ≥ s.deg fWarn then .warn
  else .normal

/-- The 1 ms condition that runs (R404). -/
def nextClock (s : State) (x : ThScope) (v : Int) (rises : Bool) : Option (Tick × Bool) :=
  let run (falling : Bool) : Option (Tick × Bool) := match x.clock with
    | some (t, b) => if b = falling then some (t, b) else some (s.et, falling)
    | none => some (s.et, falling)
  if v ≥ s.deg fThrottle then run false
  else if v < s.deg fThrottle - s.deg fHyst && !rises then run true
  else none

/-- A scope judged at the end of a sample of sensor i (R403–R405, R407). -/
def judgeScope (i k : Nat) (s : State) : State :=
  let x := s.scope k
  let r := senseRegion i
  let v := scopeReading s k
  let rises := scopeRises s k
  let hot := hotState s v rises
  let up := decide (hot.code > x.st.code)
  let n := if (up && hot == .throttle) || (rises && !x.rising) then max x.n (s.rf fThrN) else x.n
  let y : ThScope := { x with n := n, clock := nextClock s x v rises, last := v, rising := rises, st := if up then hot else x.st }
  let s := withGates r 0 (updScope k (fun _ => { y with st := coolState s y })) s
  let s := whenS (up && hot == .warn) (raiseSense r Kind.thWarn (sensorLoc i) 0) s
  let s := whenS (up && hot == .throttle && decide (v ≥ s.deg fThrottle)) (raiseSense r Kind.thThrottle (sensorLoc i) 0) s
  let s := whenS (rises && !x.rising) (raiseSense r Kind.thRise (sensorLoc i) 0) s
  whenS (up && hot == .trip) (raiseSense r Kind.thTrip (regionLoc r) 0) s

/-- The follow-up has lifted a region fence: scopes in TRIP leave it, by reading (R403). -/
def leaveTrip (r : Nat) (s : State) : State :=
  foldS ((128 + r) :: (List.range 8).map (fun k => 8 * r + k)) (fun k t =>
    updScope k (fun x => if x.st = .trip then { x with st := coolState t { x with st := .throttle } } else x) t) s

/-- THROTTLE_STEP (R404). -/
def doThrottleStep (k : Nat) (s : State) : State :=
  let x := s.scope k
  match x.clock with
  | some (t, falling) =>
    if s.et < t + 400000 then s
    else
      let step := s.rf fThrStep
      let y : ThScope := { x with n := if falling then x.n - step else max x.n (min (x.n + step) (s.rf fThrMax)), clock := some (t + 400000, falling) }
      withGates (if k < 128 then k / 8 else k - 128) 0 (updScope k (fun _ => { y with st := coolState s y })) s
  | none => s

/-- THROTTLE_STEP. -/
def execThrottleStep (scope : Nat) (s : State) : Host.Outcome State Fault Refusal := .next (atHub (doThrottleStep scope) s)

/-! ### Samples and calibration (R397–R401) -/

/-- A sensor leaves service: EXCL, and TH_SENSOR once (R401). -/
def excludeRo (i : Nat) (s : State) : State :=
  if (s.ro i).excl then s
  else
    let r := senseRegion i
    raiseSense r Kind.thSensor (sensorLoc i) 0 (countWarden r 8 (updRo i (fun x => { x with excl := true }) s))

/-- A + B·C + G·(V − 0.75 V) in 2^-16 of 1/16 °C, with the supply in mV; 0.75 V while no reading is valid (R398). -/
def roRaw (s : State) (i count : Nat) : Int :=
  let f := s.fuse.ro.get i ⟨0, 0, 0⟩
  f.a + f.b * count + f.g * (((senseOf s (senseRegion i)).getD 750 : Nat) - 750)

/-- Rounding to nearest of a quotient by a positive divisor, ties upward. -/
def roundDiv (a : Int) (n : Nat) : Int := (2 * a + n) / (2 * n)

/-- RO_SAMPLE (R398, R401, R403, R405). Warden sensors are lost while the warden is missing (R413). -/
def doRoSample (i count : Nat) (s : State) : State :=
  let r := senseRegion i
  if !s.hubUp || (wardenGone s r && decide (i ≥ 128)) then s
  else
    let x := s.ro i
    let raw := roRaw s i count
    let v := roundDiv raw 65536 + x.trim
    let jump := match x.samples.head? with
      | some p => decide (v - p.2 > 320 ∨ p.2 - v > 320)
      | none => false
    let cold := match diodeOf s r with
      | some d => decide (v < d - 128)
      | none => false
    let s := updRo i (fun x => { x with temp := v, samples := ((s.et, v) :: x.samples).take 320, raw := (raw :: x.raw).take 64 }) s
    let s := countWarden r 6 s
    let s := whenS (cold || jump || count == 0 || decide (count ≥ Config.roSat)) (excludeRo i) s
    judgeScope i (if i < 128 then i else 128 + r) s

/-- RO_SAMPLE. -/
def execRoSample (sensor count : Nat) (s : State) : Host.Outcome State Fault Refusal := .next (atHub (doRoSample sensor count) s)

/-- DIODE_SAMPLE (R397, R407): the last 16 readings are kept; a screen keeps the highest (R389). -/
def doDiodeSample (r : Nat) (temp : Int) (s : State) : State :=
  if !s.hubUp || wardenGone s r then s
  else
    let s : State := { s with thm := { s.thm with diodes := s.thm.diodes.upd r [] (fun l => (temp :: l).take 16) } }
    let s : State := if s.isl.st = .selftest ∨ s.isl.st = .closing then { s with scr := { s.scr with maxTemp := max s.scr.maxTemp temp } } else s
    whenS (decide (temp ≥ s.deg fDieTrip)) (raiseWarden r Kind.thDieTrip dieLoc 0) (excursionReading temp s)

/-- DIODE_SAMPLE. -/
def execDiodeSample (r : Nat) (temp : Int) (s : State) : Host.Outcome State Fault Refusal := .next (atHub (doDiodeSample r temp) s)

/-- A scope has been idle for 1 ms: no slot admitted, no slice running, not throttled (R399, R413). -/
def scopeIdle (s : State) (i : Nat) : Bool :=
  let r := senseRegion i
  let here (l : Loc) : Bool := if i < 128 then clusterOf l == some i else regionOf l == some r
  !s.scr.lastWork.any (fun e => here (BitVec.ofNat 16 e.1) && decide (e.2 + 400000 > s.et))
    && !s.scr.slices.any (fun e => here e.2.locus) && !s.scr.lastSlice.any (fun e => here (BitVec.ofNat 16 e.1) && decide (e.2 + 400000 > s.et))
    && decide ((s.scope (if i < 128 then i else 128 + r)).st.code < 2)

/-- CALIBRATE (R399). -/
def doCalibrate (i : Nat) (s : State) : State :=
  let r := senseRegion i
  let x := s.ro i
  let ds := Tbl.get s.thm.diodes r []
  let due := match x.lastCal with
    | some t => decide (s.et ≥ t + 24000000000)
    | none => true
  let calm := decide (ds.length ≥ 16) && (match maxInt ds, maxInt (ds.map (fun d => -d)) with
    | some a, some b => decide (a + b < 8)
    | _, _ => false)
  if !s.hubUp || wardenGone s r || !due || !calm || x.excl || !scopeIdle s i || decide (x.raw.length < 64) then s
  else
    let sum := x.raw.foldl (fun a b => a + b) 0
    let t := roundDiv (64 * 65536 * ds.headD 0 - sum) (64 * 65536)
    let s := countWarden r 7 (updRo i (fun x => { x with lastCal := some s.et }) s)
    if t < -128 ∨ t > 128 then raiseWarden r Kind.thCal (sensorLoc i) 0 s
    else updRo i (fun x => { x with trim := t, cal := true }) s

/-- CALIBRATE. -/
def execCalibrate (sensor : Nat) (s : State) : Host.Outcome State Fault Refusal := .next (atHub (doCalibrate sensor) s)

/-- REINSTATE (R401, R410): the sensor and its canary return to service. -/
def doReinstate (i : Nat) (s : State) : State :=
  updCanary i (fun x => { x with excl := false, zeroSince := none }) (updRo i (fun x => { x with excl := false, samples := [], since := s.et }) s)

/-- REINSTATE. -/
def execReinstate (sensor : Nat) (s : State) : Host.Outcome State Fault Refusal := .next (hubReg (doReinstate sensor) s)

/-! ### Canaries (R408–R410) -/

/-- The margin in force: M3 at ÷3, M4 at ÷4 (R408). -/
def marginOf (s : State) (i : Nat) (x : Canary) : Nat := if s.div4 (senseRegion i) then x.m4 else x.m3

/-- The canaries of a region. -/
def regionCanaries (r : Nat) : List Nat := (List.range 8).map (fun k => 8 * r + k) ++ wardenSensors r

/-- An event told at most once in a time. -/
def mayTell (s : State) (last : Option Tick) (gap : Nat) : Bool :=
  match last with
  | some t => decide (s.et ≥ t + gap)
  | none => true

/-- A broken canary is excluded and MG_FAIL raised against its own locus (R410). -/
def excludeCanary (i : Nat) (s : State) : State :=
  raiseSense (senseRegion i) Kind.mgFail (canaryLoc i) 0 (updCanary i (fun x => { x with excl := true, droop := none }) s)

/-- What the margin in force asks for (R409). -/
def actMargin (i m : Nat) (s : State) : State :=
  let r := senseRegion i
  let x := s.canary i
  let s := if m ≤ s.rf fMWarn ∧ mayTell s x.erodeTold 400000000 then
      raiseSense r Kind.mgErode (canaryLoc i) 0 (countWarden r 10 (updCanary i (fun x => { x with erodeTold := some s.et }) s)) else s
  if m ≤ s.rf fMDroop then
    let s := withGates r 1 (updCanary i (fun x => { x with droop := some s.et, droops := if x.droop.isNone then min (x.droops + 1) 0xFFFF else x.droops })) s
    let s := whenS x.droop.isNone (countWarden r 9) s
    let s := if mayTell s x.droopTold 400000 then
        raiseSense r Kind.mgDroop (canaryLoc i) 0 (updCanary i (fun x => { x with droopTold := some s.et }) s) else s
    whenS (m == 0) (raiseSense r Kind.mgFail (if i < 128 then clusterLoc i else regionLoc r) 0) s
  else s

/-- CANARY_WINDOW (R408–R410). -/
def doCanaryWindow (i m3 m4 : Nat) (s : State) : State :=
  let r := senseRegion i
  if !s.hubUp || (wardenGone s r && decide (i ≥ 128)) then s
  else
    let m := if s.div4 r then m4 else m3
    let others := (regionCanaries r).filter (fun k => k != i)
    let alone := m == 0 && others.all (fun k => decide (marginOf s k (s.canary k) > s.rf fMWarn))
    let since := (s.canary i).zeroSince
    let s := updCanary i (fun x => { x with m3 := m3, m4 := m4, least := min x.least m, zeroSince := if alone then some (x.zeroSince.getD s.et) else none }) s
    if (s.canary i).excl then s
    else if m3 < m4 || (alone && (match since with
      | some t => decide (s.et ≥ t + 400000000)
      | none => false)) then withGates r 1 (excludeCanary i) s
    else actMargin i m s

/-- CANARY_WINDOW. -/
def execCanaryWindow (canary m3 m4 : Nat) (s : State) : Host.Outcome State Fault Refusal := .next (atHub (doCanaryWindow canary m3 m4) s)

/-- DROOP_HOLD_EXPIRY (R409). -/
def doDroopHoldExpiry (i : Nat) (s : State) : State :=
  match (s.canary i).droop with
  | some t => if s.et < t + 400 * s.rf fDroopHold then s else withGates (senseRegion i) 1 (updCanary i (fun x => { x with droop := none })) s
  | none => s

/-- DROOP_HOLD_EXPIRY. -/
def execDroopHoldExpiry (canary : Nat) (s : State) : Host.Outcome State Fault Refusal := .next (atHub (doDroopHoldExpiry canary) s)

/-! ### Regulator telemetry (R411, R412, R585) -/

/-- A value m·2^e scaled by k, rounded toward minus infinity. -/
def scale2 (m : Int) (e : Int) (k : Nat) : Int := if e ≥ 0 then m * k * (2 ^ e.toNat : Nat) else m * k / (2 ^ (-e).toNat : Nat)

/-- LINEAR11: an 11-bit mantissa and a 5-bit exponent, both signed, scaled by k. -/
def linear11 (v k : Nat) : Int := scale2 (sint 11 v) (sint 5 (v / 2048)) k

/-- A VDD_CORE reading judged (R412). -/
def judgeVout (n mv : Nat) (s : State) : State :=
  if n ≥ 16 then s
  else
    let s := whenS (decide (mv < 650)) (raiseIsland Kind.pwrVddLow dieLoc (detail n none none)) s
    whenS (decide (mv > 850)) (raiseIsland Kind.pwrVddHigh dieLoc (detail n none none)) s

/-- Fault bits of STATUS_WORD: VOUT 15, IOUT 14, INPUT 13, VOUT_OV 5, IOUT_OC 4, VIN_UV 3, TEMPERATURE 2 (log entry 15). -/
def statusFaults : List Nat := [15, 14, 13, 5, 4, 3, 2]

/-- M_VR_RAIL (R415). -/
def railReg (s : State) (n : Nat) : Nat :=
  let x := s.rail n
  pack [(7, x.addr), (1, b2n x.en), (8, x.page), (16, x.vout), (16, x.iout), (8, (x.temp.emod 256).toNat), (4, x.stat)]

/-- The hub's copies of M_VR_RAIL refreshed, once a millisecond (R518). -/
def copyRails (s : State) : State :=
  { s with thm := { s.thm with railCopy := (List.range 19).foldl (fun m n => m.putD n (railReg s n) 0) [] } }

/-- A STATUS_WORD of a rail (R412, R415). -/
def takeStatus (n v : Nat) (s : State) : State :=
  let s := updRail n (fun x => { x with stat := nset x.stat 0 3 (nfld v 15 1 + 2 * nfld v 14 1 + 4 * nfld v 2 1) }) s
  whenS (statusFaults.any (fun b => v.testBit b)) (raiseIsland Kind.pwrVrFault packageLoc (detail n none none)) s

/-- The transactions with a rail's device that have failed in a row, for every rail that the device's address serves (R412). -/
def deviceFails (n k : Nat) (s : State) : State :=
  foldS ((List.range 19).filter (fun j => (s.rail j).addr == (s.rail n).addr)) (fun j => updRail j (fun x => { x with fails := k })) s

/-- A failed transaction; the third in a row with one device raises PWR_PMBUS (R412). -/
def railFail (n : Nat) (s : State) : State :=
  let k := (s.rail n).fails + 1
  let s := updRail n (fun x => { x with valid := false, stat := if k ≥ 3 then nset x.stat 3 1 1 else x.stat }) (deviceFails n k s)
  whenS (k == 3) (raiseIsland Kind.pwrPmbus islandLoc 0) s

/-- PMBUS_READ (R411, R412): command codes of PMBus (log entry 15). -/
def doPmbusRead (n command value : Nat) (ok : Bool) (s : State) : State :=
  if s.isl.st = .off ∨ !(s.rail n).en then s
  else if !ok then railFail n s
  else
    let s := updRail n (fun x => { x with stat := nset x.stat 3 1 0 }) (deviceFails n 0 s)
    match command with
    | 0x20 => updRail n (fun x => { x with vmode := some (sint 5 value) }) s
    | 0x8B => (match (s.rail n).vmode with
      | some e =>
        let mv := (scale2 (value % 65536 : Nat) e 1000).toNat
        judgeVout n mv (updRail n (fun x => { x with vout := mv, valid := true }) s)
      | none => s)
    | 0x8C => updRail n (fun x => { x with iout := (linear11 value 16).toNat }) s
    | 0x8D => updRail n (fun x => { x with temp := linear11 value 1 }) s
    | 0x79 => takeStatus n value s
    | _ => s

/-- PMBUS_READ. -/
def execPmbusRead (rail command value : Nat) (ok : Bool) (s : State) : Host.Outcome State Fault Refusal := .next (doPmbusRead rail command value ok s)

/-- PM_ALERT (R585): the answering device's STATUS_WORD, once in 10 ms while it does not release the pin. -/
def doPmAlert (addr status : Nat) (s : State) : State :=
  if s.isl.st = .off || !mayTell s (s.thm.alertRead.find? addr) 4000000 then s
  else
    let s : State := { s with thm := { s.thm with alert := true, alertRead := s.thm.alertRead.put addr s.et } }
    foldS ((List.range 19).filter (fun n => (s.rail n).en && (s.rail n).addr == addr)) (fun n t => takeStatus n status t) s

/-- PM_ALERT. -/
def execPmAlert (addr status : Nat) (s : State) : Host.Outcome State Fault Refusal := .next (doPmAlert addr status s)

end Sys2Proof.Machine
end

