-- ==== Sys2Proof/Machine/Tiles.lean ====
section
/-! DEFINITION. The taps at work: tickets, words, the compare and the dispatch gate (02_exact_residue_check R66–R102,
03_tolerance_and_cruise R104–R115, R134, R143, 18_boundary_signals R562, R564). -/
namespace Sys2Proof.Machine

/-! ### Taps, units and completions -/

def State.tap (s : State) (tap : Nat) : Tap := Tbl.get s.taps tap Tap.reset
def updTap (tap : Nat) (f : Tap → Tap) (s : State) : State := { s with taps := s.taps.upd tap Tap.reset f }
def Tap.unit (p : Tap) (u : Nat) : UnitSt := Tbl.get p.units u UnitSt.reset
def updUnit (tap u : Nat) (f : UnitSt → UnitSt) (s : State) : State := updTap tap (fun p => { p with units := p.units.upd u UnitSt.reset f }) s
def updTile (tap tag : Nat) (t : Tile) (s : State) : State := updTap tap (fun p => { p with tags := p.tags.put tag t }) s

/-- The status a tile completes with, in the order of R20. -/
def TileEnd.code : TileEnd → Nat
  | .ok => stOk | .empty => stEmpty | .invalid => stInvalid | .inexact => stInexact | .suspect => stSuspect | .fenced => stFenced

/-- The tap counter of a completion (R444). -/
def TileEnd.event : TileEnd → Nat
  | .ok => 1 | .inexact => 2 | .suspect => 3 | .fenced => 4 | .empty | .invalid => 5

/-- A tile completes: the tap reports it, counts it and traces it (R34, R444, R460). -/
def tileOver (tap : Nat) (tk : W256) (how : TileEnd) (s : State) : State :=
  let s := countTap tap how.event (tkUnit tk) 1 (emit (.tileDone tap (tkTag tk) how) s)
  trace (tkComp tk) 2 how.code (tapUnitLoc tap (tkUnit tk)).toNat (pack [(6, tkTag tk), (2, 0), (8, tkKind tk), (32, tkSeq tk), (32, tkCord tk)]) s

/-- Statuses of a cord's tiles, worst last. -/
def cordRank (st : Nat) : Nat := ([stOk, stFenced, stSuspect, stRecanted].findIdx? (fun x => x == st)).getD 0

/-- The slot of the cord whose primary run a tile belongs to; none for a tile of its twin or third run, of which the capture digest alone
leaves the cluster (R140). -/
def tileCord (s : State) (tap : Nat) (tk : W256) : Option Nat :=
  (findCord s (tkComp tk) (tkCord tk)).filter (fun i => (s.cord i).any (fun k => unitKey k.placed == some (tap, tkUnit tk)))

/-- A tile's status enters its cord's (R242, R545): anything that failed its check counts as SUSPECT (R34, R70). -/
def markCord (tap : Nat) (tk : W256) (st : Nat) (s : State) : State :=
  match tileCord s tap tk with
  | some slot => updCord slot (fun k => if cordRank st > cordRank k.status then { k with status := st } else k) s
  | none => s

/-- One more check of the cord of a tile is open (R235). -/
def checkOpens (tap : Nat) (tk : W256) (s : State) : State :=
  match tileCord s tap tk with
  | some slot => updCord slot (fun k => { k with checksOpen := k.checksOpen + 1 }) s
  | none => s

/-- A tile's outputs are dropped or recanted: its unit's watermark passes it no more, and sends that need it fall (R34, R177). -/
def tileFailed (tap : Nat) (tk : W256) (kind : Nat) (s : State) : State :=
  sweepSends (wmarkBad tap (tkUnit tk) (tkSeq tk) (tkCord tk) kind s)

/-- A tile's outputs are released (R34, R171). -/
def tileGood (tap : Nat) (tk : W256) (s : State) : State := sweepSends (wmarkGood tap (tkUnit tk) (tkSeq tk) s)

/-- DETAIL of the ERC kinds (R267). -/
def ercDetail (tag seq cls ri cj d0 : Nat) : Nat := pack [(6, tag), (32, seq), (3, cls), (6, ri), (6, cj), (32, d0)]
/-- DETAIL of a message that concerns no compare (R267). -/
def ercPlain (tk : W256) : Nat := ercDetail (tkTag tk) (tkSeq tk) 7 0x3F 0x3F 0

/-- Where an exact mismatch lies on a slab: the one section that holds every candidate pair, else the slab (R89). -/
def slabPlace (r : Nat) (tk : W256) (ri cj : Nat) : Loc :=
  let secs := ((cands ri (tkM tk)).flatMap (fun i => (cands cj (tkN tk)).map (fun j => sectionOf i j))).eraseDups
  match secs with
  | [k] => sectionLoc r k
  | _ => slabLoc r

/-- The locus of an ERC outcome (R89). -/
def ercLoc (tap : Nat) (tk : W256) (l : Local) : Loc :=
  match l with
  | .element ri cj => if tap ≥ 128 then slabPlace (tap - 128) tk ri cj else coreLoc tap (tkUnit tk)
  | _ => tapUnitLoc tap (tkUnit tk)

/-- The kind of an ERC class (R89). -/
def ercKind : Local → Nat
  | .element .. => Kind.ercElement | .row _ => Kind.ercRow | .column _ => Kind.ercColumn | _ => Kind.ercMulti

/-- A unit that a fence in force at the tap holds: the core or its cluster, or the slab; a section is no fence of the slab (R98, R284, R590). -/
def unitQuiet (s : State) (tap u : Nat) : Bool := isQuiet s (tapUnitLoc tap u) || s.col.quietDie

/-- The scopes quiet at a unit, apart from the unit's own fence (R92, R98, R284, R564). -/
def quietAbove (s : State) (tap u : Nat) : Bool :=
  let l := tapUnitLoc tap u
  s.col.quietDie || s.col.quiet.any (fun q => q != l.toNat && covers (BitVec.ofNat 16 q) l)

/-- The ticket's end enters its unit's order, where it has a place there; ends that no open ticket can ask for go (R85). -/
def endTicket (tap u no : Nat) (how : TileEnd) (kind : Nat) (s : State) : State :=
  let low := ((s.tap tap).tags.filter (fun e => tkUnit e.2.ticket == u && e.2.no != 0)).foldl (fun m e => min m e.2.no) (((s.tap tap).unit u).count + 1)
  whenS (no != 0) (updUnit tap u (fun x => { x with ends := (x.ends.put no (how, kind)).keep (fun n _ => decide (n + 1 ≥ low)) })) s

/-! ### Tickets (R66–R71) -/

/-- A ticket rejected: INVALID, ERC_TICKET, and its tag in discard unless another tile holds it (R70). A rejected ticket is the
unit's previous one for R85 where it names a unit. -/
def rejectTicket (tap : Nat) (tk : W256) (s : State) : State :=
  let unitOk := decide (tkUnit tk < 32)
  let s := whenS (!(s.tap tap).tags.has (tkTag tk)) (updTap tap (fun p => { p with discard := setAdd p.discard (tkTag tk) })) s
  let s := tileOver tap tk .invalid s
  if tkPin tk then s
  else
    let s := whenS unitOk (fun s =>
      let no := ((s.tap tap).unit (tkUnit tk)).count + 1
      endTicket tap (tkUnit tk) no .invalid Kind.ercTicket (updUnit tap (tkUnit tk) (fun u => { u with count := no, prevM := tkM tk, prevN := tkN tk }) s)) s
    let l := if unitOk then tapUnitLoc tap (tkUnit tk) else tapWholeLoc tap
    let s := markCord tap tk stSuspect (tileFailed tap tk Kind.ercTicket s)
    raiseTap tap Kind.ercTicket false l (ercPlain tk) s

/-- Candidate rows or columns a PIN ticket keeps, from the retained record of its tile (R92). -/
def pinCands (s : State) (tap : Nat) (tk : W256) : List Nat × List Nat :=
  match (s.tap tap).ercRecs.find? (fun r => tkSeq r.ticket == tkSeq tk && tkUnit r.ticket == tkUnit tk) with
  | some r => candPlaces r.loc (tkM tk) (tkN tk)
  | none => ([], [])

/-- The coefficient of a ticket's bucket, fixed at its acceptance (R109, R110). -/
def coeff (s : State) (tk : W256) (kchain : Nat) : Fl :=
  flTo f64 (dec32 (polRead s (polTol (tkComp tk) (bucket (kr (tkKind tk) kchain))) 4))

/-- A ticket accepted: its tile begins, cruise may select it, and the watermark starts where it was none (R71, R131, R171). A tile of a twin
or a third run is a unit of none (R140). -/
def acceptTicket (tap : Nat) (tk : W256) (s : State) : State :=
  let u := (s.tap tap).unit (tkUnit tk)
  let kchain := if tkKind tk = 3 then u.kchain + tkK tk else tkK tk
  let (rows, cols) := if tkPin tk then pinCands s tap tk else ([], [])
  let slot := tileCord s tap tk
  let other := slot.isNone && (findCord s (tkComp tk) (tkCord tk)).isSome
  let k := slot.bind (fun i => s.cord i)
  let el := k.any (fun k => tileEligible s k.desc tk)
  let (samp, s) := if tkPin tk || other then (false, s) else cruiseSelect (tkComp tk) (tkKind tk) el s
  let s := match slot with
    | some i => whenS samp (updCord i (fun k => { k with sampled := true, checksOpen := k.checksOpen + 1 })) s
    | none => s
  let s := whenS (!tkPin tk) (wmarkAccept tap (tkUnit tk) (tkSeq tk)) s
  let no := if tkPin tk then 0 else u.count + 1
  let s := whenS (!tkPin tk) (updUnit tap (tkUnit tk) (fun u => { u with count := no, prevM := tkM tk, prevN := tkN tk, kchain := kchain })) s
  let s := updTap tap (fun p => { p with discard := setDel p.discard (tkTag tk), capture := if samp then p.capture.put (2 * tkTag tk) 0 else p.capture.del (2 * tkTag tk) }) s
  let s := emit (.tktCap tap (tkTag tk) samp) (updTile tap (tkTag tk) { Tile.fresh tk no (coeff s tk kchain) kchain samp rows cols with withdrawn := k.bind (fun k => k.recanted) } s)
  match slot with
  | some i => whenS ((s.cord i).any (fun k => k.st == .waiting)) (setCordSt i .running) s
  | none => s

/-- TILE_TICKET (R66–R71, R590). -/
def doTileTicket (tap : Nat) (tk : W256) (s : State) : State :=
  let p := s.tap tap
  let good := tkFieldsOk tap tk && tkChainOk (p.unit (tkUnit tk)) tk && !p.tags.has (tkTag tk)
    && !(if tkPin tk then quietAbove s tap (tkUnit tk) else unitQuiet s tap (tkUnit tk))
  if !s.hubUp then s
  else if !good then rejectTicket tap tk s
  else if tkEmpty tk then
    let s := updTap tap (fun p => { p with discard := setDel p.discard (tkTag tk) }) (wmarkAccept tap (tkUnit tk) (tkSeq tk) s)
    tileGood tap tk (tileOver tap tk .empty s)
  else acceptTicket tap tk s

/-- TILE_TICKET. -/
def execTileTicket (tap : Nat) (w : W256) (s : State) : Host.Outcome State Fault Refusal := .next (atTapPort tap (doTileTicket tap w) s)

/-! ### Words (R72–R79, R104–R106, R134) -/

/-- A word for a tag: taken by the tile that holds it, dropped in discard, else ERC_STREAM against the cluster or slab (R71, R76). -/
def withTile (tap tag : Nat) (f : Tile → State → State) (s : State) : State :=
  let p := s.tap tap
  match p.tags.find? tag with
  | some t => f t s
  | none => if p.discard.contains tag || !s.hubUp then s
    else raiseTap tap Kind.ercStream false (tapWholeLoc tap) (ercDetail tag 0 7 0x3F 0x3F 0) s

/-- A tile's stream breached R76: ERC_STREAM against its unit, once; a re-run raises nothing (R92). -/
def breach (tap : Nat) (t : Tile) (s : State) : State :=
  let s := updTile tap (tkTag t.ticket) { t with breached := true } s
  if t.breached || tkPin t.ticket then s
  else raiseTap tap Kind.ercStream false (tapUnitLoc tap (tkUnit t.ticket)) (ercPlain t.ticket) s

/-- OPERAND_WORD (R72–R76). -/
def doOperandWord (tap tag role index : Nat) (w : W256) (s : State) : State :=
  withTile tap tag (fun t s =>
    let s := countTap tap 6 (tkUnit t.ticket) 1 s
    let (t', _) := acceptOperand t role index w
    if t.retired.isSome || t'.breached then breach tap { t' with breached := t.breached } s else updTile tap tag t' s) s

/-- OPERAND_WORD. -/
def execOperandWord (tap tag role index : Nat) (w : W256) (s : State) : Host.Outcome State Fault Refusal := .next (atTapPort tap (doOperandWord tap tag role index w) s)

/-- EOR_WORD (R79, R84): LAST retires the tile, or ends a discard (R71). -/
def doEorWord (tap tag index : Nat) (last : Bool) (w : W256) (s : State) : State :=
  let s := withTile tap tag (fun t s =>
    let n := tkM t.ticket * cdiv (tkN t.ticket) 4
    if t.retired.isSome || index ≥ n then breach tap t s else updTile tap tag (acceptEor t index w) s) s
  if !last then s
  else match (s.tap tap).tags.find? tag with
    | some t => if t.retired.isSome then s
      else
        let k := (s.tap tap).retireNo
        updTap tap (fun p => { p with retireNo := k + 1 }) (updTile tap tag { t with retired := some s.et, retireNo := k } s)
    | none => updTap tap (fun p => { p with discard := setDel p.discard tag }) s

/-- EOR_WORD. -/
def execEorWord (tap unit tag index : Nat) (last : Bool) (w : W256) (s : State) : Host.Outcome State Fault Refusal :=
  .next (atTapPort tap (fun s => if unit < 32 then doEorWord tap tag index last w s else s) s)

/-- VALUE_WORD (R104–R107). The tile retires by its last EOR word alone (R105). -/
def execValueWord (tap unit tag index : Nat) (_last : Bool) (w : W256) (s : State) : Host.Outcome State Fault Refusal :=
  .next (atTapPort tap (fun s => if unit < 32 then withTile tap tag (fun t s => updTile tap tag (acceptValue t index w) s) s else s) s)

/-- CAPTURE_WORD (R134, R203): a term keyed by the compartment's capture key, epoch 0, at (low 24 bits of the cord, offset). -/
def doCaptureWord (tap unit : Nat) (tile : Bool) (tag cord off : Nat) (w : W256) (s : State) : State :=
  let fold (key c cord : Nat) (s : State) : State :=
    let x := cord % 2 ^ 24 * 2 ^ 40 + off % 2 ^ 40
    updTap tap (fun p => { p with capture := p.capture.upd key 0 (fun d => d ^^^ wordTerm (s.capKeys.get c 0) 0 x w) }) s
  let cordOf (c n : Nat) : Option Cord := (findCord s c n).bind (fun i => s.cord i)
  if tile then withTile tap tag (fun t s =>
    let c := tkComp t.ticket
    let n := tkCord t.ticket
    let twin := !tkPin t.ticket && (cordOf c n).any (fun k => k.twinned)
    whenS (t.sampled || twin) (countTap tap 18 unit 1) (whenS twin (fold (2 * n + 1) c n) (whenS t.sampled (fold (2 * tag) c n) s))) s
  else match (tapComp s tap).bind (fun c => (cordOf c cord).map (fun k => (c, k))) with
    | some (c, k) => whenS (k.sampled || k.twinned) (fun s => countTap tap 18 unit 1 (fold (2 * cord + 1) c cord s)) s
    | none => s

/-- CAPTURE_WORD. -/
def execCaptureWord (tap unit : Nat) (tile : Bool) (tag cord off : Nat) (w : W256) (s : State) : Host.Outcome State Fault Refusal :=
  .next (atTapPort tap (doCaptureWord tap unit tile tag cord off w) s)

/-! ### The compare (R83–R90, R111, R115, R143) -/

/-- A retained record of a SUSPECT tile; ERC_TAP against the tap where every slot is held (R90). -/
def retainErc (tap : Nat) (r : ErcRec) (s : State) : State :=
  if (s.tap tap).ercRecs.length < recSlots tap then updTap tap (fun p => { p with ercRecs := p.ercRecs ++ [r] }) s
  else raiseTap tap Kind.ercTap false (tapPartLoc tap) (ercPlain r.ticket) s

/-- The mean xs of one role differs from its reference by more than D (R143). -/
def drifts (d : Nat) (ref : Option (Int × Nat)) (sum : Int) (n : Nat) : Bool :=
  match ref with
  | some (r, m) => decide (n ≠ 0 ∧ m ≠ 0 ∧ (sum * m - r * n).natAbs > d * m * n)
  | none => false

/-- The numeric events that a tile's words have shown, each once (R65, R143). They count for every tile: for one discarded before its compare
those seen until then, and for a PIN re-run again; R144 and R98 do not say, and so the model reads R65 (DEDUCED, log entry 54). -/
def seenEvents (t : Tile) (s : State) : State :=
  let ev (b : Bool) (e : Nat) (s : State) : State := whenS b (numericEvent (tkComp t.ticket) e) s
  ev t.invCode evInvalidCode (ev t.scaleEdge evScaleEdge (ev (t.nonfin || t.valNonfin) evNonfinite s))

/-- The numeric events of a tile, each once (R143), and its scales in the running period. -/
def tileEvents (t : Tile) (inexact : Bool) (s : State) : State :=
  let c := tkComp t.ticket
  let dc := s.digComp c
  let d := polRead s (polDrift c) 1
  let drift := drifts d dc.driftRef[0]? t.xsA t.cntA || drifts d dc.driftRef[1]? t.xsB t.cntB
  let add (l : List (Int × Nat)) : List (Int × Nat) := match l with
    | a :: b :: r => (a.1 + t.xsA, a.2 + t.cntA) :: (b.1 + t.xsB, b.2 + t.cntB) :: r
    | _ => l
  let s := updDig c (fun d => { d with driftRun := add d.driftRun }) s
  let ev (b : Bool) (e : Nat) (s : State) : State := whenS b (numericEvent c e) s
  seenEvents t (ev drift evScaleDrift (ev inexact evInexact s))

/-- A sampled tile that ended well enough joins the queue; the sample of any other ends with it (R133, R138). -/
def tileSample (tap : Nat) (t : Tile) (good : Bool) (s : State) : State :=
  let c := tkComp t.ticket
  let cord := tkCord t.ticket
  let k := (findCord s c cord).bind (fun i => s.cord i)
  let jsn := k.map (fun k => k.jsn)
  let d := Tbl.get (s.tap tap).capture (2 * tkTag t.ticket) 0
  if !t.sampled then s
  else if good then queueSample (k.any (fun k => tileEligible s k.desc t.ticket)) ⟨tap, tkUnit t.ticket, c, tkKind t.ticket, cord, jsn.getD 0, d, t.retired.getD s.et, (k.map (fun k => k.attempt)).getD 0, false, none⟩ s
  else checkOver c (jsn.getD 0) s

/-- A tile that failed its check: outputs as SUSPECT, a message, and a record where `keep` (R34, R89, R90). -/
def suspectTile (tap : Nat) (t : Tile) (kind : Nat) (l : Loc) (d : Nat) (keep : Option ErcRec) (s : State) : State :=
  let tk := t.ticket
  let s := markCord tap tk stSuspect (tileFailed tap tk kind s)
  match keep with
  | some r =>
    let s := raiseTap tap kind false l d s
    let n := (s.tap tap).ercRecs.length
    let s := retainErc tap r s
    let held := decide ((s.tap tap).ercRecs.length > n)
    whenS held (checkOpens tap tk) s
  | none => raiseTap tap kind false l d s

/-- The retained record of a tile (R90). -/
def ercRecOf (t : Tile) (u : UnitSt) (l : Local) (flag : Bool) : ErcRec :=
  let chain := tkKind t.ticket == 3
  let b (x : Nat) := if chain then x else 0
  ⟨t.ticket, (t.s0 + b u.base0) % m61, (t.srow + b u.baseR) % m61, (t.scol + b u.baseC) % m61, t.o0, t.orow, t.ocol, t.usum, t.vsum, l, flag⟩

/-- TOL_ALARM: three FP32 values in DETAIL; the record takes a slot where one is free (R111, R115). -/
def tolAlarm (tap : Nat) (reh : Bool) (t : Tile) (q : TolQ) (s : State) : State :=
  let tk := t.ticket
  let f (x : Fl) : Nat := enc32 (flTo f32 x)
  let s := countTap tap 17 (tkUnit tk) 1 s
  let s := raiseTap tap Kind.tolAlarm reh (tapUnitLoc tap (tkUnit tk)) (pack [(32, f q.d0), (32, f q.dr), (32, f q.dc)]) s
  let kept := decide (((s.tap tap).tolRecs.filter (fun r => r.kept)).length < recSlots tap)
  updTap tap (fun p => { p with tolRecs := p.tolRecs ++ [⟨tk, q.six, q.d0, q.dr, q.dc, q.t0, q.tr, q.tc, t.rho, t.kappa, t.kchain, t.retired.getD s.et, kept⟩] }) s

/-- An injection may be made into a tile: its ticket asks for one, its unit is under no fence, its compartment is not stopped and PF_WARN
is not asserted (R101, R165). -/
def mayInject (s : State) (tap : Nat) (tk : W256) : Bool :=
  let l := tapUnitLoc tap (tkUnit tk)
  tkReh tk && !unitQuiet s tap (tkUnit tk) && !fenced s l && (s.comp (tkComp tk)).st != .stopped && !s.isl.pf

/-- The rehearsal's own message: the injected contribution alone, localised; a mismatch of place is ERC_TAP (R101, R168). -/
def rehearseErc (tap : Nat) (t : Tile) (inj : Inject) (s : State) : State :=
  let tk := t.ticket
  let x := applyInject inj Fl.zero t
  let d0 := (sub61 x.s0 t.s0 + sub61 t.o0 x.o0) % m61
  let l := localise d0 (sub61 t.orow x.orow) (sub61 t.ocol x.ocol)
  let s := injectNow 0 tap (updTap tap (fun p => { p with inject := p.inject.del 0 }) s)
  let s := raiseTap tap (ercKind l) true (ercLoc tap tk l) (ercDetail (tkTag tk) (tkSeq tk) l.code l.ri l.cj d0) s
  match inj with
  | .eor _ i j => whenS (l != .element (i % 61) (j % 61)) (raiseTap tap Kind.ercTap false (tapPartLoc tap) (ercPlain tk)) s
  | _ => s

/-- The same on the tolerance path: the compare with the injected value decides whether there is an alarm (R124). -/
def rehearseTol (tap : Nat) (u : UnitSt) (t : Tile) (inj : Inject) (s : State) : State :=
  let x := applyInject inj (tolQ u t).t0 t
  let s := injectNow 1 tap (updTap tap (fun p => { p with inject := p.inject.del 1 }) s)
  whenS (tolFails x (tolQ u x)) (tolAlarm tap true x (tolQ u x)) s

/-- What a REHEARSE tile's compare injects: into the compare that the tile gets, at a place that it has (R101, R124, R164). -/
def rehearse (tap : Nat) (u : UnitSt) (t : Tile) (v : Verdict) (s : State) : State :=
  match v, (s.tap tap).inject.find? 0, (s.tap tap).inject.find? 1 with
  | .exact _, some inj, _ => whenS (injectFits inj t) (rehearseErc tap t inj) s
  | .tolPass, _, some inj | .tolAlarm, _, some inj => whenS (injectFits inj t) (rehearseTol tap u t inj) s
  | _, _, _ => s

/-- The kind of the fault that a verdict raises or inherits; 0 for none (R185). -/
def Verdict.kind (v : Verdict) (u : UnitSt) (t : Tile) : Nat :=
  match v with
  | .stream => Kind.ercStream
  | .inherit _ => prevKind u t
  | .flag => Kind.ercFlag
  | .exact .ok | .unchecked | .tolPass | .tolAlarm => 0
  | .exact l => ercKind l
  | .tolStream => Kind.tolStream

/-- A tile that passed: its outputs are released, unless its cord has been withdrawn meanwhile (R34, R189). -/
def tileReleased (tap : Nat) (t : Tile) (s : State) : State :=
  match t.withdrawn with
  | some reason => tileFailed tap t.ticket reason s
  | none => tileGood tap t.ticket s

/-- What a verdict leads to (R76, R85, R86, R88, R106, R111, R112). -/
def applyVerdict (tap : Nat) (u : UnitSt) (t : Tile) (v : Verdict) (s : State) : State :=
  let tk := t.ticket
  let loc := tapUnitLoc tap (tkUnit tk)
  match v with
  | .stream =>
    if t.breached then markCord tap tk stSuspect (tileFailed tap tk Kind.ercStream s)
    else suspectTile tap t Kind.ercStream loc (ercPlain tk) none s
  | .inherit _ => markCord tap tk stSuspect (tileFailed tap tk (prevKind u t) s)
  | .flag => suspectTile tap t Kind.ercFlag loc (ercDetail (tkTag tk) (tkSeq tk) 4 0x3F 0x3F (ercDiffs u t).1) (some (ercRecOf t u .multiple true)) s
  | .exact .ok => tileReleased tap t s
  | .exact l => suspectTile tap t (ercKind l) (ercLoc tap tk l) (ercDetail (tkTag tk) (tkSeq tk) l.code l.ri l.cj (ercDiffs u t).1) (some (ercRecOf t u l false)) s
  | .tolStream => suspectTile tap t Kind.tolStream loc (ercPlain tk) none s
  | .unchecked | .tolPass => tileReleased tap t s
  | .tolAlarm =>
    checkOpens tap tk (tolAlarm tap false t (tolQ u t) s)

/-- A retired tile compared (R83–R90, R108, R111). -/
def compareTile (tap : Nat) (t : Tile) (s : State) : State :=
  let tk := t.ticket
  let tag := tkTag tk
  let u := (s.tap tap).unit (tkUnit tk)
  let v := judge u t
  let how := v.ends
  let ok := how == .ok
  let six := tileSix u t
  let s := updTap tap (fun p => { p with tags := p.tags.del tag }) s
  let s := endTicket tap (tkUnit tk) t.no how (v.kind u t) s
  let s := updUnit tap (tkUnit tk) (fun u => { u with six := six, base0 := if ok then t.o0 else u.base0, baseR := if ok then t.orow else u.baseR, baseC := if ok then t.ocol else u.baseC }) s
  let s := tileOver tap tk how s
  let s := tileEvents t (how == .inexact) s
  let s := whenS (mayInject s tap tk) (rehearse tap u t v) s
  let s := applyVerdict tap u t v s
  tileSample tap t ((ok || how == .inexact) && t.withdrawn.isNone) s

/-- A PIN re-run compared: what it found waits for the follow-up; one whose stream breached R76 finds nothing (R92, R94). A re-run that
itself ends INEXACT makes no residue compare, which R93 does not foresee: the model takes it as one that passes, class ok (DESIGN CHOICE,
log entry 20). -/
def comparePin (tap : Nat) (t : Tile) (s : State) : State :=
  let tk := t.ticket
  let u := (s.tap tap).unit (tkUnit tk)
  let v := judge u t
  let d := ercDiffs u t
  let r := ercRecOf t u .ok false
  let l := match v with
    | .exact l => l
    | .flag => .multiple
    | _ => .ok
  let res : Option PinRes := match v with
    | .stream | .tolStream => none
    | _ => some ⟨tk, l, d.1, r.s0, r.srow, r.scol, t.usum, t.vsum, t.cand, v == .flag, t.rho⟩
  let s := updTap tap (fun p => { p with tags := p.tags.del (tkTag tk), pin := res }) s
  tileEvents t (v.ends == .inexact) (tileOver tap tk v.ends s)

/-- A retired tile stands before another in the compare queue: it retired earlier, or in the same tick at a lower UNIT (R100). Two tiles of a
tick count as of the same CCLK, the model holding no time below a tick (DESIGN CHOICE, log entry 54). -/
def comparesFirst (a b : Tile) : Bool :=
  match a.retired, b.retired with
  | some x, some y => decide (x < y) || (x == y && (decide (tkUnit a.ticket < tkUnit b.ticket)
      || (tkUnit a.ticket == tkUnit b.ticket && decide (a.retireNo < b.retireNo))))
  | _, _ => false

/-- TILE_COMPARE (R86, R95, R100): retired tiles are compared in the order of the compare queue. -/
def doTileCompare (tap tag : Nat) (s : State) : State :=
  match (s.tap tap).tags.find? tag with
  | some t =>
    if t.retired.isNone || (s.tap tap).tags.any (fun e => comparesFirst e.2 t) then s
    else if tkPin t.ticket then comparePin tap t s else compareTile tap t s
  | none => s

/-! ### Discards (R98, R102) -/

/-- A tile discarded: it completes, and its tag goes into discard (R71, R98, R102). -/
def discardTile (tap : Nat) (t : Tile) (how : TileEnd) (kind : Nat) (s : State) : State :=
  let tk := t.ticket
  let s := updTap tap (fun p => { p with tags := p.tags.del (tkTag tk), discard := setAdd p.discard (tkTag tk), capture := p.capture.del (2 * tkTag tk) }) s
  let s := seenEvents t (tileOver tap tk how s)
  if tkPin tk then s
  else
    let s := endTicket tap (tkUnit tk) t.no how kind s
    tileSample tap t false (markCord tap tk (if how = .fenced then stFenced else stSuspect) (tileFailed tap tk kind s))

/-- A fence takes effect on units: tickets that pass a test and have not retired complete FENCED (R98). -/
def fenceTiles (tap : Nat) (p : W256 → Bool) (kind : Nat) (s : State) : State :=
  foldS ((s.tap tap).tags.filter (fun e => e.2.retired.isNone && p e.2.ticket)) (fun e t => discardTile tap e.2 .fenced kind t) s

/-- TICKET_STATE_ERROR (R102): a correctable error in a ticket's state is corrected and counted; an uncorrectable one discards the ticket. -/
def doTicketStateError (tap tag : Nat) (corrected : Bool) (s : State) : State :=
  match (s.tap tap).tags.find? tag with
  | some t =>
    if corrected then countTap tap 26 0x3F 1 (updTap tap (fun p => { p with corrected := p.corrected + 1 }) s)
    else raiseTap tap Kind.ercTap false (tapPartLoc tap) (ercPlain t.ticket) (discardTile tap t .suspect Kind.ercTap s)
  | none => s

/-- TICKET_STATE_ERROR. -/
def execTicketStateError (tap tag : Nat) (s : State) (corrected : Bool := false) : Host.Outcome State Fault Refusal :=
  .next (atTapPort tap (doTicketStateError tap tag corrected) s)

/-! ### The dispatch gate (R564, R406, R241, R183) -/

/-- A count n pauses slot k of a window (R406). -/
def pauses (n k : Nat) : Bool := decide ((k + 1) * n / 16 > k * n / 16)

/-- A slot of a gate: whether its window's count pauses it. Each request is one slot of the gate (log entry 16). -/
def gateSlot (tap unit : Nat) (s : State) : Bool × State :=
  let (k, n0) := Tbl.get (s.tap tap).gates unit (0, 0)
  let n := if k = 0 then gateCount s tap else n0
  (pauses n k, updTap tap (fun p => { p with gates := p.gates.put unit ((k + 1) % 16, n) }) s)

/-- A compartment at a tap that is quiet (R277). -/
def tapQuiet (s : State) (tap : Nat) : Bool := (tapComp s tap).any (fun c => compQuiet s c)

/-- A cord's slots are held for a producer: not proven, or still sought in the ring (R241, R245). -/
def depHolds (s : State) (k : Cord) : Bool := k.depHeld || heldDep s k || s.jrn.fetches.any (fun f => f.1 == k.comp && f.2.2.1 == k.jsn)

/-- A cord's slots are held for taint: at or past its deadline, writing a digested tensor while tainted, or withdrawn (R183, R189). -/
def taintHolds (s : State) (k : Cord) : Bool :=
  k.st == .replayWait || (k.digw && tainted s k) || (match taintDeadline s k with
    | some d => decide (s.et ≥ d)
    | none => false)

/-- The gate's answer to a request, with its counter where one counts the refusal: none admits (R444, R564). -/
def gateRefusal (tap u cord : Nat) (pin paused : Bool) (s : State) : Option (List Nat) :=
  let l := tapUnitLoc tap u
  let c := tapComp s tap
  let k := c.bind (fun c => (findCord s c cord).bind (fun i => s.cord i))
  if quietAbove s tap u || tapQuiet s tap || (!pin && isQuiet s l) || felled s l then some []
  else if s.scr.holds.contains l.toNat then some []
  else if c.any (fun c => stopHolds s c) then some [12]
  else if k.any (fun k => depHolds s k) then some [10]
  else if k.any (fun k => taintHolds s k) then some [11, 8]
  else if paused then some (if droopOn s tap then [8, 9] else [8])
  else none

/-- A cord runs once its first slot is admitted on PLACED (R237). -/
def cordRuns (tap u cord : Nat) (s : State) : State :=
  match (tapComp s tap).bind (fun c => findCord s c cord) with
  | some i => whenS ((s.cord i).any (fun k => k.st == .waiting && unitKey k.placed == some (tap, u))) (setCordSt i .running) s
  | none => s

/-- DISPATCH_SLOT (R564); a core asked for is taken from its slice (R49), and an admitted slot ends its idle time (R374). -/
def doDispatchSlot (tap u cord : Nat) (pin : Bool) (s : State) : State :=
  if !s.hubUp then s
  else
    let (paused, s) := gateSlot tap u s
    let l := tapUnitLoc tap u
    match gateRefusal tap u cord pin paused s with
    | some evs => abortSlices (fun x => x == l) (foldS evs (fun e t => countTap tap e u 1 t) (emit (.dspAdm tap u false) s))
    | none => emit (.dspAdm tap u true) (cordRuns tap u cord { s with scr := { s.scr with lastWork := s.scr.lastWork.put l.toNat s.et } })

/-- DISPATCH_SLOT. -/
def execDispatchSlot (tap unit cord : Nat) (pin : Bool) (s : State) : Host.Outcome State Fault Refusal := .next (atTapPort tap (doDispatchSlot tap unit cord pin) s)

end Sys2Proof.Machine
end

