-- ==== Sys2Proof/Machine/Collector.lean ====
section
/-! DEFINITION. The Collector: the decision on a fault message, the first reaction, and the orders at the parts they reach
(08_faults_fencing_blaze R266–R289, 01_block_architecture R33, R36, R41, R56, 05_escrow_and_taint R195). -/
namespace Sys2Proof.Machine

/-! ### Loci and scopes (R271, R278) -/

/-- The locus of the part that sent a message, at its own level (R271). -/
def senderLoc (link unit cls : Nat) : Loc :=
  if cls = 7 then islandLoc
  else if link < 16 || link = 32 then (if unit < 144 then tapWholeLoc unit else regionLoc (unit - 144))
  else if link < 24 then ctrlLoc (link - 16)
  else if link < 32 then hcoreLoc (link - 24)
  else if link = 33 then hubLoc unit
  else hubLoc uFabric

/-- What severities 3–5 fence (R278). -/
inductive Reach where
  | scope (l : Loc)
  /-- a warden, handled as a missing one (R56). -/
  | warden (r : Nat)
  /-- the Cruise Engine. -/
  | cruise
  /-- as severity 2. -/
  | suspect
deriving DecidableEq, Repr

/-- The scope of a locus at a severity 3, 4 or 5 (R278). -/
def reach (sev : Nat) (l : Loc) : Reach :=
  let up (a b c : Loc) : Reach := .scope (if sev = 3 then a else if sev = 4 then b else c)
  match named l with
  | .core c u => up (coreLoc c u) (clusterLoc c) (regionLoc (c / 8))
  | .cmem c | .ctap c | .ctapRo c | .ctapCanary c | .cluster c => up (clusterLoc c) (clusterLoc c) (regionLoc (c / 8))
  | .slabSection r k => up (sectionLoc r k) (slabLoc r) (regionLoc r)
  | .slab r | .slabTap r => up (slabLoc r) (slabLoc r) (regionLoc r)
  | .warden r | .wardenPart r => if sev = 5 then .scope (regionLoc r) else .warden r
  | .region r => .scope (regionLoc r)
  | .channel m h => up (channelLoc m h) (ctrlLoc m) (ctrlLoc m)
  | .ctrl m | .memTap m => .scope (ctrlLoc m)
  | .hcore h | .hcoreTap h => .scope (hcoreLoc h)
  | .hub k => if k = uCruise then .cruise else .suspect
  | _ => .suspect

/-! ### Ordering (R36, R280, R285, R286, R289) -/

/-- A fence decided: the block adds none inside a larger fence or on a felled unit (R286); the host's is ordered separately
(R36); no order where the other already holds the same scope. -/
def orderFence (l : Loc) (host : Bool) (kind : Nat) (cseq : Option Nat) (s : State) : State :=
  let same := s.col.fences.any (fun f => f.scope == l)
  if felled s l || s.col.fences.any (fun f => f.scope == l && f.host == host) then s
  else if !host && s.col.fences.any (fun f => f.scope != l && covers f.scope l) then s
  else whenS (!same) (pushOrder ⟨false, .locus l⟩) { s with col := { s.col with fences := s.col.fences ++ [{ scope := l, host := host, kind := kind, cseq := cseq }] } }

/-- A fence of the block's or the host's lifted: the order goes unless the other still asks for the scope (R285, R289). A quiet that a
flood left behind with no fence of its own is lifted by an order that names its scope (R282, R285). -/
def orderLift (l : Loc) (host : Bool) (s : State) : State :=
  if !s.col.fences.any (fun f => f.scope == l && f.host == host) then
    whenS (!host && s.col.quiet.contains l.toNat && !s.col.fences.any (fun f => f.scope == l)) (pushOrder ⟨true, .locus l⟩) s
  else
    let left := s.col.fences.filter (fun f => !(f.scope == l && f.host == host))
    let s : State := { s with col := { s.col with fences := left } }
    whenS (!left.any (fun f => f.scope == l)) (pushOrder ⟨true, .locus l⟩) s

/-- The FENCE_REQ commands of an order complete: it is in force (R547). -/
def endReqs (o : Order) (s : State) : State :=
  let l := s.col.reqs.filter (fun q => q.order == o)
  foldS l (fun q t => completeCmd q.comp q.tag 0x04 stOk 0 t) { s with col := { s.col with reqs := s.col.reqs.filter (fun q => q.order != o) } }

/-! ### Missing taps and wardens (R56, R57) -/

/-- A warden is missing: its taps use their bypass links, its slices end, its gates pause 4 per 16, its slab is fenced (R56). -/
def wardenLost (r : Nat) (s : State) : State :=
  if s.col.wardensMissing.contains r then s
  else
    let s := withGates r 3 (fun t => { t with col := { t.col with wardensMissing := setAdd t.col.wardensMissing r } }) s
    orderFence (slabLoc r) false Kind.wardenMissing none (loseSlices (fun l => regionOf l == some r) s)

/-- A warden has returned: its links serve again and the pause of its gates goes (R56). -/
def wardenBack (r : Nat) (s : State) : State :=
  withGates r 3 (fun t => { t with col := { t.col with wardensMissing := setDel t.col.wardensMissing r } }) s

/-! ### Compartment and die stops (R41, R277, R286, R548) -/

/-- A compartment stop decided: its state changes at once, and the order is broadcast (R277, R363). -/
def stopComp (c kind cseq : Nat) (s : State) : State :=
  let p := s.comp c
  if p.st = .closed then s
  else if p.st = .stopped then updComp c (fun p => { p with causes := p.causes ++ [cseq], expelled := p.expelled || kind == Kind.digExpel }) s
  else
    let s := updComp c (fun p => { p with st := .stopped, cause := kind, causes := [cseq], expelled := kind == Kind.digExpel }) s
    pushOrder ⟨false, .comp c⟩ (updStop c (fun p => { p with fault := true }) s)

/-- The compartment of severity 6: that of the unit or cluster, above that the COMP of DETAIL (R277). -/
def stopTarget (s : State) (l : Loc) (m : W128) : Option Nat :=
  if fld l 13 3 ≤ 1 then locComp s l else if bitAt m 116 then some (fld m 112 4) else none

/-! ### The decision (R276–R283) -/

/-- A message of a kind that the hub raises while deciding (R279). -/
def raiseEsc (kind : Nat) (l : Loc) (s : State) : State := raiseHub uCollector kind l 0 s

/-- The fences in force, of the Collector's own placing and over parts that are not felled, whose scope satisfies `p` (R279). -/
def fencesOf (s : State) (p : Loc → Bool) : Nat := (s.col.fences.filter (fun f => !f.host && !felled s f.scope && p f.scope)).length

/-- No fence of the Collector holds `x` itself, nor any larger scope around it, and `l` is not felled (R279). -/
def fenceNew (s : State) (l x : Loc) : Bool :=
  !felled s l && !s.col.fences.any (fun f => !f.host && f.scope == x) && !s.col.fences.any (fun f => f.scope != x && covers f.scope x)

/-- A severity of 3 at a core that brings the fenced cores of its cluster to UNIT_ESC becomes 4 (R279). -/
def escalateCore (sev : Nat) (l : Loc) (s : State) : Nat × State :=
  match named l with
  | .core c u =>
    let n := fencesOf s (fun x => match named x with
      | .core c' _ => c' == c
      | _ => false)
    if sev = 3 && fenceNew s l (coreLoc c u) && decide (n + 1 ≥ unitEsc s) then (4, raiseEsc Kind.escUnits (clusterLoc c) s) else (sev, s)
  | _ => (sev, s)

/-- A severity of 4 at a cluster that brings the fenced clusters of its region to CLUSTER_ESC becomes 5 (R279). -/
def escalateCluster (sev : Nat) (l : Loc) (s : State) : Nat × State :=
  match (if sev = 4 then clusterOf l else none) with
  | some c =>
    let n := fencesOf s (fun x => match named x with
      | .cluster c' => c' / 8 == c / 8
      | _ => false)
    if fenceNew s l (clusterLoc c) && decide (n + 1 ≥ clusterEsc s) then (5, raiseEsc Kind.escClusters (regionLoc (c / 8)) s) else (sev, s)
  | none => (sev, s)

/-- The severity after R279, and whether it was raised. -/
def escalate (sev : Nat) (l : Loc) (s : State) : Nat × State :=
  let (sev, s) := escalateCore sev l s
  escalateCluster sev l s

/-- The Cruise Engine fenced: sampling stops and adjudication ends DEFER (R278). -/
def stopCruise (kind : Nat) (cseq : Option Nat) (s : State) : State :=
  let s : State := { s with gov := { s.gov with sampleOff := true } }
  if s.col.fences.any (fun f => f.scope == hubLoc uCruise) then s
  else { s with col := { s.col with fences := s.col.fences ++ [{ scope := hubLoc uCruise, host := false, kind := kind, cseq := cseq }] } }

/-- A message that asks for no order: its locus is felled (R286), or it is the failed link of a memory tap, whose controller goes on
serving writes (R56; log entry 33). -/
def noOrder (s : State) (kind : Nat) (l : Loc) : Bool :=
  felled s l || (kind == Kind.linkFail && match named l with
    | .memTap _ => true
    | _ => false)

/-- The first reaction at a severity (R277, R278, R286). -/
def react (sev kind cseq : Nat) (l : Loc) (m : W128) (s : State) : State :=
  if sev < 2 then s
  else if sev = 2 then setSuspect l s
  else if noOrder s kind l then s
  else if sev = 6 then
    match stopTarget s l m with
    | some c => stopComp c kind cseq s
    | none => setSuspect l s
  else if sev = 7 then stopDie kind s
  else match reach sev l with
    | .scope x => orderFence x false kind (some cseq) s
    | .warden r => wardenLost r s
    | .cruise => stopCruise kind (some cseq) s
    | .suspect => setSuspect l s

/-- The action a HOST_FENCE message carries: 0 fence, 1 lift, 2 stop (R289, R547). -/
def hostAct (act cseq : Nat) (l : Loc) (m : W128) (s : State) : State :=
  let c := fld m 112 4
  let n := s.col.orders.length
  let (o, s) := match act, reach 3 l with
    | 0, .scope x => ((⟨false, .locus x⟩ : Order), orderFence x true Kind.hostFence none s)
    | 1, .scope x => (⟨true, .locus x⟩, orderLift x true s)
    | _, _ => (⟨false, .comp c⟩, stopComp c Kind.hostFence cseq s)
  whenS (s.col.orders.length == n) (endReqs o) s

/-- An entry stored, or counted as lost where the queue is near full (R269, R283). -/
def storeIntake (e : Intake) (s : State) : State :=
  let n := s.col.intake.length
  let s : State := { s with col := { s.col with cseq := (s.col.cseq + 1) % 2 ^ 32 } }
  if n ≥ 4096 || (n ≥ 3840 && e.sev ≤ 1) then
    countHub 197 1 { s with col := { s.col with lost := min (s.col.lost + 1) 0xFFFF, ovfOwed := s.col.ovfOwed || decide (e.sev ≥ 2) } }
  else { s with col := { s.col with intake := s.col.intake ++ [{ e with lost := s.col.lost }], lost := 0 } }

/-- Kinds that count in n_W (R154). -/
def silentKind (k : Nat) : Bool := (0x101 ≤ k && k ≤ 0x105) || k == Kind.tolConfirmed || k == Kind.cruiseConfirmed || k == Kind.twinConfirmed

/-- The severity-4 scope of a locus quieted without a lookup, and whether it was not so before (R278, R282). The host's parts are asked by an
order; a warden is handled as missing, and the Cruise Engine stops sampling. -/
def floodQuiet (l : Loc) (s : State) : Bool × State :=
  if felled s l then (false, s)
  else match reach 4 l with
    | .scope x => if s.col.fences.any (fun g => covers g.scope x) || s.col.quiet.contains x.toNat then (false, s) else (true, pushOrder ⟨false, .locus x⟩ s)
    | .warden r => (!s.col.wardensMissing.contains r, wardenLost r s)
    | .cruise => (!s.gov.sampleOff, { s with gov := { s.gov with sampleOff := true } })
    | .suspect => (false, s)

/-- The flood quiet of a locus lifted, where the decided reaction does not hold the same scope (R282). -/
def floodLift (sev : Nat) (l : Loc) (s : State) : State :=
  match reach 4 l with
  | .scope x => whenS (!s.col.fences.any (fun g => g.scope == x)) (pushOrder ⟨true, .locus x⟩) s
  | .warden r => whenS (decide (sev < 3)) (wardenBack r) s
  | .cruise => if s.col.fences.any (fun f => f.scope == hubLoc uCruise) then s else { s with gov := { s.gov with sampleOff := false } }
  | .suspect => s

/-- The reaction order of a rehearsal: it carries the mark, and quiets nothing (R166). -/
def markOrder (sev cseq : Nat) (l : Loc) (s : State) : State :=
  match (if sev < 3 then .suspect else reach (min sev 5) l) with
  | .scope x => pushOrder ⟨false, .marked x cseq⟩ s
  | _ => s

/-- A message decided (R276–R283, R166). -/
def decideMsg (f : Flight) (s : State) : State :=
  let kind := msgKind f.msg
  let cls := msgClass f.msg
  let reh := msgReh f.msg
  let l0 := msgLocus f.msg
  let fixed := named l0 == .invalid
  let l := if fixed then senderLoc f.link f.unit cls else l0
  let m : W128 := BitVec.ofNat 128 (nset f.msg.toNat 16 16 l.toNat)
  let v0 := sevEntry s cls kind % 8
  let host := kind == Kind.hostFence && cls == 5
  let (v, s) := if reh || host then (v0, s) else escalate v0 l s
  let cseq := s.col.cseq
  let s := countHub 196 1 s
  let s := whenS (!reh && decide (v ≥ 1)) (countKind kind) s
  let s := whenS (!reh && silentKind kind) (countSilent l) s
  let s := storeIntake ⟨m, if f.flood then f.arr else s.et, cseq, v, f.flood, decide (v ≠ v0), fixed, f.link, 0⟩ s
  let s := if reh then markOrder v cseq l s else if host then hostAct (fld m 32 2) cseq l m s else react v kind cseq l m s
  whenS (f.quieted && !reh && decide (v < 4)) (floodLift v l) s

/-- The message that a link brings next: messages of one link are decided in the order of arrival (R280). -/
def linkHead (s : State) (link : Nat) : Option Flight := s.col.flight.find? (fun f => f.link == link)

/-- A good message from a part ends the wait for a repeat on the links that it came over (R29). -/
def goodWord (link unit : Nat) (s : State) : State :=
  let w := s.col.parityWait.del link
  { s with col := { s.col with parityWait := if (link < 16 || link = 32) && unit < 144 then w.del (64 + unit) else w } }

/-- FAULT_MESSAGE (R280): the oldest message of its link is decided. One that another on its link precedes waits; one that the
model does not hold, from a part outside it, is decided where its link is empty and else waits behind the others. -/
def doFaultMessage (link unit : Nat) (msg : W128) (s : State) : State :=
  let s := goodWord link unit s
  match linkHead s link with
  | some f =>
    if f.unit == unit && f.msg == msg then decideMsg f { s with col := { s.col with flight := s.col.flight.erase f } }
    else if s.col.flight.any (fun g => g.link == link && g.unit == unit && g.msg == msg) then s
    else raiseOn link unit msg s
  | none => decideMsg { link := link, unit := unit, msg := msg } s

/-- FAULT_MESSAGE. -/
def execFaultMessage (link unit : Nat) (msg : W128) (s : State) : Host.Outcome State Fault Refusal := .next (atHub (doFaultMessage link unit msg) s)

/-- FLOOD_QUIET (R282): 480 HCLK, 160 ticks, have passed since the arrival of a message whose FLOOD bit was set then. One that the model
does not hold comes from a part outside it, with the bit in force now. -/
def doFloodQuiet (link unit : Nat) (msg : W128) (s : State) : State :=
  let on := (sevEntry s (msgClass msg) (msgKind msg)).testBit 3
  let f0 := (s.col.flight.find? (fun f => f.link == link && f.unit == unit && f.msg == msg)).getD { link := link, unit := unit, msg := msg, floodOn := on }
  let l := if named (msgLocus msg) == .invalid then senderLoc link unit (msgClass msg) else msgLocus msg
  if f0.flood || !f0.floodOn then s
  else
    let (new, s) := if msgReh msg then (false, s) else floodQuiet l s
    let f1 : Flight := { f0 with flood := true, quieted := new, arr := s.et - 160 }
    if s.col.flight.contains f0 then { s with col := { s.col with flight := s.col.flight.map (fun f => if f == f0 then f1 else f) } }
    else { s with col := { s.col with flight := s.col.flight ++ [f1] } }

/-- FLOOD_QUIET. -/
def execFloodQuiet (link unit : Nat) (msg : W128) (s : State) : Host.Outcome State Fault Refusal := .next (atHub (doFloodQuiet link unit msg) s)

/-! ### Orders in force (R98, R195, R263, R284, R565) -/

/-- Not retired tickets of every tap that pass a test complete FENCED (R98). -/
def fenceAll (kind : Nat) (p : Nat → W256 → Bool) (s : State) : State := foldS (s.taps.map (fun e => e.1)) (fun t u => fenceTiles t (p t) kind u) s

/-- Outbound entries that pass a test fall: HELD ones dropped, and where `all` PROVISIONAL ones recanted (R195). -/
def dropSends (all : Bool) (kind : Nat) (p : EscEntry → Bool) (s : State) : State :=
  foldS s.esc.entries (fun ie t =>
    if ie.2.inbound || !p ie.2 then t else if all then recantOut kind ie.1 t else if ie.2.st = .held then dropHeld ie.1 t else t) s

/-- What a fence in force does to a spare: it is fenced, and replaced (R251, R252). -/
def fenceSpare (l : Loc) (s : State) : State :=
  foldS (s.jrn.spares.filter (fun e => covers l (clusterLoc e.1) && e.2 != .fenced)) (fun e t => redrawOne (setSpare e.1 .fenced t)) s

/-- A fence takes effect at its scope (R50, R98, R195, R254, R284). -/
def quietLocus (l : Loc) (s : State) : State :=
  let f := s.col.fences.find? (fun f => f.scope == l)
  let kind := (f.map (fun f => f.kind)).getD 0
  let s : State := { s with col := { s.col with quiet := setAdd s.col.quiet l.toNat } }
  let s := fenceSlices (fun x => covers l x) (emit (.quiet (.locus l) true) s)
  let s := fenceAll kind (fun t w => let x := tapUnitLoc t (tkUnit w); covers l x && !(tkPin w && x == l)) s
  let s := fenceSpare l (dropSends false kind (fun e => covers l e.locus) s)
  let s := match named l with
    | .hcore h => { s with cmd := { s.cmd with halted := setAdd s.cmd.halted h } }
    | _ => s
  let pin := decide (0x101 ≤ kind ∧ kind ≤ 0x105) || kind == Kind.tolConfirmed
  let s := fenceTwins (covers l) s
  whenS f.isSome (waitSkid l (pin && (match named l with
    | .core _ _ | .slab _ => true
    | _ => false))) s

/-- A screen hold that a confirm, a timeout or a missing clear left behind goes with the fence (DESIGN CHOICE, log entry 17). -/
def dropHolds (l : Loc) (s : State) : State :=
  let busy (h : Nat) : Bool := s.scr.slices.any (fun e => e.2.locus.toNat == h) || s.scr.confirms.any (fun x => x.locus.toNat == h)
  { s with scr := { s.scr with holds := s.scr.holds.filter (fun h => !covers l (BitVec.ofNat 16 h) || fenced s (BitVec.ofNat 16 h) || busy h) } }

/-- A scope is quiet no more (R259, R285, R403). -/
def wakeLocus (l : Loc) (s : State) : State :=
  let s : State := { s with col := { s.col with quiet := setDel s.col.quiet l.toNat } }
  let s := endRedirs l (emit (.quiet (.locus l) false) s)
  let s := foldS (s.jrn.spares.filter (fun e => covers l (clusterLoc e.1) && e.2 == .fenced && !fenced s (clusterLoc e.1))) (fun e t => setSpare e.1 .idle t) s
  let s := dropHolds l (retrySkids s)
  match named l with
  | .hcore h => { s with cmd := { s.cmd with halted := if s.col.quietDie then s.cmd.halted else setDel s.cmd.halted h } }
  | .region r => leaveTrip r s
  | _ => s

/-- Samples and retained records of a compartment go without being counted (R138). -/
def dropChecks (c : Nat) (s : State) : State :=
  let s : State := { s with gov := { s.gov with samples := s.gov.samples.filter (fun x => x.comp != c), mismatched := s.gov.mismatched.filter (fun x => x.comp != c) } }
  let f (p : Tap) : Tap := { p with ercRecs := p.ercRecs.filter (fun r => tkComp r.ticket != c), tolRecs := p.tolRecs.filter (fun r => tkComp r.ticket != c) }
  let s : State := { s with taps := s.taps.mapV (fun _ p => f p) }
  foldS (cordSlots s (fun k => k.comp == c && decide (k.checksOpen > 0))) (fun i t => updCord i (fun k => { k with checksOpen := 0 }) t) s

/-- A compartment's queued trace and spill writes are dropped (R284). -/
def dropWrites (c : Nat) (s : State) : State :=
  let mine (u : XferFor) : Bool := match u with
    | .spill slot => ((s.cord slot).map (fun k => k.comp)) == some c
    | .trace n _ _ _ => n == c
    | _ => false
  let gone := s.cmd.xwait.filter (fun w => mine w.1.use)
  let s : State := { s with cmd := { s.cmd with xwait := s.cmd.xwait.filter (fun w => !mine w.1.use) } }
  let s := foldS gone (fun w t => match w.1.use with
    | .spill slot => spillDone slot t
    | _ => t) s
  dropTrace c s

/-- Inbound entries of a compartment are freed without RECANT_ACK (R195). -/
def freeInbound (c : Nat) (s : State) : State :=
  foldS s.esc.entries (fun ie t => if ie.2.inbound && ie.2.comp == c then freeEntry ie.1 t else t) s

/-- A compartment stop takes effect (R41, R195, R224, R263, R284). -/
def quietComp (c : Nat) (s : State) : State :=
  let s : State := { s with col := { s.col with quietComps := setAdd s.col.quietComps c } }
  let s := fenceAll (s.comp c).cause (fun _ w => tkComp w == c) (emit (.quiet (.comp c) true) s)
  let s := dropSends true (s.comp c).cause (fun e => e.comp == c) s
  dropWrites c (stopDigest c (dropChecks c (endSkids c (freeInbound c s))))

/-- A die stop takes effect: sends are recanted first, then job traffic is blocked (R195, R277, R284). -/
def quietAll (s : State) : State :=
  let s : State := { s with cmd := { s.cmd with halted := List.range 8 } }
  let s := fenceSlices (fun _ => true) (emit (.quiet .die true) s)
  let cause := ((((List.range 16).map s.comp).find? (fun p => p.st != .closed)).map (fun p => p.cause)).getD 0
  let s := dropSends true cause (fun _ => true) (fenceAll cause (fun _ _ => true) s)
  { s with col := { s.col with quietDie := true } }

/-- A marked order reaches the taps of its scope: each records when it would have quieted (R166). -/
def markQuiet (l : Loc) (cseq : Nat) (s : State) : State :=
  { s with taps := s.taps.mapV (fun t p => if covers l (tapWholeLoc t) || covers (tapWholeLoc t) l then { p with wouldQuiet := p.wouldQuiet.put cseq s.et } else p) }

/-! ### Lease answers that wait for quiet (R302, R304) -/

/-- A lease. -/
def State.lease (s : State) (i : Nat) : Lease := Tbl.get s.col.leases i Lease.reset
def updLease (i : Nat) (f : Lease → Lease) (s : State) : State := { s with col := { s.col with leases := s.col.leases.upd i Lease.reset f } }

/-- STATE of R301. -/
def LeaseSt.code : LeaseSt → Nat
  | .off => 0 | .armed => 1 | .held => 2 | .expired => 3 | .revoked => 4

/-- SCOPE of an answer (R302). -/
def leaseScope (s : State) (i : Nat) : Nat :=
  if s.cmd.dieStop then 2
  else if i ≥ 16 then 0
  else if (s.comp i).st = .stopped ∨ (s.comp i).st = .reseeding then 1
  else if (List.range 152).all (fun u => assigned s u != some i) then 3
  else if (s.comp i).st = .opened then 0 else 1

/-- ACK (type 2) or REVOKE_ACK (type 4) to the lease's HOLDER (R302). -/
def leaseAnswer (typ i nonce : Nat) (s : State) : State :=
  let l := s.lease i
  sendPlain none vcLease l.holder 1 (pack [(4, typ), (4, 0), (5, i), (3, 0), (16, nonce), (16, 0), (16, 0), (32, if typ = 2 then l.periodUs else 0),
    (3, l.state.code), (2, leaseScope s i)]) s

/-- A lease's scope is quiet: its compartment's parts, or the die's (R304). -/
def leaseQuiet (s : State) (i : Nat) : Bool := if i < 16 then compQuiet s i || (s.comp i).st == .closed else s.col.quietDie

/-- REVOKE_ACKs whose scope has become quiet leave (R304). -/
def revokeAcks (s : State) : State :=
  let due := s.col.revokes.filter (fun r => leaseQuiet s r.1)
  foldS due (fun r t => leaseAnswer 4 r.1 r.2 t) { s with col := { s.col with revokes := s.col.revokes.filter (fun r => !leaseQuiet s r.1) } }

/-- The next order reaches its parts. -/
def applyOrder (o : Order) (s : State) : State :=
  let s := match o.lift, o.scope with
    | false, .locus l => quietLocus l s
    | false, .comp c => quietComp c s
    | false, .die => quietAll s
    | true, .locus l => wakeLocus l s
    | true, .comp c => emit (.quiet (.comp c) false) { s with col := { s.col with quietComps := setDel s.col.quietComps c } }
    | true, .die => s
    | _, .marked l cseq => markQuiet l cseq s
  revokeAcks (endReqs o (sweepSends s))

/-- The oldest order, where it is a lift or not as the command says, arrives (R280, R285, R565). -/
def nextOrder (lift : Bool) (s : State) : State :=
  match s.col.orders with
  | o :: rest => if o.lift = lift then applyOrder o { s with col := { s.col with orders := rest } } else s
  | [] => s

end Sys2Proof.Machine
end

