-- ==== Sys2Proof/Machine/Fell.lean ====
section
/-! DEFINITION. Felling, the field fell map and the retry of a missing tap (08_faults_fencing_blaze R290–R293, 07 R252, 11 R381). -/
namespace Sys2Proof.Machine

/-- The bytes of the map between DIE_ID and CHECK (R291). -/
def fellImage (m : FellMap) : Nat :=
  pack [(4096, m.cores.toNat), (128, m.clusters.toNat), (256, m.sections.toNat), (128, m.channels.toNat), (8, m.hcores.toNat), (8, 0), (16, m.slabs.toNat), (3360, 0)]

abbrev fellMagic : Nat := 0x46454C4C

/-- A locus's bit in the map set or cleared; none where the map has no place for it (R291). -/
def fellBit (l : Loc) (on : Bool) (m : FellMap) : Option FellMap :=
  let put {n : Nat} (v : BitVec n) (i : Nat) : BitVec n := BitVec.ofNat n (nset v.toNat i 1 (b2n on))
  match named l with
  | .core c u => some { m with cores := put m.cores (32 * c + u) }
  | .cluster c => some { m with clusters := put m.clusters c }
  | .slabSection r k => some { m with sections := put m.sections (16 * r + k) }
  | .slab r => some { m with slabs := put m.slabs r }
  | .channel c h => some { m with channels := put m.channels (16 * c + h) }
  | .hcore h => some { m with hcores := put m.hcores h }
  | _ => none

/-- The map as it is written: without the loci that service tokens have cleared (R610). -/
def mapWritten (s : State) : FellMap := s.col.undone.foldl (fun m l => (fellBit (BitVec.ofNat 16 l) false m).getD m) s.col.fell

/-- The map written to the copy with the lower GEN; where the device does not answer the write is owed and FELL_WRITE raised (R292). -/
def writeFell (s : State) : State :=
  if s.recd.cellarAbsent then
    raiseHub uRecorder Kind.fellWrite (hubLoc uRecorder) 0 { s with col := { s.col with fellOwed := true } }
  else
    let s := twoCopyWrite 0x1000 0x1400 1024 fellMagic (fellImage (mapWritten s)) s
    let gen := ((bestCopy s 0x1000 0x1400 1024 fellMagic).map (fun c => c.2)).getD 0
    { s with col := { s.col with fellOwed := false, fellGen := gen } }

/-- The map read at entry to SELFTEST; neither copy correct: the fuse map alone, and FELL_WRITE (R291). -/
def readFell (s : State) : State :=
  match bestCopy s 0x1000 0x1400 1024 fellMagic with
  | some (a, g) =>
    let v := ofBytes (cellarBytes s (a + 16) 1000)
    let m : FellMap := ⟨BitVec.ofNat 4096 (nfld v 0 4096), BitVec.ofNat 128 (nfld v 4096 128), BitVec.ofNat 256 (nfld v 4224 256),
      BitVec.ofNat 128 (nfld v 4480 128), BitVec.ofNat 8 (nfld v 4608 8), BitVec.ofNat 16 (nfld v 4624 16)⟩
    { s with col := { s.col with fell := m, fellGen := g } }
  | none => raiseHub uRecorder Kind.fellWrite (hubLoc uRecorder) 0 { s with col := { s.col with fell := FellMap.none, fellGen := 0 } }

/-- The spare that holds a felled unit's work is assigned to the compartment, its redirections end, and a new one is drawn (R252, R259). -/
def promoteSpares (l : Loc) (s : State) : State :=
  foldS (s.jrn.redirs.filter (fun r => covers l r.1 || r.1 == l)) (fun r t =>
    match clusterOf r.2.1 with
    | some k =>
      if promote t r.2.2 && t.jrn.spares.has k then
        let t := placeSpare k none t
        let t : State := { t with cmd := { t.cmd with assigns := t.cmd.assigns.put k (16 + r.2.2) } }
        redrawOne { t with jrn := { t.jrn with redirs := t.jrn.redirs.filter (fun q => clusterOf q.2.1 != some k) } }
      else t
    | none => t) s

/-- A locus felled: it takes effect at once, the map is written, and FELL raised (R292). A felled cluster leaves the spare set. -/
def fellOne (l : Loc) (s : State) : State :=
  match fellBit l true s.col.fell with
  | none => s
  | some m =>
    if felled s l then s
    else
      let s := promoteSpares l { s with col := { s.col with fell := m } }
      let s := match named l with
        | .cluster c => if s.jrn.spares.has c then redrawOne (placeSpare c none s) else s
        | _ => s
      raiseHub uCollector Kind.fell l 0 (writeFell s)

/-- A locus felled, and with its last unit its cluster (R37). -/
def fellLocus (l : Loc) (s : State) : State :=
  let s := fellOne l s
  match named l with
  | .core c _ => whenS ((List.range 32).all (fun u => felled s (coreLoc c u))) (fellOne (clusterLoc c)) s
  | _ => s

/-- FELL_WRITE (R292): a failed write is repeated. -/
def doFellWrite (wrote : Bool) (s : State) : State :=
  if !s.col.fellOwed then s
  else if wrote then writeFell s
  else raiseHub uRecorder Kind.fellWrite (hubLoc uRecorder) 0 s

/-- FELL_WRITE. -/
def execFellWrite (wrote : Bool) (s : State) : Host.Outcome State Fault Refusal := .next (atHub (doFellWrite wrote) s)

/-- A tap's self-test has failed once more: it is retried, or its cluster or slab is felled (R288, R381). -/
def tapTestFailed (tap : Nat) (s : State) : State :=
  let n := Tbl.get s.scr.tapFails tap 0 + 1
  let s : State := { s with scr := { s.scr with tapFails := s.scr.tapFails.put tap n, tapTested := s.scr.tapTested.put tap s.et } }
  if n ≥ tapRetryMax s then
    fellLocus (tapWholeLoc tap) { s with scr := { s.scr with tapRetry := setDel s.scr.tapRetry tap } }
  else { s with scr := { s.scr with tapRetry := setAdd s.scr.tapRetry tap } }

/-- TAP_RETRY (R56, R381): 100 ms after a failure the tap is tested again; one that passes is in service again. -/
def doTapRetry (tap : Nat) (pass : Bool) (s : State) : State :=
  if !s.scr.tapRetry.contains tap || (s.scr.tapTested.find? tap).any (fun t => decide (s.et < t + 40000000)) then s
  else if pass then
    let s : State := { s with scr := { s.scr with tapRetry := setDel s.scr.tapRetry tap, tapFails := s.scr.tapFails.del tap } }
    let s : State := { s with col := { s.col with tapsMissing := setDel s.col.tapsMissing tap, beats := s.col.beats.put tap s.et } }
    orderLift (tapWholeLoc tap) false s
  else tapTestFailed tap s

/-- TAP_RETRY. -/
def execTapRetry (tap : Nat) (pass : Bool) (s : State) : Host.Outcome State Fault Refusal := .next (atHub (doTapRetry tap pass) s)

end Sys2Proof.Machine
end

