-- ==== Sys2Proof/Machine/Crypto.lean ====
section
/-! DEFINITION. The two standards that the spec names and does not print, written from general knowledge (PRESUMED, log entry 22): SHA-384
of FIPS 180-4, and the verification of an ECDSA signature on the curve P-384 (FIPS 186-5, R293, R383, R488). Integers are little-endian
in the layouts that carry them (R11, R382); a digest is the standard's bytes in their order. -/
namespace Sys2Proof.Machine

/-! ### SHA-384 -/

/-- The largest e-th root of n below r + 2^bits that r starts, found from the top bit down. -/
def rootFrom (e n : Nat) : Nat → Nat → Nat
  | 0, r => r
  | bits + 1, r => rootFrom e n bits (if (r + 2 ^ bits) ^ e ≤ n then r + 2 ^ bits else r)

/-- The first 64 bits of the fractional part of the e-th root of p. -/
def rootFraction (e p : Nat) : Nat := rootFrom e (p * 2 ^ (64 * e)) 70 0 % 2 ^ 64

/-- The first 80 primes. -/
def shaPrimes : List Nat := (List.range 410).filter (fun n => decide (1 < n) && (List.range n).all (fun d => d < 2 || n % d != 0))

/-- The 80 round constants: the fractions of the cube roots of the first 80 primes. -/
def shaK : List Nat := shaPrimes.map (rootFraction 3)

/-- The initial hash value of SHA-384: the fractions of the square roots of the ninth to the sixteenth prime. -/
def shaInit : List Nat := ((shaPrimes.drop 8).take 8).map (rootFraction 2)

/-- A 64-bit rotation to the right. -/
def rotr (x n : Nat) : Nat := (x >>> n) ||| (x <<< (64 - n) % 2 ^ 64)

/-- The word of the message schedule that follows 16 given ones. -/
def shaNext (w : List Nat) : Nat :=
  let a := w.getD 1 0
  let b := w.getD 14 0
  ((rotr b 19 ^^^ rotr b 61 ^^^ (b >>> 6)) + w.getD 9 0 + (rotr a 1 ^^^ rotr a 8 ^^^ (a >>> 7)) + w.headD 0) % 2 ^ 64

/-- One round, with its constant and schedule word, on the eight working variables. -/
def shaRound (k w : Nat) (v : List Nat) : List Nat :=
  match v with
  | [a, b, c, d, e, f, g, h] =>
    let t := h + (rotr e 14 ^^^ rotr e 18 ^^^ rotr e 41) + ((e &&& f) ^^^ ((2 ^ 64 - 1 - e) &&& g)) + k + w
    let u := (rotr a 28 ^^^ rotr a 34 ^^^ rotr a 39) + ((a &&& b) ^^^ (a &&& c) ^^^ (b &&& c))
    [(t + u) % 2 ^ 64, a, b, c, (d + t) % 2 ^ 64, e, f, g]
  | _ => v

/-- The rounds of one block, each with the front of the schedule's window. -/
def shaRounds : List Nat → List Nat → List Nat → List Nat
  | [], _, v => v
  | k :: ks, w, v => shaRounds ks (w.tail ++ [shaNext w]) (shaRound k (w.headD 0) v)

/-- Groups of n, in order, as long as there is a whole group; `fuel` bounds how many. -/
def groups {α : Type} (n : Nat) : Nat → List α → List (List α)
  | 0, _ => []
  | fuel + 1, l => if l.length < n then [] else l.take n :: groups n fuel (l.drop n)

/-- The value of bytes, most significant first, as FIPS 180-4 reads words. -/
def ofBytesBE (l : List Byte) : Nat := l.foldl (fun v b => 256 * v + b.toNat) 0

/-- One block of 128 B. -/
def shaBlock (h : List Nat) (block : List Byte) : List Nat :=
  List.zipWith (fun a b => (a + b) % 2 ^ 64) h (shaRounds shaK ((groups 8 16 block).map ofBytesBE) h)

/-- A message with its padding: a 1 bit, zeros, and the length in bits over 16 B. -/
def shaPad (m : List Byte) : List Byte :=
  m ++ 0x80 :: List.replicate ((239 - m.length % 128) % 128) 0 ++ (toBytes 16 (8 * m.length)).reverse

/-- The 48 bytes of SHA-384. -/
def shaBytes (m : List Byte) : List Byte :=
  let p := shaPad m
  let h := (groups 128 (p.length / 128) p).foldl shaBlock shaInit
  (h.take 6).flatMap (fun w => (toBytes 8 w).reverse)

/-- SHA-384 of a message, the digest's byte k in bits 8k to 8k + 7. -/
@[irreducible] def sha384 (m : List Byte) : BitVec 384 := BitVec.ofNat 384 (ofBytes (shaBytes m))

/-! ### ECDSA on P-384 -/

/-- The field's prime. -/
def ecP : Nat := 0xFFFFFFFFFFFFFFFFFFFFFFFFFFFFFFFFFFFFFFFFFFFFFFFFFFFFFFFFFFFFFFFEFFFFFFFF0000000000000000FFFFFFFF

/-- The order of the base point. -/
def ecN : Nat := 0xFFFFFFFFFFFFFFFFFFFFFFFFFFFFFFFFFFFFFFFFFFFFFFFFC7634D81F4372DDF581A0DB248B0A77AECEC196ACCC52973

/-- The curve's b; its a is -3. -/
def ecB : Nat := 0xB3312FA7E23EE7E4988E056BE3F82D19181D9C6EFE8141120314088F5013875AC656398D8A2ED19D2A85C8EDD3EC2AEF

/-- The base point. -/
def ecGx : Nat := 0xAA87CA22BE8B05378EB1C71EF320AD746E1D3B628BA79B9859F741E082542A385502F25DBF55296C3A545E3872760AB7

/-- The base point. -/
def ecGy : Nat := 0x3617DE4A96262C6F5D9E98BF9292DC29F8F41DBD289A147CE9DA3113B5F0B8C00A60B1CE1D7E819D7A431D7C90EA0E5F

/-- A power by squaring, over the low `bits` bits of the exponent. -/
def powMod (m : Nat) : Nat → Nat → Nat → Nat
  | 0, _, _ => 1
  | bits + 1, x, e => (if e % 2 = 1 then x else 1) * powMod m bits (x * x % m) (e / 2) % m

/-- The inverse modulo a prime, by Fermat. -/
def invMod (m x : Nat) : Nat := powMod m 384 x (m - 2)

/-- A difference modulo the prime of numbers below it. -/
def subP (x y : Nat) : Nat := (x + ecP - y) % ecP

/-- A point in Jacobian coordinates: (X, Y, Z) stands for (X/Z², Y/Z³), and Z = 0 for the point at infinity. -/
abbrev EcPoint := Nat × Nat × Nat

/-- Twice a point. -/
def ecDouble (q : EcPoint) : EcPoint :=
  let (x, y, z) := q
  let yy := y * y % ecP
  let s := 4 * x * yy % ecP
  let zz := z * z % ecP
  let m := 3 * subP x zz * (x + zz) % ecP
  let x' := subP (subP (m * m % ecP) s) s
  (x', subP (m * subP s x' % ecP) (8 * yy * yy % ecP), 2 * y * z % ecP)

/-- The sum of two points. -/
def ecAdd (q r : EcPoint) : EcPoint :=
  let (x, y, z) := q
  let (a, b, c) := r
  if z = 0 then r else if c = 0 then q
  else
    let zz := z * z % ecP
    let cc := c * c % ecP
    let u := x * cc % ecP
    let s := y * cc * c % ecP
    let h := subP (a * zz % ecP) u
    let d := subP (b * zz * z % ecP) s
    if h = 0 then (if d = 0 then ecDouble q else (1, 1, 0))
    else
      let hh := h * h % ecP
      let hhh := h * hh % ecP
      let v := u * hh % ecP
      let x' := subP (subP (subP (d * d % ecP) hhh) v) v
      (x', subP (d * subP v x' % ecP) (s * hhh % ecP), h * z * c % ecP)

/-- k times a point, over the low `bits` bits of k. -/
def ecMul : Nat → Nat → EcPoint → EcPoint
  | 0, _, _ => (1, 1, 0)
  | bits + 1, k, q => let r := ecMul bits (k / 2) (ecDouble q)
    if k % 2 = 1 then ecAdd q r else r

/-- A public key is a point of the curve. -/
def ecOnCurve (x y : Nat) : Bool :=
  decide (x < ecP) && decide (y < ecP) && (y * y % ecP == (x * x * x + (ecP - 3) * x + ecB) % ecP)

/-- Whether a signature (r in its low half, s in its high half) over a message is correct under a public key (KEY_X in its low half, KEY_Y in
its high half): FIPS 186-5, with SHA-384 as its hash (R383, R488). -/
@[irreducible] def ecdsaP384 (key : BitVec 768) (m : List Byte) (sig : BitVec 768) : Bool :=
  let qx := fld key 0 384
  let qy := fld key 384 384
  let r := fld sig 0 384
  let s := fld sig 384 384
  let w := invMod ecN s
  let (x, _, z) := ecAdd (ecMul 384 (ofBytesBE (shaBytes m) * w % ecN) (ecGx, ecGy, 1)) (ecMul 384 (r * w % ecN) (qx, qy, 1))
  let zi := invMod ecP z
  ecOnCurve qx qy && decide (0 < r) && decide (r < ecN) && decide (0 < s) && decide (s < ecN) && decide (z ≠ 0)
    && (x * zi % ecP * zi % ecP % ecN == r)

end Sys2Proof.Machine
end

