-- ==== Sys2Proof/Machine/Recorder.lean ====
section
/-! DEFINITION. The event recorder, its freeze, its flush to the cellar and the authorised clear (15_event_recorder). -/
namespace Sys2Proof.Machine

def fFlushEn : RF := ⟨0x1D00, 0, 1, 1⟩
def fRecRefused : RF := ⟨0x1D00, 1, 1, 0⟩
def fFreezeS : RF := ⟨0x1D00, 8, 8, 10⟩
def fFlushMs : RF := ⟨0x1D00, 16, 10, 1⟩
def fFzCount : RF := ⟨0x1D20, 0, 15, 0⟩
def fRecSlot : RF := ⟨0x1D28, 0, 15, 0⟩
def fRecDone : RF := ⟨0x1D28, 16, 1, 0⟩
def fRecErr : RF := ⟨0x1D28, 17, 2, 0⟩
def fRateCode : RF := ⟨0x1D30, 0, 12, 0⟩
def fRateRate : RF := ⟨0x1D30, 12, 4, 6⟩
def fRateBurst : RF := ⟨0x1D30, 16, 4, 8⟩
def fRateSupp : RF := ⟨0x1D30, 32, 16, 0⟩
def fCellAddr : RF := ⟨0x1E00, 0, 26, 0⟩
def fCellDone : RF := ⟨0x1E00, 27, 1, 0⟩
def fCellErr : RF := ⟨0x1E00, 28, 1, 0⟩

/-- Bank and word of the first half of ring slot k, which lies in banks 8–11 (R30, R474). -/
def ringBank (k : Nat) : Nat := 8 + k % 32768 / 8192
def ringWord (k : Nat) : Nat := 2 * (k % 8192)

/-- The 64 B of ring slot k as read, and whether a word of it is uncorrectable (R417, R478). -/
def ringRead (s : State) (k : Nat) : BitVec 512 × Bool :=
  let a := s32Dec (bankWord s (ringBank k) (ringWord k))
  let b := s32Dec (bankWord s (ringBank k) (ringWord k + 1))
  (BitVec.ofNat 512 (a.1.toNat + 2 ^ 256 * b.1.toNat), a.2 == .uncorrectable || b.2 == .uncorrectable)

def recCode (r : BitVec 512) : Nat := fld r 0 12
def recType (r : BitVec 512) : Nat := fld r 12 4
def recSev (r : BitVec 512) : Nat := fld r 16 3
def recRseq (r : BitVec 512) : Nat := fld r 64 64

/-- The ring's slots that are not empty, with their RSEQ (R471). -/
def ringSlots (s : State) : List (Nat × Nat) :=
  s.bnk.words.filterMap (fun (k, w) =>
    if 16384 * 8 ≤ k && k < 16384 * 12 && k % 2 == 0 && fld w 64 64 != 0 then some ((k - 16384 * 8) / 2, fld w 64 64) else none)

/-- The slot that holds a record, while it is in the ring. -/
def slotOf (s : State) (rseq : Nat) : Option Nat := ((ringSlots s).find? (fun e => e.2 == rseq)).map (fun e => e.1)

/-- The first slot from `k` on that is not protected, among the next `n`. -/
def freeSlot (prot : List Nat) : Nat → Nat → Nat
  | 0, k => k % 32768
  | n + 1, k => if prot.contains (k % 32768) then freeSlot prot n (k + 1) else k % 32768

/-- The slot the next record takes: after the newest, past protected slots (R479). The first record takes slot 0. -/
def nextSlotOf (s : State) : Nat :=
  let prot := match s.recd.freeze with
    | some f => f.slots
    | none => []
  freeSlot prot prot.length (if (ringSlots s).isEmpty then 0 else s.recd.head + 1)

/-- A token bucket; every entry starts at RATE 6 and BURST 8, full (R475). -/
def bucketOf (s : State) (code : Nat) : Bucket := s.recd.buckets.get code Bucket.reset

/-- Records that are never limited (R476). -/
def unlimited (r : BitVec 512) : Bool :=
  (recType r == 1 && decide (recSev r ≥ 5)) || (recType r == 2 && [0x0A8, 0x0A9, 0x0AD, 0x0AE, 0x0AF].contains (recCode r))

/-- One record written into the ring with SUPP, DIE, RSEQ, ET, DIE_SET and CHECK filled in (R472, R474). -/
def ringPut (r : BitVec 512) (supp : Nat) (s : State) : State :=
  let n := s.recd.rseq + 1
  let slot := nextSlotOf s
  let die := if s.dieSet then s.die else 0
  let v := nset (nset (nset (nset (nset r.toNat 32 16 supp) 48 16 die) 64 64 n) 128 64 s.et) 448 32 (b2n s.dieSet)
  let v := nset v 480 32 (chipperVal 60 (v % 2 ^ 480) % 2 ^ 32)
  let s := bankStore (ringBank slot) (ringWord slot) (BitVec.ofNat 256 (v % 2 ^ 256)) s
  let s := bankStore (ringBank slot) (ringWord slot + 1) (BitVec.ofNat 256 (v / 2 ^ 256)) s
  { s with recd := { s.recd with rseq := n, head := slot, unflushed := s.recd.unflushed ++ [(n, s.et)] } }

/-- A bucket changed. -/
def setBucket (code : Nat) (b : Bucket) (s : State) : State := { s with recd := { s.recd with buckets := s.recd.buckets.put code b } }

/-- A record written, or counted in SUPP where its bucket is empty (R475–R477). -/
def writeRecord (r : BitVec 512) (s : State) : State :=
  let b := bucketOf s (recCode r)
  let rate := if b.oldLeft > 0 then b.oldRate else b.rate
  let b := { b with oldLeft := b.oldLeft - 1 }
  if unlimited r then ringPut r b.supp (setBucket (recCode r) { b with supp := 0 } s)
  else if rate = 15 then ringPut r b.supp (setBucket (recCode r) { b with supp := 0 } s)
  else if b.tokens = 0 then setBucket (recCode r) { b with supp := min (b.supp + 1) 0xFFFF } s
  else ringPut r b.supp (setBucket (recCode r) { b with supp := 0, tokens := b.tokens - 1 } s)

/-- Header bytes of a power-fail area: the fields up to LOST, then CHECK over them and the records (R485). -/
def pfHeader (s : State) (gen first last et n lost : Nat) (recs : List Byte) : List Byte :=
  let h := toBytes 56 (pack [(32, 0x46504352), (32, gen), (64, s.fuse.dieId.toNat), (64, first), (64, last), (64, et), (16, n), (16, lost)])
  h ++ toBytes 8 (chipperSig (h ++ recs))

/-- Base of power-fail area A and B (R480). -/
def pfAddr (b : Bool) : Nat := if b then 0x420000 else 0x400000

/-- Header fields of an area as they lie in the cellar. -/
def pfField (s : State) (b : Bool) (off len : Nat) : Nat := ofBytes (cellarBytes s (pfAddr b + off) len)

/-- The bytes of an area's records. -/
def pfRecords (s : State) (b : Bool) : List Byte := cellarBytes s (pfAddr b + 64) (64 * min (pfField s b 40 2) 1024)

/-- MAGIC and DIE_ID of an area are correct. -/
def pfNamed (s : State) (b : Bool) : Bool := pfField s b 0 4 == 0x46504352 && pfField s b 8 8 == s.fuse.dieId.toNat

/-- An area whose CHECK is correct too (R486). -/
def pfValid (s : State) (b : Bool) : Bool :=
  pfNamed s b && pfField s b 56 8 == chipperSig (cellarBytes s (pfAddr b) 56 ++ pfRecords s b)

/-- GEN of an area that names this die, else 0. -/
def pfGen (s : State) (b : Bool) : Nat := if pfNamed s b then pfField s b 4 4 else 0

/-- The area with the higher GEN is B. -/
def pfNewer (s : State) : Bool := decide (pfGen s true > pfGen s false)

/-- The records of the ring with RSEQ above `n`, in RSEQ order: RSEQ rises as they are listed. -/
def newestRecords (s : State) (n : Nat) : List (Nat × BitVec 512) :=
  ((ringSlots s).filterMap (fun (k, q) => if q > n then some (q, (ringRead s k).1) else none)).mergeSort (fun a b => a.1 ≤ b.1)

/-- LOST of the area being written counts a record that came after REC_PF; the header goes out within 190 µs, 76,000 ticks, of PF_WARN
(R484, R485). -/
def pfLoss (s : State) : State :=
  let b := pfNewer s
  let n := min (s.recd.lostPf + 1) 0xFFFF
  let open_ := decide (s.et ≤ pfField s b 32 8 + 76000)
  let s := { s with recd := { s.recd with lostPf := n } }
  let h := pfHeader s (pfField s b 4 4) (pfField s b 16 8) (pfField s b 24 8) (pfField s b 32 8) (pfField s b 40 2) n (pfRecords s b)
  whenS (pfNamed s b && open_) (cellarWrite (pfAddr b) h) s

/-- The power-fail flush: queued records, REC_PF, then the newest 1,024 records and the header into the area with the
lower GEN (R484). -/
def pfFlush (s : State) : State :=
  let queued := s.recd.input
  let s := foldS queued writeRecord { s with recd := { s.recd with input := [] } }
  let oldest := match s.col.intake with
    | e :: _ => e.cseq
    | [] => 0
  let s := writeRecord (recImage Kind.recPf 2 0 false 0 0 false false 0 s.isl.st.code (pack [(16, s.col.intake.length), (32, oldest)]) 0) s
  let recs := newestRecords s (s.recd.rseq - 1024)
  let bytes := recs.flatMap (fun e => toBytes 64 e.2.toNat)
  let b := !pfNewer s
  let first := match recs with
    | e :: _ => e.1
    | [] => s.recd.rseq
  let s := { s with recd := { s.recd with lostPf := 0, pfHold := true } }
  let h := pfHeader s (max (pfGen s true) (pfGen s false) + 1) first s.recd.rseq s.et recs.length 0 bytes
  cellarWrite (pfAddr b) h (cellarWrite (pfAddr b + 64) bytes s)

/-- RECORD_WRITE (R474): the head of the input queue is taken once the Recorder owns its banks (R592); after REC_PF
nothing is written and the loss is counted (R484). -/
def doRecordWrite (s : State) : State :=
  match s.recd.input with
  | [] => s
  | r :: rest =>
    if !s.recd.running then s
    else
      let s := admitRec { s with recd := { s.recd with input := rest } }
      if s.recd.pfHold then pfLoss s else writeRecord r s

/-- RECORD_WRITE. -/
def execRecordWrite (s : State) : Host.Outcome State Fault Refusal := .next (atHub doRecordWrite s)

/-- TOKEN_ADD (R475, R477): at an ET that is a multiple of 400,000,000 / 2^RATE. -/
def doTokenAdd (code : BitVec 12) (s : State) : State :=
  let b := bucketOf s code.toNat
  if decide (b.rate > 10) || s.et % (400000000 / 2 ^ b.rate) != 0 then s
  else
    let n := min (b.tokens + 1) (2 ^ b.burst)
    let waits := s.recd.input.any (fun r => recCode r == code.toNat)
    if b.supp = 0 || waits || n = 0 || s.recd.pfHold then setBucket code.toNat { b with tokens := n } s
    else
      let img := recImage Kind.recSuppressed 2 0 false 0 0 false false 0 code.toNat 0 0
      ringPut img b.supp (setBucket code.toNat { b with tokens := n - 1, supp := 0 } s)

/-- TOKEN_ADD. -/
def execTokenAdd (code : BitVec 12) (s : State) : Host.Outcome State Fault Refusal := .next (atHub (doTokenAdd code) s)

/-- M_REC_CFG.REFUSED set. -/
def recRefuse (s : State) : State := s.setRf fRecRefused 1

/-- REC_FREEZE of a begin or an end (R473, R479). -/
def recFreezeRecord (arg first n : Nat) (s : State) : State := recEvent Kind.recFreeze arg (pack [(16, first), (16, n)]) 0 s

/-- FREEZE_GO (R479). -/
def doFreezeGo (n : Nat) (s : State) : State :=
  let s0 := s.setRf fFzCount n
  if n = 0 then s0
  else if n > 24576 then recRefuse s
  else if s.recd.freeze.isSome then recRefuse s0
  else
    let slots := (ringSlots s0).filter (fun e => decide (e.2 + n > s.recd.rseq))
    let first := (slots.find? (fun e => slots.all (fun x => decide (e.2 ≤ x.2)))).elim s.recd.head (fun e => e.1)
    let s1 := { s0 with recd := { s0.recd with freeze := some ⟨first, slots.length, s.et, slots.map (fun e => e.1)⟩ } }
    recFreezeRecord 0 first slots.length s1

/-- FREEZE_GO. -/
def execFreezeGo (count : Nat) (s : State) : Host.Outcome State Fault Refusal := .next (hubReg (doFreezeGo count) s)

/-- A freeze ends and writes REC_FREEZE; nothing where none holds (R479). -/
def endFreeze (arg : Nat) (s : State) : State :=
  match s.recd.freeze with
  | none => s
  | some f => recFreezeRecord arg f.first f.count { s with recd := { s.recd with freeze := none } }

/-- FREEZE_RELEASE (R479). -/
def execFreezeRelease (s : State) : Host.Outcome State Fault Refusal := .next (hubReg (endFreeze 1) s)

/-- FREEZE_TIMEOUT (R479): FREEZE_S seconds after the freeze began. -/
def execFreezeTimeout (s : State) : Host.Outcome State Fault Refusal :=
  .next (atHub (fun s => match s.recd.freeze with
    | some f => whenS (decide (s.et ≥ f.begun + s.rf fFreezeS * 400000000)) (endFreeze 2) s
    | none => s) s)

/-- Ring slot k read by the Recorder: its 64 B, whether a word is uncorrectable, and what the reads leave (R421, R478). -/
def ringFetch (k : Nat) (s : State) : BitVec 512 × Bool × State :=
  let (a, e, s) := bankFetch (ringBank k) (ringWord k) s
  let (b, f, s) := bankFetch (ringBank k) (ringWord k + 1) s
  (BitVec.ofNat 512 (a.toNat + 2 ^ 256 * b.toNat), e == 1 || f == 1, s)

/-- REC_READ (R478): one slot copied to M_REC_DATA. -/
def doRecRead (slot : Nat) (s : State) : State :=
  let s := (s.setRf fRecSlot slot).setRf fRecDone 1
  let (r, bad, s) := ringFetch slot s
  if bad then raiseHub uRecorder Kind.recRingUe (hubLoc uBanks) 0 (s.setRf fRecErr 2)
  else if recRseq r = 0 then s.setRf fRecErr 1
  else { s with recd := { s.recd with data := r } }.setRf fRecErr 0

/-- REC_READ. -/
def execRecRead (slot : Nat) (s : State) : Host.Outcome State Fault Refusal := .next (hubReg (doRecRead slot) s)

/-- RATE_WRITE (R475, R491, R493): a reserved RATE sets REFUSED. -/
def doRateWrite (code rate burst : Nat) (s : State) : State :=
  let s := ((s.setRf fRateCode code).setRf fRateRate rate).setRf fRateBurst burst
  let code := code % 4096
  let rate := rate % 16
  if 11 ≤ rate && rate ≤ 14 then recRefuse s
  else
    let b := bucketOf s code
    let queued := (s.recd.input.filter (fun r => recCode r == code)).length
    setBucket code { b with rate := rate, burst := burst % 16, tokens := min b.tokens (2 ^ (burst % 16)), oldLeft := queued, oldRate := b.rate } s

/-- RATE_WRITE. -/
def execRateWrite (code rate burst : Nat) (s : State) : Host.Outcome State Fault Refusal := .next (hubReg (doRateWrite code rate burst) s)

/-- RATE_READ (R493). -/
def doRateRead (code : Nat) (s : State) : State :=
  let b := bucketOf s (code % 4096)
  (((s.setRf fRateCode code).setRf fRateRate b.rate).setRf fRateBurst b.burst).setRf fRateSupp b.supp

/-- RATE_READ. -/
def execRateRead (code : Nat) (s : State) : Host.Outcome State Fault Refusal := .next (hubReg (doRateRead code) s)

/-- The log pointer block written under the two-copy rule (R483). -/
def writePointer (s : State) : State :=
  let mid := pack [(64, s.recd.flushed), (32, s.recd.clrGen), (32, b2n s.recd.pending.isSome), (64, s.recd.pending.getD 0), (128, 0)]
  let s := { s with recd := { s.recd with sinceBlock := 0 } }
  twoCopyWrite 0x3000 0x3040 64 0x50504352 mid s

/-- Log slot of a record, and its address (R482). -/
def logAddr (rseq : Nat) : Nat := 0x1000000 + 64 * (rseq % 786432)

/-- One slot of a page: the record from the ring; zeros where no record has reached it; the old contents where the ring
no longer holds it or a word is uncorrectable, which is counted (R482, R491). -/
def flushSlot (n : Nat) (s : State) : State :=
  if n > s.recd.rseq then cellarWrite (logAddr n) (List.replicate 64 0) s
  else if n = 0 then s
  else
    match slotOf s n with
    | some k =>
      let (r, bad, s) := ringFetch k s
      if bad then
        raiseHub uRecorder Kind.recRingUe (hubLoc uBanks) 0 { s with recd := { s.recd with lostCellar := min (s.recd.lostCellar + 1) 0xFFFF } }
      else cellarWrite (logAddr n) (toBytes 64 r.toNat) s
    | none =>
      if s.recd.unflushed.any (fun e => e.1 == n)
      then { s with recd := { s.recd with lostCellar := min (s.recd.lostCellar + 1) 0xFFFF } } else s

/-- A page of 4 log slots written, and the pointer block after every 4,096 records flushed (R482, R483). -/
def writePage (page : Nat) (s : State) : State :=
  let s := foldS [4 * page, 4 * page + 1, 4 * page + 2, 4 * page + 3] flushSlot s
  let last := min (4 * page + 3) s.recd.rseq
  let done := (s.recd.unflushed.filter (fun e => decide (e.1 ≤ last))).length
  let left := s.recd.unflushed.filter (fun e => decide (e.1 > last))
  let r : Rec := { s.recd with flushed := max s.recd.flushed last, retryPage := none, sinceBlock := s.recd.sinceBlock + done, unflushed := left }
  let s : State := { s with recd := r }
  whenS (decide (s.recd.sinceBlock ≥ 4096)) writePointer s

/-- A page write that ends: done, or failed with REC_CELLAR and a retry owed (R482). -/
def pageEnds (page : Nat) (wrote : Bool) (s : State) : State :=
  if wrote && !s.recd.cellarAbsent then writePage page s
  else raiseHub uRecorder Kind.recCellar (hubLoc uRecorder) 0 { s with recd := { s.recd with retryPage := some (page, s.et) } }

/-- FLUSH_PAGE (R482): the oldest pending page, once its 4 records are pending or FLUSH_MS has passed. -/
def doFlushPage (wrote : Bool) (s : State) : State :=
  match s.recd.unflushed, s.recd.retryPage with
  | (n, t) :: _, none =>
    if s.rf fFlushEn == 1 && !s.recd.pfHold && (decide (s.recd.rseq ≥ 4 * (n / 4) + 3) || decide (s.et ≥ t + s.rf fFlushMs * 400000))
    then pageEnds (n / 4) wrote s else s
  | _, _ => s

/-- FLUSH_PAGE. -/
def execFlushPage (wrote : Bool) (s : State) : Host.Outcome State Fault Refusal := .next (atHub (doFlushPage wrote) s)

/-- REC_CELLAR (R482): a failed page is tried again, 100 ms later. -/
def execRecCellar (wrote : Bool) (s : State) : Host.Outcome State Fault Refusal :=
  .next (atHub (fun s => match s.recd.retryPage with
    | some (p, t) => if s.et < t + 40000000 then s else pageEnds p wrote s
    | none => s) s)

/-- CELLAR_READ (R493): 32 B at an address whose bits [4:0] are ignored; ERR where the xSPI read fails. -/
def doCellarRead (addr : Nat) (s : State) : State :=
  let s := ((s.setRf fCellAddr addr).setRf fCellDone 1).setRf fCellErr 0
  if s.recd.cellarAbsent then s.setRf fCellErr 1
  else { s with recd := { s.recd with cellarData := BitVec.ofNat 256 (ofBytes (cellarBytes s (addr % 2 ^ 26 / 32 * 32) 32)) } }

/-- CELLAR_READ. -/
def execCellarRead (addr : Nat) (s : State) : Host.Outcome State Fault Refusal := .next (whenS (s.isl.st != .off) (doCellarRead addr) s)

/-- A key slot holds a key and is not revoked (R383, R487). -/
def keyUsable (s : State) (slot : Nat) : Bool := s.recd.keys.has slot && !s.fuse.revoked.getLsbD slot

/-- A public key that a fuse slot accepts: its SHA-384 is the slot's, and the slot is not revoked (R383, R487). -/
def fuseAccepts (s : State) (slot : Nat) (key : List Byte) : Bool :=
  s.fuse.keyHash.find? slot == some (sha384 key) && !s.fuse.revoked.getLsbD slot

/-- REC_KEY (R487). -/
def doRecKey (tag : Nat) (body : BitVec 448) (s : State) : State :=
  match gateSrc s (fld body 64 64) 96 with
  | some key =>
    if fuseAccepts s (fld body 0 2) key then
      gateRespond tag stOk 0 { s with recd := { s.recd with keys := s.recd.keys.put (fld body 0 2) (BitVec.ofNat 768 (ofBytes key)) } }
    else gateRespond tag stDenied 0 s
  | none => gateRespond tag stDenied 0 s

/-- REC_KEY. -/
def execRecKey (tag : Nat) (body : BitVec 448) (s : State) : Host.Outcome State Fault Refusal := .next (atGate 0x31 tag body (doRecKey tag body) s)

/-- A clear refused: REC_CLEAR_DENIED at die level (R489). -/
def clearRefused (tag status : Nat) (s : State) : State :=
  gateRespond tag status 0 (raiseHub uRecorder Kind.recClearDenied dieLoc 0 s)

/-- Ring slots, log slots and power-fail records up to UPTO zeroed, each area's CHECK rewritten (R490). -/
def zeroRecords (upto : Nat) (s : State) : State :=
  let s := foldS ((ringSlots s).filter (fun e => decide (e.2 ≤ upto))) (fun e t =>
    bankStore (ringBank e.1) (ringWord e.1 + 1) 0 (bankStore (ringBank e.1) (ringWord e.1) 0 t)) s
  let hit (a : Nat) : Bool := let q := ofBytes (cellarBytes s (a + 8) 8); q != 0 && decide (q ≤ upto)
  let logs := (s.recd.cellar.filterMap (fun c => if 0x1000000 ≤ c.1 then some (c.1 / 64 * 64) else none)).eraseDups
  let s1 := foldS (logs.filter hit) (fun a t => cellarWrite a (List.replicate 64 0) t) s
  foldS [false, true] (fun b t =>
    if pfNamed t b then
      let n := min (pfField t b 40 2) 1024
      let t1 := foldS ((List.range n).filter (fun i => hit (pfAddr b + 64 + 64 * i)))
        (fun i u => cellarWrite (pfAddr b + 64 + 64 * i) (List.replicate 64 0) u) t
      cellarWrite (pfAddr b + 56) (toBytes 8 (chipperSig (cellarBytes t1 (pfAddr b) 56 ++ pfRecords t1 b))) t1
    else t) s1

/-- Steps 3 and 4 of an accepted clear (R490), which a pending one resumes; while PF_WARN is asserted PENDING stands (R491). -/
def finishClear (slot aux : Nat) (s : State) : State :=
  match s.recd.pending with
  | none => s
  | some upto =>
    if s.isl.pf then s else
    let s := zeroRecords upto (endFreeze 3 s)
    let s : State := { s with recd := { s.recd with unflushed := s.recd.unflushed.filter (fun e => decide (e.1 > upto)) } }
    let s := writePointer { s with recd := { s.recd with pending := none } }
    recEvent Kind.recClear 1 (pack [(64, upto), (32, s.recd.clrGen), (2, slot)]) aux s

/-- REC_CLEAR (R488–R490). -/
def doRecClear (tag : Nat) (body : BitVec 448) (s : State) : State :=
  match gateSrc s (fld body 64 64) 160 with
  | none => gateRespond tag stDenied 0 s
  | some tok =>
    let v := ofBytes tok
    let slot := nfld v 32 2
    let upto := nfld v 192 64
    let aux := fld (sha384 tok) 0 64
    if nfld v 0 32 != 0x52454352 || nfld v 34 30 != 0 || nfld v 160 32 != 0 || nfld v 256 256 != 0
        || nfld v 64 64 != s.fuse.dieId.toNat || decide (upto > s.recd.rseq) then clearRefused tag stInvalid s
    else if nfld v 128 32 != s.recd.clrGen || !keyUsable s slot
        || !ecdsaP384 (s.recd.keys.get slot 0) (tok.take 64) (BitVec.ofNat 768 (nfld v 512 768))
        || !(s.inLoaded || s.isl.st == .closing || s.isl.st == .sealed) then clearRefused tag stDenied s
    else if upto = 0 then gateRespond tag stEmpty 0 s
    else
      let s := writePointer { s with recd := { s.recd with pending := some upto, clrGen := s.recd.clrGen + 1 } }
      let s := recEvent Kind.recClear 0 (pack [(64, upto), (32, s.recd.clrGen), (2, slot)]) aux s
      gateRespond tag stOk 0 (finishClear slot aux s)

/-- REC_CLEAR. -/
def execRecClear (tag : Nat) (body : BitVec 448) (s : State) : Host.Outcome State Fault Refusal := .next (atGate 0x32 tag body (doRecClear tag body) s)

/-- The island's log scan: the pointer block, then slots forward while CHECK and RSEQ run on, at most 4,096 (R483). -/
def scanLog (s : State) (base : Nat) : Nat → Nat
  | 0 => base
  | k + 1 =>
    let b := cellarBytes s (logAddr (base + 1)) 64
    let v := ofBytes b
    if nfld v 64 64 == base + 1 && nfld v 480 32 == chipperSig (b.take 60) % 2 ^ 32 then scanLog s (base + 1) k else base

/-- RSEQ, CLR_GEN and a pending clear taken from the cellar at entry to ISLAND (R483, R490). -/
def logRecover (s : State) : State :=
  let blk := match bestCopy s 0x3000 0x3040 64 0x50504352 with
    | some (a, _) => ofBytes (cellarBytes s a 64)
    | none => 0
  let last := scanLog s (nfld blk 128 64) 4096
  let areas := [false, true].foldl (fun m b => if pfValid s b then max m (pfField s b 24 8) else m) last
  { s with recd := { s.recd with rseq := areas, flushed := last, clrGen := nfld blk 192 32,
                                  pending := if nfld blk 224 1 = 1 then some (nfld blk 256 64) else none } }

end Sys2Proof.Machine
end

