-- ==== Sys2Proof/Machine/Screen.lean ====
section
/-! DEFINITION. Self-test slices, screens, screen packs, the CPER queue's head and the test access port
(11_in_field_screening, 18_boundary_signals R584). -/
namespace Sys2Proof.Machine

/-! ### What a slice may run on -/

/-- TARGET of a locus: 1 medium core, 2 slab section, 3 host-class core, 4 tap (R382). -/
def targetOf (l : Loc) : Option Nat :=
  match named l with
  | .core _ _ => some 1
  | .slabSection _ _ => some 2
  | .hcore _ => some 3
  | .ctap _ | .slabTap _ => some 4
  | _ => none

/-- A target's slice budget in ticks (R368, R381). -/
def sliceBudget (target : Nat) : Nat :=
  match target with
  | 1 => 600000 | 3 => 1600000 | _ => 200000

/-- A target's limit of patterns (R368, R381); a tap's is its budget's (log entry 17). -/
def patternLimit (target : Nat) : Nat :=
  match target with
  | 1 => 2304 | 3 => 6144 | _ => 768

/-- The tap whose scan controller serves a locus; none for a host-class core (R365, R370). -/
def scanTap (l : Loc) : Option Nat :=
  match clusterOf l, slabOf l with
  | some c, _ => some c
  | none, some r => some (128 + r)
  | none, none => none

/-- A locus's age: since its last passing slice, or what the last start gave it (R374, R391). -/
def ageOf (s : State) (l : Loc) : Tick :=
  match s.scr.passed.find? l.toNat with
  | some t => s.et - t
  | none => s.scr.baseAge + s.et

/-- A tap in service (R56, R374). -/
def tapServes (s : State) (tap : Nat) : Bool := !s.col.tapsMissing.contains tap && !s.scr.tapRetry.contains tap

/-- The units whose work keeps a target from being idle: the core, the slab of a section (R374, R381). -/
def workLoc (l : Loc) : Loc :=
  match named l with
  | .slabSection r _ => slabLoc r
  | _ => l

/-- Nothing of the target runs, waits or has run for IDLE_US (R374, R381). -/
def idleFor (s : State) (l : Loc) : Bool :=
  decide (Tbl.get s.scr.lastWork (workLoc l).toNat 0 + 400 * s.rf fIdleUs ≤ s.et)
    && !s.jrn.cords.any (fun e => e.2.st == .waiting && e.2.placed == workLoc l)

/-- No other slice runs in the target's cluster (R374). -/
def aloneInCluster (s : State) (l : Loc) : Bool :=
  match clusterOf l with
  | some c => !s.scr.slices.any (fun e => clusterOf e.2.locus == some c)
  | none => true

/-- A target of its own region that idle time may screen (R374). -/
def eligible (s : State) (l : Loc) : Bool :=
  idleFor s l && !fenced s l && !isQuiet s l && !felled s l && !s.scr.holds.contains l.toNat && aloneInCluster s l
    && (scanTap l).all (tapServes s)

/-- The element of a list with the largest age, the first of equals (R374). -/
def oldest (s : State) (l : List Loc) : Option Loc :=
  l.foldl (fun m x => match m with
    | none => some x
    | some y => if ageOf s x > ageOf s y then some x else m) none

/-- The medium cores of a region, and its sections, in rising order. -/
def regionCores (r : Nat) : List Loc := (List.range 256).map (fun i => coreLoc (8 * r + i / 32) (i % 32))
def regionSections (r : Nat) : List Loc := (List.range 16).map (sectionLoc r)

/-- The next pack of a target's idle rotation, by slot number (R375, R386). -/
def nextPack (s : State) (l : Loc) (target : Nat) : Nat :=
  let ks := (s.scr.packs.filter (fun e => e.2.idle && e.2.target == target)).map (fun e => e.1)
  match ks with
  | [] => 8 + target
  | k :: _ => match s.scr.rotate.find? l.toNat with
    | some last => (ks.find? (fun x => decide (x > last))).getD k
    | none => k

/-! ### Running a slice (R368) -/

/-- Step 1: the screen hold is placed and the clear asked for (R368, R446). -/
def startSlice (key : Nat) (kind : SliceKind) (l : Loc) (pack : Nat) (tag : Option (Nat × Nat)) (s : State) : State :=
  match packAt s pack with
  | none => s
  | some p =>
    let x : Slice := ⟨kind, l, pack, p.packId, p.ver, p.masks, p.segs, 0, 0, s.et, 0, s.et, false, false, 0, 0, 0, tag⟩
    let s : State := { s with scr := { s.scr with slices := s.scr.slices.put key x, holds := setAdd s.scr.holds l.toNat } }
    let s := match regionOf l, named l with
      | some r, .slabSection _ _ => countWarden r 3 (countWarden r 0 s)
      | some r, _ => countWarden r 0 s
      | none, _ => s
    emit (.slice l 0) (spareTesting l s)

/-- The value expected at the end of a slice's segment; before the first one the chipper holds zero (R366, R367). -/
def Slice.expectAt (x : Slice) (k : Nat) : Nat := ((x.segs[k]?).map (fun g => g.expect)).getD 0

/-- The mask that a slice's running segment names; none for MASK_IDX 0 (R366, R382). -/
def Slice.mask (x : Slice) : BitVec 1024 :=
  match (x.segs[x.seg]?).map (fun g => g.maskIdx) with
  | some (k + 1) => (x.masks[k]?).getD 0
  | _ => 0

/-- What SCN_SI carries in shift cycle `n` of a segment: the generator, loaded with the seed and stepped once per shift cycle, through
the core's phase shifter (R366). -/
def scanInput (seed n : Nat) : BitVec 1024 := Config.phaseShift ((List.range n).foldl (fun v _ => genStep v) seed)

/-- The segment that a slice runs is shifted in and captured, pattern after pattern (R365). -/
def scanSegment (x : Slice) (s : State) : State :=
  match x.segs[x.seg]? with
  | some g => emit (.scan x.locus g.mode g.seed g.patterns) s
  | none => s

/-- A failed slice's confirm starts: the chipper from the value expected at the end of the previous segment (R378, R446). -/
def startConfirm (key : Nat) (x : Slice) (s : State) : State :=
  let y : Slice := { x with confirm := true, start := s.et, stage := 0, since := s.et, chip := if x.seg = 0 then 0 else x.expectAt (x.seg - 1) }
  let s : State := { s with scr := { s.scr with slices := s.scr.slices.put key y, confirms := s.scr.confirms.erase x } }
  let s := match regionOf x.locus with
    | some r => countWarden r 1 s
    | none => s
  emit (.slice x.locus 0) (spareTesting x.locus s)

/-- A running slice changed. -/
def updSlice (key : Nat) (f : Slice → Slice) (s : State) : State := { s with scr := { s.scr with slices := s.scr.slices.mapV (fun k x => if k = key then f x else x) } }

/-- The last clear is asked for (R368 step 4). -/
def lastClear (key : Nat) (s : State) : State :=
  match s.scr.slices.find? key with
  | some x => emit (.slice x.locus 2) (updSlice key (fun y => { y with stage := 2, since := s.et }) s)
  | none => s

/-! ### Screens (R387) -/

/-- A screen of R387 runs. -/
def screening (s : State) : Bool := decide (1 ≤ s.scr.phase ∧ s.scr.phase ≤ 4)

/-- An item the screen need not start any more: ended, felled, held by an earlier fault, or of a missing warden (R56, R388). -/
def itemOver (s : State) (l : Loc) : Bool :=
  felled s l || s.scr.screenEnd.contains l.toNat || (regionOf l).any (fun r => s.col.wardensMissing.contains r)
    || (s.scr.holds.contains l.toNat && !s.scr.slices.any (fun e => e.2.locus == l))

/-- The items of a phase. -/
def phaseItems (ph : Nat) : List Loc :=
  match ph with
  | 1 => (List.range 144).map tapPartLoc
  | 2 => (List.range 4096).map (fun i => coreLoc (i / 32) (i % 32)) ++ (List.range 8).map hcoreLoc
  | 3 => (List.range 256).map (fun i => sectionLoc (i / 16) (i % 16))
  | _ => []

/-- Phases that are over give way to the next; phases 1–4 end with no confirm left (R387). -/
def advanceScreen (s : State) : State := go 4 s
where
  /-- at most one pass per phase -/
  go : Nat → State → State
    | 0, s => s
    | k + 1, s =>
      if !screening s then s
      else if s.scr.phase = 4 then
        if s.scr.confirms.isEmpty && s.scr.slices.isEmpty then { s with scr := { s.scr with phase := 5, screenStop := s.et } } else s
      else if (phaseItems s.scr.phase).all (itemOver s) then go k { s with scr := { s.scr with phase := s.scr.phase + 1 } }
      else s

/-- A screen's slice starts on an item with its closing pack. -/
def screenItem (key : Nat) (l : Loc) (s : State) : State :=
  match targetOf l with
  | some t => startSlice key .screen l (closingSlot s t) none s
  | none => s

/-- A screen begins with every tap in service at once; while PF_WARN is asserted no slice starts (R55, R387). -/
def startScreen (s : State) : State :=
  let s : State := { s with scr := { s.scr with phase := 1, screenPass := [], screenEnd := [], screenFell := 0, done := 0, failed := 0, screenStart := s.et, confirms := [] } }
  let s : State := { s with scr := { s.scr with maxTemp := ((List.range 16).filterMap (fun r => diodeOf s r)).foldl (fun m t => max m t) (-880) } }
  if s.isl.pf then s
  else advanceScreen (foldS ((List.range 144).filter (fun t => !itemOver s (tapPartLoc t))) (fun t u => screenItem (64 + t) (tapPartLoc t) u) s)

/-- The next section of a slot's eight: slot A the first, slot B the last (R387 phase 3). -/
def nextSection (s : State) (r slot : Nat) : Option Loc :=
  (((List.range 8).map (fun k => sectionLoc r (8 * slot + k))).find? (fun l => !itemOver s l && !s.scr.slices.any (fun e => e.2.locus == l)))

/-! ### Ends and outcomes -/

/-- A slice passes: the age returns to zero, and a unit scanned through the test access port is released (R371, R379, R444). -/
def slicePass (x : Slice) (s : State) : State :=
  let k := x.locus.toNat
  let s : State := { s with scr := { s.scr with passed := s.scr.passed.put k s.et, dueTold := setDel s.scr.dueTold k, overdueTold := s.scr.overdueTold.del k } }
  let s : State := if screening s then { s with scr := { s.scr with screenPass := setAdd s.scr.screenPass k, done := s.scr.done + 1 } } else s
  let s := if s.scr.scanned.contains k then orderLift x.locus false { s with scr := { s.scr with scanned := setDel s.scr.scanned k } } else s
  countSlice x.locus 21 s

/-- Step 5: a slice without a finding has passed; the hold is lifted, unless a confirm is to come or has fenced the core; whoever ordered
the slice is told (R49, R368, R378, R379). -/
def endSlice (key : Nat) (s : State) : State :=
  match s.scr.slices.find? key with
  | none => s
  | some x =>
    let s := whenS (x.outcome = 0) (slicePass x) (emit (.slice x.locus 3) (dropSlice key x s))
    let s : State := if screening s then { s with scr := { s.scr with screenEnd := setAdd s.scr.screenEnd x.locus.toNat } } else s
    let s :=
      if x.bad && !x.confirm && targetOf x.locus != some 4 then { s with scr := { s.scr with confirms := s.scr.confirms ++ [x] } }
      else tellOutcome x x.outcome (whenS (!(x.confirm && fenced s x.locus)) (dropHold x.locus) s)
    let s := match s.scr.phase, named x.locus with
      | 3, .slabSection r _ => match nextSection s r (key % 2) with
        | some l => if s.isl.pf then s else screenItem key l s
        | none => s
      | _, _ => s
    advanceScreen s

/-- ST_FAIL (R378, R379). -/
def sliceFail (x : Slice) (s : State) : State :=
  let s : State := { s with scr := { s.scr with fails := s.scr.fails.upd x.locus.toNat 0 (fun n => n + 1), findings := s.scr.findings.put x.locus.toNat x, failed := s.scr.failed + b2n (screening s) } }
  raiseScreen x.locus Kind.stFail (screenDetail x false) (countSlice x.locus 22 s)

/-- CLEAR_DONE (R368, R370): scan is enabled, or after the last clear the slice ends. -/
def doClearDone (key : Nat) (s : State) : State :=
  match s.scr.slices.find? key with
  | none => s
  | some x =>
    if x.stage = 1 ∨ s.et > x.since + 400 then s
    else if x.stage = 2 then endSlice key s
    else if x.segs.isEmpty then lastClear key s
    else scanSegment x (emit (.slice x.locus 1) (updSlice key (fun y => { y with stage := 1 }) s))

/-- CLEAR_DONE. -/
def execClearDone (key : Nat) (s : State) : Host.Outcome State Fault Refusal := .next (atHub (doClearDone key) s)

/-- A slice stopped for good: its hold stays (R369, R370). -/
def stopSlice (key : Nat) (x : Slice) (s : State) : State :=
  let s := emit (.slice x.locus 6) (dropSlice key x s)
  let s : State := if screening s then { s with scr := { s.scr with screenEnd := setAdd s.scr.screenEnd x.locus.toNat } } else s
  advanceScreen (tellOutcome x 3 s)

/-- ST_CLEAR (R370): clear-done has not come within 1 µs. -/
def doStClear (key : Nat) (s : State) : State :=
  match s.scr.slices.find? key with
  | none => s
  | some x =>
    if x.stage = 1 ∨ s.et ≤ x.since + 400 then s
    else
      let s := match scanTap x.locus, named x.locus with
        | some t, _ => raiseTap t Kind.stClear false x.locus 0 s
        | none, .hcore h => raiseHcore h Kind.stClear x.locus 0 s
        | none, _ => s
      stopSlice key x s

/-- ST_CLEAR. -/
def execStClear (key : Nat) (s : State) : Host.Outcome State Fault Refusal := .next (atHub (doStClear key) s)

/-- The tap that runs a target's slices, as a part (R369, R381). -/
def runnerLoc (l : Loc) : Loc :=
  match scanTap l, named l with
  | some t, _ => tapPartLoc t
  | none, .hcore h => unitLoc h 3 51
  | none, _ => l

/-- ST_TIMEOUT (R369, R446): step 5 not reached within the budget. -/
def doStTimeout (key : Nat) (s : State) : State :=
  match s.scr.slices.find? key with
  | none => s
  | some x =>
    if s.et ≤ x.start + sliceBudget ((targetOf x.locus).getD 1) then s
    else
      let s := match regionOf x.locus, named x.locus with
        | some r, _ => raiseWarden r Kind.stTimeout (runnerLoc x.locus) 0 (countWarden r 2 s)
        | none, .hcore h => raiseHcore h Kind.stTimeout (runnerLoc x.locus) 0 s
        | none, _ => s
      stopSlice key x s

/-- ST_TIMEOUT. -/
def execStTimeout (key : Nat) (s : State) : Host.Outcome State Fault Refusal := .next (atHub (doStTimeout key) s)

/-- The next segment of a slice runs, the chipper as the last one left it (R366). -/
def nextSegment (key v : Nat) (x : Slice) (s : State) : State :=
  let y : Slice := { x with seg := x.seg + 1, chip := v }
  scanSegment y (updSlice key (fun _ => y) s)

/-- SEGMENT_END (R365–R367, R378): the chain outputs of the segment's shift cycles, masked and compacted, through the chipper; and the
compare of a segment, or of a confirm. -/
def doSegmentEnd (key : Nat) (so : List (BitVec 1024)) (s : State) : State :=
  match s.scr.slices.find? key with
  | none => s
  | some x =>
    let want := x.expectAt x.seg
    let v := chipperScan x.mask so x.chip
    if x.stage ≠ 1 then s
    else if x.confirm then
      if v = x.observed then lastClear key (updSlice key (fun y => { y with outcome := 1 }) (sliceFail x s))
      else lastClear key (updSlice key (fun y => { y with outcome := 2 }) (unstable x false s))
    else if v = want then
      if x.seg + 1 < x.segs.length then nextSegment key v x s else lastClear key s
    else
      let y : Slice := { x with bad := true, expected := want, observed := v, outcome := 1 }
      let s := lastClear key (updSlice key (fun _ => y) s)
      match scanTap x.locus, targetOf x.locus with
      | some t, some 4 => tapTestFailed t (sliceFail y s)
      | _, _ => s

/-- SEGMENT_END. -/
def execSegmentEnd (key : Nat) (so : List (BitVec 1024)) (s : State) : Host.Outcome State Fault Refusal := .next (atHub (doSegmentEnd key so) s)

/-! ### The grid (R373–R375, R381) -/

/-- The confirm that a region's slot runs: the longest waiting whose cluster has no core under test (R35, R378). -/
def dueConfirm (r : Nat) (s : State) : Option Slice := s.scr.confirms.find? (fun x => regionOf x.locus == some r && aloneInCluster s x.locus)

/-- What a region's slot starts during a screen: cores, then the run of sections, then confirms (R387). -/
def gridScreen (r slot key : Nat) (s : State) : State :=
  match s.scr.phase with
  | 2 => match (regionCores r).find? (fun l => !itemOver s l && aloneInCluster s l) with
    | some l => screenItem key l s
    | none => s
  | 3 => match nextSection s r slot with
    | some l => screenItem key l s
    | none => s
  | 4 => match dueConfirm r s with
    | some x => startConfirm key x s
    | none => s
  | _ => s

/-- A directed slice taken from the queue. -/
def takeDirected (key : Nat) (d : Directed) (s : State) : State :=
  startSlice key .directed d.locus d.pack none { s with scr := { s.scr with directed := s.scr.directed.erase d } }

/-- An idle slice starts, and its target's rotation moves on (R375). -/
def startIdle (key : Nat) (l : Loc) (s : State) : State :=
  let p := nextPack s l ((targetOf l).getD 1)
  startSlice key .idle l p none { s with scr := { s.scr with rotate := s.scr.rotate.put l.toNat p } }

/-- What a region's slot starts otherwise: a confirm, a directed slice, else the oldest idle target (R374, R377, R378). -/
def gridIdle (r key : Nat) (s : State) : State :=
  match dueConfirm r s, s.scr.directed.find? (fun d => regionOf d.locus == some r) with
  | some x, _ => startConfirm key x s
  | none, some d => if aloneInCluster s d.locus then takeDirected key d s else s
  | none, none =>
    if s.rf fIdleEn == 0 then s
    else match oldest s ((regionCores r ++ regionSections r).filter (eligible s)) with
      | some l => startIdle key l s
      | none => s

/-- The hub's scheduler of host-class cores, one at a time (R381, R387; log entry 17). -/
def hostSlices (s : State) : State :=
  let mine (l : Loc) : Bool := targetOf l == some 3
  if screening s then
    match s.scr.phase with
    | 2 => match ((List.range 8).map hcoreLoc).find? (fun l => !itemOver s l) with
      | some l => screenItem 32 l s
      | none => s
    | 4 => match s.scr.confirms.find? (fun x => mine x.locus) with
      | some x => startConfirm 32 x s
      | none => s
    | _ => s
  else
    match s.scr.confirms.find? (fun x => mine x.locus), s.scr.directed.find? (fun d => mine d.locus), s.scr.offers with
    | some x, _, _ => startConfirm 32 x s
    | none, some d, _ => takeDirected 32 d s
    | none, none, (h, c, tag) :: rest =>
      let s : State := { s with scr := { s.scr with offers := rest } }
      startSlice 32 .offer (hcoreLoc h) (nextPack s (hcoreLoc h) 3) (some (c, tag)) s
    | none, none, [] =>
      if s.rf fIdleEn == 0 then s
      else match oldest s (((List.range 8).filter (fun h => (assigned s (144 + h)).isNone)).map hcoreLoc |>.filter (eligible s)) with
        | some l => startIdle 32 l s
        | none => s

/-- SLICE_GRID_POINT (R373): slots 0 and 1 of a region; region 16 stands for the hub's scheduler, which has no grid. -/
def doSliceGridPoint (r slot : Nat) (s : State) : State :=
  if !s.hubUp || s.isl.pf || s.col.quietDie then s
  else if r = 16 then (if s.scr.slices.has 32 then s else hostSlices s)
  else
    let key := 2 * r + slot
    if r ≥ 16 || slot ≥ 2 || decide (s.et % 600000 ≠ 18750 * r + 300000 * slot) || s.scr.slices.has key
        || s.col.wardensMissing.contains r || decide (regionTherm s r ≥ 2) then s
    else if screening s then gridScreen r slot key s
    else if s.inLoaded then gridIdle r key s else s

/-- SLICE_GRID_POINT. -/
def execSliceGridPoint (r slot : Nat) (s : State) : Host.Outcome State Fault Refusal := .next (atHub (doSliceGridPoint r slot) s)

/-! ### Ages (R376) -/

/-- PERIOD_H in ticks. -/
def periodTicks (s : State) : Nat := s.rf fPeriodH * 1440000000000

/-- A core that ages: a medium core or a host-class core that neither map lists. -/
def ages (s : State) (l : Loc) : Bool := s.inLoaded && !felled s l && (targetOf l == some 1 || targetOf l == some 3)

/-- SCREEN_DUE (R376): once while the age stays above PERIOD_H. -/
def doScreenDue (l : Loc) (s : State) : State :=
  if !ages s l || decide (ageOf s l ≤ periodTicks s) || s.scr.dueTold.contains l.toNat then s
  else
    let s : State := { s with scr := { s.scr with dueTold := setAdd s.scr.dueTold l.toNat } }
    match locComp s l with
    | some c => postRecord c 0x0C stOk 0 (pack [(16, l.toNat), (16, 0), (32, ageOf s l / 1440000000000)]) s
    | none => s

/-- SCREEN_DUE. -/
def execScreenDue (unit : Loc) (s : State) : Host.Outcome State Fault Refusal := .next (atHub (doScreenDue unit) s)

/-- ST_OVERDUE (R376): beyond twice PERIOD_H, once for each period. -/
def doStOverdue (l : Loc) (s : State) : State :=
  let n := ageOf s l / periodTicks s
  if !ages s l || decide (ageOf s l ≤ 2 * periodTicks s) || decide (n ≤ Tbl.get s.scr.overdueTold l.toNat 0) then s
  else raiseScreen l Kind.stOverdue 0 { s with scr := { s.scr with overdueTold := s.scr.overdueTold.put l.toNat n } }

/-- ST_OVERDUE. -/
def execStOverdue (unit : Loc) (s : State) : Host.Outcome State Fault Refusal := .next (atHub (doStOverdue unit) s)

/-! ### Screen packs (R382–R385) -/

/-- Bytes of a pack's value. -/
def pkByte (v off len : Nat) : Nat := nfld v (8 * off) (8 * len)

/-- A segment record reads as R382 has it; its expected value comes from the revision block. -/
def packSegment (v base masks expect : Nat) : Option Segment :=
  let g := nfld v (8 * base) 256
  if nfld g 0 64 ≠ 0 ∧ nfld g 64 32 ≠ 0 ∧ nfld g 96 4 ≤ 1 ∧ nfld g 100 4 ≤ masks ∧ nfld g 104 8 = 0 ∧ nfld g 128 128 = 0 then
    some ⟨nfld g 0 64, nfld g 64 32, nfld g 96 4, nfld g 100 4, nfld g 112 16, expect⟩
  else none

/-- The offset of the revision block of the target's revision (R382, R385). -/
def revBlock (v base n size rev : Nat) : Option Nat :=
  ((List.range n).map (fun k => base + k * size)).find? (fun b => pkByte v b 2 == rev && nfld v (8 * b + 16) 48 == 0)

/-- LENGTH that a header's table counts give (R382). -/
def packLength (segs masks revs : Nat) : Nat := 256 + 128 * masks + 32 * segs + revs * (8 + 8 * segs) + 96

/-- A pack read from its bytes, where every field is in range and a block exists for the fused revision of its target (R367, R382, R385; log entry 17). -/
def parsePack (rev : Tbl Nat) (bs : List Byte) : Option Pack :=
  let v := ofBytes bs
  let segs := pkByte v 20 1
  let masks := pkByte v 21 1
  let revs := pkByte v 22 2
  let target := pkByte v 16 1
  let segBase := 256 + 128 * masks
  let ok := pkByte v 0 4 == 0x4B505453 && pkByte v 4 2 == 1 && nfld v 50 14 == 0 && !decide (1 ≤ pkByte v 8 4 ∧ pkByte v 8 4 ≤ 15)
    && decide (1 ≤ target ∧ target ≤ 4) && nfld v 139 5 == 0 && decide (1 ≤ segs ∧ segs ≤ 64) && decide (masks ≤ 15)
    && decide (1 ≤ revs ∧ revs ≤ 64) && decide (1 ≤ pkByte v 18 2 ∧ 400 * pkByte v 18 2 ≤ sliceBudget target)
    && pkByte v 24 4 == bs.length && decide (bs.length ≤ 262144) && bs.length == packLength segs masks revs
    && nfld v 256 768 == 0 && nfld v 1792 256 == 0
  match ok, revBlock v (segBase + 32 * segs) revs (8 + 8 * segs) (rev.get target 0) with
  | true, some b =>
    let l := (List.range segs).filterMap (fun k => packSegment v (segBase + 32 * k) masks (pkByte v (b + 8 + 8 * k) 8))
    if l.length = segs ∧ l.foldl (fun n g => n + g.patterns) 0 ≤ patternLimit target then
      some ⟨pkByte v 8 4, pkByte v 12 4, target, nfld v 136 1 == 1, nfld v 137 1 == 1, nfld v 138 1 == 1,
        (List.range masks).map (fun k => BitVec.ofNat 1024 (nfld v (8 * (256 + 128 * k)) 1024)), l⟩
    else none
  | _, _ => none

/-- The signature over bytes 0 to LENGTH − 97 is that of an unrevoked fuse key (R383, R385). -/
def packSigned (s : State) (bs : List Byte) : Bool :=
  let key := (bs.drop 128).take 96
  fuseAccepts s (nfld (ofBytes bs) 48 2) key
    && ecdsaP384 (BitVec.ofNat 768 (ofBytes key)) (bs.take (bs.length - 96)) (BitVec.ofNat 768 (ofBytes (bs.drop (bs.length - 96))))

/-- The highest version recorded for a family (R385). -/
def recordedVer (s : State) (id : Nat) : Option Nat := (s.scr.rollback.find? (fun e => e.1 == id)).map (fun e => e.2)

/-- The rollback table with a family's version, written to the cellar (R385). -/
def recordVer (id ver : Nat) (s : State) : State :=
  let l := if (recordedVer s id).isSome then s.scr.rollback.map (fun e => if e.1 = id then (id, ver) else e) else s.scr.rollback ++ [(id, ver)]
  cellarWrite 0x2000 (l.flatMap (fun e => toBytes 8 (e.1 + 2 ^ 32 * e.2))) { s with scr := { s.scr with rollback := l } }

abbrev islMagic : Nat := 0x4B4C5349

/-- Bytes 16–247 of the valid copy of the island block with the higher GEN; zero where there is none (R595). -/
def islMid (s : State) : Nat :=
  match bestCopy s 0 0x800 256 islMagic with
  | some (a, _) => ofBytes (cellarBytes s (a + 16) 232)
  | none => 0

/-- The island block written under the two-copy rule (R595). -/
def writeIsl (mid : Nat) (s : State) : State := twoCopyWrite 0 0x800 256 islMagic mid s

/-- The island block notes the pack of a slot: VALID, PACK_ID, LENGTH, PCHECK (R595). -/
def notePack (slot id : Nat) (bs : List Byte) (s : State) : State :=
  writeIsl (nset (nset (islMid s) (32 + slot) 1 1) (128 + 128 * slot) 128 (pack [(32, id), (32, bs.length), (64, chipperSig bs)])) s

/-- A load refused: ST_PACK_BAD at die level (R380, R385). -/
def packRefused (tag status : Nat) (s : State) : State :=
  gateRespond tag status 0 (raiseHub uGate Kind.stPackBad dieLoc 0 s)

/-- PACK_LOAD (R384, R385, R556). -/
def doPackLoad (tag : Nat) (body : BitVec 448) (s : State) : State :=
  let slot := fld body 0 3
  let src := fld body 64 64
  match gateSrc s src 256 with
  | none => gateRespond tag stDenied 0 s
  | some hdr =>
    let n := pkByte (ofBytes hdr) 24 4
    if n > 262144 ∨ n < 256 ∨ fld body 3 61 ≠ 0 then packRefused tag stInvalid s
    else match gateSrc s src n with
      | none => gateRespond tag stDenied 0 s
      | some bs => match parsePack s.fuse.unitRev bs with
        | none => packRefused tag stInvalid s
        | some p =>
          if !packSigned s bs || (recordedVer s p.packId).any (fun v => decide (p.ver < v)) then packRefused tag stDenied s
          else if (recordedVer s p.packId).isNone && decide (s.scr.rollback.length ≥ 64) then gateRespond tag stQuota 0 s
          else
            let s := notePack slot p.packId bs (recordVer p.packId p.ver (cellarWrite (0x100000 + 0x40000 * slot) bs s))
            gateRespond tag stOk 0 { s with scr := { s.scr with packs := s.scr.packs.put slot p, packOrder := s.scr.packOrder.filter (fun k => k != slot) ++ [slot] } }

/-- PACK_LOAD. -/
def execPackLoad (tag : Nat) (body : BitVec 448) (s : State) : Host.Outcome State Fault Refusal := .next (atGate 0x30 tag body (doPackLoad tag body) s)

/-- The pack of a slot as its start reads it: none where the slot is not VALID; `bad` where PCHECK does not match (R595, R596). -/
def slotPack (s : State) (k : Nat) : Option Pack × Bool :=
  let m := islMid s
  let n := nfld m (160 + 128 * k) 32
  if nfld m (32 + k) 1 = 0 then (none, false)
  else
    let bs := cellarBytes s (0x100000 + 0x40000 * k) (min n 262144)
    if chipperSig bs ≠ nfld m (192 + 128 * k) 64 then (none, true)
    else ((parsePack s.fuse.unitRev bs), (parsePack s.fuse.unitRev bs).isNone)

/-- The packs and the rollback table that the cellar holds, as a start reads them (R384, R385); START_CHECK for each slot that fails
its PCHECK (R596). The load order across a start is that of the slots (log entry 17). -/
def readPacks (s : State) : State :=
  let ids := (List.range 64).map (fun k => ofBytes (cellarBytes s (0x2000 + 8 * k) 8)) |>.filter (fun v => v != 0)
  let packs := (List.range 8).filterMap (fun k => (slotPack s k).1.map (fun p => (k, p)))
  let bad := (List.range 8).filter (fun k => (slotPack s k).2)
  let s := foldS bad (fun _ t => raiseHub uRecorder Kind.startCheck (hubLoc uRecorder) 0 t) s
  { s with scr := { s.scr with packs := packs, packOrder := packs.map (fun e => e.1), rollback := ids.map (fun v => (v % 2 ^ 32, v / 2 ^ 32)) } }

/-! ### The closing record, the CPER queue and the test access port -/

/-- CLOSING_RECORD_RETRY (R390). -/
def execClosingRecordRetry (wrote : Bool) (s : State) : Host.Outcome State Fault Refusal :=
  .next (atHub (fun s => if s.isl.st = .sealed ∧ s.scr.recordOwed then (if wrote then writeClosing s else recordFailed s) else s) s)

/-- EXCURSION (R389): EXC_PENDING, and the VOID record at once while the hub is up. -/
def doExcursion (s : State) : State :=
  if s.isl.st = .off then s else
    let s : State := { s with isl := { s.isl with excPending := true } }
    whenS s.hubUp voidRecord s

/-- EXCURSION. -/
def execExcursion (s : State) : Host.Outcome State Fault Refusal := .next (doExcursion s)

/-- The head record leaves the export queue (R395). -/
def doCperPop (s : State) : State := { s with recd := { s.recd with cper := s.recd.cper.drop 1 } }

/-- CPER_POP. -/
def execCperPop (s : State) : Host.Outcome State Fault Refusal := .next (hubReg doCperPop s)

/-- The instruction register takes an opcode (R584). -/
def tapLoad (ir value : Nat) (s : State) : State :=
  if s.isl.st = .off then s else emit (.tap ir value) { s with scr := { s.scr with tapIr := ir } }

/-- The IDCODE of R584. -/
def idcode (s : State) : Nat := pack [(1, 1), (11, s.fuse.jep106), (16, 0xE1D2), (4, s.fuse.dieRev)]

/-- EXTEST. -/
def execExtest (s : State) : Host.Outcome State Fault Refusal := .next (tapLoad 0x00 0 s)
/-- IDCODE. -/
def execIdcode (s : State) : Host.Outcome State Fault Refusal := .next (tapLoad 0x01 (idcode s) s)
/-- SAMPLE/PRELOAD. -/
def execSamplePreload (s : State) : Host.Outcome State Fault Refusal := .next (tapLoad 0x02 0 s)
/-- BYPASS, and every opcode without an instruction of its own (R584). -/
def execBypass (ir : BitVec 8) (s : State) : Host.Outcome State Fault Refusal :=
  .next (if [0x00, 0x01, 0x02, 0x40, 0x41].contains ir.toNat then s else tapLoad 0xFF 0 s)

/-- A private instruction refused: BYPASS, and REFUSED (R371). -/
def tapRefuse (s : State) : State := tapLoad 0xFF 0 (s.setRf fTapRefused 1)

/-- A unit that UNIT_SCAN may connect: unit level, fenced or of no compartment (R371). -/
def scannable (s : State) (l : Loc) : Bool :=
  fld l 13 3 == 0 && named l != .invalid && (fenced s l || (locComp s l).isNone)

/-- UNIT_SCAN (R371): the unit is cleared, connected and stays fenced until it passes a slice. -/
def doUnitScan (l : Loc) (s : State) : State :=
  if s.isl.st = .off then s
  else if !s.isl.priv || !s.hubUp || !scannable s l then tapRefuse s
  else
    let s := orderFence l false Kind.stTapScan none (tapLoad 0x40 l.toNat (emit (.slice l 0) s))
    raiseIsland Kind.stTapScan l 0 { s with scr := { s.scr with lastUnit := l.toNat, scanned := setAdd s.scr.scanned l.toNat } }

/-- UNIT_SCAN. -/
def execUnitScan (unit : Loc) (s : State) : Host.Outcome State Fault Refusal := .next (doUnitScan unit s)

/-- HUB_SCAN (R371): in SEALED only. -/
def execHubScan (s : State) : Host.Outcome State Fault Refusal :=
  .next (if s.isl.st = .off then s
    else if !s.isl.priv || s.isl.st != .sealed then tapRefuse s
    else raiseIsland Kind.stTapScan islandLoc 0 (tapLoad 0x41 0 { s with scr := { s.scr with hubScanned := true } }))

/-- TAP_RESET (R584). -/
def execTapReset (s : State) : Host.Outcome State Fault Refusal := .next (tapLoad 0x01 (idcode s) s)

end Sys2Proof.Machine
end

