-- ==== Sys2Proof/Machine/Bank.lean ====
section
/-! DEFINITION. Bank ownership, firmware's access to its banks, and the transparent tests (13_hub_memory R423–R440). -/
namespace Sys2Proof.Machine

def fMemEn : RF := ⟨0x1B00, 0, 1, 1⟩
def fCmemEn : RF := ⟨0x1B00, 1, 1, 1⟩
def fMemRefused : RF := ⟨0x1B00, 2, 1, 0⟩
def fHubInt : RF := ⟨0x1B00, 16, 16, 50⟩
def fCmemInt : RF := ⟨0x1B00, 32, 16, 1000⟩

/-- A bank's registers. -/
def State.bank (s : State) (b : Nat) : BankReg := s.bnk.regs.get b BankReg.reset

/-- Every word of a bank zero with valid check symbols (R427, R435). -/
def zeroBank (b : Nat) (s : State) : State :=
  { s with bnk := { s.bnk with words := s.bnk.words.filter (fun e => e.1 / 16384 != b) } }

/-- Owners between which KEEP applies (R427). -/
def keeps : Owner → Bool
  | .serving | .standby | .firmware => true
  | _ => false

/-- Whether a bank may pass to an owner (R426, R427). -/
def mayPass (s : State) (b : Nat) (o : Owner) (keep : Bool) : Bool :=
  let old := (s.bank b).owner
  let cruise := ((List.range 48).filter (fun k => (s.bank k).owner == .cruise)).length
  ((14 ≤ b && b ≤ 29) || (42 ≤ b && b ≤ 47))
    && !(old == .cruise && o != .cruise && decide (cruise ≤ 8))
    && !((o == .journal || o == .recorder) && s.isl.st == .opened)
    && (!keep || (keeps old && keeps o))

/-- A handover of a bank: its status, and the bank zeroed unless KEEP applies (R426, R427). -/
def handBank (b owner : Nat) (keep : Bool) (s : State) : Nat × State :=
  match Owner.ofCode owner with
  | none => (stInvalid, s)
  | some o =>
    if !mayPass s b o keep then (stInvalid, s)
    else (stOk, updBank b (fun r => { r with owner := o }) (if keep then s else zeroBank b s))

/-- OWNER as M_BANK_OWN reads; 0xF for the stash, bank 48 (R440). -/
def ownerCode (s : State) (b : Nat) : Nat := if b = 48 then 0xF else (s.bank b).owner.code

/-- A write of M_BANK_OWN; one that names the owner in force asks for nothing (R426, R440). -/
def doBankOwn (b owner : Nat) (keep : Bool) (s : State) : State :=
  if ownerCode s b = owner then s else
  let (st, t) := handBank b owner keep s
  if st = stOk then t else updBank b (fun r => { r with refused := true }) t

/-- BANK_OWN. -/
def execBankOwn (bank owner : Nat) (keep : Bool) (s : State) : Host.Outcome State Fault Refusal := .next (hubReg (doBankOwn bank owner keep) s)

/-- The end of an access through M_BANK_PTR (R428, R440). -/
def ptrEnd (err : Nat) (s : State) : State := { s with bnk := { s.bnk with ptrDone := true, ptrErr := err } }

/-- BANK_READ (R428). -/
def doBankRead (s : State) : State :=
  if (s.bank s.bnk.ptrBank).owner != .firmware then countHub 193 1 (ptrEnd 1 s)
  else
    let (v, e, s) := bankFetch s.bnk.ptrBank s.bnk.ptrWord s
    ptrEnd (if e = 0 then 0 else e + 1) { s with bnk := { s.bnk with data := v } }

/-- BANK_READ. -/
def execBankRead (s : State) : Host.Outcome State Fault Refusal := .next (hubReg doBankRead s)

/-- BANK_WRITE (R428). -/
def doBankWrite (s : State) : State :=
  if (s.bank s.bnk.ptrBank).owner != .firmware then countHub 193 1 (ptrEnd 1 s)
  else ptrEnd 0 (bankWrite s.bnk.ptrBank (32 * s.bnk.ptrWord) 32 s.bnk.data.toNat s)

/-- BANK_WRITE. -/
def execBankWrite (s : State) : Host.Outcome State Fault Refusal := .next (hubReg doBankWrite s)

/-! ### The test engine (R429–R436) -/

/-- Repair windows in use; they are taken upward from 1 (R429, R433). -/
def repairsUsed (s : State) : Nat := s.bnk.repairs.length

/-- A window that failed its march is remapped, while a repair window is free (R433). -/
def windowFails (bank window : Nat) (s : State) : State :=
  let d := detail (bank + 64 * window) none none
  let s := raiseHub uBanks Kind.hmTestFail (hubLoc uBanks) d { s with bnk := { s.bnk with failsW := min (s.bnk.failsW + 1) 0xFFFF } }
  if repairsUsed s ≥ 127 then raiseHub uBanks Kind.hmRepairOut (hubLoc uBanks) d s
  else
    let new := !s.bnk.repairs.has (128 * bank + window)
    let s : State := { s with bnk := { s.bnk with repairs := s.bnk.repairs.put (128 * bank + window) (repairsUsed s + 1) } }
    whenS new (updBank bank (fun r => { r with remaps := r.remaps + 1 })) s

/-- The window after window n, by bank, then the free stash windows (R434). -/
def windowAfter (s : State) (n : Nat) : Nat :=
  if n + 1 < 6144 then n + 1
  else
    let freeStash := (0 :: (List.range 127).map (fun k => k + 1)).filter (fun k => k = 0 || decide (k > repairsUsed s))
    match freeStash.find? (fun k => decide (6144 + k > n)) with
    | some k => 6144 + k
    | none => 0

/-- Raw copy of one stored word (R432). -/
def copyWord (fromBank fromWord toBank toWord : Nat) (s : State) : State :=
  { s with bnk := { s.bnk with words := s.bnk.words.putD (16384 * toBank + toWord) (bankWord s fromBank fromWord) 0 } }

/-- One access of a bank's word: a checked read, or a write. -/
def accessWord (bank word : Nat) (x : OwnerAccess) (s : State) : State :=
  match x.store with
  | none => (bankFetch bank word s).2.2
  | some d => bankStore bank word d s

/-- A word that both ports address in one HCLK, one of them writing: what the access on this port comes to. A read returns the data being
written, so it finds no error; the second of two writes is discarded with HM_COLLIDE (R420). -/
def meets (l : List OwnerAccess) (x y : OwnerAccess) : Bool :=
  l.contains y && y.hclk == x.hclk && y.word == x.word && y.portB != x.portB && y.store.isSome

/-- The owner's accesses in the order in which the ports serve them, two writes of one word in one HCLK told. Once port B is taken, its
accesses wait for port A (R420, R430, R431). -/
def servedAccesses (bank : Nat) (l : List OwnerAccess) (s : State) : List OwnerAccess × State :=
  let early (x : OwnerAccess) : Bool := decide (x.hclk < 16)
  let lost (x : OwnerAccess) : Bool := early x && (x.store.isNone || x.portB) && l.any (meets l x)
  let s := foldS (l.filter (fun x => lost x && x.store.isSome)) (fun x t =>
    raiseHub uBanks Kind.hmCollide (hubLoc uBanks) (detail (bank + 64 * x.word) none none) t) s
  (l.filter (fun x => !lost x), s)

/-- One word of a window under test: the owner's accesses before its save go to the bank's data or, once written, to the save area; the
save copies the raw word unless it is dirty; later accesses are served by the save area; and the restore returns the word, corrected where
the save read corrected it, unless the owner writes it in that very HCLK (R430–R432). `l` are its accesses in order. -/
def testWord (bank word w : Nat) (l : List OwnerAccess) (s : State) : State :=
  let before := l.filter (fun x => decide (x.hclk < 16 + w))
  let during := l.filter (fun x => decide (16 + w ≤ x.hclk ∧ x.hclk < 2704 + w))
  let atEnd := l.filter (fun x => x.hclk == 2704 + w)
  let after := l.filter (fun x => decide (2704 + w < x.hclk))
  let dirty := before.any (fun x => x.store.isSome)
  let s := (before.foldl (fun (r : Bool × State) x =>
    if x.store.isSome then (true, accessWord 48 w x r.2) else (r.1, if r.1 then accessWord 48 w x r.2 else accessWord bank word x r.2)) (false, s)).2
  let s := whenS (!dirty) (fun t => copyWord bank word 48 w (bankFetch bank word t).2.2) s
  let s := foldS during (accessWord 48 w) s
  let s := match atEnd.find? (fun x => x.store.isSome) with
    | some x => accessWord bank word x s
    | none => copyWord 48 w bank word s
  foldS after (accessWord bank word) s

/-- A window under test with its owner at work: its 128 words one after the other, and the owner's other words of the bank (R430–R432). -/
def testWindow (bank window : Nat) (accesses : List OwnerAccess) (s : State) : State :=
  let (l, s) := servedAccesses bank accesses s
  let s := foldS (List.range 128) (fun w t => testWord bank (128 * window + w) w (l.filter (fun x => x.word == 128 * window + w)) t) s
  foldS (l.filter (fun x => x.word / 128 != window)) (fun x t => accessWord bank x.word x t) s

/-- MEMTEST_WINDOW (R420, R430–R434, R436): the next window of the engine, once HUB_INT_US has passed, with the accesses that the bank's
owner makes meanwhile. -/
def doMemtestWindow (bank window : Nat) (accesses : List OwnerAccess) (faulty : Bool) (s : State) : State :=
  let n := 128 * bank + window
  if !s.hubUp || s.rf fMemEn == 0 || s.isl.pf || n != s.bnk.nextWin || window ≥ 128
      || decide (s.et < s.bnk.lastWin + 400 * s.rf fHubInt) then s
  else
    let s := whenS (decide (bank < 48) && (s.bank bank).owner != .none) (testWindow bank window accesses) s
    let s : State := { s with bnk := { s.bnk with lastWin := s.et, lastBank := bank, lastWindow := window,
                                                   passes := if n = 6143 then min (s.bnk.passes + 1) 0xFFFF else s.bnk.passes } }
    let s := whenS faulty (windowFails bank window) s
    { s with bnk := { s.bnk with nextWin := windowAfter s n } }

/-- MEMTEST_WINDOW. -/
def execMemtestWindow (bank window : Nat) (faulty : Bool) (s : State) (accesses : List OwnerAccess := []) : Host.Outcome State Fault Refusal :=
  .next (atHub (doMemtestWindow bank window accesses faulty) s)

/-- CMEM_WINDOW (R437, R438, R444): the save corrected some words and found some lost. -/
def doCmemWindow (tap window corrected lost : Nat) (faulty : Bool) (s : State) : State :=
  let (next, last) := Tbl.get s.bnk.cmemNext tap (0, 0)
  if !s.hubUp || tap ≥ 128 || s.rf fCmemEn == 0 || s.isl.pf || window != next || felled s (clusterLoc tap) || !tapServes s tap
      || decide (s.et < last + 400 * s.rf fCmemInt) then s
  else
    let s : State := { s with bnk := { s.bnk with cmemNext := s.bnk.cmemNext.put tap ((next + 1) % 768, s.et) } }
    let s := countTap tap 25 0x3F corrected (countTap tap 24 0x3F 1 s)
    let s := whenS (decide (lost > 0)) (raiseTap tap Kind.cmemUe false (coreLoc tap 32) 0) s
    whenS faulty (raiseTap tap Kind.cmemTestFail false (coreLoc tap 32) 0) s

/-- CMEM_WINDOW. -/
def execCmemWindow (tap window corrected lost : Nat) (faulty : Bool) (s : State) : Host.Outcome State Fault Refusal :=
  .next (atHub (doCmemWindow tap window corrected lost faulty) s)

end Sys2Proof.Machine
end

