-- ==== Sys2Proof/Machine/Census.lean ====
section
/-! DEFINITION. The hang census (14_observation R464–R467, R469). -/
namespace Sys2Proof.Machine

/-- A census ordered; false where it completes LATE (R454, R464). -/
def orderCensus (t comp : Nat) (by_ : CensusBy) (s : State) : Bool × State :=
  match orderTick s.et (freezeTicks s) t with
  | none => (false, s)
  | some tt => (true, { s with obs := { s.obs with census := s.obs.census ++ [⟨tt, comp, by_⟩] } })

/-- HANG_WATCH (R464, R469): live cords and no retire for HANG_MS. -/
def doHangWatch (c : Nat) (s : State) : State :=
  let (last, fired) := Tbl.get s.obs.lastRetire c (0, false)
  let live := s.jrn.cords.any (fun e => e.2.comp == c && e.2.st != .settled)
  if s.rf fHangMs == 0 || !live || fired || decide (s.et < last + 400000 * s.rf fHangMs) then s
  else
    let s := (orderCensus 0 c .watch { s with obs := { s.obs with lastRetire := s.obs.lastRetire.put c (last, true) } }).2
    raiseHub uCounter Kind.obsHang dieLoc (detail 0 none (some c)) s

/-- HANG_WATCH. -/
def execHangWatch (c : Nat) (s : State) : Host.Outcome State Fault Refusal := .next (atHub (doHangWatch c) s)

/-- What the census ports show of an entity: CEN_STATE and the start of its wait (R464, R566). -/
abbrev Ports := List (Nat × Nat × Nat × Nat)

/-- CEN_STATE and SINCE of an entity; an entity not shown has neither. -/
def Ports.at (p : Ports) (entity ident : Nat) : Nat × Nat :=
  ((List.find? (fun e => e.1 == entity && e.2.1 == ident) p).map (fun e => e.2.2)).getD (0, 0)

/-- A cord of a state placed on a unit that passes a test. -/
def cordAt (s : State) (l : Loc) (st : CordSt) (p : Cord → Bool) : Option Cord :=
  (List.find? (fun (e : Nat × Cord) => e.2.st == st && e.2.placed == l && p e.2) s.jrn.cords).map (fun e => e.2)

/-- A waiting cord placed on a unit that passes a test. -/
def waitingCord (s : State) (l : Loc) (p : Cord → Bool) : Option Cord := cordAt s l .waiting p

/-- The CORD on which a cord is held under R241, where the journal still holds it; 0 otherwise (R466). -/
def blockingCord (s : State) (k : Cord) : Nat :=
  let bad := [k.dep0, k.dep1].find? (fun d => !depOk s k.comp d)
  (((bad.bind id).bind (findJsn s k.comp)).bind (fun i => (s.cord i).map (fun p => p.id))).getD 0

/-- AUX0 of a held cord: the cord or the inbound entry that holds it (R466). -/
def heldAux (s : State) (k : Cord) : Nat :=
  if depHolds s k then blockingCord s k else (k.taint.head?.map (fun x => x.1)).getD 0

/-- The wait of a unit of compartment c, the first of R465 that holds; `tap` is none for a host-class core. -/
def unitWait (s : State) (c : Nat) (l : Loc) (tap : Option Nat) (cen : Nat) : Nat :=
  let stalled := tap.any (fun t => (Tbl.get s.esc.pools t Pool.reset).waits.contains (match named l with
    | .core _ u => u
    | _ => 0))
  let mine (e : Nat × SendSt) : Bool := tap == some (e.1 / 256) && (match tap with
    | some t => tapUnitLoc t e.2.unit == l
    | none => false)
  if fenced s l || isQuiet s l || compQuiet s c then 1
  else if s.scr.holds.contains l.toNat then 2
  else if stopHolds s c then 3
  else if (waitingCord s l (depHolds s)).isSome then 4
  else if (waitingCord s l (taintHolds s)).isSome then 5
  else if stalled then 6
  else if s.esc.sends.any (fun e => mine e && !e.2.granted) then 7
  else if tap.any (fun t => decide (gateCount s t > 0)) && (waitingCord s l (fun _ => true)).isSome then 9
  else if cen = 1 then 10
  else if cen = 2 then 11
  else if decide (Tbl.get s.jrn.stalls c 0 > 0) && cen ≠ 3 && (waitingCord s l (fun _ => true)).isSome then 12
  else if tap.any (fun t => (Tbl.get s.taps t Tap.reset).tags.any (fun x => tapUnitLoc t (tkUnit x.2.ticket) == l)) then 13
  else if cen = 3 then 14 else 15

/-- One census entry (R466): entity, wait, since, and its 32 B. -/
structure CenEntry where
  entity : Nat
  wait : Nat
  since : Nat
  word : W256
deriving DecidableEq, Repr

/-- An entry laid out. -/
def cenEntry (entity wait : Nat) (l : Loc) (ident since aux0 aux1 : Nat) : CenEntry :=
  ⟨entity, wait, since, BitVec.ofNat 256 (pack [(8, entity), (8, wait), (16, l.toNat), (32, ident), (64, since), (32, aux0), (32, aux1), (64, 0)])⟩

/-- The units of a compartment: entity, locus, tap (R466). -/
def censusUnits (s : State) (c : Nat) : List (Nat × Loc × Option Nat) :=
  ((List.range 128).filter (fun t => tapComp s t == some c)).flatMap (fun t => (List.range 32).map (fun u => (1, coreLoc t u, some t)))
    ++ ((List.range 16).filter (fun r => tapComp s (128 + r) == some c)).map (fun r => (2, slabLoc r, some (128 + r)))
    ++ ((List.range 8).filter (fun h => assigned s (144 + h) == some c)).map (fun h => (3, hcoreLoc h, none))

/-- A unit's entry: the cord at its head, and what blocks it (R466). -/
def unitEntry (s : State) (c : Nat) (p : Ports) (e : Nat × Loc × Option Nat) : CenEntry :=
  let (cen, since) := p.at e.1 e.2.1.toNat
  let w := unitWait s c e.2.1 e.2.2 cen
  let head := (cordAt s e.2.1 .running (fun _ => true)).or (waitingCord s e.2.1 (fun _ => true))
  let ident := (head.map (fun k => k.id)).getD 0
  let aux := if w = 4 then ((waitingCord s e.2.1 (depHolds s)).map (heldAux s)).getD 0
    else if w = 5 then ((waitingCord s e.2.1 (taintHolds s)).map (heldAux s)).getD 0 else 0
  cenEntry e.1 w e.2.1 ident since aux 0

/-- The entries of compartment c (R466). -/
def censusEntries (s : State) (p : Ports) (c : Nat) : List CenEntry :=
  let comp := s.comp c
  (censusUnits s c).map (unitEntry s c p)
    ++ (s.fab.latches.filter (fun e => e.2.comp == c)).map (fun e => cenEntry 4 e.2.st.code (hubLoc uLatch) e.1 e.2.firstEt e.2.count e.2.target)
    ++ (s.esc.entries.filter (fun e => e.2.comp == c)).map (fun e => cenEntry 5 e.2.st.code e.2.locus e.2.sendId (p.at 5 e.1).2 0 0)
    ++ (s.jrn.cords.filter (fun e => e.2.comp == c && (e.2.st == .replayWait || (e.2.st == .waiting && (depHolds s e.2 || taintHolds s e.2))))).map
      (fun e => cenEntry 6 e.2.st.code e.2.placed e.2.id (p.at 6 e.2.id).2 (heldAux s e.2) 0)
    ++ (if comp.held.isEmpty then [] else [cenEntry 7 0 (hubLoc uStream) 0x10 (p.at 7 0x10).2 comp.held.length 0])
    ++ (if comp.staged.isEmpty then [] else [cenEntry 7 0 (hubLoc uStream) (0x20 + c) (p.at 7 (0x20 + c)).2 comp.staged.length 0])
    ++ (if streamSpent s c then [cenEntry 8 0 (hubLoc uStream) 0 (p.at 8 0).2 0 0] else [])
    ++ (if vcsSpent s c then [cenEntry 8 0 (hubLoc uFabric) 1 (p.at 8 1).2 0 0] else [])

/-- The summary entry w of a compartment's entries at T (R467). -/
def summaryEntry (t : Tick) (l : List CenEntry) (w : Nat) : Nat :=
  let hit := l.filter (fun e => if w ≤ 15 then e.entity ≤ 3 && e.wait == w else e.entity == w - 15)
  let old := hit.foldl (fun m e => max m ((t - e.since) / 400)) 0
  pack [(16, hit.length), (32, old)]

/-- The summary written into bank 41 (R467). -/
def writeSummary (t : Tick) (ports : Ports) (s : State) : State :=
  foldS (List.range 16) (fun c u =>
    let l := censusEntries s ports c
    foldS ((List.range 23).map (fun k => k + 1)) (fun w v => bankWrite 41 (8 * (24 * c + w)) 8 (summaryEntry t l w) v) u) s

/-- A census written to the host's buffer (R457, R466). -/
def writeCensus (c tag addr len id : Nat) (t : Tick) (l : List CenEntry) (s : State) : State :=
  let fit := if len < 32 then [] else l.take ((len - 32) / 32)
  if len < 32 then completeCmd c tag 0x52 stQuota (pack [(32, l.length), (32, 0)]) s
  else
    let hdr := toBytes 32 (pack [(32, id), (4, c), (28, 0), (64, t), (32, l.length), (32, fit.length)])
    streamWrite c addr (hdr ++ fit.flatMap (fun e => toBytes 32 e.word.toNat)) (.census c (some tag) l.length fit.length) s

/-- CENSUS_FREEZE (R464, R466, R467). -/
def doCensusFreeze (ports : Ports) (s : State) : State :=
  match s.obs.census.find? (fun o => decide (o.t ≤ s.et)) with
  | some o =>
    let id := s.obs.censusId
    let s : State := tookTick o.t { s with obs := { s.obs with census := s.obs.census.erase o, censusId := (id + 1) % 2 ^ 32 } }
    let l := censusEntries s ports o.comp
    let s := writeSummary o.t ports s
    match o.by_ with
    | .host tag addr len => writeCensus o.comp tag addr len id o.t l s
    | _ => s
  | none => s

/-- CENSUS_FREEZE. -/
def execCensusFreeze (ports : List (Nat × Nat × Nat × Nat)) (s : State) : Host.Outcome State Fault Refusal := .next (atHub (doCensusFreeze ports) s)

end Sys2Proof.Machine
end

