-- ==== Sys2Proof/Machine/Cper.lean ====
section
/-! DEFINITION. Failure signatures: the Vionaelm section and the UEFI CPER record around it (11_in_field_screening R393–R395). The
layout and the codes of UEFI appendix N, which the spec names and does not print, are PRESUMED (log entry 18). -/
namespace Sys2Proof.Machine

/-- A GUID of its first four parts and the eight bytes that follow, as 16 B in memory. -/
def guid (a b c : Nat) (rest : List Nat) : Nat := pack ([(32, a), (16, b), (16, c)] ++ rest.map (fun x => (8, x)))

def cperCreator : Nat := guid 0x3F6B5A10 0x8C2E 0x4D71 [0x9E, 0x05, 0x21, 0xA7, 0xC4, 0xD0, 0xB8, 0xE4]
def cperSection : Nat := guid 0x3F6B5A10 0x8C2E 0x4D71 [0x9E, 0x05, 0x21, 0xA7, 0xC4, 0xD0, 0xB8, 0xE3]
def cperCmc : Nat := guid 0x2DCE8BB1 0xBDD7 0x450E [0xB9, 0xAD, 0x9C, 0xF4, 0xEB, 0xD4, 0xF8, 0x90]
def cperMce : Nat := guid 0xE8F56FFE 0x919C 0x4CC5 [0xBA, 0x88, 0x65, 0xAB, 0xE1, 0x49, 0x13, 0xBB]

/-- Two decimal digits, one in each half of a byte. -/
def bcd (n : Nat) : Nat := n % 10 + 16 * (n / 10 % 10)

/-- Year, month and day of a number of days since 1970-01-01. -/
def civil (days : Nat) : Nat × Nat × Nat :=
  let z := days + 719468
  let doe := z % 146097
  let yoe := (doe - doe / 1460 + doe / 36524 - doe / 146096) / 365
  let doy := doe - (365 * yoe + yoe / 4 - yoe / 100)
  let mp := (5 * doy + 2) / 153
  let m := if mp < 10 then mp + 3 else mp - 9
  (yoe + 400 * (z / 146097) + (if m ≤ 2 then 1 else 0), m, doy - (153 * mp + 2) / 5 + 1)

/-- A wall time in seconds in the appendix's form. -/
def cperTime (t : Nat) : Nat :=
  let (y, m, d) := civil (t / 86400)
  pack [(8, bcd (t % 60)), (8, bcd (t / 60 % 60)), (8, bcd (t / 3600 % 24)), (8, 0), (8, bcd d), (8, bcd m), (8, bcd (y % 100)), (8, bcd (y / 100))]

/-- An upper-case hexadecimal digit in ASCII. -/
def hexDigit (n : Nat) : Nat := if n < 10 then 0x30 + n else 0x37 + n

/-- FRU text: ELIEDA L and the locus in four digits, NUL-padded to 20 B (R393). -/
def fruText (l : Nat) : Nat :=
  pack (([0x45, 0x4C, 0x49, 0x45, 0x44, 0x41, 0x20, 0x4C] ++ [hexDigit (l / 4096 % 16), hexDigit (l / 256 % 16), hexDigit (l / 16 % 16), hexDigit (l % 16)]).map (fun x => (8, x)))

/-- The appendix's severity of a severity: informational 3, corrected 2, recoverable 0, fatal 1 (R393). -/
def cperSeverity (sev : Nat) (corrected : Bool) : Nat :=
  if sev ≤ 2 then 3 else if sev ≤ 5 then (if corrected then 2 else 0) else if sev = 6 then 0 else 1

/-- A skid of a locus's scope has not ended, or waits to start (R254, R260). -/
def skidOpen (s : State) (l : Loc) : Bool := s.jrn.skids.any (fun k => covers k.scope l) || s.jrn.waits.any (fun w => covers w.scope l)

/-- The 328 B record around a section whose DIE_ID, DIE, VERSION, LENGTH and ISL_SEC are filled in here (R393, R519). -/
def cperRecord (s : State) (sec : Nat) : BitVec 2624 :=
  let set (v : Nat) (f : Nat × Nat × Nat) : Nat := nset v (8 * f.1) f.2.1 f.2.2
  let sec := [(0, 16, 1), (2, 16, 128), (8, 64, s.fuse.dieId.toNat), (16, 16, if s.dieSet then s.die else 0), (48, 48, s.isl.sec)].foldl set (sec % 2 ^ 1024)
  let l := nfld sec 144 16
  let sev := cperSeverity (nfld sec 288 3) (nfld sec 299 1 == 0 && !skidOpen s (BitVec.ofNat 16 l))
  let header := [(32, 0x52455043), (16, 0x0101), (32, 0xFFFFFFFF), (16, 1), (32, sev), (32, if s.isl.wall ≠ 0 then 2 else 0), (32, 328),
    (64, if s.isl.wall ≠ 0 then cperTime s.isl.wall else 0), (128, 0), (128, 0), (128, cperCreator), (128, if sev = 2 then cperCmc else cperMce),
    (64, s.fuse.dieId.toNat % 2 ^ 32 * 2 ^ 32 + nfld sec 32 32), (32, 0), (64, 0), (96, 0)]
  let desc := [(32, 200), (32, 128), (16, 0x0100), (8, 2), (8, 0), (32, 1), (128, cperSection), (128, 0), (32, sev), (160, fruText l)]
  BitVec.ofNat 2624 (pack (header ++ desc ++ [(1024, sec)]))

/-- A failure signature queued, or dropped and counted in LOST where 32 wait (R395). -/
def queueCper (sec : Nat) (s : State) : Bool × State :=
  if s.recd.cper.length < 32 then (true, { s with recd := { s.recd with cper := s.recd.cper ++ [cperRecord s sec] } })
  else (false, { s with recd := { s.recd with cperLost := min (s.recd.cperLost + 1) 0xFFFF } })

/-- Intermittent findings of a locus within INTERMIT_H hours (R288). -/
def recentIntermit (s : State) (l : Loc) : Nat :=
  ((Tbl.get s.col.intermit l.toNat []).filter (fun t => decide (t + 1440000000000 * intermitH s > s.et))).length

/-- The Vionaelm section of a followed-up entry (R394): finding, actions in the order of offset 37, cords skidded, fell GEN. -/
def cperImage (s : State) (e : Intake) (finding actions cords fellGen : Nat) : Nat :=
  let l := msgLocus e.msg
  let test := msgKind e.msg == Kind.stFail || msgKind e.msg == Kind.stUnstable
  let f := if test then s.scr.findings.find? l.toNat else none
  let seg (g : Slice → Nat) : Nat := (f.map g).getD 0
  let temp : Nat := match (regionOf l).bind (diodeOf s) with
    | some t => (Int.fdiv t 16 % 256).toNat
    | none => 0
  let mv := ((regionOf l).bind (senseOf s)).getD 0
  pack [(16, 1), (16, 128), (32, e.cseq), (64, s.fuse.dieId.toNat), (16, 0), (16, l.toNat), (128, e.msg.toNat), (3, e.sev), (1, b2n e.escal),
    (4, finding), (6, actions), (1, b2n s.dieSet), (1, 0), (16, min cords 0xFFFF), (64, e.arrEt), (48, 0), (16, 0), (32, fellGen),
    (8, min (Tbl.get s.col.persist l.toNat 0) 255), (8, min (recentIntermit s l) 255), (8, min (Tbl.get s.scr.fails l.toNat 0) 255), (8, 0),
    (32, seg (fun x => x.packId)), (32, seg (fun x => x.ver)), (8, seg (fun x => x.seg)), (8, temp),
    (16, seg (fun x => ((x.segs[x.seg]?).map (fun g => g.defect)).getD 0)), (16, mv), (1, b2n ((regionOf l).any (fun r => s.div4 r))), (15, 0),
    (64, seg (fun x => x.expected)), (64, seg (fun x => x.observed)), (256, 0)]

end Sys2Proof.Machine
end

