-- ==== Sys2Proof/Machine/FollowUp.lean ====
section
/-! DEFINITION. The programmed follow-up of the serving pair's stock image: pinpoint, adjudication, the decision tables of cruise and
twin, rehearsals, the fell policy, records and failure signatures; and the unit requests it works through (08_faults_fencing_blaze
R287–R289, 02 R92–R94, 03 R118–R123, R136–R142, 04 R166–R169, 16_quoper_isa R510–R514). -/
namespace Sys2Proof.Machine

/-! ### Unit requests (R510, R514) -/

/-- A unit request. -/
def unitReq (uop comp : Nat) (l : Loc) (cord arg0 arg1 token : Nat) : W256 :=
  BitVec.ofNat 256 (pack [(8, uop), (4, comp), (4, 0), (16, l.toNat), (32, cord), (32, arg0), (32, arg1), (64, 0), (32, token), (32, 0)])

def reqUop (r : W256) : Nat := fld r 0 8
def reqComp (r : W256) : Nat := fld r 8 4
def reqLoc (r : W256) : Loc := BitVec.ofNat 16 (fld r 16 16)
def reqCord (r : W256) : Nat := fld r 32 32
def reqArg0 (r : W256) : Nat := fld r 64 32
def reqArg1 (r : W256) : Nat := fld r 96 32
def reqAddr (r : W256) : Nat := fld r 128 64

/-- Requests put in their units' queues. -/
def pushReqs (l : List W256) (s : State) : State := { s with seq := { s.seq with requests := s.seq.requests ++ l } }

/-- A request taken by its unit. -/
def takeReq (r : W256) (s : State) : State := { s with seq := { s.seq with requests := s.seq.requests.erase r } }

/-- The follow-up that waits for a request's answer. -/
def workOf (s : State) (r : W256) : Option Work := s.seq.works.find? (fun w => w.req == r)

/-- A follow-up begun, and its requests. -/
def addWork (w : Work) (more : List W256) (s : State) : State :=
  pushReqs (w.req :: more) { s with seq := { s.seq with works := s.seq.works ++ [w] } }

/-- A follow-up is over. -/
def dropWork (w : Work) (s : State) : State := { s with seq := { s.seq with works := s.seq.works.erase w } }

/-- A follow-up changed. -/
def setWork (w w' : Work) (s : State) : State := { s with seq := { s.seq with works := s.seq.works.map (fun x => if x = w then w' else x) } }

/-- Words of 8 B written to hub-bank memory from an address (R514). -/
def writeWords (a : Nat) (l : List Nat) (s : State) : State :=
  (l.foldl (fun (r : Nat × State) v =>
    (r.1 + 8, if r.1 >>> 19 ≤ 47 then bankWrite (r.1 >>> 19) (r.1 % 2 ^ 19 / 8 * 8) 8 v r.2 else r.2)) (a, s)).2

/-! ### What the Cruise Engine serves next (R48) -/

/-- The class of a request to the Cruise Engine: 0 pinpoint, 1 adjudication, 2 the sample queue, where a late adjudication runs too; second
and third opinions have adjudication priority (R48, R119, R136; R141 names none for the third, DEDUCED, log entry 54). -/
def reqClass (s : State) (r : W256) : Option Nat :=
  match reqUop r with
  | 1 => some 0
  | 2 => some (if (workOf s r).any (fun w => w.what == .late) then 2 else 1)
  | 3 | 4 => some 1
  | _ => none

/-- Requests of a class, oldest first. -/
def classReqs (s : State) (cls : Nat) : List W256 := s.seq.requests.filter (fun r => reqClass s r == some cls)

/-- A compartment's weight in the running window: CRUISE_W for samples, at least 1 for pinpoint and adjudication (R48, R309). -/
def weightOf (s : State) (floor c : Nat) : Nat := max floor (s.gov.weights.get c 1)

/-- Weighted round-robin: the compartment in turn keeps it until it has had its weight; then the next with work has its turn (R48; the order
of the round is the model's, DESIGN CHOICE, log entry 54). -/
def nextComp (s : State) (cls : Nat) (floor : Nat → Nat) (waits : List Nat) : Option Nat :=
  let (c, n) := s.gov.turns.get cls (0, 0)
  let some? (d : Nat) : Bool := waits.contains d && weightOf s (floor d) d != 0
  if some? c && decide (n < weightOf s (floor c) c) then some c
  else ((List.range 16).map (fun i => (c + 1 + i) % 16)).find? some?

/-- A compartment of a class is served. -/
def tookTurn (cls c : Nat) (s : State) : State :=
  let (d, n) := s.gov.turns.get cls (0, 0)
  { s with gov := { s.gov with turns := s.gov.turns.put cls (c, if c = d && n < weightOf s 1 c then n + 1 else 1) } }

/-- The request of pinpoint or adjudication that is served next: pinpoint goes before adjudication (R48). -/
def cruiseNext (s : State) : Option (Nat × W256) :=
  let cls := if (classReqs s 0).isEmpty then 1 else 0
  let l := classReqs s cls
  (nextComp s cls (fun _ => 1) (l.map reqComp)).bind (fun c => (l.find? (fun r => reqComp r == c)).map (fun r => (cls, r)))

/-- The oldest request of a unit that serves its requests in order. -/
def headReq (s : State) (uop : Nat) : Option W256 := s.seq.requests.find? (fun r => reqUop r == uop)

/-- The request that the Cruise Engine serves next, where it has the UOP. -/
def nextReq (s : State) (uop : Nat) : Option (Nat × W256) := (cruiseNext s).filter (fun x => reqUop x.2 == uop)

/-- A request of the Cruise Engine served: it leaves its queue, and its compartment has had its turn. -/
def serveReq (cls : Nat) (r : W256) (s : State) : State := takeReq r (tookTurn cls (reqComp r) s)

/-! ### Cruise Engine faults and rehearsal misses (R136, R167) -/

/-- A CRUISE_ENGINE event counted: the third within 1 s stops sampling die-wide and asks for the self-test (R136). -/
def engineEvent (s : State) : State :=
  let l := s.et :: s.gov.engineErrs.filter (fun t => decide (t + 400000000 > s.et))
  let s : State := { s with gov := { s.gov with engineErrs := l } }
  if l.length < 3 || s.gov.sampleOff then s
  else
    let e : Intake := ⟨mkMsg Kind.cruiseEngine 5 false (hubLoc uCruise) 0, s.et, s.seq.lastCseq, 0, false, false, false, 33, 0⟩
    let w : Work := ⟨.selfTest, e, 0, hubLoc uCruise, 0, 0, 0, 0, none, none, none, unitReq 5 0 (hubLoc uCruise) 0 0 0 (s.et % 2 ^ 32), 0, 0, none, none⟩
    addWork w [] { s with gov := { s.gov with sampleOff := true } }

/-- CRUISE_ENGINE raised by the follow-up (R93, R136). -/
def engineFault (s : State) : State := engineEvent (raiseHub (svUnit s) Kind.cruiseEngine (hubLoc uCruise) 0 s)

/-- A rehearsal decided: PASS or MISS counted, and a miss raised against the part that holds the detector (R167, R169). -/
def rehearsalEnds (mech tap : Nat) (pass : Bool) (s : State) : State :=
  let s : State := { s with gov := { s.gov with rehearsals := s.gov.rehearsals.map (fun r => if r.mech = mech ∧ r.tap = tap then { r with ended := true } else r) } }
  if pass then countHub (176 + 3 * mech) 1 s
  else
    let s := countHub (176 + 3 * mech + 1) 1 s
    match mech with
    | 0 | 1 => raiseHub (svUnit s) Kind.rhMiss (tapPartLoc tap) 0 s
    | 2 => engineEvent (raiseHub (svUnit s) Kind.rhMissHub (hubLoc uCruise) 0 s)
    | 3 => raiseHub (svUnit s) Kind.rhMissHub (hubLoc uJournal) 0 s
    | _ => raiseHub (svUnit s) Kind.rhMissHub (hubLoc uDigest) 0 s

/-- NO_OPPORTUNITY (R165): the interval ends; what was injected and never came to its expected outcome is a miss (R167), and a point that
waited at a tap goes. A mechanism that is disabled by then counts nothing and has no next interval (R164). -/
def doNoOpportunity (mech tap : Nat) (s : State) : State :=
  match s.gov.points.find? (1024 * mech + tap) with
  | none => s
  | some (_, e) =>
    if s.et < e then s
    else
      let on := rehOn s mech
      let idle : State → State := whenS on (countHub (176 + 3 * mech + 2) 1)
      let s := match rehearsalOf s mech tap with
        | some r => if !r.injected then idle s else if r.ended then s else rehearsalEnds mech tap false s
        | none => idle s
      let s := whenS (decide (mech < 2)) (updTap tap (fun p => { p with inject := p.inject.del mech })) s
      (if on then nextPoint mech tap else fun s => { s with gov := { s.gov with points := s.gov.points.del (1024 * mech + tap) } }) { s with gov := { s.gov with rehearsals := s.gov.rehearsals.filter (fun r => !(r.mech == mech && r.tap == tap)) } }

/-- NO_OPPORTUNITY. -/
def execNoOpportunity (mech tap : Nat) (s : State) : Host.Outcome State Fault Refusal := .next (atHub (doNoOpportunity mech tap) s)

/-! ### Replays and withdrawal (R137, R192, R246) -/

/-- DETAIL of the kinds that the follow-up raises about a cord (R267; log entry 19): cord, a further word, COMP. -/
def cordDetail (cord more comp : Nat) : Nat := detail (cord + 2 ^ 32 * (more % 2 ^ 32)) none (some comp)

/-- A cord replays on the order of the follow-up; one that a skid will move waits for it, and a withdrawn one waits for its resent data
(R189, R246, R254). -/
def replayCord (c jsn attempt trigger : Nat) (s : State) : State :=
  match findJsn s c jsn with
  | some slot => (match s.cord slot with
    | some k =>
      if k.attempt ≠ attempt || k.st == .skid || k.st == .waiting || k.st == .settled || !k.waitSlots.isEmpty || (s.comp c).st != .opened then s
      else if s.jrn.waits.any (fun w => covers w.scope k.placed) then s
      else replaySlot trigger slot s
    | none => s)
  | none => s

/-- SUSPECT cords of a unit, whose tiles no record names (R90, R246). -/
def replaySuspects (l : Loc) (trigger : Nat) (s : State) : State :=
  foldS (cordSlots s (fun k => k.live && covers l k.placed && k.status == stSuspect && (k.st == .running || k.st == .retired) && k.checksOpen == 0))
    (fun i t => match t.cord i with
      | some k => replayCord k.comp k.jsn k.attempt trigger t
      | none => t) s

/-- LATE_RECANT to the compartment's job group, and the taint of this die's own open epoch (R192). DESIGN CHOICE: where the group names
this die too, the branch delivered here posts the record a second time (log entry 55). -/
def lateRecant (c cord kind : Nat) (s : State) : State :=
  let e := openEpoch s c
  let s := postRecant c cord s.die kind 1 e (noteRecant c (taintEpoch c s))
  let g := escGroup s c
  if g = 0 then s else multiPlain none vcEscrow g 1 (escMsg 5 c 0 0 cord 0 kind (e % 2 ^ 16)) s

/-- A cord's outputs are withdrawn: its entries recanted, LATE_RECANT where a send had been granted and cleared (R192, R136, R141). -/
def withdrawCord (c jsn attempt kind : Nat) (s : State) : State :=
  match findJsn s c jsn with
  | some slot => (match s.cord slot with
    | some k =>
      if k.attempt ≠ attempt then s
      else whenS k.sent (lateRecant c k.id kind) (recantCord kind [] slot s)
    | none => s)
  | none => s

/-- The epoch that a unit retired at an ET took part in has voted: the oldest committed one decided since (R137). -/
def votedEpoch (s : State) (c retire : Nat) : Option Nat :=
  (((s.digComp c).committed.filter (fun e => decide (e.2 ≥ retire))).map (fun e => e.1)).foldl (fun m e => match m with
    | none => some e
    | some x => some (min x e)) none

/-! ### Steps 3 to 7 of R287 -/

/-- The scope that an entry's first reaction fenced. -/
def entryScope (e : Intake) : Option Loc :=
  if e.sev < 3 || e.sev > 5 then none
  else match reach e.sev (msgLocus e.msg) with
    | .scope x => some x
    | _ => none

/-- Step 4: findings counted and the unit felled by policy (R288, R379). -/
def fellPolicy (l : Loc) (finding : Nat) (s : State) : State :=
  let s : State := { s with col :=
    { s.col with persist := if finding = 1 then s.col.persist.upd l.toNat 0 (fun n => n + 1) else s.col.persist,
                 intermit := if finding = 2 then s.col.intermit.upd l.toNat [] (fun x => s.et :: x) else s.col.intermit } }
  let hit (limit n : Nat) : Bool := limit != 0 && decide (n ≥ limit)
  let go := (finding == 1 && hit (fellPersist s) (Tbl.get s.col.persist l.toNat 0)) || ((finding == 2 || finding == 5) && hit (fellIntermit s) (recentIntermit s l))
    || (finding == 4 && hit (fellSelftest s) (Tbl.get s.scr.fails l.toNat 0))
  if go && !felled s l then
    let s := fellLocus l s
    whenS (s.isl.st == .selftest || s.isl.st == .closing) (fun t => { t with scr := { t.scr with screenFell := t.scr.screenFell + 1 } }) s
  else s

/-- Step 5: a region fence that leaves a compartment without a cluster raises NO_PLACEMENT for it (R287). -/
def checkPlacement (e : Intake) (s : State) : State :=
  match (entryScope e).map named with
  | some (.region r) =>
    foldS (List.range 16) (fun c t =>
      let mine := (List.range 128).filter (fun k => tapComp t k == some c)
      let lost := mine.any (fun k => k / 8 == r) && mine.all (fun k => fenced t (clusterLoc k) || felled t (clusterLoc k))
      whenS (lost && (t.comp c).st != .closed) (raiseHub (svUnit t) Kind.noPlacement (regionLoc r) (detail 0 none (some c))) t) s
  | _ => s

/-- Cords of the scope that skids have taken: whether there is a skid, and their number, saturating. -/
def skiddedCords (s : State) (x : Option Loc) : Bool × Nat :=
  match x with
  | some l =>
    let ks := s.jrn.skids.filter (fun k => covers l k.scope)
    (!ks.isEmpty, ks.foldl (fun n k => n + k.cords) 0)
  | none => (false, 0)

/-- Some cord was unreplayable for a fault of a kind: the Journal Unit's message about it is not followed up yet (R261, R265). -/
def noReplaySince (s : State) (kind : Nat) : Bool :=
  let hit (m : W128) : Bool := (msgKind m == Kind.jrnNoreplay || msgKind m == Kind.jrnReplayLimit) && fld m 80 12 == kind
  s.col.flight.any (fun f => hit f.msg) || s.col.intake.any (fun e => hit e.msg)

/-- The skid that a fence waits for starts (R254). -/
def confirmSkid (x : Option Loc) (s : State) : State :=
  match x with
  | some l => if s.jrn.waits.any (fun w => w.scope == l) then startSkid l s else s
  | none => s

/-- The entry's follow-up is done: a stop that it caused waits for it no more (R548). -/
def entryDone (e : Intake) (s : State) : State :=
  foldS (List.range 16) (fun c t => if (t.comp c).causes.contains e.cseq then updComp c (fun p => { p with causes := p.causes.filter (fun x => x != e.cseq) }) t else t) s

/-- The hook of an intake entry: the lowest-numbered entry of the hook table in use whose range holds the kind, its index and MODE (R530). -/
def hookOf (s : State) (kind : Nat) : Option (Nat × Bool) :=
  ((List.range 64).map (fun i => polRead s (polHook i) 8)).findSome? (fun v =>
    if nfld v 32 16 ≠ 0 && within (nfld v 0 12) (nfld v 16 12) kind then some (nfld v 32 16, v.testBit 48) else none)

/-- FOLLOW calls a hook: g1 the address of its copy of the entry, g2 that of the scratch area, p1 the rehearsal mark, g31 the index to
return to (R506, R530; log entry 61). -/
def callHook (e : Intake) (index : Nat) (s : State) : State :=
  let copy := 33 * 2 ^ 19 + 32 * (Config.followCopy % 49152)
  let scratch := 33 * 2 ^ 19 + 256 * (Config.hookScratch % 2048)
  let b := s.seq.servingB
  let ret := (pairOf b s).pc
  let s := bankWrite (copy >>> 19) (copy % 2 ^ 19) 32 (intakeWord e).toNat s
  let s : State := { s with seq := { s.seq with hookRet := some ret } }
  updPair b (fun p =>
    ({ ((((p.setReg 1 (BitVec.ofNat 64 copy)).setReg 2 (BitVec.ofNat 64 scratch)).setReg 31 (BitVec.ofNat 64 ret)).setPred 1 (msgReh e.msg)) with
      waiting := none, turnStart := some (p.turnStart.getD s.et) }).jump index) s

/-- Steps 3 to 7: skid, fell policy, placement, hook, record, failure signature; a hook of MODE 1 stands for the steps to 5 (R530). A rehearsal is recorded and nothing else (R166, R471). -/
def finishEntry (e : Intake) (finding : Nat) (s : State) : State :=
  let kind := msgKind e.msg
  let l := msgLocus e.msg
  let reh := msgReh e.msg
  let x := entryScope e
  let was := felled s l
  let hook := hookOf s kind
  let s := whenS (!reh && !hook.any (fun h => h.2)) (fun t => checkPlacement e (fellPolicy l finding (confirmSkid x t))) s
  let (skid, cords) := skiddedCords s x
  let inForce := match x with
    | some y => fenced s y
    | none => false
  let fell := felled s l && !was
  let actions := if reh then 0 else pack [(1, b2n inForce), (1, b2n fell), (1, b2n skid), (1, b2n (noReplaySince s kind)),
    (1, b2n (e.sev == 6 && (stopTarget s l e.msg).isSome)), (1, b2n (e.sev == 7))]
  let s := match hook with
    | some h => callHook e h.1 s
    | none => s
  let entry := sevEntry s (msgClass e.msg) kind
  let s := whenS (entry.testBit 4) (pushRec false (recImage kind 1 e.sev reh finding actions e.flood e.escal e.cseq e.lost e.msg.toNat e.arrEt)) s
  let s := whenS (entry.testBit 5 && !reh) (fun t => (queueCper (cperImage t e finding actions cords (if fell then t.col.fellGen else 0)) t).2) s
  entryDone e s

/-! ### Pinpoint (R92–R94) -/

/-- How a pinpoint ends (R93, R94). -/
inductive PinOut where
  | transient
  /-- transient, and the Cruise Engine suspect. -/
  | transientEngine
  | persistent
  | intermittent
  /-- operands changed: the fence is lifted. -/
  | changed
  /-- undecided: the fence stays. -/
  | unresolved
  | tap
  | engine
  | deferred
  /-- its compartment stopped or closed first. -/
  | ended
deriving DecidableEq, Repr

/-- PIN of R545. -/
def PinOut.code : PinOut → Nat
  | .transient | .transientEngine => 1 | .persistent => 2 | .intermittent => 3 | .changed | .unresolved => 4 | .tap => 5 | .engine => 6
  | .deferred | .ended => 0

/-- FINDING of R394. -/
def PinOut.finding : PinOut → Nat
  | .persistent => 1 | .intermittent => 2 | .transient | .transientEngine => 3 | .tap => 6 | _ => 0

/-- Class, ri and cj of two outcomes agree. -/
def sameLocal (a b : Local) : Bool := a.code == b.code && a.ri == b.ri && a.cj == b.cj

/-- The table of R93, first row that holds, for a tile of the exact check; `m` is what the Cruise Engine found. Where the re-run of
class multiple repeats the difference and the engine's sums differ from it, no row holds: unresolved (log entry 20). -/
def decideErc (r : ErcRec) (p : PinRes) (m : Nat × Nat × Nat × List W64) : PinOut :=
  let (o, us, vs, cands) := m
  let held := us == r.usum && vs == r.vsum
  let again := us == p.usum && vs == p.vsum
  let cs := cands.map (fun v => v.toNat)
  let caught := p.cand.map (fun e => e.2)
  let place := r.loc.code != 4
  let same := sameLocal p.loc r.loc && p.d0 == sub61 r.s0 r.o0
  if o ≠ 1 && !held && again then .changed
  else if o ≠ 1 && !held && !(p.usum == r.usum && p.vsum == r.vsum) then .changed
  else if o ≠ 1 && !held then .engine
  else if o = 1 then .deferred
  else if r.flag then (if p.flag then .persistent else .transient)
  else if !(p.s0 == r.s0 && p.srow == r.srow && p.scol == r.scol) then .tap
  else if same && place then (if caught == cs then .tap else .persistent)
  else if same && p.loc.code == 4 then (if cs == [p.s0, p.srow, p.scol] then .persistent else .unresolved)
  else if p.loc.code ≠ 0 then .intermittent
  else if !place || caught == cs then .transient
  else .transientEngine

/-- Row sums as 64-bit values, in increasing row. -/
def rowBits (m : Nat) (rho : Tbl Fl) : List Nat := (List.range m).map (fun i => enc64 (Tbl.get rho i Fl.zero))

/-- The same for a confirmed tolerance alarm, with bit-exact row sums in place of residues (R121; log entry 20). -/
def decideTol (r : TolRec) (p : PinRes) (m : Nat × Nat × Nat × List W64) : PinOut :=
  let n := tkM r.ticket
  let kept := rowBits n r.rho
  let rerun := rowBits n p.rho
  let cruise := m.2.2.2.map (fun v => v.toNat)
  if m.1 = 1 then .deferred
  else if rerun == kept then (if rerun == cruise then .tap else .persistent)
  else if rerun == cruise then .transient
  else .intermittent

/-- The retained record of a follow-up is still held at its tap. -/
def recordHeld (s : State) (w : Work) : Bool :=
  let t := Tbl.get s.taps w.tap Tap.reset
  (match w.erc with
  | some r => t.ercRecs.contains r
  | none => true) && (match w.tol with
  | some r => t.tolRecs.contains r
  | none => true)

/-- The retained record released (R92, R115). -/
def releaseRecord (w : Work) (s : State) : State :=
  updTap w.tap (fun p =>
    { p with ercRecs := (match w.erc with
              | some r => p.ercRecs.erase r
              | none => p.ercRecs),
             tolRecs := (match w.tol with
              | some r => p.tolRecs.erase r
              | none => p.tolRecs) }) s

/-- The re-run's request of a pinpoint (R92, R514). -/
def pinReq (w : Work) : W256 :=
  let tk := match w.erc, w.tol with
    | some r, _ => r.ticket
    | none, some r => r.ticket
    | none, none => 0
  unitReq 0x11 w.comp w.loc w.cord (tkTag tk) (tkSeq tk) (w.entry.cseq)

/-- The pinpoint result posted in the PIN field of a CORD record, while the cord is live (R92, R545). -/
def postPin (w : Work) (pin : Nat) (s : State) : State :=
  match findJsn s w.comp w.jsn with
  | some slot => (match s.cord slot with
    | some k => if pin = 0 then s else postCord { k with pin := pin } false k.status (whenS (k.attempt == w.attempt) (updCord slot (fun k => { k with pin := pin })) s)
    | none => s)
  | none => s

/-- The scope that the entry of a pinpoint fenced: the unit, or the section of a slab (R93). -/
def pinScope (w : Work) : Loc := (entryScope w.entry).getD w.loc

/-- A skid that waits for a pinpoint is due (R254). -/
def skidDue (l : Loc) (s : State) : State :=
  { s with jrn := { s.jrn with waits := s.jrn.waits.map (fun w => if w.scope = l then { w with pinpoint := false } else w) } }

/-- The unit's fence is lifted, unless its cause has a floor above it; its skid does not start (R93, R254, R289). -/
def liftUnit (l : Loc) (s : State) : State :=
  let floorOk := !s.col.fences.any (fun f => f.scope == l && !f.host && decide (Kind.floor f.kind ≥ 3))
  if floorOk then orderLift l false { s with jrn := { s.jrn with waits := s.jrn.waits.filter (fun w => w.scope != l) } } else s

/-- A pinpoint ends (R92–R94). -/
def endPin (w : Work) (out : PinOut) (s : State) : State :=
  let s := releaseRecord w (takeReq w.req (takeReq (pinReq w) (dropWork w s)))
  let s : State := { s with seq := { s.seq with rerunning := s.seq.rerunning.erase (pinReq w) } }
  if out = .ended then finishEntry w.entry 0 s
  else
    let s := postPin w out.code (checkEnds w.comp w.jsn w.attempt s)
    let kind := msgKind w.entry.msg
    let s := match out with
      | .transient | .transientEngine => replayCord w.comp w.jsn w.attempt kind (whenS (liftTransient s) (liftUnit (pinScope w)) s)
      | .changed => replayCord w.comp w.jsn w.attempt kind (liftUnit (pinScope w) s)
      | _ => replayCord w.comp w.jsn w.attempt kind (skidDue (pinScope w) s)
    let s := match out with
      | .tap => raiseHub (svUnit s) Kind.ercTap (tapPartLoc w.tap) (ercDetail 0 0 7 0x3F 0x3F 0) s
      | .engine | .transientEngine => engineFault s
      | _ => s
    finishEntry w.entry out.finding s

/-- A pinpoint with both answers is decided; one whose compartment stopped or closed ends with no outcome (R92). -/
def tryPin (w : Work) (s : State) : State :=
  if !recordHeld s w || (s.comp w.comp).st == .stopped || (s.comp w.comp).st == .closed then endPin w .ended s
  else match w.rerun, w.recomp, w.erc, w.tol with
    | some p, some m, some r, _ => endPin w (decideErc r p m) s
    | some p, some m, none, some r => endPin w (decideTol r p m) s
    | _, _, _, _ => s

/-- Ticks of a tile's re-run on its unit (R94, R21). -/
def rerunTicks (s : State) (tap : Nat) (tk : W256) : Nat :=
  let c := if tap ≥ 128 then cdiv (tkM tk) 256 * cdiv (tkN tk) 256 * tkK tk else cdiv (tkM tk * tkN tk * tkK tk) 1024
  cdiv c (s.cclkPerTick tap)

/-- The tap and unit of a locus that a tile message names: a core, a slab or one of its sections. -/
def tileUnit (l : Loc) : Option (Nat × Nat × Loc) :=
  match named l with
  | .core c u => some (c, u, coreLoc c u)
  | .slab r | .slabSection r _ => some (128 + r, 0, slabLoc r)
  | _ => none

/-- ATTEMPT of the run that a tile at a unit belongs to: the cord's own, or 16, which no run of its own has, for its twin or third run. -/
def runAt (l : Loc) (k : Cord) : Nat := if unitKey k.placed == unitKey l then k.attempt else 16

/-- A follow-up about a tile of a ticket: its cord as the journal holds it. -/
def tileWork (what : WorkFor) (uop : Nat) (e : Intake) (tap : Nat) (l : Loc) (tk : W256) (erc : Option ErcRec) (tol : Option TolRec) (est : Nat) (s : State) : Work :=
  let c := tkComp tk
  let k := (findCord s c (tkCord tk)).bind (fun i => s.cord i)
  ⟨what, e, tap, l, c, tkCord tk, (k.map (fun k => k.jsn)).getD 0, (k.map (runAt l)).getD 0, erc, tol, none,
    unitReq uop c l (tkCord tk) (tkTag tk) (tkSeq tk) e.cseq, s.et + rerunTicks s tap tk + 25600, est, none, none⟩

/-- A pinpoint begins: the Cruise Engine's and the Journal Unit's requests go out (R92). -/
def beginPin (w : Work) (s : State) : State := tryPin w (addWork w [pinReq w] s)

/-- The descriptor of a compartment's cord, by JSN; none where the journal holds it no more (R299). -/
def descOf (s : State) (c jsn : Nat) : Option (BitVec 768) := ((findJsn s c jsn).bind (fun i => s.cord i)).map (fun k => k.desc)

/-- Adjudication and pinpoint work of a compartment in HCLK, for the governor (R156, R169). -/
def countAdj (c n : Nat) (s : State) : State := { s with gov := { s.gov with adjWork := s.gov.adjWork.upd c 0 (fun x => x + n) } }

/-- Step 2 of R92 on what the reads returned: OUTCOME, usum, vsum and the candidate residues or full-tile sums; for a tolerance record the
row sums (R121). OUTCOME 1 where the operands cannot be read (R299, R514). -/
def pinAnswer (tap : Nat) (d : Option (BitVec 768)) (erc : Option ErcRec) (r : CruiseRead) : Nat × Nat × Nat × List W64 :=
  match d.bind (fun d => readTile tap d r) with
  | none => (1, 0, 0, [])
  | some t =>
    let vals := match erc with
      | some e =>
        let p := candPlaces e.loc (tkM e.ticket) (tkN e.ticket)
        t.candidates p.1 p.2 e.loc
      | none => (List.range (tkM t.tk)).map (fun i => enc64 (t.rowSum i))
    (0, t.usum, t.vsum, vals.map (fun v => BitVec.ofNat 64 v))

/-- The retained record that a program's request concerns: of the unit and the cord that it names (R514; the layout of the copy at ADDR is
not given, DEDUCED, log entry 54). -/
def reqRecord (s : State) (r : W256) : Option (Nat × ErcRec) :=
  (unitKey (reqLoc r)).bind (fun k => ((Tbl.get s.taps k.1 Tap.reset).ercRecs.find? (fun e => tkUnit e.ticket == k.2 && tkCord e.ticket == reqCord r)).map (fun e => (k.1, e)))

/-- PINPOINT_RECOMPUTE (UOP 0x01): the Cruise Engine has read the operands, in `work` HCLK (R92, R156, R514). -/
def doPinpointRecompute (r : CruiseRead) (work : Nat) (s : State) : State :=
  match nextReq s 1 with
  | none => s
  | some (cls, q) =>
    let s := countAdj (reqComp q) work (serveReq cls q s)
    match workOf s q with
    | some w =>
      let w' := { w with recomp := some (pinAnswer w.tap (descOf s w.comp w.jsn) w.erc r) }
      tryPin w' (setWork w w' s)
    | none =>
      let d := ((findCord s (reqComp q) (reqCord q)).bind (fun i => s.cord i)).map (fun k => k.desc)
      let a := match reqRecord s q with
        | some (tap, e) => pinAnswer tap d (some e) r
        | none => (1, 0, 0, [])
      let s := writeWords (reqAddr q + 256) (a.2.2.2.map (fun v => v.toNat)) s
      formResponse (unitResponse q stOk a.1 a.2.1 a.2.2.1 s.et) s

/-- PINPOINT_RECOMPUTE. -/
def execPinpointRecompute (buf0 buf1 buf2 : List W256) (bad : Bool) (s : State) (work : Nat := 0) : Host.Outcome State Fault Refusal :=
  .next (atHub (doPinpointRecompute ⟨buf0, buf1, buf2, bad⟩ work) s)

/-- The ticket of a retained record of a unit, by TAG and SEQ, with PIN = 1 (R92). -/
def pinTicket (s : State) (tap unit tag seq : Nat) : Option W256 :=
  let t := Tbl.get s.taps tap Tap.reset
  let all := t.ercRecs.map (fun r => r.ticket) ++ t.tolRecs.map (fun r => r.ticket)
  (all.find? (fun k => tkUnit k == unit && tkTag k == tag && tkSeq k == seq)).map (fun k => BitVec.ofNat 256 (nset k.toNat 140 1 1))

/-- PIN_RERUN (UOP 0x11): the tile is dispatched again under the unit fence (R92); INVALID where no record is retained. -/
def doPinRerun (s : State) : State :=
  match headReq s 0x11 with
  | none => s
  | some r =>
    let s := takeReq r s
    match (unitKey (reqLoc r)).bind (fun k => pinTicket s k.1 k.2 (reqArg0 r) (reqArg1 r)) with
    | some tk => emit (.pinRun (reqLoc r) tk) { s with seq := { s.seq with rerunning := s.seq.rerunning ++ [r] } }
    | none => formResponse (unitResponse r stInvalid 0 0 0 s.et) s

/-- PIN_RERUN. -/
def execPinRerun (s : State) : Host.Outcome State Fault Refusal := .next (atHub doPinRerun s)

/-- A re-run's compare reaches whoever asked for it; one that comes too late is discarded (R92, R94). -/
def pinDone (tap : Nat) (s : State) : State :=
  match (s.tap tap).pin with
  | none => s
  | some p =>
    let s := updTap tap (fun t => { t with pin := none }) s
    let l := tapUnitLoc tap (tkUnit p.ticket)
    match s.seq.rerunning.find? (fun r => reqLoc r == l && reqArg0 r == tkTag p.ticket && reqArg1 r == tkSeq p.ticket) with
    | none => s
    | some r =>
      let s : State := { s with seq := { s.seq with rerunning := s.seq.rerunning.erase r } }
      match s.seq.works.find? (fun w => w.what == .pinpoint && w.rerun.isNone && pinReq w == r) with
      | some w =>
        let w' := { w with rerun := some p }
        tryPin w' (setWork w w' s)
      | none =>
        let s := writeWords (reqAddr r) (p.cand.map (fun e => e.2)) s
        formResponse (unitResponse r stOk p.loc.code p.d0 (p.loc.ri + 256 * p.loc.cj) s.et) s

/-- TILE_COMPARE (R86, R92, R95, R100). -/
def execTileCompare (tap tag : Nat) (s : State) : Host.Outcome State Fault Refusal := .next (atTapPort tap (fun s => pinDone tap (doTileCompare tap tag s)) s)

/-- PINPOINT_TIMEOUT (R94): the oldest pinpoint whose re-run has missed its bound. -/
def doPinpointTimeout (s : State) : State :=
  match s.seq.works.find? (fun w => w.what == .pinpoint && w.rerun.isNone && decide (s.et > w.bound)) with
  | some w => if !recordHeld s w || (s.comp w.comp).st == .stopped || (s.comp w.comp).st == .closed then endPin w .ended s else endPin w .unresolved s
  | none => s

/-- PINPOINT_TIMEOUT. -/
def execPinpointTimeout (s : State) : Host.Outcome State Fault Refusal := .next (atHub doPinpointTimeout s)

end Sys2Proof.Machine
end

