-- ==== Sys2Proof/Machine/Cruise.lean ====
section
/-! DEFINITION. Adjudication, the cruise sample queue, twins' third opinions and the Journal Unit's and Digest Reducer's unit requests
(03_tolerance_and_cruise R118–R124, R136–R142, 04 R151, R167, 16_quoper_isa R514). -/
namespace Sys2Proof.Machine

/-! ### Adjudication (R118–R124) -/

/-- Where an alarm's differences point, row and column (R120). -/
def located (r : TolRec) : Option (Nat × Nat) :=
  if !flLt (flMul f64 (flNat f64 16) r.tau0) (flAbs r.d0) then none
  else
    let at_ (d : Fl) (n : Nat) (t : Fl) : Option Nat :=
      match flRoundInt (flDiv f64 d r.d0) with
      | some v =>
        let i := v - 1
        if 0 ≤ i ∧ i < (n : Int) && flLe (flAbs (flSub f64 d (flMul f64 (flNat f64 (i.toNat + 1)) r.d0))) t then some i.toNat else none
      | none => none
    match at_ r.dr (tkM r.ticket) r.taur, at_ r.dc (tkN r.ticket) r.tauc with
    | some i, some j => some (i, j)
    | _, _ => none

/-- The work estimate W in HCLK of an adjudication of one row and column, or of the full sweep (R118). bytes_read counts whole words of 32 B
as presented, the padding of the last word of a slice included, which R118 does not say (DESIGN CHOICE, log entry 54). -/
def sweepWork (r : TolRec) (one : Bool) : Nat :=
  let t := r.ticket
  let bytes := 32 * (required t).foldl (fun a n => a + n) 0
  let rate := if fmtBits (tkFmtA t) > 8 || fmtBits (tkFmtB t) > 8 then 1024 else 4096
  let macs := if one then (tkM t + tkN t - 1) * r.kchain else tkM t * tkN t * r.kchain
  9600 + cdiv bytes 512 + cdiv macs rate

/-- W of an alarm (R118). -/
def adjWork (r : TolRec) : Nat := sweepWork r (located r).isSome

/-- HCLK of the adjudications ahead of a new one (R119). -/
def adjAhead (s : State) : Nat := (s.seq.works.filter (fun w => w.what == .adjudicate)).foldl (fun n w => n + w.est) 0

/-- The oldest record of a unit whose differences a TOL_ALARM carries (R111, R115). -/
def alarmRecord (s : State) (tap unit : Nat) (reh : Bool) (m : W128) : Option TolRec :=
  let f (x : Fl) : Nat := enc32 (flTo f32 x)
  (Tbl.get s.taps tap Tap.reset).tolRecs.find? (fun r => tkUnit r.ticket == unit && tkReh r.ticket == reh &&
    (reh || !s.seq.works.any (fun w => w.tol == some r)) && pack [(32, f r.d0), (32, f r.dr), (32, f r.dc)] == msgDetail m)

/-- The run whose check it is still stands: its cord has not been dropped, moved or stopped (R123, R138). -/
def runStands (s : State) (w : Work) : Bool :=
  recordHeld s w && (s.comp w.comp).st != .stopped && (s.comp w.comp).st != .closed && standing s w.comp w.jsn w.attempt

/-- A tile takes outcome DEFER: its outputs are those of a SUSPECT tile, and TOL_DEFER is raised (R119, R121). -/
def deferTile (w : Work) (tk : W256) (s : State) : State :=
  let s := markCord w.tap tk stSuspect (tileFailed w.tap tk Kind.tolDefer s)
  raiseHub (svUnit s) Kind.tolDefer w.loc (cordDetail w.cord (tkSeq tk) w.comp) (checkEnds w.comp w.jsn w.attempt s)

/-- A rehearsed alarm ends: it must be CONFIRMED at the injected place and in time, else TOL_CONFIRMED goes against the tap (R124, R150, R167). -/
def rehearsedAlarm (w : Work) (outcome result : Nat) (s : State) : State :=
  let place := (rehearsalOf s 1 w.tap).bind (fun r => r.place)
  let late := w.tol.any (fun r => decide (3 * (s.et - r.retireEt) > 240000))
  let good := outcome == 1 && !late && (match place with
    | some (.value _ i j) => result == i + 2 ^ 32 * j
    | _ => false)
  let s := rehearsalEnds 1 w.tap good (releaseRecord w (dropWork w s))
  finishEntry w.entry 0 (whenS (!good) (raiseHub (svUnit s) Kind.tolConfirmed (tapPartLoc w.tap) (cordDetail w.cord 0 w.comp)) s)

/-- An adjudication ends (R121, R123, R119). An admitted one that ends DEFER releases its record and runs no more: R119 gives a late run to
alarms that are not admitted, and R120 does not say (DESIGN CHOICE, log entry 54). -/
def endAdjudication (w : Work) (outcome result : Nat) (s : State) : State :=
  let tk : W256 := match w.tol with
    | some r => r.ticket
    | none => 0
  let late := w.what == .late
  if msgReh w.entry.msg then rehearsedAlarm w outcome result s
  else if !late && !runStands s w then finishEntry w.entry 0 (releaseRecord w (dropWork w s))
  else if late && !recordHeld s w then dropWork w s
  else
    let more : State → State := if late then id else finishEntry w.entry 0
    match outcome with
    | 1 =>
      let s := whenS (!late) (fun t => markCord w.tap tk stSuspect (tileFailed w.tap tk Kind.tolConfirmed t)) s
      let s := whenS (late && runStands s w) (fun t => match findJsn t w.comp w.jsn with
        | some i => updCord i (fun k => { k with checksOpen := k.checksOpen + 1 }) t
        | none => t) s
      more (raiseHub (svUnit s) Kind.tolConfirmed w.loc (cordDetail w.cord (tkSeq tk) w.comp) (setWork w { w with what := .confirmed, req := 0 } s))
    | 2 =>
      let s := numericEvent w.comp evTolFalse (raiseHub (svUnit s) Kind.tolFalse w.loc (cordDetail w.cord (tkSeq tk) w.comp) (releaseRecord w (dropWork w s)))
      more (whenS (!late) (fun t => tileGood w.tap tk (checkEnds w.comp w.jsn w.attempt t)) s)
    | _ => more (whenS (!late) (deferTile w tk) (releaseRecord w (dropWork w s)))

/-- A row's or a column's recomputed sum differs from the retained one, bit for bit (R120). -/
def rowDiffers (t : TileData) (r : TolRec) (i : Nat) : Bool := enc64 (t.rowSum i) != enc64 (r.rho.get i Fl.zero)
def colDiffers (t : TileData) (r : TolRec) (j : Nat) : Bool := enc64 (t.colSum j) != enc64 (r.kappa.get j Fl.zero)

/-- The procedure of R120 on a tile as read: 1 CONFIRMED, 2 FALSE_ALARM, 3 DEFER; `sweep` tells whether the full sweep still fits R119. -/
def adjudicate (t : TileData) (r : TolRec) (sweep : Bool) : Nat :=
  let full := (List.range (tkM r.ticket)).any (rowDiffers t r) || (List.range (tkN r.ticket)).any (colDiffers t r)
  match located r with
  | some (i, j) => if rowDiffers t r i || colDiffers t r j then 1 else if !sweep then 3 else if full then 1 else 2
  | none => if full then 1 else 2

/-- RESULT0: row and column of a located alarm, else all ones (R514). -/
def locatedCode (r : TolRec) : Nat :=
  match located r with
  | some (i, j) => i + 2 ^ 32 * j
  | none => 2 ^ 64 - 1

/-- An adjudication's OUTCOME and RESULT0 from what the reads returned; DEFER where they cannot be read or the Cruise Engine is fenced
(R120, R278, R299). -/
def adjAnswer (s : State) (tap : Nat) (d : Option (BitVec 768)) (rec : TolRec) (late : Bool) (r : CruiseRead) : Nat × Nat :=
  let fits := late || decide (3 * (s.et - rec.retireEt) + sweepWork rec false ≤ 240000)
  match d.bind (fun d => readTile tap d r) with
  | some t => (if fenced s (hubLoc uCruise) then 3 else adjudicate t rec fits, locatedCode rec)
  | none => (3, locatedCode rec)

/-- The late adjudication that is served next, at sample priority: nothing of a higher class waits, and its compartment has its turn (R48, R119). -/
def nextLate (s : State) : Option (Nat × W256) :=
  if !(classReqs s 0).isEmpty || !(classReqs s 1).isEmpty then none
  else
    let l := classReqs s 2
    (nextComp s 2 (fun c => b2n (l.any (fun r => reqComp r == c))) (l.map reqComp ++ s.gov.samples.map (fun x => x.comp))).bind
      (fun c => (l.find? (fun r => reqComp r == c)).map (fun r => (2, r)))

/-- The tolerance record that a program's request concerns: of the unit and the cord that it names (R514, log entry 54). -/
def reqTolRecord (s : State) (r : W256) : Option (Nat × TolRec) :=
  (unitKey (reqLoc r)).bind (fun k => ((Tbl.get s.taps k.1 Tap.reset).tolRecs.find? (fun e => tkUnit e.ticket == k.2 && tkCord e.ticket == reqCord r)).map (fun e => (k.1, e)))

/-- ADJUDICATE (UOP 0x02): the Cruise Engine has read the tile's operands, in `work` HCLK (R120, R156). Pinpoint goes first, and a late run
has sample priority (R48, R119). -/
def doAdjudicate (r : CruiseRead) (work : Nat) (s : State) : State :=
  match (nextReq s 2).or (nextLate s) with
  | none => s
  | some (cls, q) =>
    let s := countAdj (reqComp q) work (serveReq cls q s)
    match workOf s q with
    | some w => (match w.tol with
      | some rec =>
        let a := adjAnswer s w.tap (descOf s w.comp w.jsn) rec (w.what == .late) r
        endAdjudication w a.1 a.2 s
      | none => s)
    | none =>
      let d := ((findCord s (reqComp q) (reqCord q)).bind (fun i => s.cord i)).map (fun k => k.desc)
      let a := match reqTolRecord s q with
        | some (tap, rec) => adjAnswer s tap d rec false r
        | none => (3, 2 ^ 64 - 1)
      formResponse (unitResponse q stOk a.1 a.2 0 s.et) s

/-- ADJUDICATE. -/
def execAdjudicate (r : CruiseRead) (work : Nat) (s : State) : Host.Outcome State Fault Refusal := .next (atHub (doAdjudicate r work) s)

/-! ### What follows a twin's finding (R141, R142) -/

/-- The cruise path has found the cord's run to differ and is deciding (R136, R142). -/
def cruiseDeciding (s : State) (c jsn attempt : Nat) : Bool :=
  let hit (x : Sample) : Bool := !x.rehearse && x.comp == c && x.jsn == jsn && x.attempt == attempt
  s.gov.mismatched.any hit || s.seq.works.any (fun w => w.what == .second && w.sample.any hit)

/-- The follow-up's decision on a twin carried out: 0 primary odd, 1 twin odd, 2 no majority (R141). The result on a run that has been
withdrawn or replayed since is discarded (R142, R195). -/
def settleTwin (w : Work) (outcome : Nat) (s : State) : State :=
  let s := dropWork w s
  let c := w.comp
  let other : Loc := BitVec.ofNat 16 (fld w.entry.msg 64 16)
  if (s.comp c).st == .stopped || (s.comp c).st == .closed || !standing s c w.jsn w.attempt then finishEntry w.entry 0 s
  else
    let s := checkEnds c w.jsn w.attempt s
    let s := match findJsn s c w.jsn with
      | some i => updCord i (fun k => { k with twin := none }) s
      | none => s
    let raise (kind : Nat) (l : Loc) (which : Nat) (s : State) : State := raiseHub (svUnit s) kind l (cordDetail w.cord which c) s
    let s := match outcome with
      | 0 => withdrawCord c w.jsn w.attempt Kind.twinConfirmed (raise Kind.twinConfirmed w.loc 0 s)
      | 1 => raise Kind.twinConfirmed other 1 s
      | _ =>
        let s := withdrawCord c w.jsn w.attempt Kind.twinUnresolved (raise Kind.twinUnresolved other 1 (raise Kind.twinUnresolved w.loc 0 s))
        { s with jrn := { s.jrn with forceTwin := s.jrn.forceTwin ++ [(c, 0)] } }
    finishEntry w.entry 0 s

/-- A rehearsed twin compare ends: the cord's own check, which found its digests equal, is over (R141, R164, R167). -/
def rehearsedTwin (w : Work) (outcome : Nat) (s : State) : State :=
  let s := match (findJsn s w.comp w.jsn).filter (fun _ => standing s w.comp w.jsn w.attempt) with
    | some i => updCord i (fun k => { k with checksOpen := k.checksOpen - 1, twin := none }) s
    | none => s
  finishEntry w.entry 0 (rehearsalEnds 3 0 (outcome == 0) (dropWork w s))

/-- The follow-up's decision on a twin (R141). A primary found odd while the cruise path decides on the same run waits for that, so that of
two findings the cruise one alone is raised (R142; the wait is DEDUCED, log entry 56). -/
def endTwin (w : Work) (outcome : Nat) (s : State) : State :=
  if msgReh w.entry.msg then rehearsedTwin w outcome s
  else if outcome == 0 && cruiseDeciding s w.comp w.jsn w.attempt then setWork w { w with what := .twinOdd, req := 0 } s
  else settleTwin w outcome s

/-- Twins that waited for the cruise path are decided once it has (R142). -/
def settleTwins (s : State) : State :=
  foldS (s.seq.works.filter (fun w => w.what == .twinOdd && !cruiseDeciding s w.comp w.jsn w.attempt)) (fun w t => settleTwin w 0 t) s

/-! ### Cruise samples (R133–R138, R151, R299) -/

/-- A sample's result posted (R135, R136, R460, R545). -/
def postSample (x : Sample) (st result : Nat) (s : State) : State :=
  trace x.comp 8 0 (tapUnitLoc x.tap x.unit).toNat (pack [(32, x.cord), (8, x.kind), (4, result)])
    (postRecord x.comp 3 st 0 (pack [(32, x.cord), (32, x.jsn), (8, x.kind)]) s)

/-- A sample leaves without a result: counted as unsampled, CRUISE_SKIPPED raised (R133, R151, R299). -/
def sampleSkipped (x : Sample) (s : State) : State :=
  skipSample x.comp x.kind x.cord (checkEnds x.comp x.jsn x.attempt (updMeas x.comp x.kind (fun m => { m with sampled := m.sampled - 1 }) s))

/-- CRUISE_MISMATCH raised, and the sample kept for its second recompute (R136). -/
def sampleDiffers (x : Sample) (s : State) : State :=
  raiseOn 33 uCruise (mkMsg Kind.cruiseMismatch 5 x.rehearse (tapUnitLoc x.tap x.unit) (cordDetail x.cord x.kind x.comp))
    { s with gov := { s.gov with mismatched := s.gov.mismatched ++ [x] } }

/-- The sample that is served next: nothing of a higher class waits, its compartment has its turn, and within a compartment a late
adjudication goes first and then the oldest (R48, R309). -/
def nextSample (s : State) : Option Sample :=
  if !(classReqs s 0).isEmpty || !(classReqs s 1).isEmpty || s.isl.pf || s.gov.sampleOff || (nextLate s).isSome then none
  else (nextComp s 2 (fun _ => 0) (s.gov.samples.map (fun x => x.comp))).bind (fun c => s.gov.samples.find? (fun x => x.comp == c))

/-- The steps of a firmware kind's microprogram, as loaded (R129, R531). -/
def microOf (s : State) (kind : Nat) : List Nat :=
  let a := polMicro (kind - 0xF0)
  if kind < 0xF0 then [] else (List.range (nfld (polRead s a 1) 0 5)).map (fun i => polRead s (a + 16 * (i + 1)) 16)

/-- A sample's unit recomputed from what the reads of its cord's buffers returned, with its capture digest (R134, R136). -/
def redo (s : State) (x : Sample) (r : CruiseRead) : Option (W128 × Redone) :=
  ((descOf s x.comp x.jsn).bind (fun d => recompute s.gov.tables (microOf s x.kind) x.tap d r)).map
    (fun y => (digestOf (s.capKeys.get x.comp 0) x.cord y.words, y))

/-- SAMPLE_COMPLETE (R136): the unit recomputed in `work` HCLK, and its digest compared with the tap's. -/
def doSampleComplete (r : CruiseRead) (work : Nat) (s : State) : State :=
  match nextSample s with
  | none => s
  | some x =>
    let s : State := tookTurn 2 x.comp { s with gov := { s.gov with samples := s.gov.samples.erase x } }
    let s := updMeas x.comp x.kind (fun m => { m with work := m.work + work, samples := m.samples + 1 }) s
    match redo s x r with
    | none => sampleSkipped x s
    | some (d, y) =>
      let s := whenS y.under (numericEvent x.comp evUnderflow) (whenS y.sat (numericEvent x.comp evSat) s)
      if d = x.digest then
        let begun := decide (s.et ≤ x.retireEt + 6400000 + cdiv work 3)
        let s := if begun && armed s 2 x.comp (tapUnitLoc x.tap x.unit) then
            sampleDiffers { x with rehearse := true, digest := x.digest ^^^ 1, first := some d } (injectNow 2 0 s)
          else s
        checkEnds x.comp x.jsn x.attempt (postSample x stOk 0 s)
      else sampleDiffers { x with first := some d } s

/-- SAMPLE_COMPLETE. -/
def execSampleComplete (buf0 buf1 buf2 : List W256) (bad : Bool) (work : Nat) (s : State) : Host.Outcome State Fault Refusal :=
  .next (atHub (doSampleComplete ⟨buf0, buf1, buf2, bad⟩ work) s)

/-- SAMPLE_TIMEOUT (R151): a sample that has not started within 16 ms of retire. -/
def doSampleTimeout (s : State) : State :=
  match s.gov.samples.find? (fun x => decide (s.et > x.retireEt + 6400000)) with
  | some x => sampleSkipped x { s with gov := { s.gov with samples := s.gov.samples.erase x } }
  | none => s

/-- SAMPLE_TIMEOUT. -/
def execSampleTimeout (s : State) : Host.Outcome State Fault Refusal := .next (atHub doSampleTimeout s)

/-- The follow-up's decision on a mismatch: 0 equals the first, 1 equals the tap, 2 differs from both (R136, R137). -/
def endSecond (w : Work) (x : Sample) (outcome : Nat) (s : State) : State :=
  let s := dropWork w s
  let c := x.comp
  if x.rehearse then finishEntry w.entry 0 (rehearsalEnds 2 0 (outcome == 0) s)
  else if (s.comp c).st == .stopped || (s.comp c).st == .closed || !standing s c x.jsn x.attempt then finishEntry w.entry 0 (settleTwins s)
  else
    let s := match outcome with
      | 0 =>
        let s := raiseHub (svUnit s) Kind.cruiseConfirmed w.loc (cordDetail x.cord 0 c) (postSample x stRecanted 1 s)
        let s := withdrawCord c x.jsn x.attempt Kind.cruiseConfirmed (checkEnds c x.jsn x.attempt s)
        (match votedEpoch s c x.retireEt with
        | some e => withdrawCert c e Kind.cruiseConfirmed s
        | none => s)
      | 1 => checkEnds c x.jsn x.attempt (postSample x stOk 2 (engineFault s))
      | _ =>
        let s := checkEnds c x.jsn x.attempt (postSample x stOk 2 (engineFault s))
        { s with jrn := { s.jrn with forceSample := s.jrn.forceSample ++ [(c, x.kind)] } }
    finishEntry w.entry 0 (settleTwins s)

/-- The second recompute's OUTCOME: 0 equals the first, 1 equals the tap, 2 differs from both; none where it cannot be read (R136, R299). -/
def secondOutcome (s : State) (x : Sample) (r : CruiseRead) : Option Nat :=
  (redo s x r).map (fun y => if some y.1 = x.first then 0 else if y.1 = x.digest then 1 else 2)

/-- The sample of a second recompute could not be read: it ends with CRUISE_SKIPPED; a rehearsal has missed its outcome (R167, R299). -/
def secondUnread (w : Work) (x : Sample) (s : State) : State :=
  finishEntry w.entry 0 (settleTwins ((if x.rehearse then rehearsalEnds 2 0 false else sampleSkipped x) (dropWork w s)))

/-- SECOND_RECOMPUTE (UOP 0x03), at adjudication priority (R136). -/
def doSecondRecompute (r : CruiseRead) (s : State) : State :=
  match nextReq s 3 with
  | none => s
  | some (cls, q) =>
    let s := serveReq cls q s
    match workOf s q with
    | some w => (match w.sample with
      | some x => (match secondOutcome s x r with
        | some o => endSecond w x o s
        | none => secondUnread w x s)
      | none => s)
    | none =>
      let x := s.gov.mismatched.find? (fun x => x.comp == reqComp q && x.cord == reqCord q)
      match x.bind (fun x => secondOutcome s x r) with
      | some o => formResponse (unitResponse q stOk o 0 0 s.et) s
      | none => formResponse (unitResponse q stInvalid 0 0 0 s.et) s

/-- SECOND_RECOMPUTE. -/
def execSecondRecompute (r : CruiseRead) (s : State) : Host.Outcome State Fault Refusal := .next (atHub (doSecondRecompute r) s)

/-- CRUISE_SELF_TEST (UOP 0x05): the result is raised against the Cruise Engine with the reaction of severity 4 (R136, R278). -/
def doCruiseSelfTest (fail : Bool) (s : State) : State :=
  match headReq s 5 with
  | none => s
  | some r =>
    let s := takeReq r s
    match workOf s r with
    | some w =>
      let m := mkMsg Kind.cruiseEngine 5 false (hubLoc uCruise) (detail (2 + b2n fail) none none)
      react 4 Kind.cruiseEngine s.col.cseq (hubLoc uCruise) m (raiseOn 33 (svUnit s) m (dropWork w s))
    | none => formResponse (unitResponse r stOk (b2n fail) 0 0 s.et) s

/-- CRUISE_SELF_TEST. -/
def execCruiseSelfTest (fail : Bool) (s : State) : Host.Outcome State Fault Refusal := .next (atHub (doCruiseSelfTest fail) s)

/-! ### Twins (R141, R142) -/

/-- A third digest against the two runs': 0 primary odd, 1 twin odd, 2 neither agrees (R141, R514). -/
def oddRun (prim second third : W128) : Nat := if third = second then 0 else if third = prim then 1 else 2

/-- The Cruise Engine's third opinion on a twinned cord: what it cannot read agrees with neither (R141; R299 names no outcome for it, DESIGN
CHOICE, log entry 54). -/
def thirdOutcome (s : State) (c cord : Nat) (r : CruiseRead) : Nat :=
  match (findCord s c cord).bind (fun i => s.cord i) with
  | some k => (match k.twin.bind (fun t => t.prim), k.twin.bind (fun t => t.second), recompute s.gov.tables (microOf s k.kind) 0 k.desc r with
    | some a, some b, some y => oddRun a b (digestOf (s.capKeys.get c 0) k.id y.words)
    | _, _, _ => 2)
  | none => 2

/-- TWIN_THIRD_OPINION (UOP 0x04) (R141). -/
def doTwinThirdOpinion (r : CruiseRead) (s : State) : State :=
  match nextReq s 4 with
  | none => s
  | some (cls, q) =>
    let o := thirdOutcome s (reqComp q) (reqCord q) r
    let s := serveReq cls q s
    match workOf s q with
    | some w => endTwin w o s
    | none => formResponse (unitResponse q stOk o 0 0 s.et) s

/-- TWIN_THIRD_OPINION. -/
def execTwinThirdOpinion (r : CruiseRead) (s : State) : Host.Outcome State Fault Refusal := .next (atHub (doTwinThirdOpinion r) s)

/-- The unit of a region on which a compartment's third run can go: on a cluster of its own, else on a spare (R140, R141). -/
def thirdPlace (s : State) (c r : Nat) (l : Loc) : Option Loc :=
  match (List.range 8).findSome? (fun i => if assigned s (8 * r + i) == some c then runPlace s c l (8 * r + i) else none) with
  | some u => some u
  | none => (spareOrder s).findSome? (fun e => if e.2.free && e.1 / 8 == r then runPlace s c l e.1 else none)

/-- The first region other than the two runs' where a third run can go. -/
def thirdRegion (s : State) (c : Nat) (a b : Loc) : Option Nat :=
  (List.range 16).find? (fun r => regionOf a != some r && regionOf b != some r && (thirdPlace s c r a).isSome)

/-- THIRD_RUN (UOP 0x14): the twinned cord runs a third time (R141); FENCED where the region has no place for it. -/
def doThirdRun (s : State) : State :=
  match headReq s 0x14 with
  | none => s
  | some r =>
    let s := takeReq r s
    let c := reqComp r
    let answer (st : Nat) (s : State) : State := match workOf s r with
      | some w => endTwin w 2 s
      | none => formResponse (unitResponse r st 0 0 0 s.et) s
    match findCord s c (reqCord r) with
    | none => answer stInvalid s
    | some slot => match s.cord slot with
      | none => answer stInvalid s
      | some k => match k.twin, thirdPlace s c (reqArg0 r) k.placed with
        | none, _ => answer stInvalid s
        | some _, none => answer stFenced s
        | some tw, some u =>
          let s : State := { s with seq := { s.seq with thirds := s.seq.thirds ++ [r] } }
          startRun k u (updCord slot (fun k => { k with twin := some { tw with third := some (u, none) } }) s)

/-- THIRD_RUN. -/
def execThirdRun (s : State) : Host.Outcome State Fault Refusal := .next (atHub doThirdRun s)

/-- Third runs that have retired are compared with the first two; one that a fence ended gives no opinion, as does one with no place (R141;
DEDUCED, log entry 56). -/
def thirdsDone (s : State) : State :=
  foldS s.seq.thirds (fun r t =>
    match ((findCord t (reqComp r) (reqCord r)).bind (fun i => t.cord i)).bind (fun k => k.twin) with
    | some tw => (match tw.third, tw.prim, tw.second with
      | some (_, some d), some a, some b =>
        let o := oddRun a b d
        let t : State := { t with seq := { t.seq with thirds := t.seq.thirds.erase r } }
        (match workOf t r with
        | some w => endTwin w o t
        | none => formResponse (unitResponse r stOk o 0 0 t.et) t)
      | none, _, _ =>
        let t : State := { t with seq := { t.seq with thirds := t.seq.thirds.erase r } }
        (match workOf t r with
        | some w => endTwin w 2 t
        | none => formResponse (unitResponse r stFenced 0 0 0 t.et) t)
      | _, _, _ => t)
    | none =>
      let t : State := { t with seq := { t.seq with thirds := t.seq.thirds.erase r } }
      (match workOf t r with
      | some w => finishEntry w.entry 0 (dropWork w t)
      | none => formResponse (unitResponse r stFenced 0 0 0 t.et) t)) s

/-- CORD_RETIRE (R242, R141, R571): a spare that it frees takes what waits for one (R258). -/
def execCordRetire (region : Nat) (jt : BitVec 96) (s : State) : Host.Outcome State Fault Refusal :=
  .next (atRegion region (fun s => retrySkids (sparesIdle (thirdsDone (doCordRetire region jt s)))) s)

/-- REACTION_ORDER (R565): a third run that the fence ends gives no opinion (R141). -/
def execReactionOrder (s : State) : Host.Outcome State Fault Refusal := .next (atHub (fun s =>
  whenS (s.col.orders.head?.any (fun o => !o.lift)) (fun s => thirdsDone (nextOrder false s)) s) s)
/-- UNFENCE_ORDER (R285). -/
def execUnfenceOrder (s : State) : Host.Outcome State Fault Refusal := .next (atHub (nextOrder true) s)

/-! ### The Journal Unit's and the Digest Reducer's requests (R514) -/

/-- START_SKID_NOW (UOP 0x12): FENCED where no spare is free (R254). -/
def doStartSkidNow (s : State) : State :=
  match headReq s 0x12 with
  | none => s
  | some r =>
    let l := reqLoc r
    let s := startSkid l (takeReq r s)
    let short := s.jrn.skids.any (fun k => covers l k.scope && k.spare.isNone)
    formResponse (unitResponse r (if short then stFenced else stOk) 0 0 0 s.et) s

/-- START_SKID_NOW. -/
def execStartSkidNow (s : State) : Host.Outcome State Fault Refusal := .next (atHub doStartSkidNow s)

/-- REPLAY (UOP 0x13) (R246); INVALID for a cord that is not live. -/
def doReplay (s : State) : State :=
  match headReq s 0x13 with
  | none => s
  | some r =>
    let s := takeReq r s
    match findCord s (reqComp r) (reqCord r) with
    | some slot => formResponse (unitResponse r stOk 0 0 0 s.et) (replaySlot 0 slot s)
    | none => formResponse (unitResponse r stInvalid 0 0 0 s.et) s

/-- REPLAY. -/
def execReplay (s : State) : Host.Outcome State Fault Refusal := .next (atHub doReplay s)

/-- UNREPLAYABLE (UOP 0x15) (R261): ARG0 holds CAUSE and the kind of the fault. -/
def doUnreplayable (s : State) : State :=
  match headReq s 0x15 with
  | none => s
  | some r =>
    let s := takeReq r s
    let cause := reqArg0 r % 256
    match findCord s (reqComp r) (reqCord r) with
    | some slot =>
      if cause < 1 || cause > 6 then formResponse (unitResponse r stInvalid 0 0 0 s.et) s
      else formResponse (unitResponse r stOk 0 0 0 s.et) (unreplayable cause (reqArg0 r / 256 % 4096) slot s)
    | none => formResponse (unitResponse r stInvalid 0 0 0 s.et) s

/-- UNREPLAYABLE. -/
def execUnreplayable (s : State) : Host.Outcome State Fault Refusal := .next (atHub doUnreplayable s)

/-- Certificates of a compartment that are not revoked and cover epoch e or a later one (R230). -/
def certsFrom (s : State) (c e : Nat) : Nat :=
  let d := s.digComp c
  (d.certs.filter (fun x => decide ((revokeCerts c e d).certs.find? x.1 ≠ some x.2))).length

/-- WITHDRAW_CERT (UOP 0x21) (R137, R230). -/
def doWithdrawCert (s : State) : State :=
  match headReq s 0x21 with
  | none => s
  | some r =>
    let s := takeReq r s
    let e := reqArg1 r * 2 ^ 32 + reqArg0 r
    let n := certsFrom s (reqComp r) e
    formResponse (unitResponse r stOk 0 n 0 s.et) (withdrawCert (reqComp r) e Kind.cruiseConfirmed s)

/-- WITHDRAW_CERT. -/
def execWithdrawCert (s : State) : Host.Outcome State Fault Refusal := .next (atHub doWithdrawCert s)

/-! ### INTAKE_ENTRY (R287) -/

/-- The cord that a message's DETAIL names replays (R246). -/
def replayNamed (e : Intake) (s : State) : State :=
  let c := fld e.msg 112 4
  match (findCord s c (fld e.msg 32 32)).bind (fun i => s.cord i) with
  | some k => replayCord c k.jsn k.attempt (msgKind e.msg) s
  | none => s

/-- A TOL_ALARM is taken: admitted, or DEFER with a late run for a retained record (R119). -/
def takeAlarm (e : Intake) (s : State) : State :=
  let reh := msgReh e.msg
  match tileUnit (msgLocus e.msg) with
  | none => finishEntry e 0 s
  | some (tap, u, l) => match alarmRecord s tap u reh e.msg with
    | none => finishEntry e 0 (whenS reh (rehearsalEnds 1 tap false) s)
    | some r =>
      let est := adjWork r
      let w := tileWork .adjudicate 2 e tap l r.ticket none (some r) est s
      let fits := decide (3 * (s.et - r.retireEt) + adjAhead s + est ≤ 240000) && !fenced s (hubLoc uCruise)
      if reh then (if fits && r.kept then addWork w [] s else rehearsedAlarm w 3 0 s)
      else if !runStands s w then finishEntry e 0 (releaseRecord w s)
      else if fits && r.kept then addWork w [] s
      else
        let s := finishEntry e 0 (deferTile w r.ticket s)
        if r.kept then addWork { w with what := .late } [] s else releaseRecord w s

/-- An exact mismatch is taken: pinpoint where its record is retained (R90, R92). -/
def takeErc (e : Intake) (s : State) : State :=
  match tileUnit (msgLocus e.msg) with
  | none => finishEntry e 0 s
  | some (tap, u, l) =>
    let tag := fld e.msg 32 6
    let seq := fld e.msg 38 32
    match (Tbl.get s.taps tap Tap.reset).ercRecs.find? (fun r => tkUnit r.ticket == u && tkTag r.ticket == tag && tkSeq r.ticket == seq) with
    | some r => beginPin (tileWork .pinpoint 1 e tap l r.ticket (some r) none 0 s) s
    | none => finishEntry e 0 (replaySuspects l (msgKind e.msg) s)

/-- TOL_CONFIRMED is taken: pinpoint on the record kept since its adjudication (R121). -/
def takeConfirmed (e : Intake) (s : State) : State :=
  match s.seq.works.find? (fun w => w.what == .confirmed && w.loc == msgLocus e.msg && w.comp == fld e.msg 112 4 && w.cord == fld e.msg 32 32) with
  | some w => (match w.tol with
    | some r =>
      let v := tileWork .pinpoint 1 e w.tap w.loc r.ticket none (some r) 0 s
      beginPin { v with jsn := w.jsn, attempt := w.attempt } (dropWork w s)
    | none => finishEntry e 0 s)
  | none => finishEntry e 0 (replayNamed e s)

/-- CRUISE_MISMATCH is taken: the second recompute is asked for (R136). -/
def takeMismatch (e : Intake) (s : State) : State :=
  let c := fld e.msg 112 4
  match s.gov.mismatched.find? (fun x => x.rehearse == msgReh e.msg && x.comp == c && x.cord == fld e.msg 32 32 && tapUnitLoc x.tap x.unit == msgLocus e.msg) with
  | some x =>
    let l := tapUnitLoc x.tap x.unit
    let w : Work := ⟨.second, e, x.tap, l, c, x.cord, x.jsn, x.attempt, none, none, some x, unitReq 3 c l x.cord 0 0 e.cseq, 0, 0, none, none⟩
    addWork w [] { s with gov := { s.gov with mismatched := s.gov.mismatched.erase x } }
  | none => finishEntry e 0 s

/-- TWIN_MISMATCH is taken: the Cruise Engine's opinion for a kind of the catalogue, else a third run (R141). -/
def takeTwin (e : Intake) (s : State) : State :=
  let c := fld e.msg 112 4
  let cord := fld e.msg 32 32
  let l := msgLocus e.msg
  let other : Loc := BitVec.ofNat 16 (fld e.msg 64 16)
  match (findCord s c cord).bind (fun i => s.cord i) with
  | none => finishEntry e 0 (whenS (msgReh e.msg) (rehearsalEnds 3 0 false) s)
  | some k =>
    let w (uop arg0 : Nat) : Work := ⟨.twin, e, 0, l, c, cord, k.jsn, k.attempt, none, none, none, unitReq uop c l cord arg0 0 e.cseq, 0, 0, none, none⟩
    if kindKnown s k.kind then addWork (w 4 0) [] s
    else match thirdRegion s c l other with
      | some r => addWork (w 0x14 r) [] s
      | none => endTwin (w 0x14 0) 2 s

/-- When the tap of a marked entry would have quieted, where its severity orders a quiet at all (R166). -/
def wouldQuietBy (s : State) (tap : Nat) (e : Intake) (t : Tick) : Bool :=
  match entryScope e with
  | some _ => ((Tbl.get s.taps tap Tap.reset).wouldQuiet.find? e.cseq).any (fun q => decide (q ≤ t))
  | none => true

/-- A rehearsal-marked ERC message passes with the injected place, and with the would-be quiet within 400 ticks of the compare (R32, R101, R167). -/
def takeRehearsedErc (e : Intake) (s : State) : State :=
  match tileUnit (msgLocus e.msg) with
  | none => finishEntry e 0 s
  | some (tap, _, _) =>
    let r := rehearsalOf s 0 tap
    let due := r.any (fun r => r.injected && !r.ended && wouldQuietBy s tap e (r.startEt + 400))
    let class_ := fld e.msg 70 3
    let place := match r.bind (fun r => r.place) with
      | some (.eor _ i j) => msgKind e.msg == Kind.ercElement && class_ == 1 && fld e.msg 73 6 == i % 61 && fld e.msg 79 6 == j % 61
      | some (.s0 _) => msgKind e.msg == Kind.ercMulti && class_ == 4
      | _ => false
    let s := updTap tap (fun p => { p with wouldQuiet := p.wouldQuiet.del e.cseq }) s
    finishEntry e 0 (rehearsalEnds 0 tap (due && place) s)

/-- A region of zero margin: the SUSPECT flag of each of its clusters (R409). -/
def marginSuspects (e : Intake) (s : State) : State :=
  match named (msgLocus e.msg) with
  | .region r => whenS (e.sev == 2) (foldS (List.range 8) (fun k => setSuspect (clusterLoc (8 * r + k)))) s
  | _ => s

/-- The kinds that concern a tap or a link (R394). -/
def tapOrLink (kind : Nat) : Bool := [0x001, 0x002, 0x003, 0x004, 0x108, 0x151].contains kind

/-- The follow-up of an entry by its kind. -/
def followKind (e : Intake) (s : State) : State :=
  let kind := msgKind e.msg
  let erc := decide (0x101 ≤ kind ∧ kind ≤ 0x105)
  if kind = Kind.tolAlarm then takeAlarm e s
  else if kind = Kind.cruiseMismatch then takeMismatch e s
  else if kind = Kind.twinMismatch then takeTwin e s
  else if msgReh e.msg then (if erc then takeRehearsedErc e s else finishEntry e 0 s)
  else if erc then takeErc e s
  else if kind = Kind.tolConfirmed then takeConfirmed e s
  else if kind = Kind.tolDefer || kind = Kind.cruiseConfirmed then finishEntry e 0 (replayNamed e s)
  else if kind = Kind.twinConfirmed || kind = Kind.twinUnresolved then finishEntry e 0 (whenS (fld e.msg 64 32 == 0) (replayNamed e) s)
  else if kind = Kind.ercStream || kind = Kind.ercTicket || kind = Kind.tolStream then finishEntry e 0 (replaySuspects (msgLocus e.msg) kind s)
  else if kind = Kind.mgFail then finishEntry e 0 (marginSuspects e s)
  else if kind = Kind.stFail then finishEntry e 4 s
  else if kind = Kind.stUnstable then finishEntry e 5 s
  else finishEntry e (if tapOrLink kind then 6 else 0) s

/-- The entry that a fence's message would have made, its DETAIL that of a retained record of the unit that nothing follows up yet (R283). -/
def missingEntry (s : State) (f : Fence) (cseq : Nat) : Intake :=
  let erc := decide (0x101 ≤ f.kind ∧ f.kind ≤ 0x105)
  let rec? := if !erc then none else (tileUnit f.scope).bind (fun x =>
    (Tbl.get s.taps x.1 Tap.reset).ercRecs.find? (fun r => tkUnit r.ticket == x.2.1 && !s.seq.works.any (fun w => w.erc == some r)))
  let d := match rec? with
    | some r => ercDetail (tkTag r.ticket) (tkSeq r.ticket) r.loc.code r.loc.ri r.loc.cj (sub61 r.s0 r.o0)
    | none => 0
  let sev := if reach 3 f.scope == .scope f.scope then 3 else if reach 4 f.scope == .scope f.scope then 4 else 5
  ⟨mkMsg f.kind 5 false f.scope d, s.et, cseq, sev, false, false, false, 33, 0⟩

/-- INTAKE_OVERFLOW is taken: each fence in force whose message has no entry, taken or queued, gets the follow-up of R287 (R283). -/
def takeOverflow (e : Intake) (s : State) : State :=
  let alone := s.col.fences.filter (fun f => !f.host && !f.taken && (match f.cseq with
    | some q => !s.col.intake.any (fun x => x.cseq == q)
    | none => false))
  let s : State := { s with col := { s.col with fences := s.col.fences.map (fun f => if alone.contains f then { f with taken := true } else f) } }
  finishEntry e 0 (foldS alone (fun f t => followKind (missingEntry t f (f.cseq.getD 0)) t) s)

/-- The follow-up of an entry. -/
def followUp (e : Intake) (s : State) : State := if msgKind e.msg = Kind.intakeOverflow then takeOverflow e s else followKind e s

/-- The serving pair takes an entry once its first reaction is in force (R246, R287). -/
def reactionPending (s : State) (e : Intake) : Bool :=
  match entryScope e with
  | some x => s.col.orders.contains ⟨false, if msgReh e.msg then .marked x e.cseq else .locus x⟩
  | none => false

/-- INTAKE_ENTRY (R287, R617). -/
def doIntakeEntry (s : State) : State :=
  match s.col.intake with
  | [] => s
  | e :: _ => if (pairOf s.seq.servingB s).st != .serving || s.seq.hookRet.isSome || reactionPending s e then s else followUp e (popIntake s)

/-- INTAKE_ENTRY. -/
def execIntakeEntry (s : State) : Host.Outcome State Fault Refusal := .next (atHub doIntakeEntry s)

end Sys2Proof.Machine
end

