-- ==== Sys2Proof/Machine/Deliver.lean ====
section
/-! DEFINITION. What DACK, NACK and failure of a branch lead to, the rate window, the arrival report and the escrow messages
(10_latches_and_stop R335–R340, 08_faults_fencing_blaze R309, 05_escrow_and_taint R181–R194). -/
namespace Sys2Proof.Machine

/-! ### Branches (R339, R340) -/

/-- The branch of an MSEQ to a die. -/
def findBranch (s : State) (mseq dst : Nat) : Option Branch := s.fab.branches.find? (fun b => b.mseq == mseq && b.dst == dst)

/-- The RECALL branch of an entry failed: the recant is applied here, the slot is blazed and the entry leaves use, unless an answer has come
meanwhile (R188, R189). -/
def recallFailed (i reuse : Nat) (s : State) : State :=
  match s.escEntry i with
  | some e =>
    if e.inbound && e.st == .recalling && e.reuse == reuse then
      sweepSends (freeEntry i (emit (.blazeSlot e.slot) (applyRecant i Kind.escSourceLost s)))
    else s
  | none => s

/-- The kind a failed branch is raised as (R194, R339). -/
def branchKind (b : Branch) : Nat :=
  if b.cls ≠ vcEscrow then Kind.vcsBranchFail else if fld b.payload 0 4 = 4 then Kind.escSourceLost else Kind.escBranch

/-- A branch ends, delivered or failed: it is no longer kept, and whoever waits for it goes on (R176, R188, R340, R357). -/
def branchDone (good : Bool) (b : Branch) (s : State) : State :=
  let s : State := { s with fab := { s.fab with branches := s.fab.branches.filter (fun x => !(x.mseq == b.mseq && x.dst == b.dst)) } }
  let s := whenS (!good) (raiseFabric (branchKind b) systemLoc (detail 0 (some b.dst) none)) s
  match b.use with
  | .plain => s
  | .escOut i r => whenS (!good) (escBranchFailed i r) s
  | .recall i r => whenS (!good) (recallFailed i r) s
  | .mark c => if good then stopArrive c (updStop c (fun p => { p with marksLeft := p.marksLeft - 1 }) s) else s
  | .command c tag => updMcast c tag (fun m => { m with left := m.left - 1, failed := if good then m.failed else m.failed ++ [b.dst] }) s

/-- DACK (R339). -/
def execDack (mseq src : Nat) (s : State) : Host.Outcome State Fault Refusal :=
  .next (atHub (fun s => match findBranch s mseq src with
    | some b => branchDone true b s
    | none => s) s)

/-- A branch changed. -/
def updBranch (mseq dst : Nat) (f : Branch → Branch) (s : State) : State :=
  { s with fab := { s.fab with branches := s.fab.branches.map (fun b => if b.mseq == mseq && b.dst == dst then f b else b) } }

/-- NACK (R339): the branch awaits its retry. -/
def execNack (mseq src : Nat) (s : State) : Host.Outcome State Fault Refusal := .next (atHub (updBranch mseq src (fun b => { b with nacked := true })) s)

/-- BRANCH_RETRY (R339): the branch is placed again, with the MSEQ and SENT_ET of its first attempt. -/
def doBranchRetry (mseq dst : Nat) (s : State) : State :=
  match findBranch s mseq dst with
  | some b =>
    if b.attempts ≥ 4096 then s
    else emit (.vcs b.dst b.mseq b.cls b.payload) (updBranch mseq dst (fun b => { b with attempts := b.attempts + 1, nacked := false }) s)
  | none => s

/-- BRANCH_RETRY. -/
def execBranchRetry (mseq dst : Nat) (s : State) : Host.Outcome State Fault Refusal := .next (atHub (doBranchRetry mseq dst) s)

/-- 4,096 attempts, or 262,144 FCLK since the first; an FCLK is a sixth of a tick (R310, R339). -/
def branchLost (s : State) (b : Branch) : Bool := decide (b.attempts ≥ 4096) || decide (6 * (s.et - b.firstEt) ≥ 262144)

/-- VCS_BRANCH_FAIL (R339). -/
def execVcsBranchFail (mseq dst : Nat) (s : State) : Host.Outcome State Fault Refusal :=
  .next (atHub (fun s => match findBranch s mseq dst with
    | some b => if branchLost s b then branchDone false b s else s
    | none => s) s)

/-! ### The rate window (R309, R145) -/

/-- RATE_WINDOW (R309): budgets and weights are renewed from the quota records, and what waited goes. The 1 ms windows of R145, whose start
the spec does not give, are these (DESIGN CHOICE, log entry 54). -/
def doRateWindow (s : State) : State :=
  let w := s.et / 400000 * 400000
  if w = s.fab.window then s
  else
    let cs := List.range 16
    let s : State := { s with fab := { s.fab with window := w, vcsUsed := [], streamUsed := [] } }
    let s : State := { s with gov := { s.gov with numeric := [], noted := [], weights := cs.map (fun c => (c, quota s c 4)) } }
    let s : State := { s with fab := { s.fab with vcsBudget := cs.map (fun c => (c, quota s c 6)) } }
    let s : State := { s with fab := { s.fab with streamBudget := cs.map (fun c => (c, quota s c 5)) } }
    releaseXfers (releaseVcs s)

/-- RATE_WINDOW. -/
def execRateWindow (s : State) : Host.Outcome State Fault Refusal := .next (atHub doRateWindow s)

/-! ### Arrival reports (R181, R352, R574) -/

/-- The send extension of R573. -/
def extProv (x : W128) : Bool := bitAt x 0
def extSrcComp (x : W128) : Nat := fld x 8 4
def extDestComp (x : W128) : Nat := fld x 12 4
def extSrcDie (x : W128) : Nat := fld x 16 16
def extSendId (x : W128) : Nat := fld x 32 16
def extGroup (x : W128) : Bool := bitAt x 48
def extOrigin (x : W128) : Nat := fld x 64 32
def extDest (x : W128) : Nat := fld x 96 16

/-- The compartment a send delivers to: DEST_COMP, or what its group names here (R170, R337). -/
def extComp (s : State) (x : W128) : Nat := if extGroup x then (groupComp s (extDest x)).getD (extDestComp x) else extDestComp x

/-- A landed send is counted for its source and key, and captured while a stop's cut is open (R352, R359). -/
def countLanded (c : Nat) (x : W128) (slot len : Nat) (s : State) : State :=
  let key := 2 ^ 24 * extSrcDie x + 2 * (65536 * c + extDest x) + b2n (extGroup x)
  let s := if s.fab.landed.has key || decide (s.fab.granted.length + s.fab.landed.length < 16384)
    then { s with fab := { s.fab with landed := s.fab.landed.upd key 0 (fun n => (n + 1) % 2 ^ 32) } }
    else acctLost c s
  captureSend c (extSrcDie x) (extDest x) (extGroup x) (extProv x) slot len (extSendId x) (extSrcComp x) s

/-- The ET from which an inbound entry's times run: that of ORIGIN, or of the arrival where the dies share no ET (R181, R327). -/
def inboundBorn (s : State) (src origin : Nat) : Tick := if anchored s || src == s.die then s.backEt origin else s.et

/-- ARRIVAL_REPORT (R181, R187). A report that finds no entry is not accepted. CORD of the entry is the sender's (R174), which R573 does
not carry: it holds 0 (DESIGN CHOICE, log entry 55). -/
def doArrivalReport (x : W128) (slot len : Nat) (s : State) : State :=
  let c := extComp s x
  if !s.hubUp then s
  else if !extProv x then slotResent c slot (countLanded c x slot len s)
  else
    let early := List.find? (fun (ie : Nat × EscEntry) => ie.2.inbound && ie.2.peer == extSrcDie x && ie.2.peerComp == extSrcComp x &&
      ie.2.sendId == extSendId x && ie.2.comp == c && (ie.2.st == .earlyClear || ie.2.st == .earlyRecant)) s.esc.entries
    match early with
    | some (i, e) =>
      let s := countLanded c x slot len (freeEntry i s)
      if e.st = .earlyClear then slotResent c slot s else s
    | none => match escRoom s c with
      | none => { s with esc := { s.esc with arrQuota := s.esc.arrQuota + 1 } }
      | some i =>
        let born := inboundBorn s (extSrcDie x) (extOrigin x)
        let e : EscEntry := ⟨.opened, true, false, reuseOf s i, c, extSrcComp x, 0, 0, 0, extSrcDie x, false, extSendId x, slot,
          extOrigin x, 0, born + escWindow s c, 0, born⟩
        slotResent c slot (spreadTaint c slot (i, e.reuse) (countLanded c x slot len (putEntry i e s)))

/-- ARRIVAL_REPORT. -/
def execArrivalReport (ext : W128) (slot len : Nat) (s : State) : Host.Outcome State Fault Refusal := .next (atHub (doArrivalReport ext slot len) s)

/-! ### Escrow messages (R187, R188, R192) -/

/-- CLEAR (R187). -/
def execClear (s : State) : Host.Outcome State Fault Refusal := .next (atHub (withMsg vcEscrow 1 onClear) s)
/-- RECANT (R187, R189). -/
def execRecant (s : State) : Host.Outcome State Fault Refusal := .next (atHub (withMsg vcEscrow 2 onRecant) s)
/-- RECANT_ACK (R176). -/
def execRecantAck (s : State) : Host.Outcome State Fault Refusal := .next (atHub (withMsg vcEscrow 3 onRecantAck) s)
/-- RECALL (R188). -/
def execRecall (s : State) : Host.Outcome State Fault Refusal := .next (atHub (withMsg vcEscrow 4 onRecall) s)

/-- LATE_RECANT (R192): the open epoch is tainted and the host told; a stop in progress notes it (R360). -/
def onLateRecant (m : VcsMsg) (s : State) : State :=
  match escDst s m with
  | none => escUnmatched none s
  | some c =>
    if (s.comp c).st != .opened then s
    else
      let e := epochOf16 (openEpoch s c) (fld m.payload 112 16)
      postRecant c (fld m.payload 32 32) m.src (fld m.payload 96 12) 1 e (noteRecant c (taintEpoch c s))

/-- LATE_RECANT. -/
def execLateRecant (s : State) : Host.Outcome State Fault Refusal := .next (atHub (withMsg vcEscrow 5 onLateRecant) s)

/-! ### Timeouts (R176, R187, R188) -/

/-- RECALL sent for an inbound entry (R188 step 1). -/
def sendRecall (i : Nat) (s : State) : State :=
  match s.escEntry i with
  | none => s
  | some e =>
    let p := escMsg 4 e.peerComp e.comp e.sendId e.cord e.origin 0 0
    let (r, s) := issueBranch none (mkBranch vcEscrow e.peer 0 1 p (.recall i e.reuse)) (putEntry i { e with st := .recalling } s)
    whenS (r == .failed) (recallFailed i e.reuse) s

/-- INBOUND_TIMEOUT (R188): ET = ORIGIN + INB_TIMEOUT. -/
def doInboundTimeout (i : Nat) (s : State) : State :=
  match s.escEntry i with
  | some e => if e.inbound && e.st == .opened && decide (s.et ≥ e.born + 400 * escInb s e.comp) then sendRecall i s else s
  | none => s

/-- INBOUND_TIMEOUT. -/
def execInboundTimeout (index : Nat) (s : State) : Host.Outcome State Fault Refusal := .next (atHub (doInboundTimeout index) s)

/-- An entry whose S32 check finds an uncorrectable error, or whose STATE is reserved: its send is dropped or recanted, again where it was
recanting, or its data recalled; ESC_ENTRY (R175, R193). -/
def entryError (i : Nat) (s : State) : State :=
  match s.escEntry i with
  | none => s
  | some e =>
    let s := if e.inbound then sendRecall i s else match e.st with
      | .held => dropHeld i s
      | .provisional => countDrop e (sendRecant i Kind.escEntry s)
      | .recanting => sendRecant i e.reason s
      | _ => s
    raiseHub uEscrow Kind.escEntry (hubLoc uEscrow) (detail i none (some e.comp)) s

/-- PROOF_REPORT (R176, R179): the hub's access to the table also finds the entries of `bad` in error (R175, R193). -/
def execProofReport (s : State) (bad : List Nat := []) : Host.Outcome State Fault Refusal := .next (atHub (fun s => foldS bad entryError (doProofReport s)) s)

/-- ESC_EXPIRED (R187). -/
def doEscExpired (i : Nat) (s : State) : State :=
  match s.escEntry i with
  | some e =>
    if (e.st == .earlyClear || e.st == .earlyRecant) && decide (s.et ≥ e.deadline) then
      let s := freeEntry i s
      raiseHub uEscrow Kind.escExpired (hubLoc uEscrow) (detail i none (some e.comp)) { s with esc := { s.esc with expired := s.esc.expired + 1 } }
    else s
  | none => s

/-- ESC_EXPIRED. -/
def execEscExpired (index : Nat) (s : State) : Host.Outcome State Fault Refusal := .next (atHub (doEscExpired index) s)

/-- BRANCH_FAILED_EXPIRY (R176). -/
def doBranchFailedExpiry (i : Nat) (s : State) : State :=
  match s.escEntry i with
  | some e => if e.st = .branchFailed ∧ s.et ≥ e.deadline then freeEntry i s else s
  | none => s

/-- BRANCH_FAILED_EXPIRY. -/
def execBranchFailedExpiry (index : Nat) (s : State) : Host.Outcome State Fault Refusal := .next (atHub (doBranchFailedExpiry index) s)

end Sys2Proof.Machine
end

