-- ==== Sys2Proof/Machine/Rings.lean ====
section
/-! DEFINITION. The command and completion rings and the answers of the Stream Port (17_commands_and_registers R533–R540,
18_boundary_signals R578). -/
namespace Sys2Proof.Machine

def fCmdBase : RF := ⟨0x0040, 0, 64, 0⟩
def fCplBase : RF := ⟨0x0060, 0, 64, 0⟩

/-! ### Held commands (R536, R540, R541) -/

/-- The opcodes of R541. -/
def opKnown (op : Nat) : Bool :=
  [0x01, 0x02, 0x03, 0x04, 0x10, 0x20, 0x21, 0x22, 0x23, 0x24, 0x25, 0x30, 0x31, 0x40, 0x41, 0x42, 0x50, 0x51, 0x52, 0x53, 0x54, 0x55, 0x60].contains op

/-- Packets with a reserved OPCODE complete INVALID at their turn (R540). -/
def skipBad : Nat → Nat → State → State
  | 0, _, s => s
  | n + 1, c, s =>
    match nextHeld (s.comp c) with
    | some h =>
      if opKnown (fld h.pkt 0 8) then s
      else skipBad n c (completeCmd c (fld h.pkt 16 16) (fld h.pkt 0 8) stInvalid 0 (startHeld c s))
    | none => s

/-! ### The command ring (R534, R535) -/

/-- Packets that wait in the ring and have a place in the block (R535, R536). -/
def fetchRoom (p : Comp) : Nat :=
  min ((p.cmdTail + 2 ^ 33 - p.cmdHead - p.fetching) % 2 ^ 32) (16 - (p.held.length + p.fetching))

/-- The packets that have a place are requested in index order, one READ each (R535, R536); none while the ring is disabled (R539). -/
def fetchMore (c : Nat) (s : State) : State :=
  let log2 := s.jf c fCmdLog
  if s.jf c fCmdEnable = 0 then s
  else foldS (List.range (fetchRoom (s.comp c))) (fun _ t =>
    let p := t.comp c
    streamRead c (t.jf c fCmdBase + 64 * ((p.cmdHead + p.fetching) % 2 ^ log2)) 64 (.fetch c)
      (updComp c (fun p => { p with fetching := p.fetching + 1 }) t)) s

/-- CMDQ_TAIL_WRITE (R535). -/
def doCmdqTailWrite (c v : Nat) (s : State) : State :=
  let p := s.comp c
  if (v + 2 ^ 32 - p.cmdHead) % 2 ^ 32 > 2 ^ s.jf c fCmdLog then updComp c (fun p => { p with cmdErr := 2 }) s
  else fetchMore c (updComp c (fun p => { p with cmdTail := v }) s)

/-- CMDQ_TAIL_WRITE. -/
def execCmdqTailWrite (c : Nat) (value : BitVec 32) (s : State) : Host.Outcome State Fault Refusal :=
  .next (whenS s.hubUp (doCmdqTailWrite c value.toNat) s)

/-- Transfers given up: what comes back for their TAGs is discarded (R578). -/
def dropXfers (p : XferFor → Bool) (s : State) : State :=
  { s with cmd := { s.cmd with xfers := s.cmd.xfers.filter (fun x => !p x.use), xwait := s.cmd.xwait.filter (fun w => !p w.1.use) } }

/-- A write of J_CMDQ_CFG (R534, R551). -/
def doCmdqEnable (c v : Nat) (s : State) : State :=
  let on := s.jf c fCmdEnable == 1
  let log2 := nfld v 0 5
  let en := nfld v 8 1
  let refuse (s : State) : State := updComp c (fun p => { p with cmdErr := 1 }) s
  if on && log2 != s.jf c fCmdLog then refuse s
  else if on then s.setJf c fCmdEnable en
  else if en = 1 ∧ !decide (4 ≤ log2 ∧ log2 ≤ 12) then refuse s
  else if en = 0 then s.setJf c fCmdLog log2
  else
    let s := dropXfers (fun u => match u with
      | .fetch d => d == c
      | _ => false) ((s.setJf c fCmdLog log2).setJf c fCmdEnable 1)
    updComp c (fun p => { p with cmdHead := 0, cmdTail := 0, fetching := 0 }) s

/-- CMDQ_ENABLE. -/
def execCmdqEnable (c : Nat) (value : BitVec 32) (s : State) : Host.Outcome State Fault Refusal :=
  .next (whenS s.hubUp (doCmdqEnable c value.toNat) s)

/-- A write of J_CPLQ_CFG (R534, R551). -/
def doCplqEnable (c v : Nat) (s : State) : State :=
  let on := s.jf c fCplEnable == 1
  let log2 := nfld v 0 5
  let en := nfld v 8 1
  let refuse (s : State) : State := updComp c (fun p => { p with cplErr := 1 }) s
  if on && log2 != s.jf c fCplLog then refuse s
  else if on then s.setJf c fCplEnable en
  else if en = 1 ∧ !decide (4 ≤ log2 ∧ log2 ≤ 16) then refuse s
  else if en = 0 then s.setJf c fCplLog log2
  else
    let s := dropXfers (fun u => match u with
      | .completion d _ => d == c
      | _ => false) ((s.setJf c fCplLog log2).setJf c fCplEnable 1)
    updComp c (fun p => { p with cplHead := 0, cplTail := 0 }) s

/-- CPLQ_ENABLE. -/
def execCplqEnable (c : Nat) (value : BitVec 32) (s : State) : Host.Outcome State Fault Refusal :=
  .next (whenS s.hubUp (doCplqEnable c value.toNat) s)

/-- CPLQ_HEAD_WRITE (R537): one after TAIL, or more than the ring before it, is ignored. -/
def doCplqHeadWrite (c v : Nat) (s : State) : State :=
  let p := s.comp c
  if (p.cplTail + 2 ^ 32 - v) % 2 ^ 32 ≤ 2 ^ s.jf c fCplLog then updComp c (fun p => { p with cplHead := v }) s else s

/-- CPLQ_HEAD_WRITE. -/
def execCplqHeadWrite (c : Nat) (value : BitVec 32) (s : State) : Host.Outcome State Fault Refusal :=
  .next (whenS s.hubUp (doCplqHeadWrite c value.toNat) s)

/-- Packets arrive: HEAD advances past each as the block holds it (R535). -/
def takePackets (c : Nat) (ps : List (BitVec 512)) (s : State) : State :=
  skipBad 16 c (updComp c (fun p =>
    { p with held := p.held ++ ps.map (fun k => ⟨k, .fetched⟩), cmdHead := (p.cmdHead + ps.length) % 2 ^ 32, fetching := p.fetching - ps.length }) s)

/-- The first n fetches of a compartment under way are over. -/
def endFetches (c : Nat) : Nat → List Xfer → List Xfer
  | 0, l => l
  | _, [] => []
  | n + 1, x :: r => if x.use = .fetch c then endFetches c n r else x :: endFetches c (n + 1) r

/-- COMMAND_FETCH (R535): packets that were requested arrive. -/
def doCommandFetch (c : Nat) (packets : List (BitVec 512)) (s : State) : State :=
  let n := min packets.length (s.cmd.xfers.filter (fun x => x.use == .fetch c)).length
  takePackets c (packets.take n) { s with cmd := { s.cmd with xfers := endFetches c n s.cmd.xfers } }

/-- COMMAND_FETCH. -/
def execCommandFetch (c : Nat) (packets : List (BitVec 512)) (s : State) : Host.Outcome State Fault Refusal := .next (atHub (doCommandFetch c packets) s)

/-! ### The completion ring (R537, R538) -/

/-- A record as it is written: PHASE and LOST set (R537, R538, R544). -/
def cplImage (p : Comp) (log2 : Nat) (r : W256) : W256 :=
  BitVec.ofNat 256 (nset (nset r.toNat 12 1 (1 - p.cplTail / 2 ^ log2 % 2)) 13 1 (b2n p.lostOwed))

/-- COMPLETION_WRITE (R537, R538): the oldest staged record goes to its slot while the ring has room; the next one waits until its
write has completed. -/
def doCompletionWrite (c : Nat) (s : State) : State :=
  let p := s.comp c
  let log2 := s.jf c fCplLog
  let mine (u : XferFor) : Bool := match u with
    | .completion d _ => d == c
    | _ => false
  let busy := s.cmd.xfers.any (fun x => mine x.use) || s.cmd.xwait.any (fun w => mine w.1.use)
  match p.staged with
  | [] => s
  | r :: rest =>
    if s.isl.pf || s.cmd.dieStop || busy || log2 = 0 || (p.cplTail + 2 ^ 32 - p.cplHead) % 2 ^ 32 ≥ 2 ^ log2 then s
    else
      let s := updComp c (fun p => { p with staged := rest, lostOwed := false }) s
      streamWrite c (s.jf c fCplBase + 32 * (p.cplTail % 2 ^ log2)) (toBytes 32 (cplImage p log2 r.rec_).toNat) (.completion c r.rec_) s

/-- COMPLETION_WRITE. -/
def execCompletionWrite (c : Nat) (s : State) : Host.Outcome State Fault Refusal := .next (atHub (doCompletionWrite c) s)

/-- A command whose record has been written, or lost, no longer counts among the 16 (R536). -/
def recordOver (c : Nat) (r : W256) (s : State) : State :=
  let p := s.comp c
  let mine (h : Held) : Bool := h.stage == .completed && fld h.pkt 16 16 == fld r 16 16 && fld h.pkt 0 8 == fld r 64 8
  let held := if fld r 0 8 = 1 then p.held.eraseIdx (p.held.findIdx mine) else p.held
  fetchMore c (skipBad 16 c (updComp c (fun p => { p with held := held }) s))

/-! ### Transfers that end (R578) -/

/-- Other pieces with the same purpose are under way or wait. -/
def moreOf (s : State) (u : XferFor) : Bool := s.cmd.xfers.any (fun x => x.use == u) || s.cmd.xwait.any (fun w => w.1.use == u)

/-- A write ends, well or not; its transfer is no longer under way (R578). -/
def writeEnds (good : Bool) (u : XferFor) (s : State) : State :=
  let drop (s : State) : State := dropXfers (fun v => v == u) s
  match u with
  | .completion c r => recordOver c r (if good then updComp c (fun p => { p with cplTail := (p.cplTail + 1) % 2 ^ 32 }) s else dropRecord c s)
  | .trace c n first last =>
    let t := s.trace c
    setTrace c (if good then { t with tail := (t.tail + n) % 2 ^ 32 } else t.loseRange n first last) s
  | .spill slot => whenS (good && s.jrn.spills.any (fun e => e.1 == slot)) (spillDone slot) s
  | .view c tag n w q =>
    if good && moreOf s u then s
    else match tag with
      | some t => completeCmd c t 0x51 (if !good then stSuspect else if q then stQuota else stOk) (pack [(32, n), (32, w)]) (drop s)
      | none => drop s
  | .census c tag n w =>
    if good && moreOf s u then s
    else match tag with
      | some t => completeCmd c t 0x52 (if !good then stSuspect else if w < n then stQuota else stOk) (pack [(32, n), (32, w)]) (drop s)
      | none => drop s
  | .cut c st => if good && moreOf s u then s else finishCut c (if good then st else stSuspect) (drop s)
  | .fetch _ | .ringFetch .. | .voteFetch .. => s

/-- A read fails (R256, R541, R578). -/
def readFails (x : Xfer) (s : State) : State :=
  let gone : State := { s with cmd := { s.cmd with xfers := s.cmd.xfers.filter (fun y => y.tag != x.tag) } }
  match x.use with
  | .fetch c =>
    fetchMore c (postRecord c 1 stSuspect 0 0 (updComp c (fun p => { p with cmdHead := (p.cmdHead + 1) % 2 ^ 32, fetching := p.fetching - 1 }) gone))
  | .ringFetch .. => doRingFetch x.tag 0 s
  | .voteFetch c tag _ => completeCmd c tag 0x23 stSuspect 0 (dropXfers (fun u => match u with
      | .voteFetch d t _ => d == c && t == tag
      | _ => false) gone)
  | _ => gone

/-- The words of a vote record, in pieces: the last one sets it, or completes INVALID (R232, R541). -/
def voteArrives (c tag : Nat) (ws : List W256) (s : State) : State :=
  let mine (u : XferFor) : Bool := match u with
    | .voteFetch d t _ => d == c && t == tag
    | _ => false
  if s.cmd.xfers.any (fun x => mine x.use) || s.cmd.xwait.any (fun w => mine w.1.use) then
    let put (x : Xfer) : Xfer := if mine x.use then { x with use := .voteFetch c tag ws } else x
    { s with cmd := { s.cmd with xfers := s.cmd.xfers.map put, xwait := s.cmd.xwait.map (fun w => (put w.1, w.2)) } }
  else
    let v : BitVec 512 := BitVec.ofNat 512 (pack [(256, (ws.headD 0).toNat), (256, (ws.getD 1 0).toNat)])
    if voteOk v then completeCmd c tag 0x23 stOk 0 (voteSet c v s) else completeCmd c tag 0x23 stInvalid 0 s

/-- A read's data, every beat good or blazed (R294, R578). -/
def readGood (x : Xfer) (blazed : Bool) (ws : List W256) (s : State) : State :=
  let gone : State := { s with cmd := { s.cmd with xfers := s.cmd.xfers.filter (fun y => y.tag != x.tag) } }
  let two (i : Nat) : Nat := pack [(256, (ws.getD i 0).toNat), (256, (ws.getD (i + 1) 0).toNat)]
  if blazed then readFails x s
  else match x.use with
    | .fetch c => takePackets c [BitVec.ofNat 512 (two 0)] gone
    | .ringFetch .. => doRingFetch x.tag (BitVec.ofNat 1024 (pack [(512, two 0), (512, two 2)])) s
    | .voteFetch c tag got => voteArrives c tag (got ++ ws) gone
    | _ => gone

/-- READ_DATA (R578): a read whose beat is uncorrectable is repeated once under a new TAG. -/
def doReadData (tag status : Nat) (data : List (BitVec 288)) (s : State) : State :=
  match s.cmd.xfers.find? (fun x => x.tag == tag && !x.write) with
  | none => s
  | some x =>
    let ds := data.map s32Dec
    if status ≠ 0 ∨ 32 * data.length ≠ x.len then readFails x s
    else if ds.any (fun d => d.2 == .uncorrectable) then
      if x.again then readFails x (raiseHub uStream Kind.linkFail (hubLoc uStream) 0 s)
      else
        let gone : State := { s with cmd := { s.cmd with xfers := s.cmd.xfers.filter (fun y => y.tag != tag) } }
        issueXfer { x with again := true } [] (raiseHub uStream Kind.linkParity (hubLoc uStream) 0 gone)
    else readGood x (ds.any (fun d => d.2 == .blazed)) (ds.map (fun d => d.1)) s

/-- READ_DATA. -/
def execReadData (tag status : Nat) (data : List (BitVec 288)) (s : State) : Host.Outcome State Fault Refusal := .next (atHub (doReadData tag status data) s)

/-- WACK (R578). -/
def doWack (tag status : Nat) (s : State) : State :=
  match s.cmd.xfers.find? (fun x => x.tag == tag && x.write) with
  | none => s
  | some x => writeEnds (status == 0) x.use { s with cmd := { s.cmd with xfers := s.cmd.xfers.filter (fun y => y.tag != tag) } }

/-- WACK. -/
def execWack (tag status : Nat) (s : State) : Host.Outcome State Fault Refusal := .next (atHub (doWack tag status) s)

/-- STREAM_TIMEOUT (R578): no response within 16 µs, 6,400 ticks. -/
def doStreamTimeout (tag : Nat) (s : State) : State :=
  match s.cmd.xfers.find? (fun x => x.tag == tag) with
  | none => s
  | some x =>
    if s.et ≤ x.issued + 6400 then s
    else if x.write then writeEnds false x.use { s with cmd := { s.cmd with xfers := s.cmd.xfers.filter (fun y => y.tag != tag) } }
    else readFails x s

/-- STREAM_TIMEOUT. -/
def execStreamTimeout (tag : Nat) (s : State) : Host.Outcome State Fault Refusal := .next (atHub (doStreamTimeout tag) s)

end Sys2Proof.Machine
end

