-- ==== Sys2Proof/Machine/HostCmd.lean ====
section
/-! DEFINITION. The commands of the host (17_commands_and_registers R540–R548, and the rules each command names). -/
namespace Sys2Proof.Machine

/-! ### How a command runs (R536, R540, R541, R543) -/

/-- A mask of fields, each a lowest bit and a width. -/
def fieldMask (l : List (Nat × Nat)) : Nat := l.foldl (fun m f => m ||| (2 ^ f.2 - 1) * 2 ^ f.1) 0

/-- No bit of a packet outside OPCODE, BARRIER, TAG and the given fields is set (R540). -/
def pktClean (pkt : BitVec 512) (used : List (Nat × Nat)) : Bool :=
  pkt.toNat &&& fieldMask ((0, 8) :: (8, 1) :: (16, 16) :: used) == pkt.toNat

/-- Commands that the compartment's state allows; a stopped die allows NOP and STATUS (R543). -/
def cmdAllowed (s : State) (c op : Nat) : Bool :=
  op == 1 || op == 2 || (!s.cmd.dieStop && (match (s.comp c).st with
    | .closed => false
    | .stopped => op == 3 || op == 0x55
    | .opened => true
    | .reseeding => true))

/-- A command runs when its turn has come: reserved bits make it INVALID, the compartment's state FENCED; else its effect, which takes
the TAG. Commands of the serving pair need a serving pair (R527, R541). -/
def runCmd (op : Nat) (used : List (Nat × Nat)) (f : Nat → State → State) (c : Nat) (pkt : BitVec 512) (s : State) : State :=
  let tag := fld pkt 16 16
  match nextHeld (s.comp c) with
  | none => s
  | some h =>
    if h.pkt != pkt || fld pkt 0 8 != op || (servingOpcode op && (pairOf s.seq.servingB s).st != .serving) then s
    else
      let s := startHeld c s
      skipBad 16 c (if !pktClean pkt used then completeCmd c tag op stInvalid 0 s
        else if !cmdAllowed s c op then completeCmd c tag op stFenced 0 s
        else f tag s)

/-- A command whose effect is a status, a result and a state. -/
def statusCmd (op : Nat) (used : List (Nat × Nat)) (f : State → Nat × Nat × State) (c : Nat) (pkt : BitVec 512) (s : State) : State :=
  runCmd op used (fun tag s => let (st, r, s) := f s; completeCmd c tag op st r s) c pkt s

/-- The command starts and completes with a status alone. -/
def plainCmd (op : Nat) (used : List (Nat × Nat)) (f : State → Nat × State) (c : Nat) (pkt : BitVec 512) (s : State) : State :=
  statusCmd op used (fun s => let (st, s) := f s; (st, 0, s)) c pkt s

/-! ### NOP and STATUS -/

/-- CMD_NOP (R541). -/
def execCmdNop (c : Nat) (pkt : BitVec 512) (s : State) : Host.Outcome State Fault Refusal := .next (plainCmd 0x01 [] (fun s => (stOk, s)) c pkt s)

/-- J_STATE of a compartment (R550). -/
def jState (s : State) (c : Nat) : Nat :=
  let p := s.comp c
  pack [(3, p.st.code), (1, b2n s.cmd.dieStop), (1, b2n (escForward s c)), (1, b2n p.expelled), (1, b2n (s.fab.acctLost.contains c)), (1, 0), (12, p.cause)]

/-- STATUS (R541, R544). -/
def execStatus (c : Nat) (pkt : BitVec 512) (s : State) : Host.Outcome State Fault Refusal :=
  .next (statusCmd 0x02 [] (fun s => (stOk, pack [(64, jState s c), (8, (s.comp c).held.length), (8, (s.comp c).staged.length)], s)) c pkt s)

/-! ### Stop and fence (R546–R548) -/

/-- REOPEN (R548). -/
def doReopen (c mode e : Nat) (s : State) : Nat × State :=
  let p := s.comp c
  let l := (s.lease c).state
  if mode > 1 || p.st != .stopped then (stInvalid, s)
  else if !p.causes.isEmpty then (stSuspect, s)
  else if l == .expired || l == .revoked then (stDenied, s)
  else if mode = 0 then
    let s := whenS p.expelled (fun t => applyVote c (BitVec.ofNat 512 (nset (t.digComp c).vote.toNat 0 16 0)) t) s
    (stOk, liftStop c s)
  else (stOk, openCheck c (.reseed e) (updComp c (fun p => { p with st := .reseeding }) s))

/-- REOPEN. -/
def execReopen (c : Nat) (pkt : BitVec 512) (s : State) : Host.Outcome State Fault Refusal :=
  .next (plainCmd 0x03 [(64, 2), (128, 64)] (doReopen c (fld pkt 64 2) (fld pkt 128 64)) c pkt s)

/-- The status that refuses a FENCE_REQ (R547). -/
def fenceRefused (s : State) (c : Nat) (l : Loc) (act : Nat) : Option Nat :=
  if act = 2 then none
  else if act = 3 || fld l 13 3 > 1 || named l == .invalid then some stInvalid
  else match reach 3 l with
    | .scope x =>
      let there := s.col.fences.filter (fun f => f.scope == x)
      if locComp s l != some c then some stDenied
      else if act = 1 && !there.isEmpty && there.all (fun f => !f.host) then some stDenied
      else if felled s l then some stFenced else none
    | _ => some stDenied

/-- The order that a FENCE_REQ asks for. -/
def fenceOrder (c : Nat) (l : Loc) (act : Nat) : Order :=
  match act, reach 3 l with
  | 0, .scope x => ⟨false, .locus x⟩
  | 1, .scope x => ⟨true, .locus x⟩
  | _, _ => ⟨false, .comp c⟩

/-- FENCE_REQ (R289, R547): HOST_FENCE is raised; the command completes when the order is in force. -/
def doFenceReq (c : Nat) (l : Loc) (act tag : Nat) (s : State) : State :=
  match fenceRefused s c l act with
  | some st => completeCmd c tag 0x04 st 0 s
  | none =>
    let s : State := { s with col := { s.col with reqs := s.col.reqs ++ [⟨c, tag, fenceOrder c l act⟩] } }
    raiseHub uCollector Kind.hostFence (if act = 2 then dieLoc else l) (detail act none (some c)) s

/-- FENCE_REQ. -/
def execFenceReq (c : Nat) (pkt : BitVec 512) (s : State) : Host.Outcome State Fault Refusal :=
  .next (runCmd 0x04 [(64, 16), (80, 2)] (doFenceReq c (BitVec.ofNat 16 (fld pkt 64 16)) (fld pkt 80 2)) c pkt s)

/-! ### Latches (R196, R213, R343) -/

/-- The outbound entries that a DRAIN arrival waits for (R196). -/
def drainWaits (s : State) (c : Nat) : List (Nat × Nat) :=
  (s.esc.entries.filter (fun e => !e.2.inbound && e.2.comp == c)).map (fun e => (e.1, e.2.reuse))

/-- LATCH (R541): a host operation; DIGEST and DRAIN hold an arrival back here. -/
def doLatchCmd (c : Nat) (o : W128) (tag : Nat) (s : State) : State :=
  let waits := if lopDrain o then drainWaits s c else []
  if !lopGood o then completeCmd c tag 0x10 stInvalid (lopResult o stInvalid (lopLatch o) none).toNat s
  else if lopOp o = 4 ∧ lopDigest o then digestArrival c tag o waits s
  else if lopOp o = 4 ∧ lopDrain o then
    releaseArrivals c (updDig c (fun d => { d with held := d.held ++ [⟨o, tag, waits, false, none⟩] }) s)
  else startLatch c tag o s

/-- LATCH. -/
def execLatch (c : Nat) (pkt : BitVec 512) (s : State) : Host.Outcome State Fault Refusal :=
  .next (runCmd 0x10 [(64, 128)] (doLatchCmd c (BitVec.ofNat 128 (fld pkt 64 128))) c pkt s)

/-! ### Digests (R207–R209, R228, R231, R232) -/

/-- TENSOR_SET. -/
def execTensorSet (c : Nat) (pkt : BitVec 512) (s : State) : Host.Outcome State Fault Refusal :=
  .next (plainCmd 0x20 [(64, 12), (128, 256)] (tensorSet c (fld pkt 64 12) (BitVec.ofNat 256 (fld pkt 128 256))) c pkt s)

/-- EXTENT_SET. -/
def execExtentSet (c : Nat) (pkt : BitVec 512) (s : State) : Host.Outcome State Fault Refusal :=
  .next (plainCmd 0x21 [(64, 14), (128, 128)] (extentSet c (fld pkt 64 14) (BitVec.ofNat 128 (fld pkt 128 128))) c pkt s)

/-- TENSOR_READ (R541, R544). -/
def doTensorRead (c slot : Nat) (s : State) : Nat × Nat × State :=
  match s.dig.tensors.find? slot with
  | some t => if t.valid && t.comp == c then (stOk, pack [(40, t.words), (24, 0), (64, t.offsum)], s) else (stDenied, 0, s)
  | none => (stDenied, 0, s)

/-- TENSOR_READ. -/
def execTensorRead (c : Nat) (pkt : BitVec 512) (s : State) : Host.Outcome State Fault Refusal :=
  .next (statusCmd 0x22 [(64, 12)] (doTensorRead c (fld pkt 64 12)) c pkt s)

/-- VOTE_SET (R541): the record is fetched. -/
def doVoteSet (c addr tag : Nat) (s : State) : State :=
  if addr % 32 ≠ 0 then completeCmd c tag 0x23 stInvalid 0 s else streamRead c addr 64 (.voteFetch c tag []) s

/-- VOTE_SET. -/
def execVoteSet (c : Nat) (pkt : BitVec 512) (s : State) : Host.Outcome State Fault Refusal :=
  .next (runCmd 0x23 [(64, 64)] (doVoteSet c (fld pkt 64 64)) c pkt s)

/-- CERTIFY (R228). -/
def doCertify (c e tag : Nat) (s : State) : State :=
  match certify c tag e s with
  | (some st, s) => completeCmd c tag 0x24 st 0 s
  | (none, s) => s

/-- CERTIFY. -/
def execCertify (c : Nat) (pkt : BitVec 512) (s : State) : Host.Outcome State Fault Refusal :=
  .next (runCmd 0x24 [(64, 64)] (doCertify c (fld pkt 64 64)) c pkt s)

/-- RESTORE (R231). -/
def execRestore (c : Nat) (pkt : BitVec 512) (s : State) : Host.Outcome State Fault Refusal :=
  .next (runCmd 0x25 [(64, 64), (128, 64), (192, 64), (256, 1)]
    (fun tag s => restore c tag (fld pkt 64 64) (BitVec.ofNat 128 (fld pkt 128 128)) (bitAt pkt 256) s) c pkt s)

/-! ### The journal (R244, R259) -/

/-- RING_SET (R244): a record out of range leaves the ring as it is. -/
def doRingSet (c base log2 : Nat) (s : State) : Nat × State :=
  let others := (s.jrn.rings.filter (fun e => e.1 != c && decide (e.2.2 ≠ 0))).foldl (fun n e => n + 2 ^ e.2.2) 0
  let size := if log2 = 0 then 0 else 2 ^ log2
  if (log2 ≠ 0 ∧ log2 < 10) ∨ log2 > 24 ∨ base % 4096 ≠ 0 ∨ others + size > 2 ^ 24 then (stInvalid, s)
  else (stOk, { s with jrn := { s.jrn with rings := s.jrn.rings.put c (base, log2) } })

/-- RING_SET. -/
def execRingSet (c : Nat) (pkt : BitVec 512) (s : State) : Host.Outcome State Fault Refusal :=
  .next (plainCmd 0x30 [(64, 64), (128, 5)] (doRingSet c (fld pkt 64 64) (fld pkt 128 5)) c pkt s)

/-- The work of a fenced unit moves: the redirection is replaced, and cords not yet handed over go to the named unit (R258, R259). -/
def moveWork (c : Nat) (a b : Loc) (s : State) : Nat × State :=
  let redirs := s.jrn.redirs.filter (fun r => !(r.1 == a && r.2.2 == c)) ++ [(a, b, c)]
  let mine (k : Skid) : Bool := k.comp == c && covers a k.scope && !k.queue.isEmpty
  let moved := (s.jrn.skids.filter mine).flatMap (fun k => k.queue)
  let hand (k : Skid) : Skid := if mine k then { k with queue := [], pend := k.pend ++ k.queue.map (fun e => e.1), goal := some b } else k
  let goal (s : State) (slot : Nat) : Loc := ((s.cord slot).bind (fun k => redirOne s c k.jsn k.placed)).getD b
  let s : State := { s with jrn := { s.jrn with redirs := redirs, skids := s.jrn.skids.map hand } }
  (moved.length, foldS moved (fun e t => match findJsn t c e.1 with
    | some i => handOver i (goal t i) e.2.2 t
    | none => t) s)

/-- RETARGET (R541). -/
def doRetarget (c : Nat) (a b : Loc) (s : State) : Nat × Nat × State :=
  if named a == .invalid || named b == .invalid || !(fenced s a || felled s a) then (stInvalid, 0, s)
  else if !((unitKey b).any (fun k => ofComp s c k.1) || (clusterOf b).any (ofComp s c)) then (stDenied, 0, s)
  else if fenced s b || felled s b then (stFenced, 0, s)
  else let (n, s) := moveWork c a b s; (stOk, n, s)

/-- RETARGET. -/
def execRetarget (c : Nat) (pkt : BitVec 512) (s : State) : Host.Outcome State Fault Refusal :=
  .next (statusCmd 0x31 [(64, 16), (80, 16)] (doRetarget c (BitVec.ofNat 16 (fld pkt 64 16)) (BitVec.ofNat 16 (fld pkt 80 16))) c pkt s)

/-! ### The consistent stop (R353, R354, R362) -/

/-- STOP_SETUP (R353, R541). -/
def execStopSetup (c : Nat) (pkt : BitVec 512) (s : State) : Host.Outcome State Fault Refusal :=
  .next (plainCmd 0x40 [(64, 64), (128, 32)] (fun s =>
    if fld pkt 64 64 % 32 ≠ 0 ∨ fld pkt 128 32 % 32 ≠ 0 then (stInvalid, s)
    else (stOk, { s with fab := { s.fab with cutBuf := s.fab.cutBuf.put c (fld pkt 64 64, fld pkt 128 32) } })) c pkt s)

/-- A command's multicast is issued; where this die does not define the group nothing goes and the command is INVALID (R337, R340). -/
def castCmd (c tag op group plen payload : Nat) (s : State) : State :=
  if !s.dieSet || (groupMembers s group).isNone then completeCmd c tag op stInvalid 0 s
  else
    let (m, s) := sendMulti none (mkBranch vcStop 0 group plen payload (.command c tag)) s
    let own := op == 0x41 && m.here && groupComp s group == some c
    settleMcast c tag { s with fab := { s.fab with mcasts := s.fab.mcasts ++ [⟨c, tag, op, m.out.length, m.failed, own, stOk⟩] } }

/-- STOP (R354): the lead is checked, then STOP_ORDER goes to the group. -/
def doStop (c : Nat) (pkt : BitVec 512) (tag : Nat) (s : State) : State :=
  let t := fld pkt 64 64
  if t < s.et + 800 then completeCmd c tag 0x41 stLate 0 s
  else if t > s.et + 400000 * maxLeadMs s || s.fab.stops.has c then completeCmd c tag 0x41 stInvalid 0 s
  else castCmd c tag 0x41 (fld pkt 144 16) 2
    (pack [(4, 1), (4, 0), (4, fld pkt 176 4), (1, fld pkt 180 1), (3, 0), (16, fld pkt 128 16), (16, fld pkt 160 16), (16, 0), (64, t), (32, fld pkt 192 32)]) s

/-- STOP. -/
def execStop (c : Nat) (pkt : BitVec 512) (s : State) : Host.Outcome State Fault Refusal :=
  .next (runCmd 0x41 [(64, 64), (128, 16), (144, 16), (160, 16), (176, 4), (180, 1), (192, 32)] (doStop c pkt) c pkt s)

/-- RESUME (R362). -/
def doResume (c : Nat) (pkt : BitVec 512) (tag : Nat) (s : State) : State :=
  let ident := fld pkt 128 16
  if !(s.fab.stops.find? c).any (fun p => p.stopId == ident) then completeCmd c tag 0x42 stInvalid 0 s
  else castCmd c tag 0x42 (fld pkt 144 16) 1 (pack [(4, 3), (12, 0), (16, ident), (32, 0), (64, fld pkt 64 64)]) s

/-- RESUME. -/
def execResume (c : Nat) (pkt : BitVec 512) (s : State) : Host.Outcome State Fault Refusal :=
  .next (runCmd 0x42 [(64, 64), (128, 16), (144, 16)] (doResume c pkt) c pkt s)

/-! ### Tallies, censuses, traces (R454, R457, R458, R464) -/

/-- TALLY_SETUP (R457, R541). -/
def execTallySetup (c : Nat) (pkt : BitVec 512) (s : State) : Host.Outcome State Fault Refusal :=
  .next (plainCmd 0x50 [(64, 64), (128, 32)] (fun s =>
    if fld pkt 64 64 % 32 ≠ 0 ∨ fld pkt 128 32 % 32 ≠ 0 then (stInvalid, s)
    else if fld pkt 128 32 = 0 then (stEmpty, s)
    else (stOk, { s with obs := { s.obs with tallyBuf := s.obs.tallyBuf.put c (fld pkt 64 64, fld pkt 128 32) } })) c pkt s)

/-- TALLY (R454). -/
def doTally (c t tag : Nat) (s : State) : State :=
  match orderTally t 2 (some (c, some tag)) s with
  | (true, s) => s
  | (false, s) => completeCmd c tag 0x51 stLate 0 s

/-- TALLY. -/
def execTally (c : Nat) (pkt : BitVec 512) (s : State) : Host.Outcome State Fault Refusal :=
  .next (runCmd 0x51 [(64, 64)] (doTally c (fld pkt 64 64)) c pkt s)

/-- CENSUS (R464). -/
def doCensus (c t addr len tag : Nat) (s : State) : State :=
  if addr % 32 ≠ 0 ∨ len % 32 ≠ 0 then completeCmd c tag 0x52 stInvalid 0 s
  else match orderCensus t c (.host tag addr len) s with
    | (true, t) => if len = 0 then completeCmd c tag 0x52 stEmpty 0 s else t
    | (false, s) => completeCmd c tag 0x52 stLate 0 s

/-- CENSUS. -/
def execCensus (c : Nat) (pkt : BitVec 512) (s : State) : Host.Outcome State Fault Refusal :=
  .next (runCmd 0x52 [(64, 64), (128, 64), (192, 32)] (doCensus c (fld pkt 64 64) (fld pkt 128 64) (fld pkt 192 32)) c pkt s)

/-- TRACE_SETUP (R458). -/
def execTraceSetup (c : Nat) (pkt : BitVec 512) (s : State) : Host.Outcome State Fault Refusal :=
  .next (plainCmd 0x53 [(64, 128)] (traceSetup c (BitVec.ofNat 128 (fld pkt 64 128))) c pkt s)

/-- TRACE_MARK (R460): EMPTY while trace is off, or the MARK class is. -/
def doTraceMark (c payload : Nat) (s : State) : Nat × State :=
  let t := s.trace c
  if t.log2 = 0 || nfld t.classes 7 1 = 0 || (s.comp c).st != .opened then (stEmpty, s) else (stOk, trace c 9 0 0 payload s)

/-- TRACE_MARK. -/
def execTraceMark (c : Nat) (pkt : BitVec 512) (s : State) : Host.Outcome State Fault Refusal :=
  .next (plainCmd 0x54 [(64, 128)] (doTraceMark c (fld pkt 64 128)) c pkt s)

/-! ### Time and screening (R328, R381) -/

/-- TIME_QUERY (R541): with no exchange yet the values returned are free (log entry 7). -/
def doTimeQuery (peer : Nat) (s : State) : Nat × Nat × State :=
  match (if s.rf fTimeMode = 2 then matchOf s peer else none) with
  | none => (stInvalid, 0, s)
  | some m => match m.newest with
    | some t =>
      let r := pack [(64, (BitVec.ofInt 64 m.offset).toNat), (32, (BitVec.ofInt 32 m.rate).toNat), (32, (s.et - t) / 400)]
      (if matchFresh s m then stOk else stSuspect, r, s)
    | none =>
      let (a, s) := takeFree s
      let (b, s) := takeFree s
      (stSuspect, pack [(64, a.toNat), (64, b.toNat)], s)

/-- TIME_QUERY. -/
def execTimeQuery (c : Nat) (pkt : BitVec 512) (s : State) : Host.Outcome State Fault Refusal :=
  .next (statusCmd 0x55 [(64, 16)] (doTimeQuery (fld pkt 64 16)) c pkt s)

/-- SCREEN_OFFER (R381): the command completes when the slice ends. -/
def doScreenOffer (c core tag : Nat) (s : State) : State :=
  if assigned s (144 + core) != some c then completeCmd c tag 0x60 stDenied 0 s
  else if felled s (hcoreLoc core) then completeCmd c tag 0x60 stFenced 0 s
  else { s with scr := { s.scr with offers := s.scr.offers ++ [(core, c, tag)] } }

/-- SCREEN_OFFER. -/
def execScreenOffer (c : Nat) (pkt : BitVec 512) (s : State) : Host.Outcome State Fault Refusal :=
  .next (runCmd 0x60 [(64, 3)] (doScreenOffer c (fld pkt 64 3)) c pkt s)

end Sys2Proof.Machine
end

