-- ==== Sys2Proof/Machine/Policy.lean ====
section
/-! DEFINITION. The policy records that PWRITE numbers, the policy tables of bank 32, and the key messages of the Gate
(16_quoper_isa R516, R528–R531, 17_commands_and_registers R555, R556, and the rules of each record). -/
namespace Sys2Proof.Machine

/-! ### Numbered records (R193, R250, R262, R288, R301, R306, R361, R516) -/

/-- Bytes of a record; 0 for a reserved number. -/
def recordLen (n : Nat) : Nat :=
  match n with
  | 1 | 2 | 4 | 5 | 7 => 16
  | 3 | 6 => 32
  | _ => 0

/-- Set bits of a mask of w bits. -/
def bitsSet (w v : Nat) : Nat := ((List.range w).filter (fun i => v.testBit i)).length

/-- The sum of a quota field over all compartments, with compartment c's taken from a new record (R40). -/
def quotaSum (s : State) (c k v : Nat) : Nat := (List.range 16).foldl (fun n d => n + (if d = c then v else quota s d k)) 0

/-- A record's fields lie in their ranges and its reserved bits are zero. -/
def recordOk (s : State) (n c v : Nat) : Bool :=
  let f (lo len : Nat) : Nat := nfld v lo len
  match n with
  | 1 => f 1 7 == 0 && within 8 32 (f 8 8) && within 200 1200 (f 16 16) && within 250 9000 (f 32 16) && f 64 64 == 0
  | 2 => within 0 400 (f 0 16) && f 16 4 != 0 && f 21 107 == 0
  | 3 => within 0 131072 (f 0 32) && within 0 16384 (f 32 16) && within 0 32768 (f 48 16) && within 0 4096 (f 64 16) && f 84 12 == 0
      && within 0 512 (f 96 16) && within 0 1024 (f 112 16) && f 128 128 == 0
      && within 0 131072 (quotaSum s c 0 (f 0 32)) && within 0 16384 (quotaSum s c 1 (f 32 16))
      && within 0 32768 (quotaSum s c 2 (f 48 16)) && within 0 4096 (quotaSum s c 3 (f 64 16))
      && within 0 512 (quotaSum s c 5 (f 96 16)) && within 0 1024 (quotaSum s c 6 (f 112 16))
  | 4 => f 8 8 != 0 && f 20 4 != 0 && within 2 15 (f 24 4) && within 2 8 (f 28 4) && f 32 4 != 0 && f 37 91 == 0
  | 5 => within 1 10000 (f 0 16) && within 1 1000 (f 16 16) && f 32 96 == 0
  | 6 => within 0 16 (f 0 5) && f 5 123 == 0 && within 0 16 (bitsSet 128 (f 128 128))
      && (List.range 128).all (fun k => !(f 128 128).testBit k || (!felled s (clusterLoc k) && (assigned s k).isNone))
  | 7 => within 0 16 c && f 20 12 == 0
  | _ => false

/-- A lease's ENABLE written: 1 arms it from OFF, 0 puts it OFF from any state (R301). -/
def enableLease (l : Lease) (on : Bool) : Lease :=
  if !on then { l with enable := false, state := .off, periodUs := 0 }
  else { l with enable := true, state := if l.state = .off then .armed else l.state }

/-- A record stored, or INVALID with nothing changed (R40, R516). -/
def putRecord (n c v : Nat) (s : State) : Nat × State :=
  let v := v % 2 ^ (8 * recordLen n)
  if !recordOk s n c v then (stInvalid, s)
  else if n = 7 then
    let old : Lease := Tbl.get s.col.leases c Lease.reset
    let new : Lease := enableLease { old with holder := nfld v 0 16 } (nfld v 16 1 == 1)
    (stOk, { s with col := { s.col with leases := s.col.leases.put c new } })
  else if n = 6 then (stOk, redrawSpares (setPolicy 6 0 v s))
  else (stOk, setPolicy n (if n ≤ 3 then c else 0) v s)

/-- A record read back (R250, R301). -/
def readRecord (s : State) (n c : Nat) : Nat :=
  match n with
  | 7 =>
    let l : Lease := Tbl.get s.col.leases c Lease.reset
    pack [(16, l.holder), (1, b2n l.enable), (3, l.state.code), (12, 0), (32, l.periodUs), (64, l.expiry)]
  | 6 => if spareMask s = 0 then policy s 6 0 else nset (policy s 6 0) 0 5 (bitsSet 128 (spareMask s))
  | 4 | 5 => policy s n 0
  | _ => policy s n c

/-! ### Policy tables (R528, R529) -/

/-- The table entry at an offset of bank 32: table, base and length of the entry; none for working state or a reserved offset. -/
def polEntry (o : Nat) : Option (Nat × Nat × Nat) :=
  let e (t base size n : Nat) : Option (Nat × Nat × Nat) := if o < base + n then some (t, base + (o - base) / size * size, size) else none
  if o < 0x1000 then e 0 0 32 512
  else if o < 0x2000 then e 1 0x1000 1 4096
  else if o < 0x4000 then e 2 0x2000 2 8192
  else if o < 0x8000 then e 3 0x4000 4 16384
  else if o < 0x8100 then e 4 0x8000 8 128
  else if o < 0x8900 then (if (o - 0x8100) % 128 < 68 then e 5 0x8100 4 2048 else none)
  else if o < 0x8B00 then e 6 0x8900 4 512
  else if o < 0x8C00 then e 7 0x8B00 1 16
  else if o < 0x9000 then e 8 0x8C00 2 32
  else if o < 0x9800 then e 9 0x9000 4 1036
  else if o < 0xA000 then e 10 0x9800 8 40
  else if o < 0xB000 then e 11 0xA000 8 512
  else e 12 0xB000 512 8192

/-- A finite FP32 value, and one in a range whose ends are the FP32 values nearest to the decimal ones (log entry 13). -/
def fpFinite (v : Nat) : Bool := flFinite (dec32 v)
def fpWithin (lo hi : Rat) (v : Nat) : Bool := fpFinite v && decide (ratOf32 (rat32 lo) ≤ ratOf32 v ∧ ratOf32 v ≤ ratOf32 (rat32 hi))

/-- Words of the stock program in the serving pair's image (R497, R605). -/
def stockLen (s : State) : Nat := fld (progWord s s.seq.servingB 2) 48 16

/-- A step of a microprogram (R531). -/
def stepOk (last : Bool) (v : Nat) : Bool :=
  let src (x : Nat) : Bool := x ≤ 2 || within 4 8 x || x == 15
  let out := nfld v 20 4
  within 0x20 0x80 (nfld v 0 8) && catalogue.contains (nfld v 0 8) && src (nfld v 8 4) && src (nfld v 12 4) && src (nfld v 16 4)
    && (within 4 7 out || out == 9) && nfld v 24 8 == 0 && nfld v 96 32 == 0 && (!last || out == 9)

/-- An entry's value satisfies the rule of its chapter (R110, R130, R131, R133, R139, R143, R148, R159, R160, R164, R530, R531). -/
def entryOk (s : State) (t v : Nat) : Bool :=
  let f (lo len : Nat) : Nat := nfld v lo len
  match t with
  | 0 => within 0 5 (f 1 3) && f 4 4 == 0 && (f 8 8 == 0 || f 8 8 ≥ 128) && within 10 60000 (f 16 16) && fpWithin (1 / 100) 1000 (f 32 32)
      && fpWithin (1 / 10000000) (1 / 10) (f 64 32) && within 1 8760 (f 96 16) && f 112 16 == 0 && fpFinite (f 128 32) && fpFinite (f 160 32) && f 226 30 == 0
  | 1 => within 0 24 v
  | 2 => decide (f 0 5 ≤ f 8 5) && within 0 24 (f 8 5) && f 5 3 == 0 && f 13 3 == 0
  | 3 => v != 0
  | 4 => within 0 5 (f 0 3) && f 3 29 == 0 && f 32 32 != 0
  | 5 => fpWithin (1 / 65536) 1 v
  | 6 => true
  | 7 => within 1 64 v
  | 8 => within 1 256 v
  | 9 => fpWithin 0 1 v
  | 10 => within 1 86400 (f 0 32) && f 33 31 == 0
  | 11 => f 12 4 == 0 && f 28 4 == 0 && f 49 15 == 0 && decide (f 0 12 ≤ f 16 12) && !within 1 (7 + stockLen s) (f 32 16)
      && (f 48 1 == 0 || f 0 12 ≥ 0x800)
  | _ => f 5 123 == 0 && (List.range (f 0 5)).all (fun i => stepOk (i + 1 == f 0 5) (f (128 * (i + 1)) 128))

/-- Bytes put into bank 32 from an offset. -/
def polBytes (o : Nat) (bs : List Byte) (s : State) : State :=
  foldS (List.range bs.length) (fun i t => polWrite (o + i) 1 ((bs.getD i 0).toNat) t) s

/-- A write of a policy table: its status, and the table written where it is OK (R529). EST and STATUS are the governor's own (R159). -/
def policyWrite (o len data : Nat) (s : State) : Nat × State :=
  if !within 0 32 len || len % 4 ≠ 0 then (stInvalid, s)
  else if len = 0 then (if (polEntry o).isNone then stDenied else stEmpty, s)
  else
    let at_ := (List.range len).map (fun i => polEntry (o + i))
    if at_.any (fun e => e.isNone) then (stDenied, s)
    else
      let own := (List.range len).any (fun i => o + i < 512 && within 24 28 ((o + i) % 32))
      let t := polBytes o (toBytes len data) s
      let good := (at_.filterMap id).eraseDups.all (fun e => entryOk s e.1 (ofBytes (bankBytes t 32 e.2.1 e.2.2)))
      if own || !good then (stInvalid, s) else (stOk, t)

/-- The data of a table read (R556); a range outside bank 32 is INVALID. -/
def policyRead (o len : Nat) (s : State) : Nat × Nat :=
  if !within 0 32 len || len % 4 ≠ 0 || o + len > 524288 then (stInvalid, 0) else (if len = 0 then stEmpty else stOk, ofBytes (bankBytes s 32 o len))

/-- A message for GATEIN carried out (R527, R529). -/
def gateIn (msg : BitVec 512) (s : State) : State :=
  let o := fld msg 64 32
  let len := fld msg 96 32
  if fld msg 0 16 = 0x10 then
    let (st, s) := policyWrite o len (fld msg 128 256) s
    gateRespond (fld msg 16 16) st 0 s
  else
    let (st, v) := policyRead o len s
    gateRespond (fld msg 16 16) st v s

/-- The serving pair's stock image carries a message out; without a serving pair it waits in the Gate inbound queue (R508, R527). -/
def toGateIn (s : State) : State :=
  if (pairOf s.seq.servingB s).st == .serving then gateIn s.isl.gateTx s
  else { s with seq := { s.seq with gateIn := s.seq.gateIn ++ [s.isl.gateTx] } }

/-- Messages that waited for a serving pair are carried out. -/
def serveGateIn (s : State) : State :=
  let l := s.seq.gateIn
  foldS l gateIn { s with seq := { s.seq with gateIn := [] } }

/-- POLICY_WRITE (R529). -/
def execPolicyWrite (tag : Nat) (body : BitVec 448) (s : State) : Host.Outcome State Fault Refusal := .next (atGate 0x10 tag body toGateIn s)
/-- POLICY_READ (R556). -/
def execPolicyRead (tag : Nat) (body : BitVec 448) (s : State) : Host.Outcome State Fault Refusal := .next (atGate 0x11 tag body toGateIn s)

/-! ### Keys and the service token (R45, R134, R201, R293, R610) -/

/-- ROOT_KEY (R201): the key applies from the next fold window that opens. -/
def doRootKey (tag : Nat) (body : BitVec 448) (s : State) : State :=
  gateRespond tag stOk 0 (updDig (fld body 0 4) (fun d => { d with rootNext := some (fld body 64 256) }) s)

/-- ROOT_KEY. -/
def execRootKey (tag : Nat) (body : BitVec 448) (s : State) : Host.Outcome State Fault Refusal := .next (atGate 0x20 tag body (doRootKey tag body) s)

/-- CAPTURE_KEY (R134). -/
def doCaptureKey (tag : Nat) (body : BitVec 448) (s : State) : State :=
  gateRespond tag stOk 0 { s with capKeys := s.capKeys.put (fld body 0 4) (fld body 64 256) }

/-- CAPTURE_KEY. -/
def execCaptureKey (tag : Nat) (body : BitVec 448) (s : State) : Host.Outcome State Fault Refusal := .next (atGate 0x21 tag body (doCaptureKey tag body) s)

/-- A locus that the field fell map lists (R610). -/
def mapLists (s : State) (l : Loc) : Bool :=
  match fellBit l false (mapWritten s) with
  | some m => m != mapWritten s
  | none => false

/-- FELL_UNDO (R293, R610): the loci leave the map, and stay out of service for the session; a token that lists none is EMPTY (R19). -/
def doFellUndo (tag : Nat) (body : BitVec 448) (s : State) : State :=
  match gateSrc s (fld body 64 64) 256 with
  | none => gateRespond tag stDenied 0 s
  | some tok =>
    let v := ofBytes tok
    let n := nfld v 160 5
    let loci := (List.range n).map (fun i => BitVec.ofNat 16 (nfld v (256 + 16 * i) 16))
    let key := (tok.drop 64).take 96
    if nfld v 0 32 ≠ 0x4F444E55 || nfld v 34 30 ≠ 0 || !within 0 16 n || nfld v 165 91 ≠ 0 || nfld v (256 + 16 * n) (256 - 16 * n) ≠ 0
        || !loci.all (mapLists s) then gateRespond tag stInvalid 0 s
    else if nfld v 64 64 ≠ s.fuse.dieId.toNat || nfld v 128 32 ≠ s.col.fellGen || !fuseAccepts s (nfld v 32 2) key
        || !ecdsaP384 (BitVec.ofNat 768 (ofBytes key)) (tok.take 160) (BitVec.ofNat 768 (nfld v 1280 768)) then
      gateRespond tag stDenied 0 (raiseHub uCollector Kind.tokenDenied dieLoc 0 s)
    else if n = 0 then gateRespond tag stEmpty 0 s
    else
      gateRespond tag stOk 0 (writeFell { s with col := { s.col with undone := s.col.undone ++ loci.map (fun l => l.toNat) } })

/-- FELL_UNDO. -/
def execFellUndo (tag : Nat) (body : BitVec 448) (s : State) : Host.Outcome State Fault Refusal := .next (atGate 0x33 tag body (doFellUndo tag body) s)

end Sys2Proof.Machine
end

