-- ==== Sys2Proof/Machine/Live.lean ====
section
/-! DEFINITION. Pair failure, takeover, handover, program images and the Gate's answers (16_quoper_isa, 17_commands_and_registers,
19_startup_and_live_update). -/
namespace Sys2Proof.Machine

def fTurnMax : RF := ⟨0x2000, 0, 16, 1000⟩

/-- A pair stops: SEQ_STOP for the serving pair; SEQ_FAULT and a system entry for a standby pair (R495, R498, R524, R612). -/
def pairStops (b : Bool) (s : State) : State :=
  let p := pairOf b s
  let u := if b then uQB0 else uQA0
  if p.st == .serving || p.st == .standby then
    let s1 := updPair b (fun p => { p with st := .stopped, waiting := none, turnStart := none, stops := p.stops + 1 }) s
    let s1 := { s1 with seq := { s1.seq with stopCount := min (s1.seq.stopCount + 1) 255 } }
    if p.st == .serving then raiseHub u Kind.seqStop (hubLoc u) 0 { s1 with seq := { s1.seq with hookRet := none } }
    else sysPush true 5 0 (raiseHub u Kind.seqFault (hubLoc u) 0 s1)
  else s

/-- LOCKSTEP_MISMATCH (R495): nothing of the differing instruction leaves the pair. -/
def execLockstepMismatch (b : Bool) (s : State) : Host.Outcome State Fault Refusal := .next (atHub (pairStops b) s)
/-- FETCH_FAULT (R498). -/
def execFetchFault (b : Bool) (s : State) : Host.Outcome State Fault Refusal := .next (atHub (pairStops b) s)

/-- TURN_OVERRUN (R520): the serving pair's turn exceeds TURN_MAX_US. -/
def doTurnOverrun (s : State) : State :=
  match (pairOf s.seq.servingB s).turnStart with
  | some t => if s.et > t + s.rf fTurnMax * 400 then pairStops s.seq.servingB s else s
  | none => s

/-- TURN_OVERRUN. -/
def execTurnOverrun (s : State) : Host.Outcome State Fault Refusal := .next (atHub doTurnOverrun s)

/-- A bank takes the boot-ROM stock image (R596, R608). -/
def loadRom (bank : Bool) (s : State) : State :=
  if bank then { s with seq := { s.seq with romB := true } } else { s with seq := { s.seq with romA := true } }

/-- A pair that has stopped three times since the last entry to SELFTEST is held (R606). -/
def heldPair (b : Bool) (s : State) : Bool := decide ((pairOf b s).stops ≥ 3)

/-- TAKEOVER (R523, R608): after the serving pair has stopped. -/
def doTakeover (s : State) : State :=
  let sv := s.seq.servingB
  if (pairOf sv s).st != .stopped then s
  else if (pairOf (!sv) s).st == .standby then serveGateIn (swapRoles 1 s)
  else if heldPair (!sv) s || !Config.romGood then raiseHub (if sv then uQB0 else uQA0) Kind.seqNone dieLoc 0 s
  else serveGateIn (swapRoles 1 (loadRom (!sv) s))

/-- TAKEOVER. -/
def execTakeover (s : State) : Host.Outcome State Fault Refusal := .next (atHub doTakeover s)

/-- The checks of a staged image of n bytes (R605). -/
def imageGood (img : List Byte) (n : Nat) : Bool :=
  let h := ofBytes (img.take 64)
  let len := nfld h 160 16
  let stock := nfld h 48 1 == 1
  let stockLen := nfld h 176 16
  let inside (e : Nat) : Bool := decide (8 ≤ e ∧ e ≤ 7 + len)
  nfld h 0 32 == 0x52504F51 && nfld h 32 16 == 1 && decide (64 + 8 * len = n) && inside (nfld h 128 16) && inside (nfld h 144 16)
    && decide (stockLen ≤ len) && (stock || stockLen == 0) && nfld h 448 64 == chipperSig (img.take 56 ++ img.drop 64)

/-- The words of an image, by index. -/
def imageWords (bank : Bool) : Nat → Nat → List Byte → Tbl W64
  | 0, _, _ => []
  | n + 1, i, bs => (65536 * b2n bank + i, BitVec.ofNat 64 (ofBytes (bs.take 8))) :: imageWords bank n (i + 1) (bs.drop 8)

/-- The image copied into a bank and its pair started at ENTRY_STANDBY (R605). -/
def installImage (bank : Bool) (img : List Byte) (s : State) : State :=
  let lowB := s.seq.prog.keep (fun k _ => decide (k < 65536))
  let highB := s.seq.prog.keep (fun k _ => decide (k ≥ 65536))
  let ws := imageWords bank (img.length / 8) 0 img
  let q := if bank then { s.seq with prog := lowB ++ ws, romB := false } else { s.seq with prog := ws ++ highB, romA := false }
  let s := { s with seq := q }
  updPair bank (fun p => p.start .standby (entryStandby s bank)) s

/-- IMAGE_LOAD (R605, R606). -/
def doImageLoad (tag : Nat) (body : BitVec 448) (s : State) : State :=
  let bank := bitAt body 0
  let n := fld body 128 64
  if !s.inLoaded || (pairOf bank s).st == .serving || heldPair bank s then gateRespond tag stDenied 0 s
  else if n = 0 then gateRespond tag (if (gateSrc s (fld body 64 64) 0).isNone then stDenied else stEmpty) 0 s
  else if n % 8 ≠ 0 || n < 72 || n > 524288 then gateRespond tag stInvalid 0 (raiseHub uGate Kind.imageBad dieLoc 0 s)
  else match gateSrc s (fld body 64 64) n with
    | none => gateRespond tag stDenied 0 s
    | some img =>
      if imageGood img n then gateRespond tag stOk 0 (installImage bank img s)
      else gateRespond tag stInvalid 0 (raiseHub uGate Kind.imageBad dieLoc 0 s)

/-- IMAGE_LOAD. -/
def execImageLoad (tag : Nat) (body : BitVec 448) (s : State) : Host.Outcome State Fault Refusal := .next (atGate 0x40 tag body (doImageLoad tag body) s)

/-- HANDOVER (R607). -/
def doHandover (tag : Nat) (s : State) : State :=
  if !s.inLoaded || (pairOf (!s.seq.servingB) s).st != .standby || s.seq.handover.isSome then gateRespond tag stDenied 0 s
  else tryHandover { s with seq := { s.seq with handover := some (s.et, tag) } }

/-- HANDOVER. -/
def execHandover (tag : Nat) (s : State) : Host.Outcome State Fault Refusal := .next (atGate 0x41 tag 0 (doHandover tag) s)

/-- HANDOVER_TIMEOUT (R607): no handover point within 1 s. -/
def execHandoverTimeout (s : State) : Host.Outcome State Fault Refusal :=
  .next (atHub (fun s => match s.seq.handover with
    | some (t, tag) => if s.et ≥ t + 400000000 then gateRespond tag stSuspect 0 { s with seq := { s.seq with handover := none } } else s
    | none => s) s)

/-- GATE_REFUSED (R44, R557). -/
def execGateRefused (side : Bool) (code tag : Nat) (locus : Loc) (s : State) : Host.Outcome State Fault Refusal :=
  .next (if side then atGate code tag 0 (fun t => gateRespond tag stDenied 0 (refuseCrossing code true locus t)) s
    else whenS s.hubUp (refuseCrossing code false locus) s)

/-- RESPONSE (R557): the head of the Gate outbound queue lands in M_GATE_RX. -/
def execResponse (s : State) : Host.Outcome State Fault Refusal :=
  .next (atHub (fun s => match s.seq.gateOut with
    | v :: rest => { s with seq := { s.seq with gateOut := rest }, isl := { s.isl with gateRx := v, gateValid := true, gateBusy := false } }
    | [] => s) s)

/-- RX_POP (R557). -/
def execRxPop (s : State) : Host.Outcome State Fault Refusal := .next { s with isl := { s.isl with gateValid := false } }

/-- UNIT_RESPONSE (R511): the oldest response formed is posted; a unit that finds the queue full waits. -/
def execUnitResponse (s : State) : Host.Outcome State Fault Refusal :=
  .next (atHub (fun s => match s.seq.forming with
    | r :: rest => if s.seq.responses.length < 256 then { s with seq := { s.seq with forming := rest, responses := s.seq.responses ++ [r] } } else s
    | [] => s) s)

end Sys2Proof.Machine
end

