-- ==== Sys2Proof/Machine/Power.lean ====
section
/-! DEFINITION. The block's states, its start and its end: supplies, power fail, opening, closing and sealing (19_startup_and_live_update
R592–R604, 01_block_architecture R30, R40, R47, R55). -/
namespace Sys2Proof.Machine

/-- The block's state changes: REC_STATE, and TYPE 0x03 on both system queues once pairs run (R473, R512). -/
def changeState (new : BlockState) (s : State) : State :=
  let old := s.isl.st.code
  let s : State := { s with isl := { s.isl with st := new } }
  whenS s.recd.running (sysBoth 3 new.code) (recEvent Kind.recState new.code (pack [(8, old)]) 0 s)

/-! ### What each supply holds (R47, R371, R553) -/

/-- An island-resident register by offset (R553). -/
def islandOffset (o : Nat) : Bool :=
  decide (o < 8) || decide (0x10 ≤ o ∧ o < 0x20) || decide (0xD00 ≤ o ∧ o < 0xD08) || decide (0xD10 ≤ o ∧ o < 0xD18)
    || decide (0xD30 ≤ o ∧ o < 0xD48) || decide (0x1800 ≤ o ∧ o < 0x1898) || decide (0x1E00 ≤ o ∧ o < 0x1E40)
    || decide (0x2100 ≤ o ∧ o < 0x2108) || decide (0x2140 ≤ o ∧ o < 0x21C0)

/-- Everything on VDD_CORE and VDD_SRAM is lost; the island, the fuses, the cellar and the Recorder's place in its log stay. -/
def coreClear (s : State) : State :=
  let z := State.reset
  { z with
    pending := s.pending, out := s.out, freeCtr := s.freeCtr, fuse := s.fuse, isl := s.isl,
    thm := { z.thm with rails := s.thm.rails, alert := s.thm.alert },
    scr := { z.scr with hubScanned := s.scr.hubScanned, lastUnit := s.scr.lastUnit, tapIr := s.scr.tapIr },
    recd := { z.recd with cellar := s.recd.cellar, cellarAbsent := s.recd.cellarAbsent, cellarData := s.recd.cellarData,
                          rseq := s.recd.rseq, flushed := s.recd.flushed, clrGen := s.recd.clrGen, pending := s.recd.pending },
    mregs := s.mregs.filter (fun e => islandOffset (e.1 / 64)) }

/-- VDD_ISL is lost: fuses and cellar stay (R592, R594). -/
def islClear (s : State) : State :=
  let z := State.reset
  { z with pending := s.pending, out := s.out, freeCtr := s.freeCtr, fuse := s.fuse,
           recd := { z.recd with cellar := s.recd.cellar, cellarAbsent := s.recd.cellarAbsent } }

/-! ### The island (R592, R594) -/

/-- VDD_ISL_UP: OFF to ISLAND, with one more power-up counted and the log scanned (R594). -/
def doVddIslUp (s : State) : State :=
  if s.isl.st != .off then s
  else
    let s := islClear s
    let s : State := { s with isl := { s.isl with boots := (nfld (islMid s) 0 32 + 1) % 2 ^ 32 } }
    changeState .island (logRecover s)

/-- VDD_ISL_UP. -/
def execVddIslUp (s : State) : Host.Outcome State Fault Refusal := .next (doVddIslUp s)

/-- VDD_ISL_FALL (R592). -/
def execVddIslFall (s : State) : Host.Outcome State Fault Refusal := .next (islClear s)

/-! ### SELFTEST (R596, R597) -/

/-- The power-fail area with the higher GEN is torn: REC_PF_SHORT at package level (R486). -/
def checkPf (s : State) : State :=
  let b := pfNewer s
  whenS (pfNamed s b && !pfValid s b) (raiseHub uRecorder Kind.recPfShort packageLoc 0) s

/-- A clear found pending goes on from its step 3 (R490). KEY_SLOT and the token's hash are not kept, so what the record shows of
them is a free value (log entry 7). -/
def resumeClear (s : State) : State :=
  if s.recd.pending.isNone then s
  else
    let (slot, s) := takeFree s
    let (aux, s) := takeFree s
    finishClear slot.toNat aux.toNat s

/-- The hub comes up: its registers at their reset values, ET running, and what the island held back raised (R594, R596). -/
def startHub (s : State) : State :=
  let (queued, hw, pair) := (s.recd.input, s.recd.waitHw, s.recd.waitPair)
  let s := coreClear { s with isl := { s.isl with corePg := 0xFFFF, pllLock := true } }
  let s : State := { s with recd := { s.recd with input := queued, waitHw := hw, waitPair := pair }, tim := { s.tim with running := true } }
  let s := (changeState .selftest s).setRf fDiv4 s.fuse.div4.toNat
  let s := whenS s.recd.cellarAbsent (raiseHub uRecorder Kind.recCellar (hubLoc uRecorder) 0) s
  let s := foldS (List.range s.isl.deniedOwed) (fun _ t => raiseIsland Kind.tokenDenied dieLoc 0 t) s
  { s with isl := { s.isl with deniedOwed := 0 } }

/-- What the start reads from the cellar: fell map, power-fail area, a pending clear, packs (R594, R596). -/
def startReads (s : State) : State :=
  let s := resumeClear (checkPf (readFell s))
  readPacks (writeIsl (nset (islMid s) 0 32 s.isl.boots) s)

/-- The full screen, or none where the closing record is trusted (R387, R596). -/
def startTrust (s : State) : State :=
  let age := trustRecord s
  let s := voidRecord s
  let s : State := { s with scr := { s.scr with quick := age.isSome, baseAge := 400000000 * age.getD 0 } }
  if age.isSome then s else startScreen s

/-- The power-on march: the windows that fail it are remapped, as far as the repair windows go (R433, R435, R611). -/
def marchBanks (faulty : List (Nat × Nat)) (s : State) : State :=
  foldS (faulty.filter (fun w => decide (w.1 ≤ 48 ∧ w.2 < 128))) (fun w t => windowFails w.1 w.2 t) s

/-- Steps 1 to 6 of a start (R596): the banks marched and zeroed, the fell map, the packs and the closing record read, the record voided; then
the power-on screen, unless the record is trusted (R391). -/
def doCorePowerGood (faulty : List (Nat × Nat)) (s : State) : State :=
  if s.isl.st != .island || s.scr.hubScanned then s else startTrust (startReads (marchBanks faulty (startHub s)))

/-- CORE_POWER_GOOD. -/
def execCorePowerGood (s : State) (faulty : List (Nat × Nat) := []) : Host.Outcome State Fault Refusal := .next (doCorePowerGood faulty s)

/-! ### LOADED (R30, R132, R597, R598) -/

/-- The owner of each bank at entry to LOADED (R30). -/
def bankOwner (b : Nat) : Owner :=
  if b ≤ 7 then .journal else if b ≤ 11 then .recorder else if b ≤ 13 then .counterTrace else if b ≤ 29 then .cruise
  else if b ≤ 31 then .digest else if b ≤ 39 then .serving else if b ≤ 41 then .collector else .firmware

/-- Bytes put into the policy tables from a word's start (R528). -/
def polFill (off : Nat) (bs : List Byte) (s : State) : State :=
  let ws := beatsOf (bs.length / 32 + 1) bs
  foldS (List.range ws.length) (fun i t => bankStore 32 (off / 32 + i) (ws.getD i 0) t) s

/-- A governor record's reset value (R159); EST 0 and STATUS NODATA as J_GOV resets (R550). -/
def govRecord : Nat :=
  pack [(1, 1), (3, 3), (4, 0), (8, 205), (16, 250), (32, 0x3F800000), (32, 0x38D1B717), (16, 168), (16, 0), (32, 0x40200000), (32, 0x40ACCCCD), (32, 0), (2, 2), (30, 0)]

/-- c_b = min(1, 4 · 2^(−b/2)) as FP32 (R110). -/
def tolDefault (b : Nat) : Nat :=
  let e := 127 + 2 - (b + 1) / 2
  if b ≤ 4 then 0x3F800000 else if b % 2 = 0 then e * 2 ^ 23 else e * 2 ^ 23 + 0x3504F3

/-- v_k of entry 0–258 (R148). -/
def vulnDefault (k : Nat) : Rat :=
  if 1 ≤ k ∧ k ≤ 3 then 2 / 1000000 else if k = 4 then 4 / 100000 else if 0x10 ≤ k ∧ k ≤ 0x14 then 6 / 10000
  else if k = 0x60 ∨ k = 0x61 then 1 / 1000000 else if k = 256 ∨ k = 257 then 5 / 1000
  else if [0x20, 0x21, 0x22, 0x23, 0x30, 0x31, 0x32, 0x33, 0x34, 0x40, 0x41, 0x50, 0x70, 0x71, 0x80, 258].contains k ∨ 0xF0 ≤ k ∧ k ≤ 0xFF then 6 / 100000
  else 0

/-- The policy tables as entry to LOADED sets them (R110, R130, R133, R139, R143, R148, R159, R160, R164), LFSR states from a seed (R132). -/
def policyTables (seed : Nat) (s : State) : State :=
  let st := seedStates seed
  let many (n : Nat) (f : Nat → List Byte) : List Byte := (List.range n).flatMap f
  let s := polFill 0 (many 16 (fun _ => toBytes 32 govRecord)) s
  let s := polFill 0x1000 (List.replicate 4096 16) s
  let s := polFill 0x2000 (many 4096 (fun _ => [0, 16])) s
  let s := polFill 0x4000 (many 16 (fun c => ((st.drop (257 * c)).take 256).flatMap (fun v => toBytes 4 v))) s
  let s := polFill 0x8000 (many 16 (fun c => toBytes 8 (2 ^ 32 * st.getD (257 * c + 256) 0))) s
  let s := polFill 0x8100 (many 16 (fun _ => many 17 (fun b => toBytes 4 (tolDefault b)) ++ List.replicate 60 0)) s
  let s := polFill 0x8B00 (List.replicate 16 8) s
  let s := polFill 0x8C00 (many 16 (fun _ => [64, 0])) s
  let s := polFill 0x9000 (many 260 (fun k => toBytes 4 (rat32 (vulnDefault k)))) s
  polFill 0x9800 ([600, 3600, 3600, 3600, 86400].flatMap (fun n => toBytes 8 (n + 2 ^ 32))) s

/-- The sampling seed; without one the island is told (R132). -/
def takeSeed (s : State) : Nat × State :=
  if s.isl.seedSet then (s.isl.seed ^^^ s.fuse.dieId.toNat, s)
  else (2 ^ 32 * s.isl.boots + s.et % 2 ^ 32, raiseIsland Kind.startCheck islandLoc 0 s)

/-- The pairs begin their first roles on the boot-ROM stock image; where it fails its check no pair can serve (R524, R596, R598, R608). -/
def startPairs (s : State) : State :=
  let s := loadRom true (loadRom false s)
  if Config.romGood then
    let s := updPair false (fun p => p.start .serving (entryServe s false)) s
    updPair true (fun p => p.start .standby (entryStandby s true)) { s with seq := { s.seq with servingB := false } }
  else raiseHub uQA0 Kind.seqNone dieLoc 0 s

/-- What stands at entry to LOADED (R597): the banks' owners, and the quotas, severities, rate buckets and counter selects at their
reset values; the Recorder runs, and the function tables are loaded from the descriptor that the host die holds at FT_BASE (R126, R127). -/
def loadedValues (ft : List W256) (s : State) : State :=
  let s := foldS (List.range 48) (fun b t => updBank b (fun r => { r with owner := bankOwner b }) t) s
  { s with scr := { s.scr with phase := 0 }, col := { s.col with sev := [] }, obs := { s.obs with sel := [] },
           gov := { s.gov with policy := s.gov.policy.keep (fun k _ => k / 32 != 3), lfsrs := [], tables := ft, tablesOk := descriptorGood ft },
           recd := { s.recd with buckets := [], running := true } }

/-- START_COMPLETE (R597, R598): the start's screen is over, or was skipped; LOADED. `ft` is what the read of the function descriptor returns,
whole only where it could be read (R127). -/
def doStartComplete (ft : List W256) (s : State) : State :=
  if s.isl.st != .selftest || s.isl.pf || !(s.scr.phase == 5 || (s.scr.quick && s.scr.phase == 0)) then s
  else
    let (seed, s) := takeSeed (serveGateIn (startPairs (redrawSpares (loadedValues ft (emit (.read Config.ftBase.toNat 61504) s)))))
    changeState .loaded (policyTables seed s)

/-- START_COMPLETE. -/
def execStartComplete (s : State) (ft : List W256 := []) : Host.Outcome State Fault Refusal := .next (atHub (doStartComplete ft) s)

/-! ### Supplies that fall and rise (R561, R589, R592, R593) -/

/-- Every VDD_CORE rail is down: the hub is lost, a message that waits for its RESPONSE gets FENCED (R557), and the block is in ISLAND,
or stays in SEALED once a HUB_SCAN has run (R592). -/
def coreFalls (s : State) : State :=
  let busy := s.isl.gateBusy
  let s := coreClear { s with isl := { s.isl with corePg := 0, pllLock := false, pf := false } }
  let s := whenS busy (gateRespond (fld s.isl.gateTx 16 16) stFenced 0) s
  changeState .island (logRecover s)

/-- CORE_PG_FALL (R589, R593). While HUB_SCANNED is 1 the island ignores CORE_PG (R592). -/
def doCorePgFall (bits : BitVec 16) (s : State) : State :=
  let fell := s.isl.corePg &&& bits
  let left := s.isl.corePg &&& ~~~bits
  if s.isl.st == .off || s.scr.hubScanned || fell == 0 then s
  else if s.isl.st == .island then { s with isl := { s.isl with corePg := left } }
  else if left == 0 then coreFalls s
  else foldS ((List.range 16).filter (fun r => fell.getLsbD r)) (fun r t => raiseIsland Kind.pwrVddLow dieLoc (detail r none none) t)
    { s with isl := { s.isl with corePg := left } }

/-- CORE_PG_FALL. -/
def execCorePgFall (bits : BitVec 16) (s : State) : Host.Outcome State Fault Refusal := .next (doCorePgFall bits s)

/-- CORE_PG_RISE (R561, R592): the level alone changes; the hub's start is CORE_POWER_GOOD. -/
def execCorePgRise (bits : BitVec 16) (s : State) : Host.Outcome State Fault Refusal :=
  .next (if s.isl.st == .off || s.scr.hubScanned then s else { s with isl := { s.isl with corePg := s.isl.corePg ||| bits } })

/-! ### Power fail (R55, R195, R224, R363, R392, R603, R604) -/

/-- Stops are abandoned without a record; a STOP command that waited for its own completes SUSPECT (R363). -/
def abandonStops (s : State) : State :=
  let l := s.fab.mcasts.filter (fun m => m.stop)
  let s : State := { s with fab := { s.fab with stops := [] } }
  foldS l (fun m t => updMcast m.comp m.tag (fun x => { x with status := stSuspect }) t) s

/-- Running slices abort as under R49, and a start's or a closing screen stops (R377, R392, R603). -/
def stopScreen (s : State) : State :=
  let s := abortSlices (fun _ => true) s
  if s.isl.st != .selftest && s.isl.st != .closing then s else { s with scr := { s.scr with phase := 0 } }

/-- PF_WARN. -/
def doPfWarn (s : State) : State :=
  if s.isl.st == .off || s.isl.pf then s
  else if !s.hubUp then { s with isl := { s.isl with pf := true } }
  else
    let s := sysBoth 1 s.isl.st.code { s with isl := { s.isl with pf := true } }
    let s := if s.inLoaded then
        let s := abandonStops (foldS (List.range 16) abandonEpoch s)
        dropSends true 0 (fun e => e.st == .provisional) s
      else s
    pfFlush (stopScreen (abandonAlign s))

/-- PF_WARN. -/
def execPfWarn (s : State) : Host.Outcome State Fault Refusal := .next (doPfWarn s)

/-- PF_WARN_RELEASE (R604). -/
def doPfWarnRelease (s : State) : State :=
  if !s.isl.pf then s
  else
    let s : State := { s with isl := { s.isl with pf := false } }
    if !s.hubUp then s
    else
      let s := sysBoth 2 s.isl.st.code { s with recd := { s.recd with pfHold := false } }
      if s.isl.st == .closing || (s.isl.st == .selftest && !s.scr.quick) then startScreen s else s

/-- PF_WARN_RELEASE. -/
def execPfWarnRelease (s : State) : Host.Outcome State Fault Refusal := .next (doPfWarnRelease s)

/-! ### Opening and closing compartments (R599, R600) -/

def fCompRefused (c : Nat) : RF := ⟨0x0100 + 8 * c, 5, 1, 0⟩

/-- An OPEN or CLOSE refused. -/
def compRefuse (c : Nat) (s : State) : State := s.setRf (fCompRefused c) 1

/-- COMP_OPEN (R599). -/
def doCompOpen (c : Nat) (s : State) : State :=
  let first := s.isl.st == .loaded
  if !((s.comp c).st == .closed && (first || s.isl.st == .opened) && !s.cmd.dieStop) then compRefuse c s
  else if first && !s.gov.tablesOk then compRefuse c (raiseHub uCruise Kind.startCheck (hubLoc uCruise) 0 s)
  else if first && !((pairOf false s).st == .serving || (pairOf true s).st == .serving) then compRefuse c s
  else
    let s := updComp c (fun p => { p with st := .opened, causes := [], expelled := false, closeEt := none }) s
    let s : State := { s with jrn := { s.jrn with nextJsn := s.jrn.nextJsn.put c 0 }, gov := { s.gov with periodStart := s.gov.periodStart.put c s.et, dieBase := s.gov.dieBase.put c s.gov.dieBusy } }
    let s := whenS (s.col.quietComps.contains c) (fun t => pushOrder ⟨true, .comp c⟩ t) s
    let mine := (List.range 144).filter (fun u => assigned s u == some c)
    whenS first (changeState .opened) (foldS mine (fun u t => serveTap u c t) s)

/-- COMP_OPEN. -/
def execCompOpen (c : Nat) (s : State) : Host.Outcome State Fault Refusal := .next (hubReg (doCompOpen c) s)

/-- Commands not completed, other than NOP and STATUS, complete FENCED (R543, R600). -/
def fenceCommands (c : Nat) (s : State) : State :=
  let l := (s.comp c).held.filter (fun h => h.stage != .completed && decide (fld h.pkt 0 8 > 2))
  let s := updComp c (fun p => { p with held := p.held.map (fun h => if h.stage != .completed && decide (fld h.pkt 0 8 > 2) then { h with stage := .executing } else h) }) s
  foldS l (fun h t => completeCmd c (fld h.pkt 16 16) (fld h.pkt 0 8) stFenced 0 t) s

/-- The tensor entries, extents, fold state and staged entries of a compartment go (R600). -/
def freeTensors (c : Nat) (s : State) : State :=
  let mine := s.dig.tensors.filter (fun e => e.2.comp == c)
  let ext (i : Nat) : Bool := mine.any (fun e => decide (e.2.extFirst ≤ i ∧ i < e.2.extFirst + e.2.extCount))
  { s with dig := { s.dig with
    tensors := s.dig.tensors.filter (fun e => e.2.comp != c), extents := s.dig.extents.filter (fun e => !ext e.1),
    stagedTensors := s.dig.stagedTensors.filter (fun e => e.2.1 != c), stagedExtents := s.dig.stagedExtents.filter (fun e => e.2.1 != c),
    folds := s.dig.folds.filter (fun e => !mine.any (fun m => m.1 == e.1 / 16)), comps := s.dig.comps.del c } }

/-- The latches, send accounting, cords, rings, buffers and keys of a compartment go (R600 steps 3 and 4). -/
def freeComp (c : Nat) (s : State) : State :=
  let keep (k : Nat) : Bool := nfld k 17 4 != c
  let f := s.fab
  let s : State := { s with fab := { f with
    latches := f.latches.filter (fun e => e.2.comp != c), pendOps := f.pendOps.filter (fun p => p.2.2.1 != c), stops := f.stops.del c,
    granted := f.granted.keep (fun k _ => keep k), marked := f.marked.keep (fun k _ => keep k), landed := f.landed.keep (fun k _ => keep k),
    targets := f.targets.keep (fun k _ => keep k), acctLost := setDel f.acctLost c } }
  let j := s.jrn
  let s : State := { s with jrn := { j with
    cords := j.cords.filter (fun e => e.2.comp != c), rings := j.rings.del c, redirs := j.redirs.filter (fun r => r.2.2 != c) } }
  let s : State := { s with obs := { s.obs with tallyBuf := s.obs.tallyBuf.del c, traces := s.obs.traces.del c }, capKeys := s.capKeys.del c }
  let taps := (s.esc.pools.filter (fun p => p.2.comp == some c)).map (fun p => p.1)
  let s := foldS taps unserveTap s
  sparesIdle (freeTensors c ((s.setJf c fCmdEnable 0).setJf c fCplEnable 0))

/-- A compartment closes, in the order of R600. -/
def closeComp (c : Nat) (s : State) : State :=
  let s := dropSends true 0 (fun e => e.comp == c) (fenceCommands c s)
  let s := stopDigest c (dropChecks c (endSkids c (freeInbound c s)))
  let s := freeComp c (dropWrites c s)
  updComp c (fun p => { p with st := .closed, causes := [], expelled := false, closeEt := some s.et }) s

/-- COMP_CLOSE (R600). -/
def doCompClose (c : Nat) (s : State) : State := if (s.comp c).st == .closed then compRefuse c s else closeComp c s

/-- COMP_CLOSE. -/
def execCompClose (c : Nat) (s : State) : Host.Outcome State Fault Refusal := .next (hubReg (doCompClose c) s)

/-- RECANT_WAIT_EXPIRY (R600): 10 ms after the close. -/
def doRecantWaitExpiry (c : Nat) (s : State) : State :=
  match (s.comp c).closeEt with
  | some t =>
    if s.et < t + 4000000 then s
    else foldS (s.esc.entries.filter (fun e => e.2.comp == c && e.2.st == .recanting)) (fun e u => freeEntry e.1 u)
      (updComp c (fun p => { p with closeEt := none }) s)
  | none => s

/-- RECANT_WAIT_EXPIRY. -/
def execRecantWaitExpiry (c : Nat) (s : State) : Host.Outcome State Fault Refusal := .next (atHub (doRecantWaitExpiry c) s)

/-! ### Sealing (R601, R602) -/

/-- SEAL_REQUEST (R601). -/
def doSealRequest (c : Nat) (s : State) : State :=
  if s.isl.st != .loaded && s.isl.st != .opened then compRefuse c s
  else
    let s := changeState .drain { s with cmd := { s.cmd with drainEt := some s.et } }
    foldS ((List.range 16).filter (fun d => (s.comp d).st != .closed)) closeComp s

/-- SEAL_REQUEST. -/
def execSealRequest (c : Nat) (s : State) : Host.Outcome State Fault Refusal := .next (hubReg (doSealRequest c) s)

/-- The Journal Unit, the Stream Port, the Cruise Engine and the Recorder have nothing left (R601). -/
def drainDone (s : State) : Bool :=
  s.jrn.cords.isEmpty && s.jrn.spills.isEmpty && s.cmd.xfers.isEmpty && s.cmd.xwait.isEmpty && s.gov.samples.isEmpty && s.gov.mismatched.isEmpty
    && s.recd.input.isEmpty && s.recd.waitHw.isEmpty && s.recd.waitPair.isEmpty && s.recd.unflushed.isEmpty && (List.range 16).all (fun c => (s.comp c).st == .closed)

/-- Entry to CLOSING (R602): leases OFF, and the closing screen. -/
def enterClosing (s : State) : State :=
  let s : State := { s with col := { s.col with leases := s.col.leases.mapV (fun _ l => { l with enable := false, state := .off }) } }
  startScreen (changeState .closing { s with cmd := { s.cmd with drainEt := none } })

/-- DRAIN_COMPLETE (R601). -/
def execDrainComplete (s : State) : Host.Outcome State Fault Refusal := .next (atHub (fun s => if s.isl.st == .drain && drainDone s then enterClosing s else s) s)

/-- DRAIN_TIMEOUT (R601): 100 ms after entry to DRAIN what remains is dropped, and CLOSE_LATE raised. -/
def doDrainTimeout (s : State) : State :=
  match s.isl.st, s.cmd.drainEt with
  | .drain, some t =>
    if s.et < t + 40000000 then s
    else
      let s : State := { s with cmd := { s.cmd with xfers := [], xwait := [] }, jrn := { s.jrn with cords := [], spills := [], fetches := [] } }
      let s : State := { s with gov := { s.gov with samples := [], mismatched := [] }, recd := { s.recd with unflushed := [], retryPage := none } }
      enterClosing (raiseHub uCollector Kind.closeLate dieLoc 0 s)
  | _, _ => s

/-- DRAIN_TIMEOUT. -/
def execDrainTimeout (s : State) : Host.Outcome State Fault Refusal := .next (atHub doDrainTimeout s)

/-- The hub's root keys, capture keys and key stores are zeroed (R371, R602). -/
def zeroKeys (s : State) : State :=
  { s with dig := { s.dig with comps := s.dig.comps.mapV (fun _ d => { d with root := 0, rootNext := none }) },
           capKeys := [], recd := { s.recd with keys := [] } }

/-- CLOSING_COMPLETE (R387, R390, R602): phase 5 of the closing screen: the fell map, the record, then SEALED. -/
def doClosingComplete (wrote : Bool) (s : State) : State :=
  if s.isl.st != .closing || s.scr.phase != 5 || s.isl.pf then s
  else
    let s := whenS (s.col.fellOwed && wrote) writeFell s
    let s := if wrote then writeClosing s else recordFailed { s with scr := { s.scr with recordOwed := true } }
    changeState .sealed (writePointer (zeroKeys { s with scr := { s.scr with phase := 0 } }))

/-- CLOSING_COMPLETE. -/
def execClosingComplete (wrote : Bool) (s : State) : Host.Outcome State Fault Refusal := .next (atHub (doClosingComplete wrote) s)

end Sys2Proof.Machine
end

