-- ==== Sys2Proof/Machine/MPage.lean ====
section
/-! DEFINITION. The management page: every register's fields, what a read returns and clears, what a write sets and starts
(17_commands_and_registers R553–R557, and the register rules of the other chapters). An offset here is that of an aligned 8-byte word;
the halves of it that an access names are 1, 2 or 3. -/
namespace Sys2Proof.Machine

/-! ### Fields (R14) -/

/-- How a field that the register file keeps answers reads and writes (R14). -/
inductive Acc where
  | ro | rw | w1c | rc
deriving DecidableEq, Repr

/-- A field with its access code. -/
structure Fld where
  f : RF
  acc : Acc
deriving DecidableEq, Repr

/-- The bits of an 8-byte word that an access to halves h takes in. -/
def halfMask (h : Nat) : Nat := (if h.testBit 0 then 0xFFFFFFFF else 0) + (if h.testBit 1 then 0xFFFFFFFF00000000 else 0)
/-- A field lies in the halves of an access. -/
def inHalf (h : Nat) (f : RF) : Bool := h.testBit (f.lo / 32)
/-- Bits of v taken under a mask, the others of old kept. -/
def merge (mask old v : Nat) : Nat := (old - (old &&& mask)) + (v &&& mask)

def fPrecRec : RF := ⟨0x0900, 0, 8, 0⟩
def fPrecComp : RF := ⟨0x0900, 8, 4, 0⟩
def fPrecLease : RF := ⟨0x0900, 12, 5, 0⟩
def fPrecDone : RF := ⟨0x0900, 19, 1, 0⟩
def fPrecStatus : RF := ⟨0x0900, 20, 4, 0⟩
def fPrecData (k : Nat) : RF := ⟨0x0920 + 8 * k, 0, 64, 0⟩
def fSevKind : RF := ⟨0x0940, 0, 12, 0⟩
def fSevClass : RF := ⟨0x0940, 12, 3, 0⟩
def fSevEntry : RF := ⟨0x0940, 16, 8, 0⟩
def fSevDone : RF := ⟨0x0940, 26, 1, 0⟩
def fSevRefused : RF := ⟨0x0940, 27, 1, 0⟩
def fGrpId : RF := ⟨0x0980, 0, 16, 0⟩
def fGrpRange : RF := ⟨0x0980, 16, 6, 0⟩
def fGrpDone : RF := ⟨0x0980, 25, 1, 0⟩
def fGrpErr : RF := ⟨0x0980, 26, 2, 0⟩
def fGrpFirst : RF := ⟨0x0988, 0, 16, 0⟩
def fGrpLast : RF := ⟨0x0988, 16, 16, 0⟩
def fGrpComp : RF := ⟨0x0988, 32, 4, 0⟩
def fGrpValid : RF := ⟨0x0988, 36, 1, 0⟩
def fMatchEntry : RF := ⟨0x09C0, 0, 8, 0⟩
def fMatchValid : RF := ⟨0x09C0, 11, 1, 0⟩
def fMatchPeer : RF := ⟨0x09C0, 16, 16, 0⟩
def fAsgRefused (u : Nat) : RF := ⟨0x0400 + 8 * u, 5, 1, 0⟩
def fObsRefused : RF := ⟨0x1C00, 43, 1, 0⟩
def fSeqRefused : RF := ⟨0x2000, 16, 1, 0⟩

/-- The fields of an 8-byte word that the register file keeps (R329, R396, R372, R415, R440, R470, R493, R526, R554, R555). -/
def mFields (o : Nat) : List Fld :=
  if o < 0x100 then (if o = 8 then [⟨fDieIndex, .rw⟩, ⟨fDieSet, .rw⟩] else [])
  else if o < 0x180 then [⟨fCompRefused ((o - 0x100) / 8), .w1c⟩]
  else if o < 0x400 then []
  else if o < 0x8C0 then [⟨fAsgRefused ((o - 0x400) / 8), .w1c⟩]
  else if o < 0xC00 then
    match o with
    | 0x900 => [⟨fPrecRec, .rw⟩, ⟨fPrecComp, .rw⟩, ⟨fPrecLease, .rw⟩, ⟨fPrecDone, .ro⟩, ⟨fPrecStatus, .rc⟩]
    | 0x920 => [⟨fPrecData 0, .rw⟩]
    | 0x928 => [⟨fPrecData 1, .rw⟩]
    | 0x930 => [⟨fPrecData 2, .rw⟩]
    | 0x938 => [⟨fPrecData 3, .rw⟩]
    | 0x940 => [⟨fSevKind, .rw⟩, ⟨fSevClass, .rw⟩, ⟨fSevEntry, .rw⟩, ⟨fSevDone, .ro⟩, ⟨fSevRefused, .w1c⟩]
    | 0x980 => [⟨fGrpId, .rw⟩, ⟨fGrpRange, .rw⟩, ⟨fGrpDone, .ro⟩, ⟨fGrpErr, .rc⟩]
    | 0x988 => [⟨fGrpFirst, .rw⟩, ⟨fGrpLast, .rw⟩, ⟨fGrpComp, .rw⟩, ⟨fGrpValid, .rw⟩]
    | 0x9C0 => [⟨fMatchEntry, .rw⟩, ⟨fMatchValid, .rw⟩, ⟨fMatchPeer, .rw⟩]
    | _ => []
  else if o < 0x1000 then
    match o with
    | 0xC00 => [⟨fRatioRefused, .w1c⟩]
    | 0xC08 => [⟨fTimeMode, .rw⟩, ⟨fRoot, .rw⟩, ⟨fExch, .rw⟩, ⟨fParent, .rw⟩, ⟨fChildren, .rw⟩]
    | 0xC10 => [⟨fQuality, .ro⟩, ⟨fDepth, .ro⟩, ⟨fTimeRefused, .w1c⟩, ⟨fOffset, .ro⟩]
    | 0xD00 => [⟨fIdleEn, .rw⟩, ⟨fQuickEn, .rw⟩, ⟨fTrustH, .rw⟩, ⟨fTrustTemp, .rw⟩, ⟨fIdleUs, .rw⟩, ⟨fPeriodH, .rw⟩]
    | 0xD10 => [⟨fTapRefused, .w1c⟩]
    | _ => []
  else if o < 0x1100 then
    match o with
    | 0x1000 => [⟨fWarn, .rw⟩, ⟨fThrottle, .rw⟩, ⟨fTrip, .rw⟩, ⟨fDieTrip, .rw⟩, ⟨fHyst, .rw⟩, ⟨fThrN, .rw⟩, ⟨fThrStep, .rw⟩,
        ⟨fThrMax, .rw⟩, ⟨fRise, .rw⟩, ⟨fPaced, .rw⟩, ⟨fThermRefused, .w1c⟩, ⟨fGuard, .rw⟩]
    | 0x1008 => [⟨fMWarn, .rw⟩, ⟨fMDroop, .rw⟩, ⟨fDroopN, .rw⟩, ⟨fDroopHold, .rw⟩, ⟨fMarginRefused, .w1c⟩]
    | _ => []
  else if o < 0x1180 then [⟨fFloor ((o - 0x1100) / 8), .rw⟩]
  else
    match o with
    | 0x1B00 => [⟨fMemEn, .rw⟩, ⟨fCmemEn, .rw⟩, ⟨fMemRefused, .w1c⟩, ⟨fHubInt, .rw⟩, ⟨fCmemInt, .rw⟩]
    | 0x1C00 => [⟨fTallyMs, .rw⟩, ⟨fHangMs, .rw⟩, ⟨fLock, .rw⟩, ⟨fObsRefused, .w1c⟩]
    | 0x1C08 => [⟨fObsSpace, .rw⟩, ⟨fObsSlot, .rw⟩, ⟨fObsIndex, .rw⟩, ⟨fObsDone, .ro⟩, ⟨fObsErr, .rc⟩]
    | 0x1C10 => [⟨fSelEvent, .rw⟩, ⟨fSelCore, .rw⟩, ⟨fSelKind, .rw⟩]
    | 0x1C18 => [⟨fObsData, .ro⟩]
    | 0x1D00 => [⟨fFlushEn, .rw⟩, ⟨fRecRefused, .w1c⟩, ⟨fFreezeS, .rw⟩, ⟨fFlushMs, .rw⟩]
    | 0x1D20 => [⟨fFzCount, .rw⟩]
    | 0x1D28 => [⟨fRecSlot, .rw⟩, ⟨fRecDone, .ro⟩, ⟨fRecErr, .rc⟩]
    | 0x1D30 => [⟨fRateCode, .rw⟩, ⟨fRateRate, .rw⟩, ⟨fRateBurst, .rw⟩, ⟨fRateSupp, .ro⟩]
    | 0x1E00 => [⟨fCellAddr, .rw⟩, ⟨fCellDone, .ro⟩, ⟨fCellErr, .rc⟩]
    | 0x2000 => [⟨fTurnMax, .rw⟩, ⟨fSeqRefused, .w1c⟩]
    | _ => []

/-- A 4-byte unit of the page that holds a register (R553). -/
def mKnown (o : Nat) : Bool :=
  o < 0x14 || o == 0x18 || within 0x100 0x17F o || within 0x400 0x8BF o || within 0x900 0x907 o || within 0x920 0x943 o
    || o == 0x980 || within 0x988 0x98F o || o == 0x9C0 || within 0xC00 0xC23 o || within 0xD00 0xD13 o || o == 0xD20 || o == 0xD28
    || within 0xD30 0xD47 o || within 0xE00 0xF47 o || within 0x1000 0x100F o || within 0x1100 0x117F o || within 0x1200 0x1897 o
    || within 0x1A00 0x1AC3 o || within 0x1B00 0x1B13 o || within 0x1B20 0x1B3F o || within 0x1C00 0x1C0B o || o == 0x1C10
    || within 0x1C18 0x1C1F o || within 0x1D00 0x1D23 o || o == 0x1D28 || within 0x1D30 0x1D37 o || within 0x1D40 0x1D7F o
    || o == 0x1E00 || within 0x1E20 0x1E3F o || within 0x2000 0x201F o || o == 0x2100 || within 0x2140 0x21BF o

/-! ### Reading -/

/-- The fields of a word that the register file keeps, in their places. -/
def storedWord (s : State) (o : Nat) : Nat := (mFields o).foldl (fun v x => nset v x.f.lo x.f.len (s.rf x.f)) 0

/-- ROLE and ACTING of M_ASSIGN (R251, R555). -/
def assignRole (s : State) (u : Nat) : Nat × Nat :=
  let l := if u < 128 then clusterLoc u else if u < 144 then slabLoc (u - 128) else hcoreLoc (u - 144)
  if felled s l then (5, 0)
  else if fenced s l then (4, 0)
  else match (if u < 128 then s.jrn.spares.find? u else none) with
    | some (.acting n) => (3, n)
    | some _ => (2, 0)
    | none => (if (assigned s u).isSome then 1 else 0, 0)

/-- M_SENSOR (R415). -/
def sensorReg (s : State) (i : Nat) : Nat :=
  let x := s.ro i
  pack [(16, (x.temp.emod 65536).toNat), (8, (x.trim.emod 256).toNat), (1, b2n x.cal), (1, b2n x.excl), (2, 0),
        (4, if i < 128 then (s.scope i).n else 0)]

/-- M_CANARY (R415). -/
def canaryReg (s : State) (i : Nat) : Nat :=
  let x := s.canary i
  pack [(4, x.m3), (4, x.m4), (4, x.least), (1, b2n x.excl), (3, 0), (16, x.droops)]

/-- The live fields of M_REGION_THERM (R415); FLOOR is kept in the register file. -/
def regionReg (s : State) (r : Nat) : Nat :=
  let ws := wardenSensors r
  let rate := (maxInt (((List.range 8).map (fun k => 8 * r + k) ++ ws).filterMap (roRate s))).getD 0
  pack [(16, (((diodeOf s r).getD 0).emod 65536).toNat), (4, (s.scope (128 + r)).n), (4, 0), (3, regionTherm s r), (5, 0),
        (16, (((maxInt (ws.map (fun i => (s.ro i).temp))).getD 0).emod 65536).toNat), (16, ((rate / 16).emod 65536).toNat)]

/-- M_BANK_OWN; a handover and a window's test are over when their command is (R440). -/
def bankReg (s : State) (b : Nat) : Nat :=
  let x := s.bank b
  if b > 48 then 0
  else pack [(4, ownerCode s b), (3, 0), (1, b2n x.refused), (7, x.remaps), (1, 0), (8, x.ce), (8, x.ue)]

/-- The status bits of a compartment that J_STATE and M_COMP share (R550, R554). -/
def compCode (s : State) (c : Nat) : Nat := (s.comp c).st.code
/-- A send-accounting entry of the compartment was lost (R352). -/
def lostAcct (s : State) (c : Nat) : Nat := b2n (s.fab.acctLost.contains c)

/-- M_SEQ_STATUS (R526). -/
def seqStatus (s : State) : Nat :=
  pack [(1, b2n s.seq.servingB), (3, s.seq.pairA.st.code), (3, s.seq.pairB.st.code), (1, 0), (16, s.seq.pairA.pc), (16, s.seq.pairB.pc),
        (16, s.seq.longest), (8, s.seq.stopCount)]

/-- The fields of a word that other state holds. -/
def mLive (s : State) (o : Nat) : Nat :=
  if o < 0x100 then
    match o with
    | 0x00 => s.fuse.dieId.toNat
    | 0x10 => s.isl.st.code
    | 0x18 => pack [(1, b2n s.isl.accErr), (1, b2n s.hubUp), (1, b2n s.isl.pf), (1, b2n s.isl.excPending)]
    | _ => 0
  else if o < 0x180 then
    let c := (o - 0x100) / 8
    pack [(3, compCode s c), (3, 0), (1, lostAcct s c), (1, 0), (12, (s.comp c).cause)]
  else if o < 0x400 then 0
  else if o < 0x8C0 then
    let u := (o - 0x400) / 8
    let (role, act) := assignRole s u
    pack [(5, s.cmd.assigns.get u 0), (3, 0), (3, role), (4, act)]
  else if o < 0xE00 then
    match o with
    | 0x9C0 => pack [(10, 0), (1, match s.tim.peers.find? (s.rf fMatchEntry) with
        | some m => b2n (matchFresh s m)
        | none => 0)]
    | 0xC00 => pack [(16, (List.range 16).foldl (fun n r => n + 2 ^ r * b2n (match s.tim.switches.find? r with
        | some (_, d) => d
        | none => s.div4 r)) 0), (16, (List.range 16).foldl (fun n r => n + 2 ^ r * b2n (s.tim.switches.has r)) 0)]
    | 0xC18 => s.et % 2 ^ 32 + 2 ^ 32 * s.rf fEtHi
    | 0xC20 => pack [(12, 0), (1, b2n (s.tim.slewLeft != 0))]
    | 0xD08 => pack [(3, if s.isl.st = .selftest then 6 else s.scr.phase), (1, b2n s.scr.quick), (12, 0), (16, s.scr.done), (16, s.scr.failed),
        (16, s.scr.aborts)]
    | 0xD10 => pack [(1, b2n s.isl.priv), (1, 0), (1, b2n s.scr.hubScanned), (13, 0), (16, s.scr.lastUnit)]
    | 0xD20 => pack [(6, s.recd.cper.length), (10, 0), (16, s.recd.cperLost)]
    | 0xD30 => s.isl.wall
    | 0xD38 => pack [(48, s.isl.sec), (16, s.isl.boots)]
    | _ => 0
  else if o < 0xF48 then fld (s.recd.cper.headD 0) (8 * (o - 0xE00)) 64
  else if o < 0x1100 then 0
  else if o < 0x1180 then regionReg s ((o - 0x1100) / 8)
  else if o < 0x1200 then 0
  else if o < 0x1500 then
    let i := (o - 0x1200) / 4
    sensorReg s i + 2 ^ 32 * sensorReg s (i + 1)
  else if o < 0x1800 then
    let i := (o - 0x1500) / 4
    canaryReg s i + 2 ^ 32 * canaryReg s (i + 1)
  else if o < 0x1898 then railReg s ((o - 0x1800) / 8)
  else if o < 0x1A00 then 0
  else if o < 0x1AC8 then
    let b := (o - 0x1A00) / 4
    bankReg s b + 2 ^ 32 * bankReg s (b + 1)
  else if o < 0x1B20 then
    match o with
    | 0x1B08 => pack [(6, s.bnk.lastBank), (7, s.bnk.lastWindow), (7, s.bnk.repairs.length), (12, 0), (16, s.bnk.passes), (16, s.bnk.failsW)]
    | 0x1B10 => pack [(6, s.bnk.ptrBank), (14, s.bnk.ptrWord), (2, 0), (1, b2n s.bnk.ptrDone), (2, s.bnk.ptrErr)]
    | _ => 0
  else if o < 0x1B40 then fld s.bnk.data (8 * (o - 0x1B20)) 64
  else if o < 0x1D40 then
    match o with
    | 0x1C00 => pack [(40, 0), (3, (freeTally s).getD s.obs.nextSlot)]
    | 0x1D08 =>
      let (first, n) := match s.recd.freeze with
        | some f => (f.first, f.count)
        | none => (0, 0)
      pack [(15, s.recd.head), (1, b2n s.recd.freeze.isSome), (15, first), (1, b2n s.recd.pending.isSome), (15, n), (1, 0), (16, s.recd.lostCellar)]
    | 0x1D10 => s.recd.rseq
    | 0x1D18 => s.recd.flushed
    | _ => 0
  else if o < 0x1D80 then fld s.recd.data (8 * (o - 0x1D40)) 64
  else if o < 0x1E20 then 0
  else if o < 0x1E40 then fld s.recd.cellarData (8 * (o - 0x1E20)) 64
  else if o < 0x2140 then
    match o with
    | 0x2008 => seqStatus s
    | 0x2010 => (progWord s false 1).toNat
    | 0x2018 => (progWord s true 1).toNat
    | 0x2100 => pack [(1, 0), (1, b2n s.isl.gateBusy), (1, b2n s.isl.gateValid), (1, 0), (2, s.isl.gateErr)]
    | _ => 0
  else if o < 0x2180 then fld s.isl.gateTx (8 * (o - 0x2140)) 64
  else if o < 0x21C0 then fld s.isl.gateRx (8 * (o - 0x2180)) 64
  else 0

/-- What a read of halves h of a word returns; a 64-bit read of ET takes both halves at one instant (R329, R549). -/
def mValue (s : State) (o h : Nat) : Nat :=
  let v := if o = 0xC18 ∧ h = 3 then s.et else storedWord s o + mLive s o
  if h = 2 then v / 2 ^ 32 else if h = 1 then v % 2 ^ 32 else v % 2 ^ 64

/-- What a read does: RC fields read are cleared, and a read of the low half of ET latches the upper (R14, R329). -/
def mReadFx (o h : Nat) (s : State) : State :=
  let s := foldS ((mFields o).filter (fun x => x.acc == .rc && inHalf h x.f)) (fun x t => t.setRf x.f 0) s
  let lo := h.testBit 0
  let hi := h.testBit 1
  if o = 0xC18 then whenS lo (latchEt none) s
  else if o = 0xD08 then whenS hi (fun t => { t with scr := { t.scr with aborts := 0 } }) s
  else if o = 0xD20 then whenS lo (fun t => { t with recd := { t.recd with cperLost := 0 } }) s
  else if within 0x1500 0x17FF o then
    let i := (o - 0x1500) / 4
    whenS hi (updCanary (i + 1) (fun x => { x with least := 15, droops := 0 })) (whenS lo (updCanary i (fun x => { x with least := 15, droops := 0 })) s)
  else if within 0x1A00 0x1AC7 o then
    let b := (o - 0x1A00) / 4
    whenS (hi && decide (b < 48)) (updBank (b + 1) (fun x => { x with ce := 0, ue := 0 })) (whenS lo (updBank b (fun x => { x with ce := 0, ue := 0 })) s)
  else if o = 0x1B08 then whenS hi (fun t => { t with bnk := { t.bnk with failsW := 0 } }) s
  else if o = 0x1B10 then whenS lo (fun t => { t with bnk := { t.bnk with ptrErr := 0 } }) s
  else if o = 0x1D08 then whenS hi (fun t => { t with recd := { t.recd with lostCellar := 0 } }) s
  else if o = 0x2008 then whenS hi (fun t => { t with seq := { t.seq with longest := 0, stopCount := 0 } }) s
  else if o = 0x2100 then whenS lo (fun t => { t with isl := { t.isl with gateErr := 0 } }) s
  else s

/-! ### Writing fields -/

/-- The value an RW field takes from a write: some fields ignore or correct a value out of range (R329, R396). -/
def fieldNorm (f : RF) (old new : Nat) : Nat :=
  if f = fTimeMode then (if new = 3 then old else new)
  else if f = fExch then max new 16
  else if f = fTrustH then min new 72
  else if f = fTrustTemp then (if within 60 125 new then new else old)
  else if f = fIdleUs then (if within 1 1000 new then new else old)
  else if f = fPeriodH then (if within 1 8760 new then new else old)
  else new

/-- A write of the bits under a mask, by the access code of each field (R14). -/
def storedWrite (o mask v : Nat) (s : State) : State :=
  foldS (mFields o) (fun x t =>
    let m := nfld mask x.f.lo x.f.len
    let n := nfld v x.f.lo x.f.len
    let old := t.rf x.f
    match x.acc with
    | .rw => if m = 0 then t else t.setRf x.f (fieldNorm x.f old (merge m old n))
    | .w1c => t.setRf x.f (old - (old &&& (m &&& n)))
    | .ro | .rc => t) s

/-- REFUSED of a register that refuses a write out of range as a whole (R415, R440, R470, R493, R526). -/
def refusal (o : Nat) : Option RF :=
  match o with
  | 0x1000 => some fThermRefused
  | 0x1008 => some fMarginRefused
  | 0x1B00 => some fMemRefused
  | 0x1C00 => some fObsRefused
  | 0x1D00 => some fRecRefused
  | 0x1D20 => some fRecRefused
  | 0x2000 => some fSeqRefused
  | _ => none

/-- The register's fields lie in their ranges and order. -/
def rangesOk (s : State) (o : Nat) : Bool :=
  let f (x : RF) : Nat := s.rf x
  match o with
  | 0x1000 => within 40 125 (f fWarn) && decide (f fWarn < f fThrottle) && decide (f fThrottle < f fTrip) && within 0 125 (f fTrip)
      && within (f fTrip) 125 (f fDieTrip) && within 1 15 (f fHyst) && within 1 15 (f fThrN) && within 1 8 (f fThrStep)
      && within (f fThrN) 15 (f fThrMax) && within 0 500 (f fRise)
  | 0x1008 => within 1 15 (f fMWarn) && decide (f fMDroop < f fMWarn) && within 1 15 (f fDroopN) && within 1 4095 (f fDroopHold)
  | 0x1B00 => within 5 60000 (f fHubInt) && within 10 60000 (f fCmemInt)
  | 0x1C00 => within 0 60000 (f fTallyMs) && within 0 60000 (f fHangMs)
  | 0x1D00 => within 1 60 (f fFreezeS) && within 1 1000 (f fFlushMs)
  | 0x1D20 => within 0 24576 (f fFzCount)
  | 0x2000 => within 10 60000 (f fTurnMax)
  | _ => true

/-- The fields of a write stored, or the whole write refused. -/
def writeFields (o mask v : Nat) (s : State) : Bool × State :=
  let t := storedWrite o mask v s
  match refusal o with
  | some f => if rangesOk t o then (true, t) else (false, s.setRf f 1)
  | none => (true, t)

/-! ### What a write starts (R312, R324, R555, R557) -/

/-- A write of M_ASSIGN (R555): refused where the unit is felled, a spare, or has a live cord PLACED on it. -/
def doAssign (u v : Nat) (s : State) : State :=
  let l := if u < 128 then clusterLoc u else if u < 144 then slabLoc (u - 128) else hcoreLoc (u - 144)
  if felled s l || s.jrn.spares.has u || s.jrn.cords.any (fun e => e.2.st != .settled && covers l e.2.placed) then s.setRf (fAsgRefused u) 1
  else
    let old := assigned s u
    let t : State := { s with cmd := { s.cmd with assigns := s.cmd.assigns.putD u v 0 } }
    if u ≥ 144 || assigned t u = old then t
    else
      let s := resetScope u s
      let s := whenS old.isSome (unserveTap u) { s with cmd := { s.cmd with assigns := s.cmd.assigns.putD u v 0 } }
      match assigned s u with
      | some c => whenS (s.compLive c || (s.comp c).st == .stopped) (serveTap u c) s
      | none => s

/-- The access that M_PREC_SEL starts (R555). -/
def doPrec (write : Bool) (s : State) : State :=
  let n := s.rf fPrecRec
  let c := if n = 7 then s.rf fPrecLease else s.rf fPrecComp
  let data := pack ((List.range 4).map (fun k => (64, s.rf (fPrecData k))))
  let bad := recordLen n = 0 || c > 16
  let (st, s) := if bad then (stInvalid, s) else if write then putRecord n c data s
    else (stOk, foldS (List.range 4) (fun k t => t.setRf (fPrecData k) (nfld (readRecord s n c) (64 * k) 64)) s)
  (s.setRf fPrecDone 1).setRf fPrecStatus st

/-- The access that M_SEV starts (R276, R555). -/
def doSev (write : Bool) (s : State) : State :=
  let cls := s.rf fSevClass
  let kind := s.rf fSevKind
  let s := s.setRf fSevDone 1
  if write then
    let (good, s) := writeSev cls kind (s.rf fSevEntry) s
    whenS (!good) (fun t => t.setRf fSevRefused 1) s
  else s.setRf fSevEntry (sevEntry s cls kind)

/-- The access that M_GROUP_SEL starts: 0 WRITE, 1 READ, 2 DELETE (R337, R555). -/
def doGroup (what : Nat) (s : State) : State :=
  let g := s.rf fGrpId
  let k := s.rf fGrpRange
  let s := (s.setRf fGrpDone 1).setRf fGrpErr 0
  let rs : Tbl (Nat × Nat × Nat) := s.fab.groups.get g []
  let keep (t : Tbl (Nat × Nat × Nat)) (s : State) : State :=
    { s with fab := { s.fab with groups := if t.isEmpty then s.fab.groups.del g else s.fab.groups.put g t } }
  if g = 0 then s.setRf fGrpErr 1
  else if what = 0 then
    if s.rf fGrpFirst > s.rf fGrpLast then s.setRf fGrpErr 1
    else if s.rf fGrpValid = 0 then keep (rs.del k) s
    else if rs.isEmpty && decide (s.fab.groups.length ≥ 1024) then s.setRf fGrpErr 2
    else keep (rs.put k (s.rf fGrpFirst, s.rf fGrpLast, s.rf fGrpComp)) s
  else if what = 1 then
    let (first, last, comp) := rs.get k (0, 0, 0)
    (((s.setRf fGrpFirst first).setRf fGrpLast last).setRf fGrpComp comp).setRf fGrpValid (b2n (rs.has k))
  else keep [] s

/-- The access that M_MATCH starts; 255 names no entry (R328, R555). -/
def doMatch (write : Bool) (s : State) : State :=
  let e := s.rf fMatchEntry
  let fresh : Match := ⟨s.rf fMatchPeer, s.rf fMatchValid == 1, [], 0, 0, none, false⟩
  match s.tim.peers.find? e with
  | some m =>
    if !write then (s.setRf fMatchPeer m.peer).setRf fMatchValid (b2n m.valid)
    else if m.peer = fresh.peer ∧ m.valid = fresh.valid then s
    else { s with tim := { s.tim with peers := s.tim.peers.put e fresh } }
  | none =>
    if !write then (s.setRf fMatchPeer 0).setRf fMatchValid 0
    else if e < 255 then { s with tim := { s.tim with peers := s.tim.peers.put e fresh } } else s

/-- A change of M_TIME_CFG.MODE: MATCHED in matched mode, FREE in another (R319, R329). -/
def modeChange (old : Nat) (s : State) : State :=
  if s.rf fTimeMode = old then s else s.setRf fQuality (if s.rf fTimeMode = 2 then qMatched else qFree)

/-- SEND: the message in M_GATE_TX goes to its unit; a code that the catalogue does not let through is DENIED (R44, R556, R557). -/
def gateSend (s : State) : State :=
  let m := s.isl.gateTx
  let code := fld m 0 16
  let tag := fld m 16 16
  let body : BitVec 448 := BitVec.ofNat 448 (fld m 64 448)
  let reach (f : State → State) : State := atGate code tag body f s
  match code with
  | 0x10 => reach toGateIn
  | 0x11 => reach toGateIn
  | 0x20 => reach (doRootKey tag body)
  | 0x21 => reach (doCaptureKey tag body)
  | 0x30 => reach (doPackLoad tag body)
  | 0x31 => reach (doRecKey tag body)
  | 0x32 => reach (doRecClear tag body)
  | 0x33 => reach (doFellUndo tag body)
  | 0x40 => reach (doImageLoad tag body)
  | 0x41 => reach (doHandover tag)
  | _ => reach (fun t => gateRespond tag stDenied 0 (refuseCrossing code true islandLoc t))

/-- RX_POP (R557). -/
def gatePop (s : State) : State := { s with isl := { s.isl with gateValid := false } }

/-- A write of a 32-bit sensor register: TRIM, and REINSTATE (R415). -/
def writeSensor (i v : Nat) (s : State) : State :=
  whenS (v.testBit 26) (doReinstate i) (updRo i (fun x => { x with trim := sint 8 (nfld v 16 8) }) s)

/-- A write of M_BANK_OWN: REFUSED cleared by 1, then the OWNER request with KEEP (R440). -/
def writeOwner (b v : Nat) (s : State) : State :=
  if b > 48 then s
  else doBankOwn b (nfld v 0 4) (v.testBit 4) (whenS (v.testBit 7) (updBank b (fun r => { r with refused := false })) s)

/-- A write of M_VR_RAIL: PAGE applies to rails 16–18 only; VOUT_MODE is read once when the rail is enabled (R411, R415). -/
def writeRail (n v : Nat) (s : State) : State :=
  updRail n (fun x =>
    let en := v.testBit 7
    { x with addr := nfld v 0 7, en := en, page := if n ≥ 16 then nfld v 8 8 else x.page, vmode := if en && !x.en then none else x.vmode }) s

/-- What a write of halves h with value v starts in a word, once its fields are stored; `old` is the state before the write. -/
def mAct (o h v : Nat) (old s : State) : State :=
  let lo := h.testBit 0
  let hi := h.testBit 1
  let on (i : Nat) (f : State → State) (t : State) : State := whenS (h.testBit (i / 32) && v.testBit i) f t
  let mask := halfMask h
  if within 0x100 0x17F o then
    let c := (o - 0x100) / 8
    if lo && v.testBit 3 && v.testBit 4 then doSealRequest c s else on 4 (doCompClose c) (on 3 (doCompOpen c) s)
  else if within 0x400 0x8BF o then
    whenS lo (doAssign ((o - 0x400) / 8) (v % 32)) s
  else if within 0x1100 0x117F o then s
  else if within 0x1200 0x14FF o then
    let i := (o - 0x1200) / 4
    whenS hi (writeSensor (i + 1) (v / 2 ^ 32)) (whenS lo (writeSensor i (v % 2 ^ 32)) s)
  else if within 0x1800 0x1897 o then whenS lo (writeRail ((o - 0x1800) / 8) v) s
  else if within 0x1A00 0x1AC7 o then
    let b := (o - 0x1A00) / 4
    whenS hi (writeOwner (b + 1) (v / 2 ^ 32)) (whenS lo (writeOwner b (v % 2 ^ 32)) s)
  else if within 0x1B20 0x1B3F o then
    let k := 8 * (o - 0x1B20)
    { s with bnk := { s.bnk with data := BitVec.ofNat 256 (nset s.bnk.data.toNat k 64 (merge mask (fld s.bnk.data k 64) v)) } }
  else if within 0x2140 0x217F o then
    let k := 8 * (o - 0x2140)
    { s with isl := { s.isl with gateTx := BitVec.ofNat 512 (nset s.isl.gateTx.toNat k 64 (merge mask (fld s.isl.gateTx k 64) v)) } }
  else
    match o with
    | 0x18 => on 0 (fun t => { t with isl := { t.isl with accErr := false } }) s
    | 0x900 => on 18 (doPrec false) (on 17 (doPrec true) s)
    | 0x940 => on 25 (doSev false) (on 24 (doSev true) s)
    | 0x980 => on 24 (doGroup 2) (on 23 (doGroup 1) (on 22 (doGroup 0) s))
    | 0x9C0 => on 9 (doMatch false) (on 8 (doMatch true) s)
    | 0xC00 => whenS lo (writeRatio (v % 2 ^ 16)) s
    | 0xC08 => on 3 doAlign (modeChange (old.rf fTimeMode) s)
    | 0xC20 => whenS lo (doEtSlew (BitVec.ofNat 64 v)) s
    | 0xD00 => on 2 doExcursion s
    | 0xD10 => whenS lo (fun t => { t with isl := { t.isl with priv := v.testBit 0 } }) s
    | 0xD28 => on 0 doCperPop s
    | 0xD30 => { s with isl := { s.isl with wall := merge mask s.isl.wall v } }
    | 0xD40 => { s with isl := { s.isl with seed := merge mask s.isl.seed v, seedSet := true } }
    | 0x1B10 =>
      let s := whenS lo (fun t => { t with bnk := { t.bnk with ptrBank := nfld v 0 6, ptrWord := nfld v 6 14 } }) s
      on 21 doBankWrite (on 20 doBankRead s)
    | 0x1C08 => whenS (lo && nfld v 22 3 != 0) (obsCommand (v.testBit 22) (v.testBit 23) (v.testBit 24)) s
    | 0x1D20 => on 16 (endFreeze 1) (on 15 (doFreezeGo (s.rf fFzCount)) s)
    | 0x1D28 => on 15 (doRecRead (s.rf fRecSlot)) s
    | 0x1D30 => on 21 (fun t => doRateRead (t.rf fRateCode) t) (on 20 (fun t => doRateWrite (t.rf fRateCode) (t.rf fRateRate) (t.rf fRateBurst) t) s)
    | 0x1E00 => on 26 (fun t => doCellarRead (t.rf fCellAddr) t) s
    | 0x2100 => on 0 gateSend (on 3 gatePop s)
    | _ => s

/-- A write of halves h of a word. -/
def mWrite (o h v : Nat) (s : State) : State :=
  let mask := halfMask h
  if within 0x1100 0x117F o then withGates ((o - 0x1100) / 8) 2 (storedWrite o mask v) s
  else
    let (good, t) := writeFields o mask v s
    if good then mAct o h v s t else t

/-! ### Accesses (R47, R549, R553, R581) -/

/-- The halves of its word that an access takes in. -/
def halves (offset : Nat) (wide : Bool) : Nat := if wide then 3 else if offset % 8 = 0 then 1 else 2
/-- The value of an access in its place in the word. -/
def placed (offset : Nat) (wide : Bool) (v : Nat) : Nat := if wide then v % 2 ^ 64 else v % 2 ^ 32 * 2 ^ (8 * (offset % 8))
/-- A misaligned offset, or one without a register. -/
def badOffset (offset : Nat) (wide : Bool) : Bool := offset % (if wide then 8 else 4) != 0 || !mKnown offset

/-- One access to the M-page: status 0 done, 1 access error with ACC_ERR set, 2 reserved or misaligned offset; the data; the state
after it (R47, R553, R581). -/
def mAccess (offset : Nat) (wide write : Bool) (v : Nat) (s : State) : Nat × Nat × State :=
  let o := offset / 8 * 8
  let h := halves offset wide
  if s.isl.st = .off ∨ badOffset offset wide then (2, 0, s)
  else if !islandOffset offset && !s.hubUp then (1, 0, { s with isl := { s.isl with accErr := true } })
  else if write then (0, 0, mWrite o h (placed offset wide v) s)
  else (0, mValue s o h, mReadFx o h s)

/-- A write access alone. -/
def mPut (offset : Nat) (wide : Bool) (v : Nat) (s : State) : State := (mAccess offset wide true v s).2.2

end Sys2Proof.Machine
end

