-- ==== Sys2Proof/Machine/Registers.lean ====
section
/-! DEFINITION. The job page, and the commands that access registers of both pages (17_commands_and_registers R549–R557, 18_boundary_signals
R579, and the register rules of the other chapters). -/
namespace Sys2Proof.Machine

/-! ### The J-page (R549–R551) -/

/-- J_ID, J_GOV, J_LEASE, J_DIGEST (R550). -/
def jId (s : State) (c : Nat) : Nat := pack [(4, c), (12, 0), (16, s.die), (1, b2n s.dieSet)]
def jGov (s : State) (c : Nat) : Nat := if s.recd.running then pack [(32, govField s c 192 32), (2, govField s c 224 2)] else 2 * 2 ^ 32
def jLease (s : State) (c : Nat) : Nat := let l := s.lease c; pack [(3, l.state.code), (29, 0), (32, l.periodUs)]
def jDigest (s : State) (c : Nat) : Nat :=
  let d := s.dig.comps.get c DigComp.reset
  pack [(1, b2n d.dirty), (3, 0), (4, d.lastCode), (4, d.certNext), (20, 0), (32, d.lastEpoch)]

/-- An 8-byte word of compartment c's window; an offset without a register reads zero (R13, R549). -/
def jWord (s : State) (c o : Nat) : Nat :=
  let p := s.comp c
  if o < 0x100 then
    match o with
    | 0x00 => jId s c
    | 0x08 => jState s c
    | 0x20 => s.et % 2 ^ 32 + 2 ^ 32 * s.tim.jEtHi.get c 0
    | 0x28 => pack [(3, s.rf fQuality), (5, s.rf fDepth)]
    | 0x30 => jGov s c
    | 0x38 => jLease s c
    | 0x40 => s.jf c fCmdBase
    | 0x48 => pack [(5, s.jf c fCmdLog), (3, 0), (1, s.jf c fCmdEnable), (7, 0), (2, p.cmdErr)]
    | 0x50 => p.cmdTail
    | 0x58 => p.cmdHead
    | 0x60 => s.jf c fCplBase
    | 0x68 => pack [(5, s.jf c fCplLog), (3, 0), (1, s.jf c fCplEnable), (7, 0), (2, p.cplErr), (14, 0), (16, p.lost)]
    | 0x70 => p.cplTail
    | 0x78 => p.cplHead
    | 0x80 => jDigest s c
    | _ => 0
  else if o < 0x200 then
    match o with
    | 0x100 => pack [(8, 0), (14, s.jf c fJObsIndex), (3, 0), (1, s.jf c fJObsDone), (2, s.jf c fJObsErr)]
    | 0x108 => s.jf c fJObsData
    | 0x110 => (s.trace c).head
    | 0x118 => (s.trace c).tail
    | _ => 0
  else if o < 0x240 then fld (s.fab.cutHdr.get c 0) (8 * (o - 0x200)) 64
  else if o < 0x400 then 0
  else if o < 0x800 then fld ((s.dig.comps.get c DigComp.reset).certs.get ((o - 0x400) / 64) 0) (8 * (o % 64)) 64
  else 0

/-- What a read of halves h of a word returns (R329, R549). -/
def jValue (s : State) (c o h : Nat) : Nat :=
  let v := if o = 0x20 ∧ h = 3 then s.et else jWord s c o
  if h = 2 then v / 2 ^ 32 else if h = 1 then v % 2 ^ 32 else v % 2 ^ 64

/-- What a read does: RC fields are cleared, and the upper half of ET is latched (R14, R329, R551). -/
def jReadFx (c o h : Nat) (s : State) : State :=
  let lo := h.testBit 0
  let hi := h.testBit 1
  match o with
  | 0x20 => whenS lo (latchEt (some c)) s
  | 0x48 => whenS lo (updComp c (fun p => { p with cmdErr := 0 })) s
  | 0x68 => whenS hi (updComp c (fun p => { p with lost := 0 })) (whenS lo (updComp c (fun p => { p with cplErr := 0 })) s)
  | 0x100 => whenS lo (fun t => t.setJf c fJObsErr 0) s
  | _ => s

/-- A write of a ring's base: refused while the ring is enabled; bits [11:0] are ignored (R534, R551). -/
def writeBase (c : Nat) (base enable : RF) (refuse : Comp → Comp) (mask v : Nat) (s : State) : State :=
  if s.jf c enable = 1 then updComp c refuse s
  else s.setJf c base (merge mask (s.jf c base) v / 4096 * 4096)

/-- A write of halves h of a word of compartment c's window. -/
def jWrite (c o h v : Nat) (s : State) : State :=
  let lo := h.testBit 0
  let mask := halfMask h
  match o with
  | 0x40 => writeBase c fCmdBase fCmdEnable (fun p => { p with cmdErr := 1 }) mask v s
  | 0x48 => whenS lo (doCmdqEnable c (v % 2 ^ 32)) s
  | 0x50 => whenS lo (doCmdqTailWrite c (v % 2 ^ 32)) s
  | 0x60 => writeBase c fCplBase fCplEnable (fun p => { p with cplErr := 1 }) mask v s
  | 0x68 => whenS lo (doCplqEnable c (v % 2 ^ 32)) s
  | 0x78 => whenS lo (doCplqHeadWrite c (v % 2 ^ 32)) s
  | 0x100 => whenS lo (fun t => if v.testBit 22 then doJObsSample c (nfld v 8 14) t else t.setJf c fJObsIndex (nfld v 8 14)) s
  | 0x110 => whenS lo (doTraceHeadWrite c (BitVec.ofNat 32 v)) s
  | _ => s

/-- One access to compartment c's window: the data, and the state after it; a misaligned one reads zero and writes nothing. -/
def jAccess (c offset : Nat) (wide write : Bool) (v : Nat) (s : State) : Nat × State :=
  let o := offset / 8 * 8
  let h := halves offset wide
  if offset % (if wide then 8 else 4) ≠ 0 then (0, s)
  else if write then (0, jWrite c o h (placed offset wide v) s)
  else (jValue s c o h, jReadFx c o h s)

/-- J_PAGE_ACCESS (R579): an access of host-class core `core`, tagged with the compartment that it is assigned to. -/
def doJPageAccess (core offset : Nat) (wide write : Bool) (data : Nat) (s : State) : State :=
  if !s.hubUp then s
  else match assigned s (144 + core) with
    | none => s
    | some c =>
      if offset / 0x1000 ≠ c ∨ s.cmd.halted.contains core then refuseCrossing 0x00C4 false (hcoreLoc core) (emit (.jPage true (BitVec.allOnes 64)) s)
      else
        let (v, s) := jAccess c (offset % 0x1000) wide write data s
        emit (.jPage false (BitVec.ofNat 64 v)) s

/-- J_PAGE_ACCESS. -/
def execJPageAccess (core offset : Nat) (wide write : Bool) (data : W64) (s : State) : Host.Outcome State Fault Refusal :=
  .next (doJPageAccess core offset wide write data.toNat s)

/-! ### Commands on registers -/

/-- MREG (R553, R556): a hub-resident M-page access that the island passes through the Gate. -/
def doMreg (offset : Nat) (wide write : Bool) (data : Nat) (s : State) : State :=
  if islandOffset offset then s
  else
    let (st, v, s) := mAccess offset wide write data s
    emit (.mPage st (BitVec.ofNat 64 v)) s

/-- MREG. -/
def execMreg (offset : Nat) (wide write : Bool) (data : W64) (s : State) : Host.Outcome State Fault Refusal :=
  .next (whenS (s.isl.st != .off) (doMreg offset wide write data.toNat) s)

/-- REGISTER_WRITE (R14): a write of a register of the M-page, or of compartment c's window. -/
def doRegisterWrite (job wide : Bool) (c offset v : Nat) (s : State) : State :=
  if !job then mPut offset wide v s else if s.hubUp then (jAccess c offset wide true v s).2 else s

/-- REGISTER_WRITE. -/
def execRegisterWrite (job wide : Bool) (c offset : Nat) (value : W64) (s : State) : Host.Outcome State Fault Refusal :=
  .next (doRegisterWrite job wide c offset value.toNat s)

/-- A write of a 32-bit register with one of its action bits set and the others clear. -/
def oneAction (actions bit : Nat) (v : BitVec 32) : Nat := (v.toNat - (v.toNat &&& actions)) + 2 ^ bit

/-- SAMPLE_SEED (R132). -/
def execSampleSeed (value : W64) (s : State) : Host.Outcome State Fault Refusal := .next (mPut 0x0D40 true value.toNat s)
/-- DIE_INDEX_WRITE (R554). -/
def execDieIndexWrite (value : W64) (s : State) : Host.Outcome State Fault Refusal := .next (mPut 0x0008 true value.toNat s)
/-- ASSIGN_WRITE (R555). -/
def execAssignWrite (u : Nat) (value : W64) (s : State) : Host.Outcome State Fault Refusal :=
  .next (if u < 152 then mPut (0x0400 + 8 * u) true value.toNat s else s)
/-- PREC_WRITE (R555). -/
def execPrecWrite (s : State) : Host.Outcome State Fault Refusal := .next (hubReg (doPrec true) s)
/-- PREC_READ (R555). -/
def execPrecRead (s : State) : Host.Outcome State Fault Refusal := .next (hubReg (doPrec false) s)
/-- SEV_WRITE (R276, R555). -/
def execSevWrite (value : BitVec 32) (s : State) : Host.Outcome State Fault Refusal := .next (mPut 0x0940 false (oneAction 0x3000000 24 value) s)
/-- SEV_READ (R555). -/
def execSevRead (value : BitVec 32) (s : State) : Host.Outcome State Fault Refusal := .next (mPut 0x0940 false (oneAction 0x3000000 25 value) s)
/-- GROUP_WRITE (R337, R555). -/
def execGroupWrite (value : BitVec 32) (s : State) : Host.Outcome State Fault Refusal := .next (mPut 0x0980 false (oneAction 0x1C00000 22 value) s)
/-- GROUP_READ (R555). -/
def execGroupRead (value : BitVec 32) (s : State) : Host.Outcome State Fault Refusal := .next (mPut 0x0980 false (oneAction 0x1C00000 23 value) s)
/-- GROUP_DELETE (R555). -/
def execGroupDelete (value : BitVec 32) (s : State) : Host.Outcome State Fault Refusal := .next (mPut 0x0980 false (oneAction 0x1C00000 24 value) s)
/-- MATCH_WRITE (R328, R555). -/
def execMatchWrite (value : BitVec 32) (s : State) : Host.Outcome State Fault Refusal := .next (mPut 0x09C0 false (oneAction 0x300 8 value) s)
/-- MATCH_READ (R555). -/
def execMatchRead (value : BitVec 32) (s : State) : Host.Outcome State Fault Refusal := .next (mPut 0x09C0 false (oneAction 0x300 9 value) s)

end Sys2Proof.Machine
end

