-- ==== Sys2Proof/Machine/Island.lean ====
section
/-! DEFINITION. The island's own ports: I3C, the serial port with Camavarun, and its seconds (18_boundary_signals R581, R582,
19_startup_and_live_update R613–R615, 11_in_field_screening R396). -/
namespace Sys2Proof.Machine

/-- The island runs. -/
def islandUp (s : State) : Bool := s.isl.st != .off

/-! ### I3C (R581) -/

/-- Bytes answered on I3C. -/
def i3cSay (bs : List Byte) (s : State) : State := whenS (islandUp s) (emit (.i3c bs)) s

/-- I3C_PRIVATE_WRITE: OFF_LO, OFF_HI, CTL, and the data of a write. A read is carried out here and answered by the private read. -/
def doI3cWrite (bytes : List Byte) (s : State) : State :=
  match bytes with
  | lo :: hi :: ctl :: data =>
    let o := lo.toNat + 256 * hi.toNat
    let wide := bitAt ctl 0
    let n := if wide then 8 else 4
    if fld ctl 2 6 ≠ 0 then { s with isl := { s.isl with i3cRead := if bitAt ctl 1 then some (2, n, 0) else s.isl.i3cRead } }
    else if bitAt ctl 1 then
      let (st, v, s) := mAccess o wide false 0 s
      { s with isl := { s.isl with i3cRead := some (st, n, v) } }
    else if data.length = n then mPut o wide (ofBytes data) s else s
  | _ => s

/-- I3C_PRIVATE_WRITE. -/
def execI3cPrivateWrite (bytes : List Byte) (s : State) : Host.Outcome State Fault Refusal := .next (whenS (islandUp s) (doI3cWrite bytes) s)

/-- I3C_PRIVATE_READ: STATUS and the data of the read set up last. -/
def doI3cRead (s : State) : State :=
  match s.isl.i3cRead with
  | some (st, n, v) => emit (.i3c (BitVec.ofNat 8 st :: toBytes n v)) { s with isl := { s.isl with i3cRead := none } }
  | none => s

/-- I3C_PRIVATE_READ. -/
def execI3cPrivateRead (s : State) : Host.Outcome State Fault Refusal := .next (whenS (islandUp s) doI3cRead s)

/-- A dynamic address taken, where the target has one or has none as the CCC asks. -/
def takeAddr (has : Bool) (addr : BitVec 7) (s : State) : State :=
  if islandUp s && s.isl.i3cAddr.isSome == has then { s with isl := { s.isl with i3cAddr := some addr.toNat } } else s

/-- The Provisional ID, most significant byte first: MIPI manufacturer code, type selector 1, DIE_ID bits [31:0]. -/
def pidBytes (s : State) : List Byte := (toBytes 6 (pack [(32, s.fuse.dieId.toNat), (1, 1), (15, s.fuse.mipi)])).reverse
/-- The BCR declares no HDR mode and no in-band interrupt. -/
def bcr : Byte := Config.i3cBcr &&& 0xD9

/-- ENTDAA: a target without a dynamic address sends its ID, BCR and DCR and takes one. -/
def doEntdaa (addr : BitVec 7) (s : State) : State :=
  if islandUp s && s.isl.i3cAddr.isNone then takeAddr false addr (i3cSay (pidBytes s ++ [bcr, Config.i3cDcr]) s) else s

/-- ENTDAA. -/
def execEntdaa (addr : BitVec 7) (s : State) : Host.Outcome State Fault Refusal := .next (doEntdaa addr s)
/-- SETDASA: at the static address. -/
def execSetdasa (addr : BitVec 7) (s : State) : Host.Outcome State Fault Refusal := .next (takeAddr false addr s)
/-- SETNEWDA. -/
def execSetnewda (addr : BitVec 7) (s : State) : Host.Outcome State Fault Refusal := .next (takeAddr true addr s)
/-- RSTDAA: back to the static address. -/
def execRstdaa (s : State) : Host.Outcome State Fault Refusal := .next { s with isl := { s.isl with i3cAddr := none } }
/-- GETPID. -/
def execGetpid (s : State) : Host.Outcome State Fault Refusal := .next (i3cSay (pidBytes s) s)
/-- GETBCR. -/
def execGetbcr (s : State) : Host.Outcome State Fault Refusal := .next (i3cSay [bcr] s)
/-- GETDCR. -/
def execGetdcr (s : State) : Host.Outcome State Fault Refusal := .next (i3cSay [Config.i3cDcr] s)
/-- GETSTATUS. -/
def execGetstatus (s : State) : Host.Outcome State Fault Refusal := .next (i3cSay (toBytes 2 Config.i3cStatus.toNat) s)
/-- GETMWL: 16 B. -/
def execGetmwl (s : State) : Host.Outcome State Fault Refusal := .next (i3cSay [0, 16] s)
/-- GETMRL: 16 B. -/
def execGetmrl (s : State) : Host.Outcome State Fault Refusal := .next (i3cSay [0, 16] s)
/-- ENEC: accepted and ignored. -/
def execEnec (s : State) : Host.Outcome State Fault Refusal := .next s
/-- DISEC: accepted and ignored. -/
def execDisec (s : State) : Host.Outcome State Fault Refusal := .next s

/-! ### Camavarun (R582, R613–R615) -/

/-- What a command answers: a status of R343, or 16 for the access error of R47 and 17 for OVERRUN; values; the state after it. -/
abbrev CamAnswer : Type := Nat × List Nat × State

/-- The access error of R47 as an answer. -/
abbrev camAccess : Nat := 16
/-- OVERRUN (R613). -/
abbrev camOverrun : Nat := 17

/-- A line of Camavarun: DENIED below its level, ERR OVERRUN where bytes were lost, else its own answer (R613–R615). -/
def camLine (level : CamLevel) (f : State → CamAnswer) (s : State) : State :=
  if !islandUp s then s
  else
    let s : State := { s with isl := { s.isl with lastInput := s.isl.sec } }
    if s.isl.overrun then emit (.serial false camOverrun []) { s with isl := { s.isl with overrun := false } }
    else if s.isl.level.code < level.code then emit (.serial false stDenied []) s
    else
      let (st, vs, s) := f s
      emit (.serial (st == stOk) st vs) s

/-- A hub-resident access: ERR with the access error while the hub is not up (R47, R615). -/
def camHub (f : State → CamAnswer) (s : State) : CamAnswer :=
  if s.hubUp then f s else (camAccess, [], { s with isl := { s.isl with accErr := true } })

/-- The answer of an M-page access. -/
def camStatus (st : Nat) : Nat := if st = 0 then stOk else if st = 1 then camAccess else stInvalid

/-- A register with an RC field (R14, R615). -/
def hasRc (offset : Nat) : Bool :=
  let o := offset / 8 * 8
  (mFields o).any (fun x => x.acc == .rc) || [0xD08, 0xD20, 0x1B08, 0x1B10, 0x1D08, 0x2008, 0x2100].contains o
    || within 0x1500 0x17FF o || within 0x1A00 0x1AC7 o

/-- RD (R615). -/
def camRd (offset : Nat) (wide : Bool) (s : State) : CamAnswer :=
  let (st, v, s) := mAccess offset wide false 0 s
  (camStatus st, if st = 0 then [v] else [], s)

/-- CAM_RD: OPERATE for a register with an RC field. -/
def execCamRd (offset : Nat) (wide : Bool) (s : State) : Host.Outcome State Fault Refusal :=
  .next (camLine (if hasRc offset then .operate else .view) (camRd offset wide) s)
/-- CAM_WR. -/
def execCamWr (offset : Nat) (wide : Bool) (value : W64) (s : State) : Host.Outcome State Fault Refusal :=
  .next (camLine .operate (fun s =>
    let (st, _, s) := mAccess offset wide true value.toNat s
    (camStatus st, [], s)) s)

/-- The levels of the commands, in the order of R615: HELP, STATE, BAUD, RD, CELLAR, REC, UNLOCK, LOCK; WR, SEV, COMP, SEAL, CPER, POLICY,
HANDOVER; PUT, GATE, TAPPRIV. -/
def camLevels : List CamLevel := List.replicate 8 .view ++ List.replicate 7 .operate ++ List.replicate 3 .service

/-- CAM_HELP: the commands of the current level, by their place in R615. -/
def execCamHelp (s : State) : Host.Outcome State Fault Refusal :=
  .next (camLine .view (fun s => (stOk, (List.range 18).filter (fun i => (camLevels.getD i .service).code ≤ s.isl.level.code), s)) s)
/-- CAM_STATE: block state, M_SEQ_STATUS, ET, QUALITY and the compartments' states; the block state alone while the hub is not up. -/
def execCamState (s : State) : Host.Outcome State Fault Refusal :=
  .next (camLine .view (fun s =>
    if s.hubUp then (stOk, [s.isl.st.code, seqStatus s, s.et, s.rf fQuality] ++ (List.range 16).map (compCode s), s)
    else (camAccess, [s.isl.st.code], { s with isl := { s.isl with accErr := true } })) s)
/-- CAM_BAUD (R582). -/
def execCamBaud (rate : Nat) (s : State) : Host.Outcome State Fault Refusal :=
  .next (camLine .view (fun s => if within 115200 3000000 rate then (stOk, [], { s with isl := { s.isl with baud := rate } }) else (stInvalid, [], s)) s)

/-- CELLAR: 32 B at a time through M_CELLAR_PTR; a failed read ends SUSPECT. -/
def camCellar (addr count : Nat) (s : State) : CamAnswer :=
  if !within 1 256 count || addr + count > 0x4000000 then (stInvalid, [], s)
  else
    let first := addr / 32
    let s := foldS (List.range ((addr + count - 1) / 32 + 1 - first)) (fun k t => doCellarRead (32 * (first + k)) t) s
    if s.recd.cellarAbsent then (stSuspect, [], s) else (stOk, (cellarBytes s addr count).map (fun b => b.toNat), s)

/-- CAM_CELLAR. -/
def execCamCellar (addr count : Nat) (s : State) : Host.Outcome State Fault Refusal := .next (camLine .view (camCellar addr count) s)

/-- The n newest records of the cellar log, in RSEQ order. -/
def logRecords (s : State) (n : Nat) : List Nat :=
  ((List.range (min n s.recd.flushed)).reverse.map (fun k => s.recd.flushed - k)).filterMap (fun q =>
    let v := ofBytes (cellarBytes s (logAddr q) 64)
    if nfld v 64 64 = q then some v else none)

/-- REC n: from the ring, or from the cellar log while the hub is down. -/
def camRec (n : Nat) (s : State) : CamAnswer :=
  if !within 1 64 n then (stInvalid, [], s)
  else (stOk, if s.hubUp then (newestRecords s (s.recd.rseq - n)).map (fun e => e.2.toNat) else logRecords s n, s)

/-- CAM_REC. -/
def execCamRec (n : Nat) (s : State) : Host.Outcome State Fault Refusal := .next (camLine .view (camRec n) s)

/-- An unlock attempt fails: TOKEN_DENIED, at once or when the hub is up (R614). -/
def denyToken (s : State) : State :=
  if s.hubUp then raiseIsland Kind.tokenDenied dieLoc 0 s else { s with isl := { s.isl with deniedOwed := s.isl.deniedOwed + 1 } }

/-- A token entered against the NONCE printed last, which it uses up (R610, R614). -/
def tryToken (tok : BitVec 2048) (s : State) : CamAnswer :=
  let bs := toBytes 256 tok.toNat
  let key := (bs.drop 64).take 96
  let slot := fld tok 32 2
  let want := s.isl.nonce.map (fun n => n.toNat)
  let s : State := { s with isl := { s.isl with nonce := none } }
  if fld tok 0 32 ≠ 0x4B4C4E55 || !within 1 2 (fld tok 34 2) || fld tok 36 28 ≠ 0 || fld tok 192 320 ≠ 0 then (stInvalid, [], s)
  else if want ≠ some (fld tok 128 64) || fld tok 64 64 ≠ s.fuse.dieId.toNat || !fuseAccepts s slot key
      || !ecdsaP384 (BitVec.ofNat 768 (ofBytes key)) (bs.take 160) (BitVec.ofNat 768 (fld tok 1280 768)) then (stDenied, [], denyToken s)
  else (stOk, [], { s with isl := { s.isl with level := if fld tok 34 2 = 1 then .operate else .service } })

/-- UNLOCK: a fresh NONCE is printed, a free value (log entry 7); the token entered then is checked. -/
def camUnlock (token : Option (BitVec 2048)) (s : State) : CamAnswer :=
  match token with
  | none =>
    let (n, s) := takeFree s
    (stOk, [n.toNat], { s with isl := { s.isl with nonce := some n, nonces := s.isl.nonces + 1 } })
  | some t => tryToken t s

/-- CAM_UNLOCK. -/
def execCamUnlock (token : Option (BitVec 2048)) (s : State) : Host.Outcome State Fault Refusal := .next (camLine .view (camUnlock token) s)
/-- CAM_LOCK. -/
def execCamLock (s : State) : Host.Outcome State Fault Refusal :=
  .next (camLine .view (fun s => (stOk, [], { s with isl := { s.isl with level := .view } })) s)

/-- SEV: through M_SEV (R276, R555). -/
def camSev (cls kind : Nat) (entry : Option (BitVec 8)) (s : State) : CamAnswer :=
  let s := (s.setRf fSevKind kind).setRf fSevClass cls
  match entry with
  | none =>
    let s := doSev false s
    (stOk, [s.rf fSevEntry], s)
  | some e =>
    let good := (writeSev (cls % 8) (kind % 4096) e.toNat s).1
    (if good then stOk else stInvalid, [], doSev true (s.setRf fSevEntry e.toNat))

/-- CAM_SEV. -/
def execCamSev (cls kind : Nat) (entry : Option (BitVec 8)) (s : State) : Host.Outcome State Fault Refusal :=
  .next (camLine .operate (camHub (camSev cls kind entry)) s)

/-- COMP: a refused OPEN or CLOSE answers DENIED (R599, R600). -/
def camComp (c : Nat) (close : Bool) (s : State) : CamAnswer :=
  if c > 15 then (stInvalid, [], s)
  else
    let shut (t : State) : Bool := (t.comp c).st == .closed
    let t := if close then doCompClose c s else doCompOpen c s
    (if shut s != shut t then stOk else stDenied, [], t)

/-- CAM_COMP. -/
def execCamComp (c : Nat) (close : Bool) (s : State) : Host.Outcome State Fault Refusal := .next (camLine .operate (camHub (camComp c close)) s)
/-- CAM_SEAL (R601). -/
def execCamSeal (s : State) : Host.Outcome State Fault Refusal :=
  .next (camLine .operate (camHub (fun s =>
    let t := doSealRequest 0 s
    (if t.isl.st == .drain && s.isl.st != .drain then stOk else stDenied, [], t))) s)
/-- CAM_CPER: the head record is printed and popped (R395). -/
def execCamCper (s : State) : Host.Outcome State Fault Refusal :=
  .next (camLine .operate (camHub (fun s => match s.recd.cper with
    | r :: _ => (stOk, [r.toNat], doCperPop s)
    | [] => (stEmpty, [], s))) s)

/-- A message sent through M_GATE_TX; its RESPONSE, where it has come, is printed and released, and is left to M_GATE_RX where it comes
later (R557). -/
def camGate (code : Nat) (body : Nat) (s : State) : CamAnswer :=
  if s.isl.gateBusy || s.isl.gateValid then (stQuota, [], { s with isl := { s.isl with gateErr := 2 } })
  else
    let s := gateSend { s with isl := { s.isl with gateTx := BitVec.ofNat 512 (pack [(16, code), (16, 0), (32, 0), (448, body)]) } }
    if s.isl.gateValid then (fld s.isl.gateRx 32 4, [fld s.isl.gateRx 64 448], gatePop s) else (stOk, [], s)

/-- CAM_POLICY: 32 B read, or the data written (R529, R556). -/
def execCamPolicy (offset : Nat) (data : Option (List Byte)) (s : State) : Host.Outcome State Fault Refusal :=
  .next (camLine .operate (camHub (match data with
    | none => camGate 0x11 (pack [(32, offset), (32, 32)])
    | some bs => camGate 0x10 (pack [(32, offset), (32, bs.length), (256, ofBytes bs)]))) s)
/-- CAM_HANDOVER (R607). -/
def execCamHandover (s : State) : Host.Outcome State Fault Refusal := .next (camLine .operate (camHub (camGate 0x41 0)) s)
/-- CAM_GATE: codes 0x0020–0x0041. -/
def execCamGate (code : Nat) (body : BitVec 448) (s : State) : Host.Outcome State Fault Refusal :=
  .next (camLine .service (camHub (fun s => if within 0x20 0x41 code then camGate code body.toNat s else (stInvalid, [], s))) s)

/-- PUT: words from a byte offset of banks 42–47, through M_BANK_PTR and M_BANK_DATA (R428). -/
def camPut (bank offset : Nat) (words : List W256) (s : State) : CamAnswer :=
  if !within 42 47 bank || offset % 32 ≠ 0 || offset / 32 + words.length > 16384 then (stInvalid, [], s)
  else
    let s := foldS words.zipIdx (fun w t => doBankWrite
      { t with bnk := { t.bnk with ptrBank := bank, ptrWord := offset / 32 + w.2, data := w.1 } }) { s with bnk := { s.bnk with ptrErr := 0 } }
    (if s.bnk.ptrErr = 0 then stOk else stDenied, [], s)

/-- CAM_PUT. -/
def execCamPut (bank offset : Nat) (words : List W256) (s : State) : Host.Outcome State Fault Refusal :=
  .next (camLine .service (camHub (camPut bank offset words)) s)
/-- CAM_TAPPRIV (R371). -/
def execCamTappriv (on : Bool) (s : State) : Host.Outcome State Fault Refusal :=
  .next (camLine .service (fun s => (stOk, [], { s with isl := { s.isl with priv := on } })) s)

/-- CAM_IDLE_TIMEOUT (R614): 600 s without input. -/
def execCamIdleTimeout (s : State) : Host.Outcome State Fault Refusal :=
  .next (if islandUp s && decide (s.isl.sec ≥ s.isl.lastInput + 600) then { s with isl := { s.isl with level := .view } } else s)
/-- SERIAL_BREAK (R582). -/
def execSerialBreak (s : State) : Host.Outcome State Fault Refusal := .next { s with isl := { s.isl with baud := 115200 } }
/-- ISL_SECOND (R396). -/
def execIslSecond (s : State) : Host.Outcome State Fault Refusal :=
  .next (if islandUp s then
    { s with isl := { s.isl with sec := (s.isl.sec + 1) % 2 ^ 48, wall := if s.isl.wall = 0 then 0 else (s.isl.wall + 1) % 2 ^ 64 } } else s)

end Sys2Proof.Machine
end

