-- ==== Sys2Proof/Machine/Parts.lean ====
section
/-! DEFINITION. Links, heartbeats, ECC events, blaze and the liveness leases (01_block_architecture R29, R56, R57,
08_faults_fencing_blaze R294–R305, 18_boundary_signals R560, R568–R570). -/
namespace Sys2Proof.Machine

/-! ### Parity (R29, R560) -/

/-- The sending part of a link's beat. Upward: 0–15 wardens, 16–23 memory taps, 24–31 host-core taps, 32–63 the links inside the hub, 64 + t
the tap link of tap t, or its bypass link where its warden is missing. 256 + k is the downward way of link k: the hub sends, or the warden to its taps. -/
def linkLoc (s : State) (link : Nat) : Loc :=
  if link < 16 then wardenLoc link
  else if link < 24 then memTapLoc (link - 16)
  else if link < 32 then unitLoc (link - 24) 3 51
  else if 64 ≤ link && link < 256 then tapPartLoc (link - 64)
  else if link ≥ 320 && tapLink s (link - 320) < 32 then wardenLoc (tapLink s (link - 320))
  else hubLoc uCollector

/-- The links that the block has. -/
def isLink (link : Nat) : Bool := decide (link < 208) || (256 ≤ link && link < 288) || (320 ≤ link && link < 464)

/-- The receiver raises a kind against the sending part: the hub, the warden of a tap link, or the part below it. -/
def raiseLink (link kind : Nat) (s : State) : State :=
  let l := linkLoc s link
  if link < 64 then raiseHub uCollector kind l 0 s
  else if link < 256 then
    (if tapLink s (link - 64) = 32 then raiseHub uCollector kind l 0 s else raiseSense (tapLink s (link - 64)) kind l 0 s)
  else if link < 272 then raiseWarden (link - 256) kind l 0 s
  else if link < 280 then raiseMem (link - 272) kind l 0 s
  else if link < 288 then raiseHcore (link - 280) kind l 0 s
  else raiseTap (link - 320) kind false l 0 s

/-- Repeats counted at the link (R444, R446, R447). -/
def countRetry (link : Nat) (s : State) : State :=
  if link < 16 then countWarden link 14 s else if 16 ≤ link && link < 24 then countMem (link - 16) 11 1 s
  else if 64 ≤ link && link < 208 then countTap (link - 64) 27 0x3F 1 s else s

/-- The message that a link has just carried upward: on a tap's link the oldest one of that tap. -/
def linkMessage (s : State) (link : Nat) : Option Flight :=
  if 64 ≤ link && link < 256 then s.col.flight.find? (fun f => (f.link == 32 || decide (f.link < 16)) && f.unit == link - 64)
  else s.col.flight.find? (fun f => f.link == link)

/-- A link is treated as failed (R56): a tap awaits its retry, a memory tap's digests are invalid, and a failed hub link, within the hub or
from it to a part, stops the die. -/
def linkFails (link : Nat) (s : State) : State :=
  let s : State := { s with col := { s.col with linkFailed := setAdd s.col.linkFailed link } }
  if 64 ≤ link && link < 208 then { s with scr := { s.scr with tapRetry := setAdd s.scr.tapRetry (link - 64) } }
  else if 16 ≤ link && link < 24 then memTapFailed (link - 16) s
  else if linkLoc s link = hubLoc uCollector then stopDie Kind.linkFail s
  else s

/-- LINK_PARITY (R29): the message is discarded and repeated; a failed repeat fails the link, and its message is lost. An order that no
repeat brings down reaches the part over the way that is left. -/
def doLinkParity (link : Nat) (s : State) : State :=
  if !isLink link then s
  else if s.col.parityWait.has link then
    let s : State := { s with col := { s.col with parityWait := s.col.parityWait.del link } }
    let s : State := match linkMessage s link with
      | some f => { s with col := { s.col with flight := s.col.flight.erase f } }
      | none => s
    raiseLink link Kind.linkFail (linkFails link s)
  else raiseLink link Kind.linkParity (countRetry link { s with col := { s.col with parityWait := s.col.parityWait.put link s.et } })

/-- LINK_PARITY. -/
def execLinkParity (link : Nat) (s : State) : Host.Outcome State Fault Refusal := .next (atHub (doLinkParity link) s)

/-- A port's receiver raises a kind against the port's unit (R560). -/
def raisePort (l : Loc) (kind : Nat) (s : State) : State :=
  match named l with
  | .cluster c => raiseTap c kind false l 0 s
  | .slab r => raiseTap (128 + r) kind false l 0 s
  | .ctrl m => raiseMem m kind l 0 s
  | .hcore h => raiseHcore h kind l 0 s
  | .region _ => raiseHub uJournal kind l 0 s
  | .hub k => if k = uStream ∨ k = uFabric then raiseHub k kind l 0 s else s
  | _ => s

/-- Ticks in which a repeat comes: 16 cycles of the port's domain (R310, R560). -/
def repeatTicks (s : State) (l : Loc) : Nat :=
  match named l with
  | .cluster c => cdiv 16 (s.cclkPerTick c)
  | .slab r => cdiv 16 (s.cclkPerTick (128 + r))
  | .ctrl _ => cdiv 16 6
  | .region r => cdiv 16 (if s.div4 r then 3 else 4)
  | .hub _ => if l = hubLoc uFabric then cdiv 16 6 else cdiv 16 3
  | _ => cdiv 16 3

/-- PORT_PARITY_ERROR (R560): an error within the time of the repeat is the repeat's. -/
def doPortParityError (l : Loc) (s : State) : State :=
  let k := 65536 + l.toNat
  if !s.hubUp || felled s l then s
  else match s.col.parityWait.find? k with
    | some t =>
      if s.et ≤ t + repeatTicks s l then
        raisePort l Kind.linkFail { s with col := { s.col with parityWait := s.col.parityWait.del k } }
      else raisePort l Kind.linkParity { s with col := { s.col with parityWait := s.col.parityWait.put k s.et } }
    | none => raisePort l Kind.linkParity { s with col := { s.col with parityWait := s.col.parityWait.put k s.et } }

/-- PORT_PARITY_ERROR. -/
def execPortParityError (unit : Loc) (s : State) : Host.Outcome State Fault Refusal := .next (atHub (doPortParityError unit) s)

/-! ### Heartbeats (R57) -/

/-- HEARTBEAT (R56, R57): part 0–143 a tap, 144 + r warden r; a missing warden has returned. -/
def doHeartbeat (part : Nat) (s : State) : State :=
  if !s.hubUp || part ≥ 160 then s
  else
    let s : State := { s with col := { s.col with beats := s.col.beats.put part s.et } }
    let s : State := { s with col := { s.col with parityWait := s.col.parityWait.del (if part < 144 then 64 + part else part - 144) } }
    if part ≥ 144 ∧ s.col.wardensMissing.contains (part - 144) then
      wardenBack (part - 144) s
    else s

/-- HEARTBEAT. -/
def execHeartbeat (part : Nat) (s : State) : Host.Outcome State Fault Refusal := .next (atHub (doHeartbeat part) s)

/-- Four heartbeats of 1,024 HCLK have been missed; a tick is 3 HCLK (R57, R310). -/
def beatMissed (s : State) (part : Nat) : Bool := s.hubUp && decide (3 * (s.et - Tbl.get s.col.beats part 0) ≥ 4096)

/-- TAP_MISSING (R56, R57). -/
def doTapMissing (tap : Nat) (s : State) : State :=
  if tap ≥ 144 || !beatMissed s tap || s.col.tapsMissing.contains tap || felled s (tapWholeLoc tap) then s
  else
    let r := if tap ≥ 128 then tap - 128 else tap / 8
    let s : State := { s with col := { s.col with tapsMissing := setAdd s.col.tapsMissing tap } }
    let s : State := { s with scr := { s.scr with tapRetry := setAdd s.scr.tapRetry tap } }
    raiseSense r Kind.tapMissing (tapPartLoc tap) 0 (count (8192 + 32 * r + 11) 4 s)

/-- TAP_MISSING. -/
def execTapMissing (tap : Nat) (s : State) : Host.Outcome State Fault Refusal := .next (atHub (doTapMissing tap) s)

/-- WARDEN_MISSING (R56, R57). -/
def doWardenMissing (r : Nat) (s : State) : State :=
  if r ≥ 16 || !beatMissed s (144 + r) || s.col.wardensMissing.contains r then s
  else raiseHub uCollector Kind.wardenMissing (wardenLoc r) 0 (wardenLost r s)

/-- WARDEN_MISSING. -/
def execWardenMissing (r : Nat) (s : State) : Host.Outcome State Fault Refusal := .next (atHub (doWardenMissing r) s)

/-! ### ECC events and blaze (R296–R300, R568, R569) -/

/-- The uncorrectable words of a channel within its running second, with the one now seen, and when that second began (R300). -/
def ueRun (s : State) (k : Nat) : Nat × Tick :=
  let (n, t) := Tbl.get s.col.ueCount k (0, s.et)
  if s.et ≥ t + 400000000 then (1, s.et) else (n + 1, t)

/-- ECC_UE counted over windows of 1 s; at UE_BURST in one window ECC_UE_BURST is raised, once (R300). -/
def countUe (m h : Nat) (s : State) : State :=
  let k := 16 * m + h
  let r := ueRun s k
  whenS (r.1 == ueBurst s) (raiseMem m Kind.eccUeBurst (channelLoc m h) (detail r.1 none none))
    { s with col := { s.col with ueCount := s.col.ueCount.put k r } }

/-- The write-back of a blazed word asked of its controller, and awaited (R296). -/
def askWriteBack (m h waddr : Nat) (pay : W256) (s : State) : State :=
  emit (.writeBack m h waddr pay) { s with col := { s.col with backs := s.col.backs ++ [⟨m, h, waddr, pay, s.et, false⟩] } }

/-- ECC_EVENT (R296, R300): an uncorrectable word came back blazed; its blaze is written back unless the channel is quiet. -/
def doEccEvent (m : Nat) (ue : Bool) (h waddr : Nat) (pay : W256) (s : State) : State :=
  let l := channelLoc m h
  if !s.hubUp || h ≥ 16 then s
  else if !ue then raiseMem m Kind.eccCe l (detail waddr none none) (countMem m 6 1 s)
  else whenS (!isQuiet s l) (askWriteBack m h waddr pay) (countUe m h (raiseMem m Kind.eccUe l (detail waddr none none) (countMem m 7 1 s)))

/-- ECC_EVENT. -/
def execEccEvent (ctrl : Nat) (ue : Bool) (ch waddr : Nat) (pay : W256) (s : State) : Host.Outcome State Fault Refusal :=
  .next (atHub (doEccEvent ctrl ue ch waddr pay) s)

/-- BLAZE_WRITEBACK_DONE (R569): the oldest write-back of the controller is over. -/
def doBwbDone (m : Nat) (s : State) : State :=
  match s.col.backs.find? (fun b => b.ctrl == m) with
  | some b => countMem m 8 1 { s with col := { s.col with backs := s.col.backs.erase b } }
  | none => s

/-- BLAZE_WRITEBACK_DONE. -/
def execBlazeWritebackDone (ctrl : Nat) (s : State) : Host.Outcome State Fault Refusal := .next (atHub (doBwbDone ctrl) s)

/-- BLAZE_WRITEBACK_TIMEOUT (R590): 2 µs are 800 ticks; the request is repeated once, then LINK_FAIL. -/
def doBwbTimeout (m : Nat) (s : State) : State :=
  match s.col.backs.find? (fun b => b.ctrl == m) with
  | some b =>
    if s.et < b.et + 800 then s
    else if b.again then
      raiseMem m Kind.linkFail (ctrlLoc m) 0 { s with col := { s.col with backs := s.col.backs.erase b } }
    else emit (.writeBack b.ctrl b.ch b.waddr b.pay) { s with col := { s.col with backs := s.col.backs.map (fun x => if x = b then { b with et := s.et, again := true } else x) } }
  | none => s

/-- BLAZE_WRITEBACK_TIMEOUT. -/
def execBlazeWritebackTimeout (ctrl : Nat) (s : State) : Host.Outcome State Fault Refusal := .next (atHub (doBwbTimeout ctrl) s)

/-- DETAIL of BLAZE_CONSUMED (R297). -/
def blazeDetail (pay : W64) (cord : Nat) : Nat := pack [(64, pay.toNat), (32, cord)]

/-- BLAZE_CONSUMED (R297, R567): the unit is a medium core, or a section of the slab. -/
def doBlazeConsumed (tap unit cord : Nat) (pay : W64) (s : State) : State :=
  let l := if tap ≥ 128 then sectionLoc (tap - 128) (unit % 16) else coreLoc tap (unit % 32)
  if s.hubUp then raiseTap tap Kind.blazeConsumed false l (blazeDetail pay cord) (countTap tap 19 unit 1 s) else s

/-- BLAZE_CONSUMED. -/
def execBlazeConsumed (tap unit cord : Nat) (pay : W64) (s : State) : Host.Outcome State Fault Refusal := .next (atTapPort tap (doBlazeConsumed tap unit cord pay) s)

/-- HOST_CORE_EVENT (R570); types 2 and 3 are reserved. -/
def doHostCoreEvent (core typ cord : Nat) (pay : W64) (s : State) : State :=
  if !s.hubUp then s
  else if typ = 0 then raiseHcore core Kind.pathParity (hcoreLoc core) 0 s
  else if typ = 1 then raiseHcore core Kind.blazeConsumed (hcoreLoc core) (blazeDetail pay cord) s
  else s

/-- HOST_CORE_EVENT. -/
def execHostCoreEvent (core typ cord : Nat) (pay : W64) (s : State) : Host.Outcome State Fault Refusal := .next (atCorePort core (doHostCoreEvent core typ cord pay) s)

/-! ### Leases (R301–R305) -/

/-- A PING (R303). -/
def onPing (m : VcsMsg) (s : State) : State :=
  let i := fld m.payload 8 5
  let l := s.lease i
  let per := fld m.payload 64 32
  let acked := fld m.payload 32 16
  let nonce := fld m.payload 16 16
  if !s.inLoaded then s
  else if m.src ≠ l.holder then countHub 194 1 { s with col := { s.col with leaseDiscards := s.col.leaseDiscards + 1 } }
  else
    let period := if 50 ≤ per ∧ per ≤ 100000 then per else l.periodUs
    let l := { l with periodUs := period }
    let l := if l.state = .expired ∨ l.state = .revoked then l
      else if per = 0 then { l with state := .off, periodUs := 0 }
      else if l.state = .armed ∨ l.state = .held then
        match (if acked = 0 then none else l.acks.find? (fun a => a.1 == acked)) with
        | some a => { l with state := .held, expiry := a.2 + 2 * period * 400 }
        | none => l
      else l
    leaseAnswer 2 i nonce (updLease i (fun _ => { l with acks := ((nonce, s.et) :: l.acks).take 4 }) s)

/-- PING. -/
def execPing (s : State) : Host.Outcome State Fault Refusal := .next (atHub (withMsg vcLease 1 onPing) s)

/-- LEASE_EXPIRED (R303): the kind of a compartment's lease or the die's. -/
def doLeaseExpired (i : Nat) (s : State) : State :=
  let l := s.lease i
  if l.state ≠ .held || s.et < l.expiry then s
  else raiseHub uFabric (if i < 16 then Kind.leaseExpired else Kind.leaseExpiredDie) dieLoc (detail 0 none (if i < 16 then some i else none))
    (updLease i (fun l => { l with state := .expired }) s)

/-- LEASE_EXPIRED. -/
def execLeaseExpired (lease : Nat) (s : State) : Host.Outcome State Fault Refusal := .next (atHub (doLeaseExpired lease) s)

/-- A REVOKE from HOLDER (R304); the answer waits for quiet. -/
def onRevoke (m : VcsMsg) (s : State) : State :=
  let i := fld m.payload 8 5
  let l := s.lease i
  if m.src ≠ l.holder || !s.inLoaded then s
  else
    let s := updLease i (fun l => { l with state := if l.state = .expired then .expired else .revoked }) s
    let s : State := { s with col := { s.col with revokes := s.col.revokes ++ [(i, fld m.payload 16 16)] } }
    revokeAcks (raiseHub uFabric (if i < 16 then Kind.leaseRevoked else Kind.leaseRevokedDie) dieLoc (detail 0 none (if i < 16 then some i else none)) s)

/-- LEASE_REVOKE. -/
def execLeaseRevoke (s : State) : Host.Outcome State Fault Refusal := .next (atHub (withMsg vcLease 3 onRevoke) s)

end Sys2Proof.Machine
end

