-- ==== Sys2Proof/Machine/QuoperUnits.lean ====
section
/-! DEFINITION. The Quoper instructions that act on banks' owners, registers, latches, policy, the Collector, the screens, the sensors,
the Recorder, the counters and the censuses (16_quoper_isa R507, R515–R519). -/
namespace Sys2Proof.Machine

/-- What an instruction does with an operand of n bytes; a bad address stops it, and an uncorrectable or blazed word is SUSPECT. -/
def withOperand (b : Bool) (a n : Nat) (f : Nat → State → Nat × State) (s : State) : Nat × State :=
  let st := opCheck b s a n
  if st ≠ stOk then (st, bankRefused st s)
  else
    let (v, bad, s) := opRead a n s
    if bad then (stSuspect, s) else f v s

/-- The locus in the low bits of g[RA]. -/
def gLoc (b : Bool) (q : BitVec 56) (s : State) : Loc := BitVec.ofNat 16 (gA b q s)

/-! ### Memory class: OWN, MPR, MPW (R507) -/

/-- OWN: a standby pair may hand over a bank that it owns (R426, R427, R496). -/
def doOwn (b : Bool) (q : BitVec 56) (s : State) : Nat × State :=
  let k := nfld (qImm q) 0 6
  if !serves b s && !ownsBank b s k then (stDenied, s)
  else handBank k (nfld (qImm q) 8 4) ((qImm q).testBit 12) s

/-- OWN. -/
def execQOwn (b : Bool) (q : BitVec 56) (s : State) : Host.Outcome State Fault Refusal :=
  .next (qStatus b q (qClean q (qNamed 0 0 0 7 0 0x1F3F)) true (doOwn b q) s)

/-- An M-page access of a sequencer: DENIED island-resident, INVALID misaligned or unmapped; what a register's own rule refuses is OK
here (R507). -/
def doMp (q : BitVec 56) (write : Bool) (v : Nat) (s : State) : Nat × Option W64 × State :=
  let o := nfld (qImm q) 0 16
  let wide := !qX q
  if badOffset o wide then (stInvalid, none, s)
  else if islandOffset o then (stDenied, none, s)
  else
    let (_, d, s) := mAccess o wide write v s
    (stOk, if write then none else some (BitVec.ofNat 64 d), s)

/-- MPR. -/
def execQMpr (b : Bool) (q : BitVec 56) (s : State) : Host.Outcome State Fault Refusal :=
  .next (qStatusG b q (qClean q (qNamed 31 0 0 7 1 0xFFFF)) false (doMp q false 0) s)
/-- MPW. -/
def execQMpw (b : Bool) (q : BitVec 56) (s : State) : Host.Outcome State Fault Refusal :=
  .next (qStatusG b q (qClean q (qNamed 0 0 31 7 1 0xFFFF)) false (fun t => doMp q true (gB b q t) t) s)

/-! ### Latch class (R515) -/

/-- LOP: a HOME on this die is applied at once, and its RESULT written over the operation; another die's is sent. -/
def doLop (b : Bool) (q : BitVec 56) (s : State) : Nat × State :=
  let a := qAddr b q s
  withOperand b a 16 (fun v s =>
    let o : W128 := BitVec.ofNat 128 v
    if lopHere s o then
      let (st, r, s) := latchApply s.die true o s
      (st, whenS (lopReply o) (opWrite a 16 r.toNat) s)
    else sendLatch (lopComp o) none o s) s

/-- LOP. -/
def execQLop (b : Bool) (q : BitVec 56) (s : State) : Host.Outcome State Fault Refusal :=
  .next (qStatus b q (qClean q (qNamed 0 31 0 7 0 immAll)) false (doLop b q) s)

/-- The 64-bit latch word (R341, R342); a FREE latch reads zero. -/
def latchWord (s : State) (i : Nat) : Nat :=
  match s.latch i with
  | some l => pack [(32, l.count), (24, l.target), (4, l.comp), (4, l.st.code)]
  | none => 0

/-- LREAD. -/
def doLread (b : Bool) (q : BitVec 56) (s : State) : Nat × Option W64 × State :=
  let i := gA b q s
  if i > 131071 then (stInvalid, none, s) else (stOk, some (BitVec.ofNat 64 (latchWord s i)), s)

/-- LREAD. -/
def execQLread (b : Bool) (q : BitVec 56) (s : State) : Host.Outcome State Fault Refusal :=
  .next (qStatusG b q (qClean q (qNamed 31 31 0 7 0 0)) false (doLread b q) s)

/-! ### Policy class (R516, R517) -/

/-- SEVW: an entry below its kind's floor is INVALID (R276). -/
def doSevw (b : Bool) (q : BitVec 56) (s : State) : Nat × State :=
  let k := gA b q s
  let (good, s) := writeSev (nfld k 12 3) (nfld k 0 12) (gB b q s % 256) s
  (if good then stOk else stInvalid, s)

/-- SEVW. -/
def execQSevw (b : Bool) (q : BitVec 56) (s : State) : Host.Outcome State Fault Refusal :=
  .next (qStatus b q (qClean q (qNamed 0 31 31 7 0 0)) false (doSevw b q) s)
/-- SEVR. -/
def execQSevr (b : Bool) (q : BitVec 56) (s : State) : Host.Outcome State Fault Refusal :=
  .next (qStatusG b q (qClean q (qNamed 31 31 0 7 0 0)) false (fun t =>
    let k := gA b q t
    (stOk, some (BitVec.ofNat 64 (sevEntry t (nfld k 12 3) (nfld k 0 12))), t)) s)

/-- The record and the compartment or lease that IMM names (R516). -/
def polTarget (q : BitVec 56) : Nat × Nat :=
  let n := nfld (qImm q) 0 8
  (n, if n = 7 then nfld (qImm q) 12 5 else nfld (qImm q) 8 4)

/-- PWRITE. -/
def doPwrite (b : Bool) (q : BitVec 56) (s : State) : Nat × State :=
  let (n, c) := polTarget q
  if recordLen n = 0 then (stInvalid, s) else withOperand b (gA b q s) (recordLen n) (putRecord n c) s

/-- PREAD. -/
def doPread (b : Bool) (q : BitVec 56) (s : State) : Nat × State :=
  let (n, c) := polTarget q
  let a := gA b q s
  if recordLen n = 0 || c > 16 then (stInvalid, s)
  else
    let st := opCheck b s a (recordLen n)
    if st ≠ stOk then (st, bankRefused st s) else (stOk, opWrite a (recordLen n) (readRecord s n c) s)

/-- PWRITE. -/
def execQPwrite (b : Bool) (q : BitVec 56) (s : State) : Host.Outcome State Fault Refusal :=
  .next (qStatus b q (qClean q (qNamed 0 31 0 7 0 0x1FFFF)) false (doPwrite b q) s)
/-- PREAD. -/
def execQPread (b : Bool) (q : BitVec 56) (s : State) : Host.Outcome State Fault Refusal :=
  .next (qStatus b q (qClean q (qNamed 0 31 0 7 0 0x1FFFF)) false (doPread b q) s)

/-- The reaction of a severity that a program orders; it stands for no intake entry, so a stop by it gains no cause (R517, R548). -/
def orderReaction (sev kind : Nat) (comp : Option Nat) (l : Loc) (s : State) : State :=
  let m : W128 := mkMsg kind 5 false l (detail 0 none comp)
  let t := react sev kind s.seq.lastCseq l m s
  { t with cmd := { t.cmd with comps := t.cmd.comps.mapV (fun c p => { p with causes := p.causes.take (s.comp c).causes.length }) } }

/-- The lift of the severity-s scope of a locus (R285, R289, R517). -/
def orderUnfence (sev : Nat) (l : Loc) (s : State) : Nat × State :=
  match reach sev l with
  | .scope x =>
    if s.col.fences.any (fun f => f.scope == x && !f.host && decide (Kind.floor f.kind ≥ sev)) then (stDenied, s)
    else if s.col.fences.any (fun f => f.scope == x && !f.host) then (stOk, orderLift x false s)
    else (if s.col.fences.any (fun f => f.scope == x) then stDenied else stOk, s)
  | .cruise =>
    let x := hubLoc uCruise
    if s.col.fences.any (fun f => f.scope == x && decide (Kind.floor f.kind ≥ sev)) then (stDenied, s)
    else if s.col.fences.any (fun f => f.scope == x) then
      let left := s.col.fences.filter (fun f => f.scope != x)
      (stOk, { s with col := { s.col with fences := left }, gov := { s.gov with sampleOff := false } })
    else (stOk, s)
  | .warden _ | .suspect => (stOk, s)

/-- FENCE (R517). -/
def doFence (b : Bool) (q : BitVec 56) (s : State) : Nat × State :=
  let l := gLoc b q s
  let sev := nfld (qImm q) 4 3
  let kind := gB b q s % 4096
  let comp := if (qImm q).testBit 7 then some (nfld (qImm q) 8 4) else none
  if named l == .invalid then (stInvalid, s)
  else match nfld (qImm q) 0 3 with
    | 0 => if sev < 3 then (stInvalid, s) else (stOk, orderReaction sev kind comp l s)
    | 1 => if within 3 5 sev then orderUnfence sev l s else (stInvalid, s)
    | 2 => (stOk, setSuspect l s)
    | 3 => (stOk, { s with col := { s.col with suspects := setDel s.col.suspects l.toNat } })
    | _ => (stInvalid, s)

/-- FENCE. -/
def execQFence (b : Bool) (q : BitVec 56) (s : State) : Host.Outcome State Fault Refusal :=
  .next (qStatus b q (qClean q (qNamed 0 31 31 7 0 0xFF7)) false (doFence b q) s)

/-- Loci that FELL takes (R516). -/
def fellable (l : Loc) : Bool :=
  match named l with
  | .core _ _ | .cluster _ | .slabSection _ _ | .slab _ | .channel _ _ | .hcore _ => true
  | _ => false

/-- FELL (R292, R516). -/
def doFell (b : Bool) (q : BitVec 56) (s : State) : Nat × State :=
  let l := gLoc b q s
  if !fellable l then (stInvalid, s) else if felled s l then (stFenced, s) else (stOk, fellLocus l s)

/-- FELL. -/
def execQFell (b : Bool) (q : BitVec 56) (s : State) : Host.Outcome State Fault Refusal :=
  .next (qStatus b q (qClean q (qNamed 0 31 0 7 0 0)) false (doFell b q) s)

/-- RAISE (R516): the message goes to the Collector as class 5. -/
def doRaise (b : Bool) (q : BitVec 56) (s : State) : Nat × State :=
  withOperand b (qAddr b q s) 16 (fun v s =>
    if nfld v 0 12 = 0 then (stInvalid, s) else (stOk, raiseOn 33 (svUnit s) (BitVec.ofNat 128 (nset v 12 3 5)) s)) s

/-- RAISE. -/
def execQRaise (b : Bool) (q : BitVec 56) (s : State) : Host.Outcome State Fault Refusal :=
  .next (qStatus b q (qClean q (qNamed 0 31 0 7 0 immAll)) false (doRaise b q) s)

/-! ### Screen and sense classes (R518) -/

/-- SLICE (R377). -/
def doSliceOrder (b : Bool) (q : BitVec 56) (s : State) : Nat × State :=
  let l := gLoc b q s
  let slot := nfld (qImm q) 0 3
  match targetOf l, s.scr.packs.find? slot with
  | some t, some p =>
    if p.target ≠ t then (stInvalid, s)
    else if felled s l then (stFenced, s)
    else if s.scr.directed.any (fun d => regionOf d.locus == regionOf l) then (stQuota, s)
    else (stOk, { s with scr := { s.scr with directed := s.scr.directed ++ [⟨l, slot⟩] } })
  | _, _ => (stInvalid, s)

/-- SLICE. -/
def execQSlice (b : Bool) (q : BitVec 56) (s : State) : Host.Outcome State Fault Refusal :=
  .next (qStatus b q (qClean q (qNamed 0 31 0 7 0 7)) false (doSliceOrder b q) s)

/-- SAGE: ms since the last passing slice (R374). -/
def doSage (b : Bool) (q : BitVec 56) (s : State) : Nat × Option W64 × State :=
  let l := gLoc b q s
  if (targetOf l).isNone then (stInvalid, none, s) else (stOk, some (BitVec.ofNat 64 (ageOf s l / 400000)), s)

/-- SAGE. -/
def execQSage (b : Bool) (q : BitVec 56) (s : State) : Host.Outcome State Fault Refusal :=
  .next (qStatusG b q (qClean q (qNamed 31 31 0 7 0 0)) false (doSage b q) s)

/-- SENSE (R415). -/
def doSense (b : Bool) (q : BitVec 56) (s : State) : Nat × Option W64 × State :=
  let i := gA b q s
  let give (n v : Nat) : Nat × Option W64 × State := if i < n then (stOk, some (BitVec.ofNat 64 v), s) else (stInvalid, none, s)
  match nfld (qImm q) 0 3 with
  | 0 => give 192 (sensorReg s i)
  | 1 => give 16 (regionReg s i + 2 ^ 20 * s.rf (fFloor i))
  | 2 => give 192 (canaryReg s i)
  | 3 => give 19 (Tbl.get s.thm.railCopy i 0)
  | _ => (stInvalid, none, s)

/-- SENSE. -/
def execQSense (b : Bool) (q : BitVec 56) (s : State) : Host.Outcome State Fault Refusal :=
  .next (qStatusG b q (qClean q (qNamed 31 31 0 7 0 7)) false (doSense b q) s)

/-- PAUSE: FLOOR of a region (R404, R406). -/
def doPause (b : Bool) (q : BitVec 56) (s : State) : Nat × State :=
  let r := gA b q s
  if r > 15 then (stInvalid, s) else (stOk, withGates r 2 (fun t => t.setRf (fFloor r) (nfld (qImm q) 0 4)) s)

/-- PAUSE. -/
def execQPause (b : Bool) (q : BitVec 56) (s : State) : Host.Outcome State Fault Refusal :=
  .next (qStatus b q (qClean q (qNamed 0 31 0 7 0 15)) false (doPause b q) s)

/-! ### Record and counter classes (R519) -/

/-- REC: a FAULT record image; where its bucket has no token left for it, it is counted in SUPP (R474–R476). -/
def doRec (b : Bool) (q : BitVec 56) (s : State) : Nat × State :=
  withOperand b (qAddr b q s) 64 (fun v s =>
    let r : BitVec 512 := BitVec.ofNat 512 v
    let k := bucketOf s (recCode r)
    let ahead := (s.recd.input.filter (fun x => recCode x == recCode r && !unlimited x)).length
    if recType r ≠ 1 then (stInvalid, s)
    else if !unlimited r && k.rate != 15 && decide (k.tokens ≤ ahead) then
      (stQuota, setBucket (recCode r) { k with supp := min (k.supp + 1) 0xFFFF } s)
    else (stOk, pushRec false r s)) s

/-- REC; with 64 records queued it has not executed yet (R474; log entry 21). -/
def execQRec (b : Bool) (q : BitVec 56) (s : State) : Host.Outcome State Fault Refusal :=
  let waits := serves b s && (pairOf b s).pred (qPred q) != qNeg q && decide (s.recd.input.length ≥ 64)
  .next (if waits then s else qStatus b q (qClean q (qNamed 0 31 0 7 0 immAll)) false (doRec b q) s)

/-- CPER (R394, R395). -/
def doCper (b : Bool) (q : BitVec 56) (s : State) : Nat × State :=
  withOperand b (gA b q s) 128 (fun v s =>
    let (good, s) := queueCper v s
    (if good then stOk else stQuota, s)) s

/-- CPER. -/
def execQCper (b : Bool) (q : BitVec 56) (s : State) : Host.Outcome State Fault Refusal :=
  .next (qStatus b q (qClean q (qNamed 0 31 0 7 0 0)) false (doCper b q) s)

/-- The status of an access to counter i. -/
def ctrStatus (s : State) (i : Nat) : Nat := if i > 9087 then stInvalid else if siteMissing s i then stSuspect else stOk

/-- CSAMP (R450, R456). -/
def execQCsamp (b : Bool) (q : BitVec 56) (s : State) : Host.Outcome State Fault Refusal :=
  .next (qStatusG b q (qClean q (qNamed 31 31 0 7 0 0)) false (fun t =>
    let i := gA b q t
    let st := ctrStatus t i
    (st, if st = stOk then some (BitVec.ofNat 64 (sampleOf t i false)) else none, t)) s)
/-- CRST (R450). -/
def execQCrst (b : Bool) (q : BitVec 56) (s : State) : Host.Outcome State Fault Refusal :=
  .next (qStatus b q (qClean q (qNamed 0 31 0 7 0 0)) false (fun t =>
    let st := ctrStatus t (gA b q t)
    (st, whenS (st == stOk) (resetCtr (gA b q t)) t)) s)

/-- CSEL (R470). -/
def doCsel (b : Bool) (q : BitVec 56) (s : State) : Nat × State :=
  let i := gA b q s
  let v := gB b q s
  let st := ctrStatus s i
  if st ≠ stOk then (st, s)
  else if selSuits i (nfld v 0 5) (nfld v 5 6) (nfld v 12 12) then (stOk, setSel i (nfld v 0 5) (nfld v 5 6) (nfld v 12 12) s)
  else (stInvalid, s)

/-- CSEL. -/
def execQCsel (b : Bool) (q : BitVec 56) (s : State) : Host.Outcome State Fault Refusal :=
  .next (qStatus b q (qClean q (qNamed 0 31 31 7 0 0)) false (doCsel b q) s)

/-- TALLY (R453–R455): with every slot locked the tally is frozen and not stored. -/
def doQTally (b : Bool) (q : BitVec 56) (s : State) : Nat × State :=
  let (good, t) := orderTally (gA b q s) 0 none s
  (if !good then stLate else if (freeTally s).isNone then stQuota else stOk, t)

/-- TALLY. -/
def execQTally (b : Bool) (q : BitVec 56) (s : State) : Host.Outcome State Fault Refusal :=
  .next (qStatus b q (qClean q (qNamed 0 31 0 7 0 0)) false (doQTally b q) s)

/-- CENSUS (R464, R467). -/
def doQCensus (b : Bool) (q : BitVec 56) (s : State) : Nat × State :=
  let (good, s) := orderCensus (gA b q s) 0 .management s
  (if good then stOk else stLate, s)

/-- CENSUS. -/
def execQCensus (b : Bool) (q : BitVec 56) (s : State) : Host.Outcome State Fault Refusal :=
  .next (qStatus b q (qClean q (qNamed 0 31 0 7 0 0)) false (doQCensus b q) s)

end Sys2Proof.Machine
end

