-- ==== Sys2Proof/Machine/Receive.lean ====
section
/-! DEFINITION. Taking a VC-S message: its form, DACK and NACK, and where it goes (10_latches_and_stop R331–R336; 00 R13; 17 R554). -/
namespace Sys2Proof.Machine

/-! ### The header (R331) -/

def hdrClass (h : W128) : Nat := fld h 0 4
def hdrPlen (h : W128) : Nat := fld h 4 2
def hdrSrc (h : W128) : Nat := fld h 16 16
def hdrDst (h : W128) : Nat := fld h 32 16
def hdrGroup (h : W128) : Nat := fld h 48 16
def hdrMseq (h : W128) : Nat := fld h 64 32
def hdrSent (h : W128) : Nat := fld h 96 32

/-- Bits a layout leaves reserved, each (lowest bit, width). -/
def zeroAt (p : BitVec 384) (l : List (Nat × Nat)) : Bool := l.all (fun r => fld p r.1 r.2 == 0)

/-- The payload of a class breaks no reserved field or code (R13, R185, R219–R230, R302, R323, R336, R343, R358). -/
def payloadOk (cls : Nat) (p : BitVec 384) : Bool :=
  let typ := fld p 0 4
  match cls with
  | 0 => (typ == 1 || typ == 2) && zeroAt p [(4, 28), (64, 64)]
  | 1 => decide (1 ≤ typ ∧ typ ≤ 5) && zeroAt p [(4, 4), (108, 4)]
  | 2 => (decide (1 ≤ typ ∧ typ ≤ 6) || typ == 8 || typ == 9) && lopClean (BitVec.ofNat 128 (fld p 0 128))
  | 3 =>
    if typ = 1 then zeroAt p [(12, 4), (71, 57)]
    else if typ = 2 then decide (1 ≤ fld p 4 4 ∧ fld p 4 4 ≤ 10) && zeroAt p [(11, 1), (288, 96)]
    else if typ = 3 then zeroAt p [(12, 4), (18, 14), (56, 8), (103, 25)]
    else if typ = 4 then zeroAt p [(8, 8), (17, 15), (56, 8), (96, 32)]
    else typ == 5 && zeroAt p [(4, 12), (28, 36)]
  | 4 => decide (1 ≤ typ ∧ typ ≤ 4) && decide (fld p 8 5 ≤ 16) && zeroAt p [(4, 4), (13, 3), (48, 16), (101, 27)]
  | 5 => decide (1 ≤ typ ∧ typ ≤ 3) && zeroAt p [(4, 4), (21, 11)] && (typ != 3 || fld p 96 32 == 0)
  | 6 => decide (1 ≤ typ ∧ typ ≤ 3) && zeroAt p [(4, 4), (14, 2), (48, 16), (160, 96)]
  | 7 => true
  | _ => false

/-- Header and payload break no reserved field or code. -/
def messageOk (h : W128) (p : BitVec 384) : Bool := fld h 6 10 == 0 && hdrPlen h != 0 && payloadOk (hdrClass h) p

/-- Flits of a payload length: 32 B each, header and payload together (R331). -/
def flits (plen : Nat) : Nat := if plen ≤ 1 then 1 else 2

/-- The intake of 1,024 flits has room for the message (R335). -/
def intakeRoom (s : State) (plen : Nat) : Bool := decide (s.fab.intake.foldl (fun n m => n + flits m.plen) 0 + flits plen ≤ 1024)

/-- A fault message from another die, received as source class 6 (R332). -/
def takeFault (p : BitVec 384) (s : State) : State :=
  raiseOn 34 uFabric (BitVec.ofNat 128 (nset (fld p 0 128) 12 3 6)) s

/-- A control message: DACK or NACK of a branch (R336, R339). -/
def takeControl (src : Nat) (p : BitVec 384) (s : State) : State :=
  let mseq := fld p 32 32
  if fld p 0 4 = 2 then updBranch mseq src (fun b => { b with nacked := true }) s
  else match findBranch s mseq src with
    | some b => branchDone true b s
    | none => s

/-- VCS_RECEIVE (R335, R554). A lease or reply that no rule reads further is taken and done with. -/
def doVcsReceive (h : W128) (p : BitVec 384) (s : State) : State :=
  let cls := hdrClass h
  let src := hdrSrc h
  let dack (s : State) : State := if cls = 0 then s else answer src (hdrMseq h) true s
  if !s.hubUp || !s.dieSet then s
  else if hdrDst h ≠ s.die then vcsBad src (hdrDst h) (dack s)
  else if !messageOk h p then vcsBad src 0 (dack s)
  else if cls = 0 then takeControl src p s
  else if !intakeRoom s (hdrPlen h) then answer src (hdrMseq h) false s
  else if cls = 7 then takeFault p (dack s)
  else if cls = 4 && (fld p 0 4 == 2 || fld p 0 4 == 4) then dack s
  else takeMsg ⟨cls, hdrPlen h, src, hdrDst h, hdrGroup h, hdrMseq h, hdrSent h, p⟩ (dack s)

/-- VCS_RECEIVE. -/
def execVcsReceive (hdr : W128) (payload : BitVec 384) (s : State) : Host.Outcome State Fault Refusal := .next (atHub (doVcsReceive hdr payload) s)

end Sys2Proof.Machine
end

