-- ==== Sys2Proof/Machine/Vote.lean ====
section
/-! DEFINITION. The arbiter's vote, the verdict at every die, and what follows an expulsion (06_weight_digests R219–R234). -/
namespace Sys2Proof.Machine

def State.arb (s : State) (c : Nat) : Arb := Tbl.get s.dig.arbs c Arb.reset
def updArb (c : Nat) (f : Arb → Arb) (s : State) : State := { s with dig := { s.dig with arbs := s.dig.arbs.upd c Arb.reset f } }

/-! ### The decision (R220, R221) -/

/-- CODE of a verdict (R222). -/
abbrev vAgree : Nat := 1
abbrev vExpel : Nat := 2
abbrev vSplit : Nat := 3
abbrev vNovote : Nat := 4
abbrev vCertified : Nat := 5
abbrev vCertFail : Nat := 6
abbrev vRestored : Nat := 7
abbrev vRestoreFail : Nat := 8
abbrev vReadmit : Nat := 9
abbrev vReseedFail : Nat := 10

/-- A replica of which no part has come. -/
def RepPart.none : RepPart := ⟨0, 0, 0, 0, []⟩

/-- One die's part added (R220). -/
def RepPart.add (p : RepPart) (src kc flags l0 l1 : Nat) : RepPart :=
  ⟨p.lane0 ^^^ l0, p.lane1 ^^^ l1, p.count + 1, p.flags ||| flags, p.kcvs ++ [(src, kc)]⟩

/-- A replica is complete (R220); a DIES entry of 0 names no replica. -/
def repComplete (v : BitVec 512) (r : Nat) (p : RepPart) : Bool := decide (voteDies v r ≠ 0 ∧ p.count ≥ voteDies v r)

/-- The KCV of the majority of the dies that sent parts (R220). -/
def majorKcv (l : List (Nat × Nat)) : Option Nat :=
  (l.find? (fun a => decide (2 * (l.filter (fun b => b.2 == a.2)).length > l.length))).map (fun a => a.2)

/-- A replica's dies disagree on KCV, or theirs is not that of the majority (R220). -/
def kcvBad (m : Option Nat) (p : RepPart) : Bool :=
  match p.kcvs with
  | [] => false
  | a :: r => r.any (fun b => b.2 != a.2) || (match m with
    | some x => p.kcvs.any (fun b => b.2 != x)
    | none => false)

/-- What a vote decides: CODE, majority group, expelled, absent, and the absent runs (R221). -/
structure Decision where
  code : Nat
  group : List Nat
  expel : List Nat
  absent : List Nat
  runs : Tbl Nat
deriving DecidableEq, Repr

/-- The procedure decide of R221 over the lanes of the replicas: index, lanes, BLAZED, for those cast. -/
def decideVote (replicas limit : Nat) (cast : List (Nat × W128 × Bool)) (runs : Tbl Nat) : Decision :=
  let ids := cast.map (fun x => x.1)
  let absent := (List.range replicas).filter (fun r => !ids.contains r)
  let need := replicas / 2 + 1
  if cast.length < need then ⟨vNovote, [], [], absent, runs⟩
  else
    let groupOf (x : Nat × W128 × Bool) : List Nat :=
      if x.2.2 then [x.1] else (cast.filter (fun y => !y.2.2 && y.2.1 == x.2.1)).map (fun y => y.1)
    match (cast.map groupOf).find? (fun g => decide (g.length ≥ need)) with
    | none => ⟨vSplit, [], [], absent, runs⟩
    | some g =>
      let runs := absent.foldl (fun (t : Tbl Nat) r => t.upd r 0 (· + 1)) runs
      let expel := (List.range replicas).filter (fun r => (ids.contains r && !g.contains r) || (absent.contains r && decide (Tbl.get runs r 0 ≥ limit)))
      let runs := g.foldl (fun (t : Tbl Nat) r => t.put r 0) runs
      ⟨if expel.isEmpty then vAgree else vExpel, g, expel, absent, runs⟩

/-- A mask of replicas. -/
def repMask (l : List Nat) : Nat := (List.range 16).foldl (fun m r => m + if l.contains r then 2 ^ r else 0) 0

/-- A VERDICT payload (R222). -/
def verdictMsg (code flags donor agree expel absent epoch : Nat) (lanes : W128) (et : Nat) : Nat :=
  pack [(4, 2), (4, code), (4, flags), (4, donor), (16, agree), (16, expel), (16, absent), (64, epoch), (128, lanes.toNat), (32, et)]

/-- The 64-bit epoch number that 32 bits name: the one nearest the open epoch (R219). -/
def epochOf32 (openE low : Nat) : Nat :=
  let d := (low + 2 ^ 32 - openE % 2 ^ 32) % 2 ^ 32
  if d < 2 ^ 31 then openE + d else openE - (2 ^ 32 - d)

/-- A verdict multicast to GROUP; none from a die under PF_WARN (R222, R224). -/
def sendVerdict (c : Nat) (p : Nat) (s : State) : State :=
  if s.isl.pf then s else multiPlain none vcDigest (voteGroup (s.digComp c).vote) 3 p s

/-- Epoch numbers as their low 32 bits, and the check of a replica against its reference (R227, R228, R231). -/
def checkRef (a : Arb) (k : RepCheck) : Option W128 :=
  if k.what = 5 then a.restoreRef.bind (fun r => if r.1 % 2 ^ 32 = k.epoch then some r.2 else none)
  else (List.find? (fun (g : Nat × W128 × Nat × Tick × Bool) => g.1 % 2 ^ 32 == k.epoch) a.agreed).map (fun g => g.2.1)

/-- The arbiter gives no verdict: PF_WARN, or its die is stopped (R224). -/
def arbiterOut (s : State) : Bool := s.isl.pf || s.cmd.dieStop

/-- A check is decided: its verdict and, on failure, its fault (R224, R227, R228, R231). -/
def settleCheck (c : Nat) (k : RepCheck) (s : State) : State :=
  if arbiterOut s then updArb c (fun a => { a with checks := a.checks.erase k }) s else
  let v := (s.digComp c).vote
  let a := s.arb c
  let e := epochOf32 (openEpoch s c) k.epoch
  let lanes := BitVec.ofNat 128 (k.part.lane0 + 2 ^ 64 * k.part.lane1)
  let good := repComplete v k.replica k.part && nfld k.part.flags 1 1 == 0 && checkRef a k == some lanes
  let agree := ((List.find? (fun (g : Nat × W128 × Nat × Tick × Bool) => g.1 % 2 ^ 32 == k.epoch) a.agreed).map (fun g => g.2.2.1)).getD 0
  let code := (if k.what = 4 then vCertified else if k.what = 5 then vRestored else vReadmit) + b2n !good
  let s := updArb c (fun a => { a with checks := a.checks.erase k }) s
  let s := sendVerdict c (verdictMsg code 0 k.replica agree 0 0 e ((checkRef a k).getD 0) (s.et % 2 ^ 32)) s
  whenS (!good) (raiseHub uDigest (if k.what = 4 then Kind.digCert else Kind.digReseedBad) dieLoc (detail 0 none (some c))) s

/-- Checks that can be decided now: the replica is complete, and what it is compared with is there (R228, R231). -/
def settleChecks (c : Nat) (s : State) : State :=
  let ready (t : State) (k : RepCheck) : Bool :=
    repComplete (t.digComp c).vote k.replica k.part &&
      (if k.what = 4 then (t.arb c).decided.contains k.epoch else if k.what = 5 then (checkRef (t.arb c) k).isSome else true)
  foldS (s.arb c).checks (fun k t => whenS (ready t k) (settleCheck c k) t) s

/-- One bit of one lane of one cast replica flipped, all three chosen by the rehearsal LFSR's value: bits [5:0] the bit, bit 6 the lane,
the rest the replica (R234; log entry 57). -/
def altered (cast : List (Nat × W128 × Bool)) (x : Nat) : List (Nat × W128 × Bool) :=
  let i := x / 128 % cast.length
  cast.mapIdx (fun k p => if k = i then (p.1, p.2.1 ^^^ BitVec.ofNat 128 (2 ^ (x % 128)), p.2.2) else p)

/-- A shadow vote over the same parts with one bit altered (R234). The Reducer's comparator and the follow-up run one procedure, R221, so
that the two verdicts differ never here; a real verdict later than its bound is the miss (R222). -/
def shadowVote (c replicas limit : Nat) (cast : List (Nat × W128 × Bool)) (late : Bool) (s : State) : State :=
  match rehearsalOf s 4 0 with
  | some r =>
    if r.injected || decide (cast.length < 2) || (s.comp c).st == .stopped || s.isl.pf then s
    else
      let (x, s) := stepLfsr 0 0 s
      let set := altered cast x
      let comparator := decideVote replicas limit set (s.arb c).runs
      let followUp := decideVote replicas limit set (s.arb c).runs
      rehearsalEnds 4 0 (comparator == followUp && !late) (injectNow 4 0 s)
  | none => s

/-- A verdict is later than R222 bounds it: 1,200 HCLK after the expiry of VOTE_WAIT, where no part completed the vote (R222). -/
def verdictLate (s : State) (rec_ : BitVec 512) (v : OpenVote) (complete : Bool) : Bool :=
  !complete && decide (s.et > v.first + voteWait rec_ + 400)

/-- A vote is decided and its verdict leaves; none from an arbiter that is out (R220–R222, R224, R226). -/
def endVote (c : Nat) (v : OpenVote) (s : State) : State :=
  if arbiterOut s then updArb c (fun a => { a with votes := a.votes.erase v, decided := (v.epoch :: a.decided).take 16 }) s else
  let rec_ := (s.digComp c).vote
  let n := voteReplicas rec_
  let part (r : Nat) : RepPart := Tbl.get v.parts r RepPart.none
  let kcvs := (List.range n).flatMap (fun r => (part r).kcvs)
  let major := majorKcv kcvs
  let cast := ((List.range n).filter (fun r => repComplete rec_ r (part r) && nfld (part r).flags 1 1 == 0 && !kcvBad major (part r))).map
    (fun r => (r, (BitVec.ofNat 128 ((part r).lane0 + 2 ^ 64 * (part r).lane1) : W128), nfld (part r).flags 3 1 == 1))
  let d := decideVote n (voteAbsentLimit rec_) cast (s.arb c).runs
  let key := (List.range n).any (fun r => kcvBad major (part r))
  let taint := cast.any (fun x => nfld (part x.1).flags 0 1 == 1)
  let e := epochOf32 (openEpoch s c) v.epoch
  let lanes : W128 := ((cast.find? (fun x => d.group.contains x.1)).map (fun x => x.2.1)).getD 0
  let donor := d.group.head?.getD 0
  let ok := (d.code == vAgree || d.code == vExpel) && !taint
  let s := updArb c (fun a =>
    let a : Arb := { a with votes := a.votes.erase v, runs := d.runs, decided := (v.epoch :: a.decided).take 16 }
    { a with agreed := if ok then ((e, lanes, repMask d.group, s.et, taint) :: a.agreed).take 16 else a.agreed }) s
  let g : TensorGather := ⟨v.epoch, donor, d.expel.head?.getD 0, s.et, [], 0, false, false⟩
  let s := whenS (d.code == vExpel) (updArb c (fun a => { a with gather := a.gather ++ [g] })) s
  let s := match major with
    | some m => foldS (kcvs.filter (fun k => k.2 != m)) (fun k t => raiseFabric Kind.digKey systemLoc (detail 0 (some k.1) none) t) s
    | none => s
  let full := (List.range n).all (fun r => repComplete rec_ r (part r))
  let s := shadowVote c n (voteAbsentLimit rec_) cast (verdictLate s rec_ v full) s
  let p := verdictMsg d.code (b2n taint + 2 * b2n key + 4 * b2n (n == 1)) (if d.code = vExpel then donor else 0) (repMask d.group) (repMask d.expel)
    (repMask d.absent) e lanes (s.et % 2 ^ 32)
  settleChecks c (sendVerdict c p s)

/-! ### Parts at the arbiter (R220) -/

/-- A part of a check: CERTIFY, RESTORE or RESEED (R227, R228, R231). -/
def takeCheck (c what e rep : Nat) (add : RepPart → RepPart) (s : State) : State :=
  let same (k : RepCheck) : Bool := k.what == what && k.epoch == e && k.replica == rep
  let s := whenS (!(s.arb c).checks.any same) (updArb c (fun a => { a with checks := a.checks ++ [⟨e, rep, what, s.et, RepPart.none⟩] })) s
  settleChecks c (updArb c (fun a => { a with checks := a.checks.map (fun k => if same k then { k with part := add k.part } else k) }) s)

/-- A part of a vote; the seventeenth open vote decides the oldest at once, and a part of a decided vote is too late (R220). -/
def takeVote (c e rep : Nat) (add : RepPart → RepPart) (s : State) : State :=
  if (s.arb c).decided.contains e then s
  else
    let fresh := !(s.arb c).votes.any (fun v => v.epoch == e)
    let s := match (s.arb c).votes with
      | v :: _ => whenS (fresh && decide ((s.arb c).votes.length ≥ 16)) (endVote c v) s
      | [] => s
    let s := whenS fresh (updArb c (fun a => { a with votes := a.votes ++ [⟨e, s.et, []⟩] })) s
    let s := updArb c (fun a => { a with votes := a.votes.map (fun v =>
      if v.epoch = e then { v with parts := v.parts.put rep (add (Tbl.get v.parts rep RepPart.none)) } else v) }) s
    let rec_ := (s.digComp c).vote
    match List.find? (fun (v : OpenVote) => v.epoch == e) (s.arb c).votes with
    | some v => whenS ((List.range (voteReplicas rec_)).all (fun r => repComplete rec_ r (Tbl.get v.parts r RepPart.none))) (endVote c v) s
    | none => s

/-- DIGEST_PART (R219, R220). -/
def onDigestPart (m : VcsMsg) (s : State) : State :=
  let c := fld m.payload 8 4
  let rep := fld m.payload 4 4
  let e := fld m.payload 32 32
  let flags := fld m.payload 64 8
  let add (p : RepPart) : RepPart := p.add m.src (fld m.payload 16 16) flags (fld m.payload 128 64) (fld m.payload 192 64)
  if rep ≥ voteReplicas (s.digComp c).vote then vcsBad m.src 0 s
  else if nfld flags 4 1 = 1 then takeCheck c 4 e rep add s
  else if nfld flags 5 1 = 1 then takeCheck c 5 e rep add s
  else if nfld flags 6 1 = 1 then takeCheck c 6 e rep add s
  else takeVote c e rep add s

/-- DIGEST_PART. -/
def execDigestPart (s : State) : Host.Outcome State Fault Refusal := .next (atHub (withMsg vcDigest 1 onDigestPart) s)

/-- VOTE_WAIT_EXPIRY (R220, R228): the vote of an epoch, and checks that wait for it. -/
def doVoteWaitExpiry (c epoch : Nat) (s : State) : State :=
  let w := voteWait (s.digComp c).vote
  let s := match List.find? (fun (v : OpenVote) => v.epoch == epoch % 2 ^ 32) (s.arb c).votes with
    | some v => whenS (decide (s.et ≥ v.first + w)) (endVote c v) s
    | none => s
  foldS (s.arb c).checks (fun k t => whenS (k.epoch == epoch % 2 ^ 32 && decide (s.et ≥ k.first + w)) (settleCheck c k) t) s

/-- VOTE_WAIT_EXPIRY. -/
def execVoteWaitExpiry (c epoch : Nat) (s : State) : Host.Outcome State Fault Refusal := .next (atHub (doVoteWaitExpiry c epoch) s)

/-! ### The verdict at a die (R223–R229) -/

/-- One TENSOR_PART (R226). -/
def tensorPart (rep arbComp : Nat) (last unret : Bool) (tid epoch flags : Nat) (lanes : W128) : Nat :=
  pack [(4, 3), (4, rep), (4, arbComp), (4, 0), (1, b2n last), (1, b2n unret), (14, 0), (24, tid), (8, 0), (32, epoch), (8, flags), (24, 0), (128, lanes.toNat)]

/-- The parts of every entry with words, from the retained digests of an epoch, or the one part that says they are gone (R226). -/
def sendTensorParts (c epoch : Nat) (s : State) : State :=
  let v := (s.digComp c).vote
  let go (p : Nat) (s : State) : State := sendPlain (some c) vcDigest (voteArbiter v) 2 p s
  let none_ := tensorPart (voteReplica v) (voteArbComp v) true true 0 epoch 0 0
  match List.find? (fun (r : Retained) => r.epoch == epoch) (s.digComp c).retained with
  | none => go none_ s
  | some r =>
    let es := (tensorsOf s c).filterMap (fun e => if e.2.words = 0 then none else (r.digests.find? e.1).map (fun d => d))
    if es.isEmpty then go (tensorPart (voteReplica v) (voteArbComp v) true false 0 epoch r.flags 0) s
    else foldS (List.range es.length) (fun i t =>
      match es[i]? with
      | some (tid, l, blz) => go (tensorPart (voteReplica v) (voteArbComp v) (i + 1 == es.length) false tid epoch (nset r.flags 3 1 (b2n blz)) l) t
      | none => t) s

/-- A certificate stored (R229). -/
def storeCert (c rep agree e : Nat) (lanes : W128) (et : Tick) (s : State) : State :=
  let d := s.digComp c
  let (vote, s) := match List.find? (fun (x : Nat × Tick) => x.1 == e) d.committed with
    | some x => (x.2, s)
    | none => let (v, s) := takeFree s; (v.toNat, s)
  let x := BitVec.ofNat 512 (pack [(4, c), (4, 1), (4, rep), (4, 0), (16, kcv d.root e), (16, agree), (16, 0), (64, e), (128, lanes.toNat),
    (64, vote), (64, et)])
  updDig c (fun d => { d with certs := d.certs.put d.certNext x, certNext := (d.certNext + 1) % 16 }) s

/-- Commands that wait for a check's verdict complete: those of the checked replica's dies, and on the arbiter die the RESTORE that gave
the lanes (R228, R231, R541, R542). -/
def endWaits (c opcode e code status : Nat) (mine : Bool) (s : State) : State :=
  let due (w : CheckWait) : Bool := w.opcode == opcode && w.epoch == e && (mine || w.arb)
  foldS ((s.digComp c).waits.filter due) (fun w t => completeCmd c w.tag opcode status code t)
    (updDig c (fun d => { d with waits := d.waits.filter (fun w => !due w) }) s)

/-- What a code does on this die (R225–R229, R231, R233). -/
def verdictEffect (c code agree expel rep e : Nat) (taint : Bool) (lanes : W128) (et : Tick) (s : State) : State :=
  let me := voteReplica (s.digComp c).vote
  let mine := rep == me
  let known (s : State) : State := updDig c (fun d => { d with verdicts := ((e, code, taint) :: d.verdicts).take 16 }) s
  let committed (s : State) : State := if taint then known s else updDig c (fun d => { d with committed := ((e, et) :: d.committed).take 16 }) s
  match code with
  | 1 => committed s
  | 2 =>
    let low := ((List.range 16).find? (fun r => expel.testBit r)).getD 0
    let s := whenS (mine || me == low) (sendTensorParts c e) (committed s)
    whenS (expel.testBit me) (fun t => raiseHub uDigest Kind.digExpel dieLoc (detail 0 none (some c)) (countSilent dieLoc t)) s
  | 3 => raiseHub uDigest Kind.digSplit dieLoc (detail 0 none (some c)) (known s)
  | 4 => known s
  | 5 => endWaits c 0x24 e code stOk mine (storeCert c rep agree e lanes et s)
  | 6 => endWaits c 0x24 e code ((epochEnded s c e).getD stSuspect) mine s
  | 7 => endWaits c 0x25 e code stOk mine s
  | 8 => endWaits c 0x25 e code stSuspect mine s
  | 9 => whenS (mine && (s.comp c).st == .reseeding) (liftStop c) s
  | 10 => whenS (mine && (s.comp c).st == .reseeding) (updComp c (fun p => { p with st := .stopped })) s
  | _ => s

/-- A verdict applied (R218, R223). -/
def applyVerdictMsg (m : VcsMsg) (s : State) : State :=
  match groupComp s m.group with
  | none => s
  | some c =>
    if s.isl.pf then s
    else
      let code := fld m.payload 4 4
      let e := fld m.payload 64 64
      let f (lo len : Nat) : Nat := fld m.payload lo len
      let lanes : W128 := BitVec.ofNat 128 (f 128 128)
      let s := verdictEffect c code (f 16 16) (f 32 16) (f 12 4) e (bitAt m.payload 8) lanes (s.backEt (f 256 32)) s
      let vote := decide (code ≤ 4)
      let s := updDig c (fun d =>
        let d : DigComp := { d with lastCode := code, lastEpoch := e }
        if vote then { d with awaited := d.awaited.filter (fun a => a.1 != e), retained := d.retained.filter (fun r => r.epoch != e) } else d) s
      postRecord c 0x07 stOk 0 (pack [(4, code), (1, f 8 1), (1, f 9 1), (1, f 10 1), (9, 0), (16, f 16 16), (16, f 32 16), (16, f 48 16), (64, e)]) s

/-- VERDICT (R223): verdicts apply in epoch order (R224). -/
def doVerdict (s : State) : State :=
  let due (m : VcsMsg) : Bool := m.cls == vcDigest && fld m.payload 0 4 == 2 && (match groupComp s m.group with
    | some c => decide (fld m.payload 4 4 > 4) || !(s.digComp c).awaited.any (fun a => decide (a.1 < fld m.payload 64 64))
    | none => true)
  match findMsg due s with
  | some m => applyVerdictMsg m (dropMsg m s)
  | none => s

/-- VERDICT. -/
def execVerdict (s : State) : Host.Outcome State Fault Refusal := .next (atHub doVerdict s)

/-- VOTE_WAIT + 100 ms (R218, R224). -/
def verdictBound (s : State) (c : Nat) : Nat := voteWait (s.digComp c).vote + 40000000

/-- DIG_NO_VERDICT (R224): the oldest epoch whose verdict is overdue. -/
def doDigNoVerdict (c : Nat) (s : State) : State :=
  match (s.digComp c).awaited with
  | a :: rest =>
    if s.et < a.2 + verdictBound s c then s
    else raiseHub uDigest Kind.digNoVerdict dieLoc (detail 0 none (some c)) (updDig c (fun d => { d with awaited := rest }) s)
  | [] => s

/-- DIG_NO_VERDICT. -/
def execDigNoVerdict (c : Nat) (s : State) : Host.Outcome State Fault Refusal := .next (atHub (doDigNoVerdict c) s)

/-- RETENTION_EXPIRY (R218). -/
def doRetentionExpiry (c epoch : Nat) (s : State) : State :=
  let b := verdictBound s c
  updDig c (fun d => { d with retained := d.retained.filter (fun r => !(r.epoch == epoch && decide (s.et ≥ r.closedAt + b))) }) s

/-- RETENTION_EXPIRY. -/
def execRetentionExpiry (c epoch : Nat) (s : State) : Host.Outcome State Fault Refusal := .next (atHub (doRetentionExpiry c epoch) s)

/-! ### Which tensors differ (R226) -/

/-- The TENSOR_DIFFs of a gathering multicast, and the gathering over (R226). -/
def sendDiffs (c : Nat) (g : TensorGather) (s : State) : State :=
  let diff (ovf : Bool) (tid : Nat) : Nat := pack [(4, 4), (4, g.expelled), (8, 0), (1, b2n ovf), (15, 0), (24, tid), (8, 0), (32, g.epoch)]
  let tids := (g.tids.filter (fun e => e.2.1 != e.2.2)).map (fun e => e.1)
  let ovf := g.overflow || decide (tids.length > 64)
  let grp := voteGroup (s.digComp c).vote
  let send (p : Nat) (s : State) : State := if s.isl.pf then s else multiPlain (some c) vcDigest grp 1 p s
  let s := updArb c (fun a => { a with gather := a.gather.erase g }) s
  if g.unretained then send (diff true 0) s else foldS (tids.take 64) (fun t s => send (diff ovf t) s) s

/-- A TENSOR_PART absorbed (R226). -/
def onTensorPart (m : VcsMsg) (s : State) : State :=
  let c := fld m.payload 8 4
  let rep := fld m.payload 4 4
  let tid := fld m.payload 32 24
  let lanes : W128 := BitVec.ofNat 128 (fld m.payload 128 128)
  match List.find? (fun (g : TensorGather) => g.epoch == fld m.payload 64 32 && (g.donor == rep || g.expelled == rep)) (s.arb c).gather with
  | none => s
  | some g =>
    let unret := bitAt m.payload 17
    let room := g.tids.has tid || decide (g.tids.length < 4096)
    let (a, b) := Tbl.get g.tids tid (0, 0)
    let tids := if unret || !room then g.tids else g.tids.put tid (if rep = g.donor then (a ^^^ lanes, b) else (a, b ^^^ lanes))
    let g' : TensorGather := { g with tids := tids, lasts := g.lasts + b2n (bitAt m.payload 16), overflow := g.overflow || !room, unretained := g.unretained || unret }
    let s := updArb c (fun x => { x with gather := x.gather.map (fun y => if y = g then g' else y) }) s
    let v := (s.digComp c).vote
    whenS (decide (g'.lasts ≥ voteDies v g.donor + voteDies v g.expelled)) (sendDiffs c g') s

/-- TENSOR_PART. -/
def execTensorPart (s : State) : Host.Outcome State Fault Refusal := .next (atHub (withMsg vcDigest 3 onTensorPart) s)

/-- TENSOR_WAIT_EXPIRY (R226). -/
def doTensorWaitExpiry (c : Nat) (s : State) : State :=
  let w := voteWait (s.digComp c).vote
  foldS ((s.arb c).gather.filter (fun g => decide (s.et ≥ g.first + w))) (fun g t => sendDiffs c g t) s

/-- TENSOR_WAIT_EXPIRY. -/
def execTensorWaitExpiry (c : Nat) (s : State) : Host.Outcome State Fault Refusal := .next (atHub (doTensorWaitExpiry c) s)

/-- TENSOR_DIFF (R226): once per epoch. The diff sent for UNRETAINED, OVERFLOW with TID 0, raises nothing. -/
def onTensorDiff (m : VcsMsg) (s : State) : State :=
  match groupComp s m.group with
  | none => s
  | some c =>
    let e := fld m.payload 64 32
    let tid := fld m.payload 32 24
    let d := s.digComp c
    let holds := (tensorsOf s c).any (fun x => x.2.tid == tid && decide (x.2.words > 0))
    if voteReplica d.vote = fld m.payload 4 4 ∧ holds ∧ !(bitAt m.payload 16 && tid == 0) ∧ !d.shardRaised.contains e then
      raiseHub uDigest Kind.digShard dieLoc (detail tid none (some c)) (updDig c (fun d => { d with shardRaised := (e :: d.shardRaised).take 16 }) s)
    else s

/-- TENSOR_DIFF. -/
def execTensorDiff (s : State) : Host.Outcome State Fault Refusal := .next (atHub (withMsg vcDigest 4 onTensorDiff) s)

end Sys2Proof.Machine
end

