-- ==== Sys2Proof/Machine/Dispatch.lean ====
section
/-! DEFINITION. One arm per command: each a direct call of its meaning. -/
namespace Sys2Proof.Machine

/-- The effect of one command on everything but the queue. -/
def exec (i : Instr) (s : State) : Host.Outcome State Fault Refusal :=
  match i with
  | .vddIslUp => Sys2Proof.Machine.execVddIslUp s
  | .vddIslFall => Sys2Proof.Machine.execVddIslFall s
  | .corePowerGood faulty => Sys2Proof.Machine.execCorePowerGood s faulty
  | .startComplete ft => Sys2Proof.Machine.execStartComplete s ft
  | .corePgFall bits => Sys2Proof.Machine.execCorePgFall bits s
  | .pfWarn => Sys2Proof.Machine.execPfWarn s
  | .pfWarnRelease => Sys2Proof.Machine.execPfWarnRelease s
  | .pllUnlock => Sys2Proof.Machine.execPllUnlock s
  | .refLost => Sys2Proof.Machine.execRefLost s
  | .compOpen c => Sys2Proof.Machine.execCompOpen c s
  | .compClose c => Sys2Proof.Machine.execCompClose c s
  | .sealRequest c => Sys2Proof.Machine.execSealRequest c s
  | .drainComplete => Sys2Proof.Machine.execDrainComplete s
  | .drainTimeout => Sys2Proof.Machine.execDrainTimeout s
  | .closingComplete wrote => Sys2Proof.Machine.execClosingComplete wrote s
  | .closingRecordRetry wrote => Sys2Proof.Machine.execClosingRecordRetry wrote s
  | .linkParity link => Sys2Proof.Machine.execLinkParity link s
  | .portParityError unit => Sys2Proof.Machine.execPortParityError unit s
  | .heartbeat part => Sys2Proof.Machine.execHeartbeat part s
  | .tapMissing tap => Sys2Proof.Machine.execTapMissing tap s
  | .wardenMissing r => Sys2Proof.Machine.execWardenMissing r s
  | .faultMessage link unit msg => Sys2Proof.Machine.execFaultMessage link unit msg s
  | .floodQuiet link unit msg => Sys2Proof.Machine.execFloodQuiet link unit msg s
  | .reactionOrder => Sys2Proof.Machine.execReactionOrder s
  | .unfenceOrder => Sys2Proof.Machine.execUnfenceOrder s
  | .tileTicket tap w => Sys2Proof.Machine.execTileTicket tap w s
  | .operandWord tap tag role index w => Sys2Proof.Machine.execOperandWord tap tag role index w s
  | .eorWord tap unit tag index last w => Sys2Proof.Machine.execEorWord tap unit tag index last w s
  | .valueWord tap unit tag index last w => Sys2Proof.Machine.execValueWord tap unit tag index last w s
  | .captureWord tap unit tile tag cord off w => Sys2Proof.Machine.execCaptureWord tap unit tile tag cord off w s
  | .tileCompare tap tag => Sys2Proof.Machine.execTileCompare tap tag s
  | .ticketStateError tap tag corrected => Sys2Proof.Machine.execTicketStateError tap tag s corrected
  | .sendRequest tap req => Sys2Proof.Machine.execSendRequest tap req s
  | .sendGrant tap handle => Sys2Proof.Machine.execSendGrant tap handle s
  | .sendLeft tap handle => Sys2Proof.Machine.execSendLeft tap handle s
  | .creditRefill tap => Sys2Proof.Machine.execCreditRefill tap s
  | .proofReport bad => Sys2Proof.Machine.execProofReport s bad
  | .dispatchSlot tap unit cord pin => Sys2Proof.Machine.execDispatchSlot tap unit cord pin s
  | .blazeConsumed tap unit cord pay => Sys2Proof.Machine.execBlazeConsumed tap unit cord pay s
  | .hostCoreEvent core typ cord pay => Sys2Proof.Machine.execHostCoreEvent core typ cord pay s
  | .intakeEntry => Sys2Proof.Machine.execIntakeEntry s
  | .pinpointTimeout => Sys2Proof.Machine.execPinpointTimeout s
  | .pinpointRecompute buf0 buf1 buf2 bad work => Sys2Proof.Machine.execPinpointRecompute buf0 buf1 buf2 bad s work
  | .adjudicate r work => Sys2Proof.Machine.execAdjudicate r work s
  | .secondRecompute r => Sys2Proof.Machine.execSecondRecompute r s
  | .twinThirdOpinion r => Sys2Proof.Machine.execTwinThirdOpinion r s
  | .cruiseSelfTest fail => Sys2Proof.Machine.execCruiseSelfTest fail s
  | .pinRerun => Sys2Proof.Machine.execPinRerun s
  | .startSkidNow => Sys2Proof.Machine.execStartSkidNow s
  | .replay => Sys2Proof.Machine.execReplay s
  | .thirdRun => Sys2Proof.Machine.execThirdRun s
  | .unreplayable => Sys2Proof.Machine.execUnreplayable s
  | .withdrawCert => Sys2Proof.Machine.execWithdrawCert s
  | .unitResponse => Sys2Proof.Machine.execUnitResponse s
  | .sampleComplete buf0 buf1 buf2 bad work => Sys2Proof.Machine.execSampleComplete buf0 buf1 buf2 bad work s
  | .sampleTimeout => Sys2Proof.Machine.execSampleTimeout s
  | .governorPeriod c => Sys2Proof.Machine.execGovernorPeriod c s
  | .rehearsalPoint mech tap => Sys2Proof.Machine.execRehearsalPoint mech tap s
  | .noOpportunity mech tap => Sys2Proof.Machine.execNoOpportunity mech tap s
  | .arrivalReport ext slot len => Sys2Proof.Machine.execArrivalReport ext slot len s
  | .clear => Sys2Proof.Machine.execClear s
  | .recant => Sys2Proof.Machine.execRecant s
  | .recantAck => Sys2Proof.Machine.execRecantAck s
  | .recall => Sys2Proof.Machine.execRecall s
  | .lateRecant => Sys2Proof.Machine.execLateRecant s
  | .inboundTimeout index => Sys2Proof.Machine.execInboundTimeout index s
  | .escExpired index => Sys2Proof.Machine.execEscExpired index s
  | .branchFailedExpiry index => Sys2Proof.Machine.execBranchFailedExpiry index s
  | .cordRegister region desc upsets => Sys2Proof.Machine.execCordRegister region desc s upsets
  | .cordRetire region jt => Sys2Proof.Machine.execCordRetire region jt s
  | .cordSettle slot => Sys2Proof.Machine.execCordSettle slot s
  | .jrnSpill slot => Sys2Proof.Machine.execJrnSpill slot s
  | .ringFetch tag bytes => Sys2Proof.Machine.execRingFetch tag bytes s
  | .depRelease slot => Sys2Proof.Machine.execDepRelease slot s
  | .skidStart scope => Sys2Proof.Machine.execSkidStart scope s
  | .skid scope => Sys2Proof.Machine.execSkid scope s
  | .cordHandover scope => Sys2Proof.Machine.execCordHandover scope s
  | .spareWakeDone region bits => Sys2Proof.Machine.execSpareWakeDone region bits s
  | .jrnSkidLate scope => Sys2Proof.Machine.execJrnSkidLate scope s
  | .taggedWrite ctrl word masked drop dg comp slot woff ch acc => Sys2Proof.Machine.execTaggedWrite ctrl word masked drop dg comp slot woff ch s acc
  | .closeTick c => Sys2Proof.Machine.execCloseTick c s
  | .shardScanDone c slot words => Sys2Proof.Machine.execShardScanDone c slot words s
  | .digestPartSend c => Sys2Proof.Machine.execDigestPartSend c s
  | .digestPart => Sys2Proof.Machine.execDigestPart s
  | .voteWaitExpiry c epoch => Sys2Proof.Machine.execVoteWaitExpiry c epoch s
  | .verdict => Sys2Proof.Machine.execVerdict s
  | .digNoVerdict c => Sys2Proof.Machine.execDigNoVerdict c s
  | .retentionExpiry c epoch => Sys2Proof.Machine.execRetentionExpiry c epoch s
  | .tensorPart => Sys2Proof.Machine.execTensorPart s
  | .tensorDiff => Sys2Proof.Machine.execTensorDiff s
  | .revoke => Sys2Proof.Machine.execRevoke s
  | .tapRetry tap pass => Sys2Proof.Machine.execTapRetry tap pass s
  | .fellWrite wrote => Sys2Proof.Machine.execFellWrite wrote s
  | .eccEvent ctrl ue ch waddr pay => Sys2Proof.Machine.execEccEvent ctrl ue ch waddr pay s
  | .blazeWritebackDone ctrl => Sys2Proof.Machine.execBlazeWritebackDone ctrl s
  | .blazeWritebackTimeout ctrl => Sys2Proof.Machine.execBlazeWritebackTimeout ctrl s
  | .ping => Sys2Proof.Machine.execPing s
  | .leaseExpired lease => Sys2Proof.Machine.execLeaseExpired lease s
  | .leaseRevoke => Sys2Proof.Machine.execLeaseRevoke s
  | .rateWindow => Sys2Proof.Machine.execRateWindow s
  | .clkRatioWrite value => Sys2Proof.Machine.execClkRatioWrite value s
  | .ratioSwitch r => Sys2Proof.Machine.execRatioSwitch r s
  | .loadBeacon part delay => Sys2Proof.Machine.execLoadBeacon part delay s
  | .checkBeacon part slip => Sys2Proof.Machine.execCheckBeacon part slip s
  | .neighbourCompare r => Sys2Proof.Machine.execNeighbourCompare r s
  | .align => Sys2Proof.Machine.execAlign s
  | .tAnnounce => Sys2Proof.Machine.execTAnnounce s
  | .tReq => Sys2Proof.Machine.execTReq s
  | .tResp t4 => Sys2Proof.Machine.execTResp t4 s
  | .etStep => Sys2Proof.Machine.execEtStep s
  | .driftExchange => Sys2Proof.Machine.execDriftExchange s
  | .etSlew value => Sys2Proof.Machine.execEtSlew value s
  | .slewTick => Sys2Proof.Machine.execSlewTick s
  | .matchExchange entry => Sys2Proof.Machine.execMatchExchange entry s
  | .clkMatchStale entry => Sys2Proof.Machine.execClkMatchStale entry s
  | .vcsReceive hdr payload => Sys2Proof.Machine.execVcsReceive hdr payload s
  | .dack mseq src => Sys2Proof.Machine.execDack mseq src s
  | .nack mseq src => Sys2Proof.Machine.execNack mseq src s
  | .branchRetry mseq dst => Sys2Proof.Machine.execBranchRetry mseq dst s
  | .vcsBranchFail mseq dst => Sys2Proof.Machine.execVcsBranchFail mseq dst s
  | .alloc src op => Sys2Proof.Machine.execAlloc src op s
  | .free src op => Sys2Proof.Machine.execFree src op s
  | .arm src op => Sys2Proof.Machine.execArm src op s
  | .arrive src op upset => Sys2Proof.Machine.execArrive src op s upset
  | .latchRead src op => Sys2Proof.Machine.execLatchRead src op s
  | .setfwd src op => Sys2Proof.Machine.execSetfwd src op s
  | .result => Sys2Proof.Machine.execResult s
  | .done => Sys2Proof.Machine.execDone s
  | .stopOrder => Sys2Proof.Machine.execStopOrder s
  | .stopTick c => Sys2Proof.Machine.execStopTick c s
  | .stopQuiet c => Sys2Proof.Machine.execStopQuiet c s
  | .stopMark => Sys2Proof.Machine.execStopMark s
  | .cutComplete c => Sys2Proof.Machine.execCutComplete c s
  | .stopIncomplete c => Sys2Proof.Machine.execStopIncomplete c s
  | .resumeReceived => Sys2Proof.Machine.execResumeReceived s
  | .resumeRelease c => Sys2Proof.Machine.execResumeRelease c s
  | .sliceGridPoint r slot => Sys2Proof.Machine.execSliceGridPoint r slot s
  | .clearDone key => Sys2Proof.Machine.execClearDone key s
  | .stClear key => Sys2Proof.Machine.execStClear key s
  | .segmentEnd key so => Sys2Proof.Machine.execSegmentEnd key so s
  | .stTimeout key => Sys2Proof.Machine.execStTimeout key s
  | .screenDue unit => Sys2Proof.Machine.execScreenDue unit s
  | .stOverdue unit => Sys2Proof.Machine.execStOverdue unit s
  | .extest => Sys2Proof.Machine.execExtest s
  | .idcode => Sys2Proof.Machine.execIdcode s
  | .samplePreload => Sys2Proof.Machine.execSamplePreload s
  | .bypass ir => Sys2Proof.Machine.execBypass ir s
  | .unitScan unit => Sys2Proof.Machine.execUnitScan unit s
  | .hubScan => Sys2Proof.Machine.execHubScan s
  | .tapReset => Sys2Proof.Machine.execTapReset s
  | .roSample sensor count => Sys2Proof.Machine.execRoSample sensor count s
  | .diodeSample r temp => Sys2Proof.Machine.execDiodeSample r temp s
  | .calibrate sensor => Sys2Proof.Machine.execCalibrate sensor s
  | .throttleStep scope => Sys2Proof.Machine.execThrottleStep scope s
  | .canaryWindow canary m3 m4 => Sys2Proof.Machine.execCanaryWindow canary m3 m4 s
  | .droopHoldExpiry canary => Sys2Proof.Machine.execDroopHoldExpiry canary s
  | .reinstate sensor => Sys2Proof.Machine.execReinstate sensor s
  | .pmbusRead rail command value ok => Sys2Proof.Machine.execPmbusRead rail command value ok s
  | .pmAlert addr status => Sys2Proof.Machine.execPmAlert addr status s
  | .bankOwn bank owner keep => Sys2Proof.Machine.execBankOwn bank owner keep s
  | .memtestWindow bank window faulty accesses => Sys2Proof.Machine.execMemtestWindow bank window faulty s accesses
  | .cmemWindow tap window corrected lost faulty => Sys2Proof.Machine.execCmemWindow tap window corrected lost faulty s
  | .bankRead => Sys2Proof.Machine.execBankRead s
  | .bankWrite => Sys2Proof.Machine.execBankWrite s
  | .obsSample => Sys2Proof.Machine.execObsSample s
  | .obsReset => Sys2Proof.Machine.execObsReset s
  | .obsSetsel => Sys2Proof.Machine.execObsSetsel s
  | .jObsSample c index => Sys2Proof.Machine.execJObsSample c index s
  | .periodicTally => Sys2Proof.Machine.execPeriodicTally s
  | .tallyFreeze => Sys2Proof.Machine.execTallyFreeze s
  | .tallyDrain missing => Sys2Proof.Machine.execTallyDrain missing s
  | .hangWatch c => Sys2Proof.Machine.execHangWatch c s
  | .censusFreeze ports => Sys2Proof.Machine.execCensusFreeze ports s
  | .traceDrain c => Sys2Proof.Machine.execTraceDrain c s
  | .traceHeadWrite c value => Sys2Proof.Machine.execTraceHeadWrite c value s
  | .recordWrite => Sys2Proof.Machine.execRecordWrite s
  | .tokenAdd code => Sys2Proof.Machine.execTokenAdd code s
  | .freezeGo count => Sys2Proof.Machine.execFreezeGo count s
  | .freezeRelease => Sys2Proof.Machine.execFreezeRelease s
  | .freezeTimeout => Sys2Proof.Machine.execFreezeTimeout s
  | .recRead slot => Sys2Proof.Machine.execRecRead slot s
  | .rateWrite code rate burst => Sys2Proof.Machine.execRateWrite code rate burst s
  | .rateRead code => Sys2Proof.Machine.execRateRead code s
  | .flushPage wrote => Sys2Proof.Machine.execFlushPage wrote s
  | .recCellar wrote => Sys2Proof.Machine.execRecCellar wrote s
  | .cellarRead addr => Sys2Proof.Machine.execCellarRead addr s
  | .recKey tag body => Sys2Proof.Machine.execRecKey tag body s
  | .recClear tag body => Sys2Proof.Machine.execRecClear tag body s
  | .mreg offset wide write data => Sys2Proof.Machine.execMreg offset wide write data s
  | .policyWrite tag body => Sys2Proof.Machine.execPolicyWrite tag body s
  | .policyRead tag body => Sys2Proof.Machine.execPolicyRead tag body s
  | .rootKey tag body => Sys2Proof.Machine.execRootKey tag body s
  | .captureKey tag body => Sys2Proof.Machine.execCaptureKey tag body s
  | .packLoad tag body => Sys2Proof.Machine.execPackLoad tag body s
  | .fellUndo tag body => Sys2Proof.Machine.execFellUndo tag body s
  | .imageLoad tag body => Sys2Proof.Machine.execImageLoad tag body s
  | .handover tag => Sys2Proof.Machine.execHandover tag s
  | .handoverTimeout => Sys2Proof.Machine.execHandoverTimeout s
  | .gateRefused side code tag locus => Sys2Proof.Machine.execGateRefused side code tag locus s
  | .response => Sys2Proof.Machine.execResponse s
  | .rxPop => Sys2Proof.Machine.execRxPop s
  | .cperPop => Sys2Proof.Machine.execCperPop s
  | .excursion => Sys2Proof.Machine.execExcursion s
  | .sampleSeed value => Sys2Proof.Machine.execSampleSeed value s
  | .dieIndexWrite value => Sys2Proof.Machine.execDieIndexWrite value s
  | .etLoRead job c => Sys2Proof.Machine.execEtLoRead job c s
  | .assignWrite u value => Sys2Proof.Machine.execAssignWrite u value s
  | .precWrite => Sys2Proof.Machine.execPrecWrite s
  | .precRead => Sys2Proof.Machine.execPrecRead s
  | .sevWrite value => Sys2Proof.Machine.execSevWrite value s
  | .sevRead value => Sys2Proof.Machine.execSevRead value s
  | .groupWrite value => Sys2Proof.Machine.execGroupWrite value s
  | .groupRead value => Sys2Proof.Machine.execGroupRead value s
  | .groupDelete value => Sys2Proof.Machine.execGroupDelete value s
  | .matchWrite value => Sys2Proof.Machine.execMatchWrite value s
  | .matchRead value => Sys2Proof.Machine.execMatchRead value s
  | .registerWrite job wide c offset value => Sys2Proof.Machine.execRegisterWrite job wide c offset value s
  | .cmdqTailWrite c value => Sys2Proof.Machine.execCmdqTailWrite c value s
  | .cmdqEnable c value => Sys2Proof.Machine.execCmdqEnable c value s
  | .cplqEnable c value => Sys2Proof.Machine.execCplqEnable c value s
  | .cplqHeadWrite c value => Sys2Proof.Machine.execCplqHeadWrite c value s
  | .commandFetch c packets => Sys2Proof.Machine.execCommandFetch c packets s
  | .completionWrite c => Sys2Proof.Machine.execCompletionWrite c s
  | .readData tag status data => Sys2Proof.Machine.execReadData tag status data s
  | .wack tag status => Sys2Proof.Machine.execWack tag status s
  | .streamTimeout tag => Sys2Proof.Machine.execStreamTimeout tag s
  | .jPageAccess core offset wide write data => Sys2Proof.Machine.execJPageAccess core offset wide write data s
  | .cmdNop c pkt => Sys2Proof.Machine.execCmdNop c pkt s
  | .status c pkt => Sys2Proof.Machine.execStatus c pkt s
  | .reopen c pkt => Sys2Proof.Machine.execReopen c pkt s
  | .fenceReq c pkt => Sys2Proof.Machine.execFenceReq c pkt s
  | .latch c pkt => Sys2Proof.Machine.execLatch c pkt s
  | .tensorSet c pkt => Sys2Proof.Machine.execTensorSet c pkt s
  | .extentSet c pkt => Sys2Proof.Machine.execExtentSet c pkt s
  | .tensorRead c pkt => Sys2Proof.Machine.execTensorRead c pkt s
  | .voteSet c pkt => Sys2Proof.Machine.execVoteSet c pkt s
  | .certify c pkt => Sys2Proof.Machine.execCertify c pkt s
  | .restore c pkt => Sys2Proof.Machine.execRestore c pkt s
  | .ringSet c pkt => Sys2Proof.Machine.execRingSet c pkt s
  | .retarget c pkt => Sys2Proof.Machine.execRetarget c pkt s
  | .stopSetup c pkt => Sys2Proof.Machine.execStopSetup c pkt s
  | .stop c pkt => Sys2Proof.Machine.execStop c pkt s
  | .resume c pkt => Sys2Proof.Machine.execResume c pkt s
  | .tallySetup c pkt => Sys2Proof.Machine.execTallySetup c pkt s
  | .tally c pkt => Sys2Proof.Machine.execTally c pkt s
  | .census c pkt => Sys2Proof.Machine.execCensus c pkt s
  | .traceSetup c pkt => Sys2Proof.Machine.execTraceSetup c pkt s
  | .traceMark c pkt => Sys2Proof.Machine.execTraceMark c pkt s
  | .timeQuery c pkt => Sys2Proof.Machine.execTimeQuery c pkt s
  | .screenOffer c pkt => Sys2Proof.Machine.execScreenOffer c pkt s
  | .lockstepMismatch b => Sys2Proof.Machine.execLockstepMismatch b s
  | .fetchFault b => Sys2Proof.Machine.execFetchFault b s
  | .turnOverrun => Sys2Proof.Machine.execTurnOverrun s
  | .takeover => Sys2Proof.Machine.execTakeover s
  | .timerExpiry b timer => Sys2Proof.Machine.execTimerExpiry b timer s
  | .qNop b q => Sys2Proof.Machine.execQNop b q s
  | .qAdd b q => Sys2Proof.Machine.execQAdd b q s
  | .qAddi b q => Sys2Proof.Machine.execQAddi b q s
  | .qSub b q => Sys2Proof.Machine.execQSub b q s
  | .qMul b q => Sys2Proof.Machine.execQMul b q s
  | .qAnd b q => Sys2Proof.Machine.execQAnd b q s
  | .qOr b q => Sys2Proof.Machine.execQOr b q s
  | .qXor b q => Sys2Proof.Machine.execQXor b q s
  | .qAndi b q => Sys2Proof.Machine.execQAndi b q s
  | .qOri b q => Sys2Proof.Machine.execQOri b q s
  | .qXori b q => Sys2Proof.Machine.execQXori b q s
  | .qShl b q => Sys2Proof.Machine.execQShl b q s
  | .qShr b q => Sys2Proof.Machine.execQShr b q s
  | .qSar b q => Sys2Proof.Machine.execQSar b q s
  | .qRor b q => Sys2Proof.Machine.execQRor b q s
  | .qGfmul b q => Sys2Proof.Machine.execQGfmul b q s
  | .qMovi b q => Sys2Proof.Machine.execQMovi b q s
  | .qMovhi b q => Sys2Proof.Machine.execQMovhi b q s
  | .qFfs b q => Sys2Proof.Machine.execQFfs b q s
  | .qPopc b q => Sys2Proof.Machine.execQPopc b q s
  | .qCmp b q => Sys2Proof.Machine.execQCmp b q s
  | .qCmpi b q => Sys2Proof.Machine.execQCmpi b q s
  | .qPlog b q => Sys2Proof.Machine.execQPlog b q s
  | .qSel b q => Sys2Proof.Machine.execQSel b q s
  | .qMovs b q => Sys2Proof.Machine.execQMovs b q s
  | .qBr b q => Sys2Proof.Machine.execQBr b q s
  | .qCall b q => Sys2Proof.Machine.execQCall b q s
  | .qJr b q => Sys2Proof.Machine.execQJr b q s
  | .qLd b q path => Sys2Proof.Machine.execQLd b q s path
  | .qSt b q path => Sys2Proof.Machine.execQSt b q s path
  | .qLdw b q => Sys2Proof.Machine.execQLdw b q s
  | .qStw b q => Sys2Proof.Machine.execQStw b q s
  | .qOwn b q => Sys2Proof.Machine.execQOwn b q s
  | .qMpr b q => Sys2Proof.Machine.execQMpr b q s
  | .qMpw b q => Sys2Proof.Machine.execQMpw b q s
  | .qBind b q => Sys2Proof.Machine.execQBind b q s
  | .qPop b q => Sys2Proof.Machine.execQPop b q s
  | .qPush b q => Sys2Proof.Machine.execQPush b q s
  | .qQlen b q => Sys2Proof.Machine.execQQlen b q s
  | .qTimer b q => Sys2Proof.Machine.execQTimer b q s
  | .qWait b q => Sys2Proof.Machine.execQWait b q s
  | .qLop b q => Sys2Proof.Machine.execQLop b q s
  | .qLread b q => Sys2Proof.Machine.execQLread b q s
  | .qSevw b q => Sys2Proof.Machine.execQSevw b q s
  | .qSevr b q => Sys2Proof.Machine.execQSevr b q s
  | .qPwrite b q => Sys2Proof.Machine.execQPwrite b q s
  | .qPread b q => Sys2Proof.Machine.execQPread b q s
  | .qFence b q => Sys2Proof.Machine.execQFence b q s
  | .qFell b q => Sys2Proof.Machine.execQFell b q s
  | .qRaise b q => Sys2Proof.Machine.execQRaise b q s
  | .qSlice b q => Sys2Proof.Machine.execQSlice b q s
  | .qSage b q => Sys2Proof.Machine.execQSage b q s
  | .qSense b q => Sys2Proof.Machine.execQSense b q s
  | .qPause b q => Sys2Proof.Machine.execQPause b q s
  | .qRec b q => Sys2Proof.Machine.execQRec b q s
  | .qCper b q => Sys2Proof.Machine.execQCper b q s
  | .qCsamp b q => Sys2Proof.Machine.execQCsamp b q s
  | .qCrst b q => Sys2Proof.Machine.execQCrst b q s
  | .qCsel b q => Sys2Proof.Machine.execQCsel b q s
  | .qTally b q => Sys2Proof.Machine.execQTally b q s
  | .qCensus b q => Sys2Proof.Machine.execQCensus b q s
  | .i3cPrivateWrite bytes => Sys2Proof.Machine.execI3cPrivateWrite bytes s
  | .i3cPrivateRead => Sys2Proof.Machine.execI3cPrivateRead s
  | .entdaa addr => Sys2Proof.Machine.execEntdaa addr s
  | .setdasa addr => Sys2Proof.Machine.execSetdasa addr s
  | .setnewda addr => Sys2Proof.Machine.execSetnewda addr s
  | .rstdaa => Sys2Proof.Machine.execRstdaa s
  | .getpid => Sys2Proof.Machine.execGetpid s
  | .getbcr => Sys2Proof.Machine.execGetbcr s
  | .getdcr => Sys2Proof.Machine.execGetdcr s
  | .getstatus => Sys2Proof.Machine.execGetstatus s
  | .getmwl => Sys2Proof.Machine.execGetmwl s
  | .getmrl => Sys2Proof.Machine.execGetmrl s
  | .enec => Sys2Proof.Machine.execEnec s
  | .disec => Sys2Proof.Machine.execDisec s
  | .serialBreak => Sys2Proof.Machine.execSerialBreak s
  | .camIdleTimeout => Sys2Proof.Machine.execCamIdleTimeout s
  | .camHelp => Sys2Proof.Machine.execCamHelp s
  | .camState => Sys2Proof.Machine.execCamState s
  | .camBaud rate => Sys2Proof.Machine.execCamBaud rate s
  | .camRd offset wide => Sys2Proof.Machine.execCamRd offset wide s
  | .camCellar addr count => Sys2Proof.Machine.execCamCellar addr count s
  | .camRec n => Sys2Proof.Machine.execCamRec n s
  | .camUnlock token => Sys2Proof.Machine.execCamUnlock token s
  | .camLock => Sys2Proof.Machine.execCamLock s
  | .camWr offset wide value => Sys2Proof.Machine.execCamWr offset wide value s
  | .camSev cls kind entry => Sys2Proof.Machine.execCamSev cls kind entry s
  | .camComp c close => Sys2Proof.Machine.execCamComp c close s
  | .camSeal => Sys2Proof.Machine.execCamSeal s
  | .camCper => Sys2Proof.Machine.execCamCper s
  | .camPolicy offset data => Sys2Proof.Machine.execCamPolicy offset data s
  | .camHandover => Sys2Proof.Machine.execCamHandover s
  | .camPut bank offset words => Sys2Proof.Machine.execCamPut bank offset words s
  | .camGate code body => Sys2Proof.Machine.execCamGate code body s
  | .camTappriv on => Sys2Proof.Machine.execCamTappriv on s
  | .islSecond => Sys2Proof.Machine.execIslSecond s
  | .recantWaitExpiry c => Sys2Proof.Machine.execRecantWaitExpiry c s
  | .tensorWaitExpiry c => Sys2Proof.Machine.execTensorWaitExpiry c s
  | .corePgRise bits => Sys2Proof.Machine.execCorePgRise bits s

end Sys2Proof.Machine
end

