-- ==== Sys2Proof/Machine/Tick.lean ====
section
/-! DEFINITION. What one TCLK tick changes when no command waits (R316; log entry 2): ET, the counters of time (R152, R444, R446), and what is done once a millisecond
(R518, R529). -/
namespace Sys2Proof.Machine

/-- Busy CCLK of a compartment's op kind, keyed 256c + k, and of the die (R152). -/
def busyFor (n k : Nat) (s : State) : State :=
  { s with gov := { s.gov with meas := s.gov.meas.upd k Meas.zero (fun m => { m with busy := m.busy + n }), dieBusy := s.gov.dieBusy + n } }

/-- One tick of the cords that run without tickets, the kinds 0x10 to 0xFF: busy CCLK of their compartment and kind, once a tap (R152; no
other rule counts them, DEDUCED, log entry 13). -/
def tickCords (s : State) : State :=
  let runs := (s.jrn.cords.filter (fun e => e.2.st == .running && decide (e.2.kind ≥ 0x10))).filterMap (fun e => (unitKey e.2.placed).map (fun u => (u.1, 256 * e.2.comp + e.2.kind)))
  foldS runs.eraseDups (fun x t => busyFor (t.cclkPerTick x.1) x.2 t) s

/-- One tick of a busy tap: BUSY, its own counter and the programmable ones that select it, and the busy CCLK of each compartment and
op kind that its tickets name (R152, R444, R445). -/
def tickTap (tap : Nat) (p : Tap) (s : State) : State :=
  let n := s.cclkPerTick tap
  let units := (p.tags.map (fun e => tkUnit e.2.ticket)).eraseDups
  let works := (p.tags.map (fun e => 256 * tkComp e.2.ticket + tkKind e.2.ticket)).eraseDups
  let s := foldS works (busyFor n) s
  if tap ≥ 128 then count (8192 + 32 * (tap - 128) + 16) n s
  else
    foldS ((List.range 32).filter (fun k =>
        let (e, f) := progSel s (64 * tap + 32 + k)
        e == 0 && (f == 0x3F || units.contains f))) (fun k t => count (64 * tap + 32 + k) n t) (count (64 * tap) n s)

/-- One tick of a tap whose send port is not ready for want of credit: SEND_QUOTA (R172, R444). -/
def tickPool (tap : Nat) (p : Pool) (s : State) : State :=
  whenS (p.comp.isSome && p.credits == 0) (countTap tap 15 0x3F (s.cclkPerTick tap)) s

/-- One tick of a region: TICKS_WARN and TICKS_THROTTLE (R446). -/
def tickRegion (r : Nat) (s : State) : State :=
  let v := regionTherm s r
  whenS (decide (v ≥ 2)) (countWarden r 5) (whenS (decide (v ≥ 1)) (countWarden r 4) s)

/-- ET advances by one while the hub's counter runs, and the counters of time advance with it (R316). -/
def clockTick (s : State) : State :=
  if !s.tim.running then s
  else
    let s : State := { s with tim := { s.tim with et := s.tim.et + 1 } }
    let s := whenS (s.et % 400000 == 0) (fun t => copyRails (writeBackLfsrs t)) s
    let s := foldS s.esc.pools (fun e t => tickPool e.1 e.2 t) s
    foldS (List.range 16) tickRegion (tickCords (foldS (s.taps.filter (fun e => !e.2.tags.isEmpty)) (fun e t => tickTap e.1 e.2 t) s))

end Sys2Proof.Machine
end

