-- ==== Sys2Proof/WellFormed.lean ====
section
/-! DEFINITION. Which commands are well formed: every operand lies in the range its rule gives it. -/
namespace Sys2Proof

/-- A compartment (R38). -/
def compOk (c : Nat) : Bool := decide (c < 16)

/-- A region (R27). -/
def regionOk (r : Nat) : Bool := decide (r < 16)

/-- An HBM controller (R27). -/
def ctrlOk (m : Nat) : Bool := decide (m < 8)

/-- A host-class core (R27). -/
def coreOk (h : Nat) : Bool := decide (h < 8)

/-- A lease (R301). -/
def leaseOk (l : Nat) : Bool := decide (l < 17)

/-- A timer of a pair (R509). -/
def timerOk (t : Nat) : Bool := decide (t < 16)

/-- A bank of the pool, or the stash bank 48 (R422). -/
def bankOk (b : Nat) : Bool := decide (b < 49)

/-- A sensor or a canary (R518). -/
def sensorOk (i : Nat) : Bool := decide (i < 192)

/-- A regulator rail (R411). -/
def railOk (i : Nat) : Bool := decide (i < 19)

/-- A rehearsed mechanism (R164). -/
def mechOk (m : Nat) : Bool := decide (m < 5)

/-- A cluster tap, or slab tap 128 + r (R27). -/
def tapOk (t : Nat) : Bool := decide (t < 144)

/-- A ticket tag (R66). -/
def tagOk (t : Nat) : Bool := decide (t < 64)

/-- A send handle (R563). -/
def handleOk (h : Nat) : Bool := decide (h < 256)

/-- A match entry (R328). -/
def matchOk (i : Nat) : Bool := decide (i < 255)

/-- A thermal scope: a cluster, or region 128 + r (R404). -/
def scopeOk (i : Nat) : Bool := decide (i < 144)

/-- A 12-bit code or slot (R266, R207). -/
def kindOk (k : Nat) : Bool := decide (k < 4096)

/-- A journal-cache or ring slot (R235, R472). -/
def slot15 (i : Nat) : Bool := decide (i < 32768)

/-- An Escrow Table index (R173). -/
def escrowOk (i : Nat) : Bool := decide (i < 16384)

/-- A 16-bit value. -/
def word16 (v : Nat) : Bool := decide (v < 65536)

/-- A 32-bit value. -/
def word32 (v : Nat) : Bool := decide (v < 4294967296)

/-- Every operand of the command is in range. -/
def Instr.wellFormed : Instr → Bool
  | .vddIslUp => true
  | .vddIslFall => true
  | .corePowerGood faulty => faulty.all (fun w => bankOk w.1 && decide (w.2 < 128))
  | .startComplete _ => true
  | .corePgFall _ => true
  | .pfWarn => true
  | .pfWarnRelease => true
  | .pllUnlock => true
  | .refLost => true
  | .compOpen c => compOk c
  | .compClose c => compOk c
  | .sealRequest c => compOk c
  | .drainComplete => true
  | .drainTimeout => true
  | .closingComplete _ => true
  | .closingRecordRetry _ => true
  | .linkParity _ => true
  | .portParityError _ => true
  | .heartbeat _ => true
  | .tapMissing tap => tapOk tap
  | .wardenMissing r => regionOk r
  | .faultMessage _ _ _ => true
  | .floodQuiet _ _ _ => true
  | .reactionOrder => true
  | .unfenceOrder => true
  | .tileTicket tap _ => tapOk tap
  | .operandWord tap tag _ _ _ => tapOk tap && tagOk tag
  | .eorWord tap _ tag _ _ _ => tapOk tap && tagOk tag
  | .valueWord tap _ tag _ _ _ => tapOk tap && tagOk tag
  | .captureWord tap _ _ tag cord _ _ => tapOk tap && tagOk tag && word32 cord
  | .tileCompare tap tag => tapOk tap && tagOk tag
  | .ticketStateError tap tag _ => tapOk tap && tagOk tag
  | .sendRequest tap _ => tapOk tap
  | .sendGrant tap handle => tapOk tap && handleOk handle
  | .sendLeft tap handle => tapOk tap && handleOk handle
  | .creditRefill tap => tapOk tap
  | .proofReport bad => bad.all (fun i => decide (i < 16384))
  | .dispatchSlot tap _ cord _ => tapOk tap && word32 cord
  | .blazeConsumed tap _ cord _ => tapOk tap && word32 cord
  | .hostCoreEvent core _ cord _ => coreOk core && word32 cord
  | .intakeEntry => true
  | .pinpointTimeout => true
  | .pinpointRecompute .. => true
  | .adjudicate _ _ => true
  | .secondRecompute _ => true
  | .twinThirdOpinion _ => true
  | .cruiseSelfTest _ => true
  | .pinRerun => true
  | .startSkidNow => true
  | .replay => true
  | .thirdRun => true
  | .unreplayable => true
  | .withdrawCert => true
  | .unitResponse => true
  | .sampleComplete .. => true
  | .sampleTimeout => true
  | .governorPeriod c => compOk c
  | .rehearsalPoint mech tap => mechOk mech && tapOk tap
  | .noOpportunity mech tap => mechOk mech && tapOk tap
  | .arrivalReport _ _ _ => true
  | .clear => true
  | .recant => true
  | .recantAck => true
  | .recall => true
  | .lateRecant => true
  | .inboundTimeout index => escrowOk index
  | .escExpired index => escrowOk index
  | .branchFailedExpiry index => escrowOk index
  | .cordRegister region _ upsets => regionOk region && upsets.all (fun e => decide (e.1 < 32768))
  | .cordRetire region _ => regionOk region
  | .cordSettle slot => slot15 slot
  | .jrnSpill slot => slot15 slot
  | .ringFetch tag _ => word16 tag
  | .depRelease slot => slot15 slot
  | .skidStart _ => true
  | .skid _ => true
  | .cordHandover _ => true
  | .spareWakeDone region _ => regionOk region
  | .jrnSkidLate _ => true
  | .taggedWrite ctrl _ _ _ _ _ slot _ _ _ => ctrlOk ctrl && kindOk slot
  | .closeTick c => compOk c
  | .shardScanDone c slot _ => compOk c && kindOk slot
  | .digestPartSend c => compOk c
  | .digestPart => true
  | .voteWaitExpiry c _ => compOk c
  | .verdict => true
  | .digNoVerdict c => compOk c
  | .retentionExpiry c _ => compOk c
  | .tensorPart => true
  | .tensorDiff => true
  | .revoke => true
  | .tapRetry tap _ => tapOk tap
  | .fellWrite _ => true
  | .eccEvent ctrl _ _ _ _ => ctrlOk ctrl
  | .blazeWritebackDone ctrl => ctrlOk ctrl
  | .blazeWritebackTimeout ctrl => ctrlOk ctrl
  | .ping => true
  | .leaseExpired lease => leaseOk lease
  | .leaseRevoke => true
  | .rateWindow => true
  | .clkRatioWrite _ => true
  | .ratioSwitch r => regionOk r
  | .loadBeacon _ _ => true
  | .checkBeacon _ _ => true
  | .neighbourCompare r => regionOk r
  | .align => true
  | .tAnnounce => true
  | .tReq => true
  | .tResp _ => true
  | .etStep => true
  | .driftExchange => true
  | .etSlew _ => true
  | .slewTick => true
  | .matchExchange entry => matchOk entry
  | .clkMatchStale entry => matchOk entry
  | .vcsReceive _ _ => true
  | .dack _ src => word16 src
  | .nack _ src => word16 src
  | .branchRetry _ dst => word16 dst
  | .vcsBranchFail _ dst => word16 dst
  | .alloc src _ => word16 src
  | .free src _ => word16 src
  | .arm src _ => word16 src
  | .arrive src _ _ => word16 src
  | .latchRead src _ => word16 src
  | .setfwd src _ => word16 src
  | .result => true
  | .done => true
  | .stopOrder => true
  | .stopTick c => compOk c
  | .stopQuiet c => compOk c
  | .stopMark => true
  | .cutComplete c => compOk c
  | .stopIncomplete c => compOk c
  | .resumeReceived => true
  | .resumeRelease c => compOk c
  | .sliceGridPoint r slot => decide (r ≤ 16) && decide (slot < 2)
  | .clearDone _ => true
  | .stClear _ => true
  | .segmentEnd _ _ => true
  | .stTimeout _ => true
  | .screenDue _ => true
  | .stOverdue _ => true
  | .extest => true
  | .idcode => true
  | .samplePreload => true
  | .bypass _ => true
  | .unitScan _ => true
  | .hubScan => true
  | .tapReset => true
  | .roSample sensor _ => sensorOk sensor
  | .diodeSample r _ => regionOk r
  | .calibrate sensor => sensorOk sensor
  | .throttleStep scope => scopeOk scope
  | .canaryWindow canary _ _ => sensorOk canary
  | .droopHoldExpiry canary => sensorOk canary
  | .reinstate sensor => sensorOk sensor
  | .pmbusRead rail _ _ _ => railOk rail
  | .pmAlert _ _ => true
  | .bankOwn bank _ _ => decide (bank ≤ 48)
  | .memtestWindow bank _ _ accesses => decide (bank ≤ 48) && accesses.all (fun x => decide (x.hclk < 2832 ∧ x.word < 16384))
  | .cmemWindow tap _ _ _ _ => tapOk tap
  | .bankRead => true
  | .bankWrite => true
  | .obsSample => true
  | .obsReset => true
  | .obsSetsel => true
  | .jObsSample c _ => compOk c
  | .periodicTally => true
  | .tallyFreeze => true
  | .tallyDrain _ => true
  | .hangWatch c => compOk c
  | .censusFreeze _ => true
  | .traceDrain c => compOk c
  | .traceHeadWrite c _ => compOk c
  | .recordWrite => true
  | .tokenAdd _ => true
  | .freezeGo _ => true
  | .freezeRelease => true
  | .freezeTimeout => true
  | .recRead slot => slot15 slot
  | .rateWrite code _ _ => kindOk code
  | .rateRead code => kindOk code
  | .flushPage _ => true
  | .recCellar _ => true
  | .cellarRead _ => true
  | .recKey tag _ => word16 tag
  | .recClear tag _ => word16 tag
  | .mreg _ _ _ _ => true
  | .policyWrite tag _ => word16 tag
  | .policyRead tag _ => word16 tag
  | .rootKey tag _ => word16 tag
  | .captureKey tag _ => word16 tag
  | .packLoad tag _ => word16 tag
  | .fellUndo tag _ => word16 tag
  | .imageLoad tag _ => word16 tag
  | .handover tag => word16 tag
  | .handoverTimeout => true
  | .gateRefused _ _ tag _ => word16 tag
  | .response => true
  | .rxPop => true
  | .cperPop => true
  | .excursion => true
  | .sampleSeed _ => true
  | .dieIndexWrite _ => true
  | .etLoRead _ c => compOk c
  | .assignWrite _ _ => true
  | .precWrite => true
  | .precRead => true
  | .sevWrite _ => true
  | .sevRead _ => true
  | .groupWrite _ => true
  | .groupRead _ => true
  | .groupDelete _ => true
  | .matchWrite _ => true
  | .matchRead _ => true
  | .registerWrite _ _ c _ _ => compOk c
  | .cmdqTailWrite c _ => compOk c
  | .cmdqEnable c _ => compOk c
  | .cplqEnable c _ => compOk c
  | .cplqHeadWrite c _ => compOk c
  | .commandFetch c ps => compOk c && decide (ps.length ≤ 16)
  | .completionWrite c => compOk c
  | .readData tag st data => word16 tag && decide (st < 16 ∧ data.length ≤ 128)
  | .wack tag _ => word16 tag
  | .streamTimeout tag => word16 tag
  | .jPageAccess core _ _ _ _ => coreOk core
  | .cmdNop c _ => compOk c
  | .status c _ => compOk c
  | .reopen c _ => compOk c
  | .fenceReq c _ => compOk c
  | .latch c _ => compOk c
  | .tensorSet c _ => compOk c
  | .extentSet c _ => compOk c
  | .tensorRead c _ => compOk c
  | .voteSet c _ => compOk c
  | .certify c _ => compOk c
  | .restore c _ => compOk c
  | .ringSet c _ => compOk c
  | .retarget c _ => compOk c
  | .stopSetup c _ => compOk c
  | .stop c _ => compOk c
  | .resume c _ => compOk c
  | .tallySetup c _ => compOk c
  | .tally c _ => compOk c
  | .census c _ => compOk c
  | .traceSetup c _ => compOk c
  | .traceMark c _ => compOk c
  | .timeQuery c _ => compOk c
  | .screenOffer c _ => compOk c
  | .lockstepMismatch _ => true
  | .fetchFault _ => true
  | .turnOverrun => true
  | .takeover => true
  | .timerExpiry _ timer => timerOk timer
  | .qNop _ _ => true
  | .qAdd _ _ => true
  | .qAddi _ _ => true
  | .qSub _ _ => true
  | .qMul _ _ => true
  | .qAnd _ _ => true
  | .qOr _ _ => true
  | .qXor _ _ => true
  | .qAndi _ _ => true
  | .qOri _ _ => true
  | .qXori _ _ => true
  | .qShl _ _ => true
  | .qShr _ _ => true
  | .qSar _ _ => true
  | .qRor _ _ => true
  | .qGfmul _ _ => true
  | .qMovi _ _ => true
  | .qMovhi _ _ => true
  | .qFfs _ _ => true
  | .qPopc _ _ => true
  | .qCmp _ _ => true
  | .qCmpi _ _ => true
  | .qPlog _ _ => true
  | .qSel _ _ => true
  | .qMovs _ _ => true
  | .qBr _ _ => true
  | .qCall _ _ => true
  | .qJr _ _ => true
  | .qLd _ _ _ => true
  | .qSt _ _ _ => true
  | .qLdw _ _ => true
  | .qStw _ _ => true
  | .qOwn _ _ => true
  | .qMpr _ _ => true
  | .qMpw _ _ => true
  | .qBind _ _ => true
  | .qPop _ _ => true
  | .qPush _ _ => true
  | .qQlen _ _ => true
  | .qTimer _ _ => true
  | .qWait _ _ => true
  | .qLop _ _ => true
  | .qLread _ _ => true
  | .qSevw _ _ => true
  | .qSevr _ _ => true
  | .qPwrite _ _ => true
  | .qPread _ _ => true
  | .qFence _ _ => true
  | .qFell _ _ => true
  | .qRaise _ _ => true
  | .qSlice _ _ => true
  | .qSage _ _ => true
  | .qSense _ _ => true
  | .qPause _ _ => true
  | .qRec _ _ => true
  | .qCper _ _ => true
  | .qCsamp _ _ => true
  | .qCrst _ _ => true
  | .qCsel _ _ => true
  | .qTally _ _ => true
  | .qCensus _ _ => true
  | .i3cPrivateWrite _ => true
  | .i3cPrivateRead => true
  | .entdaa _ => true
  | .setdasa _ => true
  | .setnewda _ => true
  | .rstdaa => true
  | .getpid => true
  | .getbcr => true
  | .getdcr => true
  | .getstatus => true
  | .getmwl => true
  | .getmrl => true
  | .enec => true
  | .disec => true
  | .serialBreak => true
  | .camIdleTimeout => true
  | .camHelp => true
  | .camState => true
  | .camBaud _ => true
  | .camRd _ _ => true
  | .camCellar _ _ => true
  | .camRec _ => true
  | .camUnlock _ => true
  | .camLock => true
  | .camWr _ _ _ => true
  | .camSev _ kind _ => kindOk kind
  | .camComp c _ => compOk c
  | .camSeal => true
  | .camCper => true
  | .camPolicy _ _ => true
  | .camHandover => true
  | .camPut bank _ _ => decide (bank ≤ 48)
  | .camGate _ _ => true
  | .camTappriv _ => true
  | .islSecond => true
  | .recantWaitExpiry c => compOk c
  | .tensorWaitExpiry c => compOk c
  | .corePgRise _ => true

end Sys2Proof
end

