-- ==== Sys2Proof/Safety.lean ====
section
/-! DEFINITION. What counts as a safe run of the block, in the terms that the statements use. What the spec calls a fault is a message
or a status of the block; no command ends a run, so safety is what the state keeps. -/
namespace Sys2Proof.Machine

/-- The parts of the state that a command may change, besides the queue, what has left the block, and the free values taken. -/
inductive Part where
  | isl | tim | col | taps | gov | esc | dig | jrn | fab | scr
  | thm | bnk | obs | recd | seq | cmd | mregs | jregs | capKeys | cellar | words
deriving DecidableEq, Repr

/-- A part is the same in two states. -/
def Part.same (s t : State) : Part → Prop
  | .isl => t.isl = s.isl
  | .tim => t.tim = s.tim
  | .col => t.col = s.col
  | .taps => t.taps = s.taps
  | .gov => t.gov = s.gov
  | .esc => t.esc = s.esc
  | .dig => t.dig = s.dig
  | .jrn => t.jrn = s.jrn
  | .fab => t.fab = s.fab
  | .scr => t.scr = s.scr
  | .thm => t.thm = s.thm
  | .bnk => t.bnk = s.bnk
  | .obs => t.obs = s.obs
  | .recd => t.recd = s.recd
  | .seq => t.seq = s.seq
  | .cmd => t.cmd = s.cmd
  | .mregs => t.mregs = s.mregs
  | .jregs => t.jregs = s.jregs
  | .capKeys => t.capKeys = s.capKeys
  | .cellar => t.recd.cellar = s.recd.cellar
  | .words => t.bnk.words = s.bnk.words

/-- The form that both addressed memories keep: the cellar's bytes (R480) and the hub banks' words (R416). -/
def State.canonical (s : State) : Bool := Memory.wf s.recd.cellar && Words.wf s.bnk.words

/-- A command answers a next state that has a property. -/
def Answers (c : Instr) (s : State) (p : State → Prop) : Prop := ∃ t, exec c s = .next t ∧ p t

/-- One message of a kind and locus has been put on a link, and no other (R28, R272). -/
def Posted (kind : Nat) (l : Loc) (s t : State) : Prop :=
  ∃ link unit cls reh d on, t.col.flight = s.col.flight ++ [{ link := link, unit := unit, msg := mkMsg kind cls reh l d, floodOn := on }]

/-- A tap whose port takes commands: the hub is up, the region's supply in range, its cluster or slab not felled (R561). -/
def tapUp (s : State) (tap : Nat) : Bool :=
  s.hubUp && s.powered (if tap ≥ 128 then tap - 128 else tap / 8) && !felled s (tapWholeLoc tap)

/-- A tile that a tap holds under a tag (R71). -/
def tileAt (s : State) (tap tag : Nat) : Option Tile := (s.tap tap).tags.find? tag

/-- Register and console accesses by number: what they do depends on the register they name (R553, R556, R613). -/
def namesRegister : Instr → Bool
  | .mreg .. | .registerWrite .. | .i3cPrivateWrite .. | .camRd .. | .camWr .. | .qMpr .. | .qMpw .. | .sampleSeed .. | .dieIndexWrite ..
  | .assignWrite .. | .sevWrite .. | .sevRead .. | .groupWrite .. | .groupRead .. | .groupDelete .. | .matchWrite .. | .matchRead .. => true
  | _ => false

/-- A supply comes or goes (R592). -/
def movesSupply : Instr → Bool
  | .vddIslUp | .vddIslFall | .corePowerGood .. | .corePgFall .. => true
  | _ => false

/-- The commands that can change the block's state: the events of R592, and what asks for OPEN, CLOSE and SEAL. -/
def changesBlock (c : Instr) : Bool :=
  movesSupply c || namesRegister c ||
  match c with
  | .startComplete .. | .compOpen .. | .sealRequest .. | .drainComplete | .drainTimeout | .closingComplete .. | .camComp .. | .camSeal => true
  | _ => false

/-- The commands that can change the fell map in use: the supplies, and whatever can decide that a unit is felled (R288, R381, R515). -/
def fellsUnits (c : Instr) : Bool :=
  movesSupply c ||
  match c with
  | .adjudicate .. | .secondRecompute .. | .twinThirdOpinion .. | .thirdRun | .cordRetire .. | .intakeEntry | .tapRetry ..
  | .pinpointRecompute .. | .tileCompare .. | .pinpointTimeout | .qFell .. | .segmentEnd .. | .reactionOrder | .digestPart
  | .voteWaitExpiry .. => true
  | _ => false

/-- The commands that can change a program bank: the supplies, IMAGE_LOAD, and what sends a message through the Gate (R556, R605). -/
def loadsProgram (c : Instr) : Bool :=
  movesSupply c || namesRegister c ||
  match c with
  | .imageLoad .. | .camPolicy .. | .camHandover | .camGate .. => true
  | _ => false

/-- The commands that can change the level of the serial console (R614). -/
def changesLevel : Instr → Bool
  | .vddIslUp | .vddIslFall | .camUnlock .. | .camLock | .camIdleTimeout => true
  | _ => false

/-- The commands that can change the severity table (R275, R276, R597). -/
def changesSeverity (c : Instr) : Bool :=
  movesSupply c || namesRegister c ||
  match c with
  | .startComplete .. | .camSev .. | .qSevw .. => true
  | _ => false

/-- The commands that can change ET; a tick of the clock does too (R316, R324, R326). -/
def changesTime (c : Instr) : Bool :=
  movesSupply c ||
  match c with
  | .etStep | .slewTick => true
  | _ => false

/-- The commands that can raise or lower the power-fail warning (R55, R604). -/
def changesPowerFail (c : Instr) : Bool :=
  match c with
  | .vddIslUp | .vddIslFall | .corePgFall .. | .pfWarn | .pfWarnRelease => true
  | _ => false

/-- The entry that a SEND_REQUEST makes at Escrow Table index `i` (R170, R173, R174, R563). -/
def sentEntry (s : State) (tap i : Nat) (req : W128) : EscEntry :=
  ⟨.held, false, escForward s (fld req 13 4), reuseOf s i, fld req 13 4, fld req 98 4, tapUnitLoc tap (fld req 8 5), fld req 17 32, fld req 49 32,
    fld req 82 16, bitAt req 81, sendIdOf i (reuseOf s i), 0, 0, 0, 0, 0, 0⟩

/-- A packet is the command whose turn has come in a compartment, its pair serves where it needs one, it sets no reserved bit and the
compartment's state allows it (R527, R536, R540, R543). -/
def commandRuns (op : Nat) (used : List (Nat × Nat)) (c : Nat) (pkt : BitVec 512) (s : State) : Bool :=
  (nextHeld (s.comp c)).any (fun h => h.pkt == pkt) && fld pkt 0 8 == op && (!servingOpcode op || (pairOf s.seq.servingB s).st == .serving)
    && pktClean pkt used && cmdAllowed (startHeld c s) c op

/-- A host command whose turn has come has an effect, which is given its compartment, its packet and its TAG, on the state in which it has started;
then packets with a reserved OPCODE are answered (R540). -/
def Ran (op : Nat) (used : List (Nat × Nat)) (cmd : Nat → BitVec 512 → Instr) (effect : Nat → BitVec 512 → Nat → State → State) : Prop :=
  ∀ (c : Nat) (pkt : BitVec 512) (s : State), commandRuns op used c pkt s = true →
    exec (cmd c pkt) s = .next (skipBad 16 c (effect c pkt (fld pkt 16 16) (startHeld c s)))

/-- The Gate takes a message: the hub is up, no message and no RESPONSE is there (R557). -/
def gateOpen (s : State) : Bool := s.isl.st != .off && s.hubUp && !s.isl.gateBusy && !s.isl.gateValid

/-- The state in which a Gate message has been sent: a key's body does not stay in the registers (R45, R557). -/
def gateSent (code tag : Nat) (body : BitVec 448) (s : State) : State :=
  { s with isl := { s.isl with gateTx := BitVec.ofNat 512 (pack [(16, code), (16, tag), (32, 0), (448, if keyCode code then 0 else body.toNat)]), gateBusy := true } }

/-- A pair executes an instruction: it runs, the guard holds, and every bit that its row does not name is zero (R501, R502, R504). -/
def goes (b : Bool) (q : BitVec 56) (mask : Nat) (s : State) : Bool :=
  runs b s && (pairOf b s).pred (qPred q) != qNeg q && qClean q mask

/-- The same in the serving role (R496). -/
def goesServing (b : Bool) (q : BitVec 56) (mask : Nat) (s : State) : Bool := goes b q mask s && serves b s

/-- An instruction answers: the pair reports a status and goes on, on top of what the instruction does (R503). -/
def Reports (c : Instr) (b : Bool) (q : BitVec 56) (status : Nat) (s t : State) : Prop :=
  exec c s = .next (updPair b (fun p => p.report q status) t)

/-- The same where g[RD] is written as well. -/
def ReportsValue (c : Instr) (b : Bool) (q : BitVec 56) (status v : Nat) (s t : State) : Prop :=
  exec c s = .next (updPair b (fun p => (p.setReg (qRd q) (BitVec.ofNat 64 v)).report q status) t)

/-- The parts that a command can reach: each command acts on its own unit's part, and on those of the units that it informs or asks. Accesses by
number and the supplies reach every part. -/
def reaches : Instr → List Part
  | .vddIslUp | .vddIslFall | .corePgFall .. => [.isl, .tim, .col, .taps, .gov, .esc, .dig, .jrn, .fab, .scr, .thm, .bnk, .obs, .recd, .seq, .cmd, .mregs, .jregs, .capKeys, .words]
  | .corePowerGood .. | .mreg .. | .sampleSeed .. | .dieIndexWrite .. | .assignWrite .. | .sevWrite .. | .sevRead .. | .groupWrite ..
  | .groupRead .. | .groupDelete .. | .matchWrite .. | .matchRead .. | .registerWrite .. | .qMpr .. | .qMpw .. | .i3cPrivateWrite ..
  | .camRd .. | .camWr .. => [.isl, .tim, .col, .taps, .gov, .esc, .dig, .jrn, .fab, .scr, .thm, .bnk, .obs, .recd, .seq, .cmd, .mregs, .jregs, .capKeys, .cellar, .words]
  | .startComplete .. => [.isl, .col, .gov, .jrn, .scr, .bnk, .obs, .recd, .seq, .words]
  | .pfWarn => [.isl, .tim, .col, .esc, .dig, .jrn, .fab, .scr, .bnk, .obs, .recd, .seq, .cmd, .mregs, .cellar, .words]
  | .pfWarnRelease => [.isl, .jrn, .scr, .obs, .recd, .seq]
  | .pllUnlock | .camUnlock .. => [.isl, .col]
  | .refLost | .camSev .. => [.isl, .col, .mregs]
  | .compOpen .. => [.isl, .col, .gov, .esc, .jrn, .recd, .seq, .cmd, .mregs]
  | .compClose .. => [.isl, .col, .taps, .gov, .esc, .dig, .jrn, .fab, .obs, .cmd, .mregs, .jregs, .capKeys]
  | .sealRequest .. | .camComp .. | .camSeal => [.isl, .col, .taps, .gov, .esc, .dig, .jrn, .fab, .obs, .recd, .seq, .cmd, .mregs, .jregs, .capKeys]
  | .drainComplete => [.isl, .col, .jrn, .scr, .obs, .recd, .seq, .cmd]
  | .drainTimeout => [.isl, .col, .gov, .jrn, .scr, .obs, .recd, .seq, .cmd]
  | .closingComplete .. => [.isl, .col, .dig, .scr, .recd, .seq, .capKeys, .cellar]
  | .closingRecordRetry .. => [.col, .scr, .recd, .cellar]
  | .linkParity .. => [.col, .dig, .scr, .obs, .cmd]
  | .portParityError .. | .heartbeat .. | .blazeConsumed .. | .eccEvent .. | .blazeWritebackDone .. | .hangWatch .. => [.col, .obs]
  | .tapMissing .. => [.col, .scr, .obs]
  | .wardenMissing .. | .clearDone .. | .stClear .. | .stTimeout .. => [.col, .jrn, .scr, .obs, .seq, .cmd]
  | .faultMessage .. | .cruiseSelfTest .. | .qFence .. => [.col, .gov, .jrn, .fab, .scr, .obs, .seq, .cmd]
  | .floodQuiet .. => [.col, .gov, .jrn, .scr, .obs, .seq, .cmd]
  | .reactionOrder => [.col, .taps, .gov, .esc, .dig, .jrn, .fab, .scr, .thm, .bnk, .obs, .recd, .seq, .cmd, .cellar, .words]
  | .unfenceOrder => [.col, .taps, .gov, .esc, .dig, .jrn, .fab, .scr, .thm, .bnk, .obs, .recd, .seq, .cmd, .words]
  | .tileTicket .. | .ticketStateError .. | .proofReport .. | .recant | .inboundTimeout .. | .vcsReceive .. | .dack .. | .vcsBranchFail .. => [.col, .taps, .gov, .esc, .dig, .jrn, .fab, .obs, .cmd]
  | .operandWord .. | .eorWord .. | .valueWord .. | .captureWord .. => [.col, .taps, .obs]
  | .tileCompare .. | .intakeEntry | .pinpointTimeout | .pinpointRecompute .. | .adjudicate .. | .secondRecompute .. | .twinThirdOpinion ..
  | .thirdRun | .cordRetire .. | .digestPart | .voteWaitExpiry .. => [.col, .taps, .gov, .esc, .dig, .jrn, .fab, .scr, .bnk, .obs, .recd, .seq, .cmd, .cellar, .words]
  | .sendRequest .. | .sendGrant .. | .resumeRelease .. => [.col, .esc, .dig, .jrn, .fab, .obs, .cmd]
  | .sendLeft .. => [.col, .esc, .obs]
  | .creditRefill .. => [.esc]
  | .dispatchSlot .. => [.col, .taps, .jrn, .scr, .obs, .seq, .cmd]
  | .hostCoreEvent .. | .blazeWritebackTimeout .. | .leaseExpired .. => [.col]
  | .pinRerun | .unitResponse | .timerExpiry .. => [.seq]
  | .startSkidNow | .cordSettle .. | .skidStart .. => [.col, .taps, .gov, .esc, .dig, .jrn, .fab, .scr, .bnk, .obs, .recd, .seq, .cmd, .words]
  | .replay => [.col, .taps, .gov, .esc, .dig, .jrn, .fab, .bnk, .obs, .recd, .seq, .cmd, .words]
  | .unreplayable => [.col, .esc, .dig, .jrn, .fab, .obs, .recd, .seq, .cmd]
  | .withdrawCert => [.col, .dig, .fab, .seq, .cmd]
  | .sampleComplete .. => [.col, .taps, .gov, .jrn, .obs, .cmd]
  | .sampleTimeout => [.col, .gov, .jrn, .obs]
  | .governorPeriod .. => [.col, .gov, .dig, .bnk, .words]
  | .rehearsalPoint .. => [.taps, .gov]
  | .noOpportunity .. => [.col, .taps, .gov, .obs, .seq]
  | .arrivalReport .. | .ringFetch .. | .readData .. | .streamTimeout .. => [.col, .taps, .gov, .esc, .dig, .jrn, .fab, .bnk, .obs, .recd, .cmd, .words]
  | .clear | .recantAck | .escExpired .. | .branchFailedExpiry .. | .recantWaitExpiry .. => [.col, .esc, .dig, .fab, .obs, .cmd]
  | .recall => [.col, .esc, .dig, .fab, .obs]
  | .lateRecant => [.col, .esc, .dig, .fab, .cmd]
  | .cordRegister .. => [.col, .taps, .gov, .esc, .dig, .jrn, .fab, .obs, .recd, .cmd]
  | .jrnSpill .. | .jrnSkidLate .. => [.col, .jrn]
  | .depRelease .. | .spareWakeDone .. => [.jrn]
  | .skid .. => [.esc, .jrn, .obs, .recd, .cmd]
  | .cordHandover .. => [.taps, .gov, .esc, .jrn, .obs]
  | .taggedWrite .. | .closeTick .. | .digestPartSend .. | .latch .. => [.col, .dig, .fab, .obs, .cmd]
  | .shardScanDone .. => [.dig, .obs]
  | .verdict => [.col, .gov, .dig, .fab, .cmd]
  | .digNoVerdict .. => [.col, .dig]
  | .retentionExpiry .. => [.dig]
  | .tensorPart | .tensorDiff | .tensorWaitExpiry .. => [.col, .dig, .fab]
  | .revoke => [.col, .dig, .fab, .cmd]
  | .tapRetry .. | .segmentEnd .. => [.col, .jrn, .scr, .obs, .recd, .cmd, .cellar]
  | .fellWrite .. => [.col, .recd, .cellar]
  | .ping => [.col, .fab, .obs]
  | .leaseRevoke | .stopQuiet .. => [.col, .fab]
  | .rateWindow => [.gov, .fab, .obs, .cmd]
  | .clkRatioWrite .. | .etLoRead .. => [.isl, .tim, .mregs]
  | .ratioSwitch .. => [.tim, .obs, .mregs]
  | .loadBeacon .. | .slewTick => [.tim]
  | .checkBeacon .. => [.tim, .col, .obs]
  | .neighbourCompare .. | .clkMatchStale .. => [.tim, .col]
  | .align => [.isl, .tim, .col, .fab, .seq, .mregs]
  | .tAnnounce | .driftExchange => [.tim, .col, .fab, .seq]
  | .tReq | .nack .. | .branchRetry .. | .stopTick .. | .stopMark => [.fab]
  | .tResp .. => [.tim, .col, .fab, .obs, .seq, .mregs]
  | .etStep => [.tim, .col, .esc, .fab, .recd, .mregs]
  | .etSlew .. => [.isl, .tim]
  | .matchExchange .. => [.tim, .fab, .seq]
  | .alloc .. | .free .. | .arm .. | .arrive .. | .latchRead .. | .setfwd .. | .tallyDrain .. => [.col, .fab, .obs, .cmd]
  | .result => [.fab, .seq, .cmd]
  | .done | .cutComplete .. | .resumeReceived | .cmdqTailWrite .. | .completionWrite .. | .voteSet .. | .stopSetup .. => [.fab, .cmd]
  | .stopOrder | .traceDrain .. => [.fab, .obs, .cmd]
  | .stopIncomplete .. | .stop .. | .resume .. => [.col, .fab, .cmd]
  | .sliceGridPoint .. => [.jrn, .scr, .obs]
  | .screenDue .. | .screenOffer .. => [.scr, .cmd]
  | .stOverdue .. => [.col, .scr]
  | .extest | .idcode | .samplePreload | .bypass .. | .tapReset => [.scr]
  | .unitScan .. | .hubScan => [.col, .scr, .mregs]
  | .roSample .. | .calibrate .. | .canaryWindow .. => [.col, .thm, .obs]
  | .diodeSample .. => [.isl, .col, .scr, .thm, .recd, .cellar]
  | .throttleStep .. | .droopHoldExpiry .. => [.thm, .obs]
  | .reinstate .. => [.isl, .thm]
  | .pmbusRead .. | .pmAlert .. => [.col, .thm]
  | .bankOwn .. => [.isl, .bnk, .words]
  | .memtestWindow .. => [.col, .bnk, .words]
  | .cmemWindow .. => [.col, .bnk, .obs]
  | .bankRead => [.isl, .col, .bnk, .obs, .words]
  | .bankWrite | .camPut .. => [.isl, .gov, .bnk, .obs, .words]
  | .obsSample | .obsReset | .obsSetsel => [.isl, .obs, .mregs]
  | .jObsSample .. => [.col, .obs, .recd, .jregs]
  | .periodicTally | .tallyFreeze | .traceHeadWrite .. => [.obs]
  | .censusFreeze .. => [.gov, .fab, .bnk, .obs, .cmd, .words]
  | .recordWrite => [.bnk, .recd, .cellar, .words]
  | .tokenAdd .. => [.bnk, .recd, .words]
  | .freezeGo .. | .rateWrite .. | .camCellar .. => [.isl, .recd, .mregs]
  | .freezeRelease | .recKey .. | .cperPop | .camCper => [.isl, .recd]
  | .freezeTimeout => [.recd]
  | .recRead .. => [.isl, .col, .bnk, .recd, .mregs, .words]
  | .rateRead .. => [.isl, .mregs]
  | .flushPage .. | .recCellar .. => [.col, .bnk, .recd, .cellar, .words]
  | .cellarRead .. => [.recd, .mregs]
  | .recClear .. => [.isl, .col, .bnk, .recd, .cellar, .words]
  | .policyWrite .. | .policyRead .. => [.isl, .gov, .bnk, .seq, .words]
  | .rootKey .. => [.isl, .dig]
  | .captureKey .. => [.isl, .capKeys]
  | .packLoad .. => [.isl, .col, .scr, .recd, .cellar]
  | .fellUndo .. | .excursion => [.isl, .col, .recd, .cellar]
  | .imageLoad .. | .qWait .. => [.isl, .col, .seq]
  | .handover .. | .handoverTimeout | .response => [.isl, .seq]
  | .gateRefused .. => [.isl, .col, .obs, .recd]
  | .rxPop | .i3cPrivateRead | .entdaa .. | .setdasa .. | .setnewda .. | .rstdaa | .serialBreak | .camIdleTimeout | .camHelp | .camState
  | .camBaud .. | .camRec .. | .camLock | .camTappriv .. | .islSecond | .corePgRise .. => [.isl]
  | .precWrite | .precRead => [.isl, .col, .gov, .jrn, .obs, .mregs]
  | .cmdqEnable .. | .cplqEnable .. => [.cmd, .jregs]
  | .cplqHeadWrite .. | .commandFetch .. | .cmdNop .. | .status .. | .tensorRead .. | .timeQuery .. => [.cmd]
  | .wack .. => [.col, .jrn, .fab, .bnk, .obs, .cmd, .words]
  | .jPageAccess .. => [.tim, .col, .fab, .obs, .recd, .cmd, .mregs, .jregs]
  | .reopen .. | .certify .. => [.col, .dig, .cmd]
  | .fenceReq .. => [.col, .cmd]
  | .tensorSet .. => [.dig, .obs, .cmd]
  | .extentSet .. | .restore .. => [.dig, .cmd]
  | .ringSet .. => [.jrn, .cmd]
  | .retarget .. => [.taps, .gov, .esc, .jrn, .obs, .cmd]
  | .tallySetup .. | .tally .. | .census .. | .traceSetup .. | .traceMark .. => [.obs, .cmd]
  | .lockstepMismatch .. | .fetchFault .. | .turnOverrun | .qNop .. | .qAdd .. | .qAddi .. | .qSub .. | .qMul .. | .qAnd .. | .qOr ..
  | .qXor .. | .qAndi .. | .qOri .. | .qXori .. | .qShl .. | .qShr .. | .qSar .. | .qRor .. | .qGfmul .. | .qMovi .. | .qMovhi ..
  | .qFfs .. | .qPopc .. | .qCmp .. | .qCmpi .. | .qPlog .. | .qSel .. | .qMovs .. | .qBr .. | .qCall .. | .qJr .. | .qBind .. | .qQlen ..
  | .qTimer .. | .qLread .. | .qSevw .. | .qSevr .. | .qSage .. | .qSense .. | .qCsamp .. => [.col, .seq]
  | .takeover => [.isl, .col, .gov, .bnk, .seq, .words]
  | .qLd .. | .qLdw .. | .qRaise .. => [.col, .bnk, .obs, .seq, .words]
  | .qSt .. | .qStw .. | .qPread .. => [.col, .gov, .bnk, .obs, .seq, .words]
  | .qOwn .. => [.col, .bnk, .seq, .words]
  | .qPop .. => [.isl, .col, .gov, .bnk, .obs, .seq, .cmd, .words]
  | .qPush .. => [.col, .bnk, .obs, .recd, .seq, .cmd, .words]
  | .qLop .. => [.col, .gov, .fab, .bnk, .obs, .seq, .cmd, .words]
  | .qPwrite .. => [.col, .gov, .jrn, .bnk, .obs, .seq, .words]
  | .qFell .. => [.col, .jrn, .obs, .recd, .seq, .cmd, .cellar]
  | .qSlice .. => [.col, .scr, .seq]
  | .qPause .. => [.col, .obs, .seq, .mregs]
  | .qRec .. | .qCper .. => [.col, .bnk, .obs, .recd, .seq, .words]
  | .qCrst .. | .qCsel .. | .qTally .. | .qCensus .. => [.col, .obs, .seq]
  | .getpid | .getbcr | .getdcr | .getstatus | .getmwl | .getmrl | .enec | .disec => []
  | .camPolicy .. | .camHandover | .camGate .. => [.isl, .col, .gov, .dig, .scr, .bnk, .obs, .recd, .seq, .capKeys, .cellar, .words]

end Sys2Proof.Machine
end

