-- ==== Sys2Proof/Certificates/Slice0/Obligations.lean ====
section
/-! DEFINITION. What this model is held to: one statement a definition. A clause with `Answers` or an equation for `exec` says that the
command completes in the states of its hypotheses; the rules that a docstring names are those of spec/. -/
open Sys2Proof Sys2Proof.Machine

/-- The events of the supplies (R592, R594, R604; the values kept and cleared are log entries 3 and 13): VDD_ISL_FALL leaves only the fuses, the cellar
and what has left the block; the others move the block's state. -/
def Obligations.SuppliesMoveTheBlock : Prop :=
  (∀ s : State, exec .vddIslFall s = .next { State.reset with
      pending := s.pending, out := s.out, freeCtr := s.freeCtr, fuse := s.fuse,
      recd := { Rec.reset with cellar := s.recd.cellar, cellarAbsent := s.recd.cellarAbsent } })
  ∧ (∀ s : State, s.isl.st = .off → Answers .vddIslUp s fun t => t.isl.st = .island ∧ t.recd.cellar = s.recd.cellar ∧ t.fuse = s.fuse)
  ∧ (∀ (bad : List (Nat × Nat)) (s : State), s.isl.st = .island → s.scr.hubScanned = false → Answers (.corePowerGood bad) s fun t => t.isl.st = .selftest ∧ t.fuse = s.fuse)
  ∧ (∀ (bits : BitVec 16) (s : State), s.hubUp = true → s.isl.corePg &&& bits ≠ 0 → s.isl.corePg &&& ~~~bits = 0 →
      Answers (.corePgFall bits) s fun t => t.isl.st = .island ∧ t.isl.corePg = 0 ∧ t.isl.pf = false)
  ∧ (∀ (bits : BitVec 16) (s : State), s.hubUp = true → s.isl.corePg &&& bits ≠ 0 → s.isl.corePg &&& ~~~bits ≠ 0 →
      Answers (.corePgFall bits) s fun t => t.isl.st = s.isl.st ∧ t.isl.corePg = s.isl.corePg &&& ~~~bits ∧ t.fab = s.fab ∧ t.cmd = s.cmd)
  ∧ (∀ (bits : BitVec 16) (s : State), s.isl.st ≠ .off → s.scr.hubScanned = false →
      exec (.corePgRise bits) s = .next { s with isl := { s.isl with corePg := s.isl.corePg ||| bits } })
  ∧ (∀ s : State, s.isl.st ≠ .off → Answers .pfWarn s fun t => t.isl.pf = true ∧ t.isl.st = s.isl.st)
  ∧ (∀ s : State, Answers .pfWarnRelease s fun t => t.isl.pf = false ∧ t.isl.st = s.isl.st)
  ∧ (∀ s : State, Answers .pllUnlock s fun t => t.isl.pllLock = false ∧ t.isl.st = s.isl.st ∧ t.tim = s.tim)
  ∧ (∀ s : State, Answers .refLost s fun t => t.isl.refLost = true ∧ t.isl.st = s.isl.st ∧ t.tim = s.tim)

/-- From SELFTEST to SEALED (R592, R597, R601, R602): each event that ends a state leads to the next. COMP_OPEN and COMP_CLOSE (R599, R600): a closed
compartment opens, an open one closes, and what may not open says so in REFUSED. -/
def Obligations.StatesAndCompartmentsFollowTheirEvents : Prop :=
  ((∀ (ft : List W256) (s : State), s.hubUp = true → s.isl.st = .selftest → s.isl.pf = false → s.scr.phase = 5 →
      Answers (.startComplete ft) s fun t => t.isl.st = .loaded)
  ∧ (∀ (c : Nat) (s : State), s.hubUp = true → s.isl.st = .loaded ∨ s.isl.st = .opened →
      Answers (.sealRequest c) s fun t => t.isl.st = .drain)
  ∧ (∀ s : State, s.hubUp = true → s.isl.st = .drain → drainDone s = true → Answers .drainComplete s fun t => t.isl.st = .closing)
  ∧ (∀ (s : State) (t0 : Nat), s.hubUp = true → s.isl.st = .drain → s.cmd.drainEt = some t0 → t0 + 40000000 ≤ s.et →
      Answers .drainTimeout s fun t => t.isl.st = .closing)
  ∧ (∀ (w : Bool) (s : State), s.hubUp = true → s.isl.st = .closing → s.scr.phase = 5 → s.isl.pf = false →
      Answers (.closingComplete w) s fun t => t.isl.st = .sealed)
  ∧ (∀ (w : Bool) (s : State), s.hubUp = true → s.isl.st = .sealed → s.scr.recordOwed = true → s.recd.cellarAbsent = false →
      Answers (.closingRecordRetry w) s fun t => t.isl.st = .sealed ∧ t.scr.recordOwed = !w))
  ∧ ((∀ (c : Nat) (s : State), s.hubUp = true → s.isl.st = .opened → (s.comp c).st = .closed → s.cmd.dieStop = false →
      Answers (.compOpen c) s fun t => t.isl.st = .opened ∧ (t.comp c).st = .opened ∧ (t.comp c).causes = [])
  ∧ (∀ (c : Nat) (s : State), s.hubUp = true → s.isl.st = .loaded → (s.comp c).st = .closed → s.cmd.dieStop = false → s.gov.tablesOk = true →
      (pairOf false s).st = .serving ∨ (pairOf true s).st = .serving →
      Answers (.compOpen c) s fun t => t.isl.st = .opened ∧ (t.comp c).st = .opened)
  ∧ (∀ (c : Nat) (s : State), s.hubUp = true → (s.comp c).st ≠ .closed → exec (.compOpen c) s = .next (s.setRf (fCompRefused c) 1))
  ∧ (∀ (c : Nat) (s : State), s.hubUp = true → (s.comp c).st ≠ .closed →
      Answers (.compClose c) s fun t => (t.comp c).st = .closed ∧ (t.comp c).causes = [] ∧ (t.comp c).closeEt.isSome = true)
  ∧ (∀ (c : Nat) (s : State) (t0 : Nat), s.hubUp = true → (s.comp c).closeEt = some t0 → t0 + 4000000 ≤ s.et →
      exec (.recantWaitExpiry c) s = .next (foldS (s.esc.entries.filter (fun e => e.2.comp == c && e.2.st == .recanting))
        (fun e u => freeEntry e.1 u) (updComp c (fun p => { p with closeEt := none }) s))))

/-- FAULT_MESSAGE and FLOOD_QUIET (R280, R282): the oldest message of a link is decided, takes the next CSEQ and enters the intake queue, and another
waits for it; 160 ticks after its arrival the severity-4 scope of a message whose FLOOD bit was set then is ordered quiet. -/
def Obligations.FaultMessagesAreDecided : Prop :=
  (∀ (link : Nat) (f : Flight) (s : State), s.hubUp = true → linkHead s link = some f →
      exec (.faultMessage link f.unit f.msg) s =
        .next (decideMsg f { goodWord link f.unit s with col := { (goodWord link f.unit s).col with flight := s.col.flight.erase f } }))
  ∧ (∀ (link unit : Nat) (msg : W128) (s : State), s.hubUp = true → linkHead s link = none →
      exec (.faultMessage link unit msg) s = .next (decideMsg { link := link, unit := unit, msg := msg } (goodWord link unit s)))
  ∧ (∀ (link : Nat) (f : Flight) (s : State), s.hubUp = true → linkHead s link = some f → s.col.intake.length < 3840 →
      Answers (.faultMessage link f.unit f.msg) s fun t => t.col.cseq = (s.col.cseq + 1) % 2 ^ 32 ∧
        ∃ e : Intake, t.col.intake = s.col.intake ++ [e] ∧ e.cseq = s.col.cseq ∧ e.link = f.link ∧ e.flood = f.flood)
  ∧ (∀ (link : Nat) (f g : Flight) (s : State), s.hubUp = true → linkHead s link = some f → g ∈ s.col.flight → g.link = link →
      g.unit ≠ f.unit ∨ g.msg ≠ f.msg → exec (.faultMessage link g.unit g.msg) s = .next (goodWord link g.unit s))
  ∧ (∀ (f : Flight) (x : Loc) (s : State), s.hubUp = true →
      s.col.flight.find? (fun g => g.link == f.link && g.unit == f.unit && g.msg == f.msg) = some f → f.floodOn = true → f.flood = false →
      msgReh f.msg = false → named (msgLocus f.msg) ≠ .invalid → felled s (msgLocus f.msg) = false → reach 4 (msgLocus f.msg) = .scope x →
      s.col.fences = [] → s.col.quiet.contains x.toNat = false →
      Answers (.floodQuiet f.link f.unit f.msg) s fun t => t.col.orders = s.col.orders ++ [⟨false, .locus x⟩] ∧
        t.col.flight = s.col.flight.map (fun g => if g == f then { f with flood := true, quieted := true, arr := s.et - 160 } else g))
  ∧ (∀ (link unit : Nat) (msg : W128) (s : State), s.hubUp = true →
      s.col.flight.find? (fun f => f.link == link && f.unit == unit && f.msg == msg) = none →
      nfld (sevEntry s (msgClass msg) (msgKind msg)) 3 1 = 1 → s.col.flight = [] →
      Answers (.floodQuiet link unit msg) s fun t => ∃ q, t.col.flight =
        [{ link := link, unit := unit, msg := msg, floodOn := true, flood := true, quieted := q, arr := s.et - 160 }])

/-- A message marked as a rehearsal is decided and has no reaction (R166): no fence, suspect or compartment changes, and what order it gives carries the
mark; it takes the next CSEQ, and the intake queue stores it or, being full, counts it in LOST (R269, R283). -/
def Obligations.RehearsalMessagesHaveNoReaction : Prop :=
  ∀ (f : Flight) (s : State), msgReh f.msg = true →
    (decideMsg f s).col.fences = s.col.fences ∧ ((decideMsg f s).col.orders = s.col.orders
      ∨ ∃ x, (decideMsg f s).col.orders = s.col.orders ++ [⟨false, .marked x s.col.cseq⟩])
    ∧ (decideMsg f s).col.suspects = s.col.suspects ∧ (decideMsg f s).col.fell = s.col.fell
    ∧ (decideMsg f s).cmd = s.cmd ∧ (decideMsg f s).gov = s.gov
    ∧ (decideMsg f s).col.cseq = (s.col.cseq + 1) % 2 ^ 32
    ∧ (s.col.intake.length < 3840 → ∃ e : Intake, (decideMsg f s).col.intake = s.col.intake ++ [e] ∧ e.cseq = s.col.cseq
        ∧ e.sev = sevEntry s (msgClass f.msg) (msgKind f.msg) % 8 ∧ e.flood = f.flood ∧ e.escal = false ∧ e.link = f.link ∧ e.lost = s.col.lost)
    ∧ (4096 ≤ s.col.intake.length → (decideMsg f s).col.intake = s.col.intake ∧ (decideMsg f s).col.lost = min (s.col.lost + 1) 0xFFFF)

/-- LINK_PARITY, PORT_PARITY_ERROR, HEARTBEAT, TAP_MISSING, WARDEN_MISSING (R29, R56, R57, R560). ECC_EVENT, BLAZE_WRITEBACK_DONE,
BLAZE_WRITEBACK_TIMEOUT, BLAZE_CONSUMED, HOST_CORE_EVENT (R296, R297, R569, R570, R590). REACTION_ORDER and UNFENCE_ORDER (R285, R565): the oldest
order reaches its parts, in the order in which they were given. FELL_WRITE and TAP_RETRY (R292, R381): a write that was owed is made or told again; a
tap that passes is in service again. -/
def Obligations.LinksErrorsOrdersAndFells : Prop :=
  ((∀ (link : Nat) (s : State), s.hubUp = true → (link < 32 ∨ 64 ≤ link) → link < 208 → s.col.parityWait.find? link = none →
      Answers (.linkParity link) s fun t => t.col.parityWait.find? link = some s.et ∧ Posted Kind.linkParity (linkLoc s link) s t)
  ∧ (∀ (link : Nat) (x : Tick) (s : State), s.hubUp = true → (link < 32 ∨ 64 ≤ link) → link < 208 → s.col.parityWait.find? link = some x →
      Answers (.linkParity link) s fun t => t.col.linkFailed = setAdd s.col.linkFailed link)
  ∧ (∀ (l : Loc) (s : State), s.hubUp = true → felled s l = false → s.col.parityWait.find? (65536 + l.toNat) = none →
      exec (.portParityError l) s = .next (raisePort l Kind.linkParity
        { s with col := { s.col with parityWait := s.col.parityWait.put (65536 + l.toNat) s.et } }))
  ∧ (∀ (part : Nat) (s : State), s.hubUp = true → part < 160 →
      Answers (.heartbeat part) s fun t => t.col.beats = s.col.beats.put part s.et ∧
        (144 ≤ part → t.col.wardensMissing.contains (part - 144) = false))
  ∧ (∀ (tap : Nat) (s : State), tap < 144 → beatMissed s tap = true → s.col.tapsMissing.contains tap = false →
      felled s (tapWholeLoc tap) = false →
      Answers (.tapMissing tap) s fun t => t.col.tapsMissing = setAdd s.col.tapsMissing tap ∧ Posted Kind.tapMissing (tapPartLoc tap) s t)
  ∧ (∀ (r : Nat) (s : State), r < 16 → beatMissed s (144 + r) = true → s.col.wardensMissing.contains r = false →
      exec (.wardenMissing r) s = .next (raiseHub uCollector Kind.wardenMissing (wardenLoc r) 0 (wardenLost r s))))
  ∧ ((∀ (m h waddr : Nat) (pay : W256) (s : State), s.hubUp = true → h < 16 →
      exec (.eccEvent m false h waddr pay) s =
        .next (raiseMem m Kind.eccCe (channelLoc m h) (detail waddr none none) (countMem m 6 1 s)))
  ∧ (∀ (m h waddr : Nat) (pay : W256) (s : State), s.hubUp = true → h < 16 → isQuiet s (channelLoc m h) = false →
      Answers (.eccEvent m true h waddr pay) s fun t => t.out = s.out ++ [.writeBack m h waddr pay] ∧
        t.col.backs = s.col.backs ++ [⟨m, h, waddr, pay, s.et, false⟩])
  ∧ (∀ (m : Nat) (b : Back) (s : State), s.hubUp = true → s.col.backs.find? (fun b => b.ctrl == m) = some b →
      exec (.blazeWritebackDone m) s = .next (countMem m 8 1 { s with col := { s.col with backs := s.col.backs.erase b } }))
  ∧ (∀ (m : Nat) (b : Back) (s : State), s.hubUp = true → s.col.backs.find? (fun b => b.ctrl == m) = some b → b.et + 800 ≤ s.et →
      b.again = true → Answers (.blazeWritebackTimeout m) s fun t => t.col.backs = s.col.backs.erase b ∧ Posted Kind.linkFail (ctrlLoc m) s t)
  ∧ (∀ (m : Nat) (b : Back) (s : State), s.hubUp = true → s.col.backs.find? (fun b => b.ctrl == m) = some b → b.et + 800 ≤ s.et →
      b.again = false → Answers (.blazeWritebackTimeout m) s fun t => t.out = s.out ++ [.writeBack b.ctrl b.ch b.waddr b.pay] ∧
        t.col.flight = s.col.flight)
  ∧ (∀ (c unit cord : Nat) (pay : W64) (s : State), s.hubUp = true → c < 128 → s.powered (c / 8) = true → felled s (clusterLoc c) = false →
      Answers (.blazeConsumed c unit cord pay) s fun t => Posted Kind.blazeConsumed (coreLoc c (unit % 32)) s t)
  ∧ (∀ (core cord : Nat) (pay : W64) (s : State), s.hubUp = true → felled s (hcoreLoc core) = false →
      exec (.hostCoreEvent core 0 cord pay) s = .next (raiseHcore core Kind.pathParity (hcoreLoc core) 0 s)
      ∧ exec (.hostCoreEvent core 1 cord pay) s = .next (raiseHcore core Kind.blazeConsumed (hcoreLoc core) (blazeDetail pay cord) s)))
  ∧ ((∀ (o : Order) (rest : List Order) (s : State), s.hubUp = true → s.col.orders = o :: rest → o.lift = false →
      exec .reactionOrder s = .next (thirdsDone (applyOrder o { s with col := { s.col with orders := rest } })))
  ∧ (∀ (o : Order) (rest : List Order) (s : State), s.hubUp = true → s.col.orders = o :: rest → o.lift = true →
      exec .unfenceOrder s = .next (applyOrder o { s with col := { s.col with orders := rest } }))
  ∧ (∀ (o : Order) (rest : List Order) (s : State), s.col.orders = o :: rest → o.lift = true → exec .reactionOrder s = .next s)
  ∧ (∀ (o : Order) (rest : List Order) (s : State), s.col.orders = o :: rest → o.lift = false → exec .unfenceOrder s = .next s))
  ∧ ((∀ s : State, s.hubUp = true → s.col.fellOwed = true → s.recd.cellarAbsent = false →
      Answers (.fellWrite true) s fun t => t.col.fellOwed = false ∧ t.col.fell = s.col.fell)
  ∧ (∀ s : State, s.hubUp = true → s.col.fellOwed = true →
      exec (.fellWrite false) s = .next (raiseHub uRecorder Kind.fellWrite (hubLoc uRecorder) 0 s))
  ∧ (∀ (tap : Nat) (s : State), s.hubUp = true → s.scr.tapRetry.contains tap = true →
      (s.scr.tapTested.find? tap).any (fun t0 => decide (s.et < t0 + 40000000)) = false →
      Answers (.tapRetry tap true) s fun t => t.scr.tapRetry = setDel s.scr.tapRetry tap ∧ t.col.tapsMissing = setDel s.col.tapsMissing tap)
  ∧ (∀ (tap : Nat) (s : State), s.hubUp = true → s.scr.tapRetry.contains tap = true →
      (s.scr.tapTested.find? tap).any (fun t0 => decide (s.et < t0 + 40000000)) = false →
      exec (.tapRetry tap false) s = .next (tapTestFailed tap s)))

/-- TILE_TICKET (R66, R70, R71): a ticket that passes its checks begins a tile, an empty one completes EMPTY, another is rejected. DISPATCH_SLOT (R564): a
request that no rule refuses is admitted, ends the unit's idle time, and sets its waiting cord running (R237); another is refused. -/
def Obligations.TicketsAndDispatchRequests : Prop :=
  ((∀ (tap : Nat) (w : W256) (s : State), tapUp s tap = true → tkFieldsOk tap w = true → tkChainOk ((s.tap tap).unit (tkUnit w)) w = true →
      tileAt s tap (tkTag w) = none → unitQuiet s tap (tkUnit w) = false → tkEmpty w = false →
      Answers (.tileTicket tap w) s fun t => ∃ samp, Output.tktCap tap (tkTag w) samp ∈ t.out ∧
        ∃ x : Tile, tileAt t tap (tkTag w) = some x ∧ x.ticket = w ∧ x.retired = none ∧ x.sampled = samp)
  ∧ (∀ (tap : Nat) (w : W256) (s : State), tapUp s tap = true → tkFieldsOk tap w = true → tkChainOk ((s.tap tap).unit (tkUnit w)) w = true →
      tileAt s tap (tkTag w) = none → tkPin w = true → quietAbove s tap (tkUnit w) = false → tkEmpty w = false →
      Answers (.tileTicket tap w) s fun t => Output.tktCap tap (tkTag w) false ∈ t.out ∧
        ∃ x : Tile, tileAt t tap (tkTag w) = some x ∧ x.ticket = w ∧ x.retired = none)
  ∧ (∀ (tap : Nat) (w : W256) (s : State), tapUp s tap = true → tkFieldsOk tap w = true → tkChainOk ((s.tap tap).unit (tkUnit w)) w = true →
      tileAt s tap (tkTag w) = none → unitQuiet s tap (tkUnit w) = false → tkEmpty w = true →
      Answers (.tileTicket tap w) s fun t => Output.tileDone tap (tkTag w) .empty ∈ t.out)
  ∧ (∀ (tap : Nat) (w : W256) (s : State), tapUp s tap = true → tkFieldsOk tap w = false →
      Answers (.tileTicket tap w) s fun t => Output.tileDone tap (tkTag w) .invalid ∈ t.out))
  ∧ ((∀ (tap u cord : Nat) (pin : Bool) (s : State), tapUp s tap = true →
      gateRefusal tap u cord pin (gateSlot tap u s).1 (gateSlot tap u s).2 = none →
      (tapComp s tap).bind (fun c => findCord s c cord) = none →
      Answers (.dispatchSlot tap u cord pin) s fun t => t.out = s.out ++ [.dspAdm tap u true] ∧
        t.scr.lastWork = s.scr.lastWork.put (tapUnitLoc tap u).toNat s.et ∧ t.obs = s.obs ∧ t.col = s.col)
  ∧ (∀ (tap u cord i : Nat) (pin : Bool) (k : Cord) (s : State), tapUp s tap = true →
      gateRefusal tap u cord pin (gateSlot tap u s).1 (gateSlot tap u s).2 = none →
      (tapComp s tap).bind (fun c => findCord s c cord) = some i → s.cord i = some k → k.st = .waiting → unitKey k.placed = some (tap, u) →
      Answers (.dispatchSlot tap u cord pin) s fun t => Output.dspAdm tap u true ∈ t.out ∧
        t.scr.lastWork = s.scr.lastWork.put (tapUnitLoc tap u).toNat s.et ∧ t.col = s.col ∧ ∃ q, t.cord i = some q ∧ q.st = .running ∧ q.jsn = k.jsn)
  ∧ (∀ (tap u cord : Nat) (pin : Bool) (s : State) (evs : List Nat), tapUp s tap = true →
      gateRefusal tap u cord pin (gateSlot tap u s).1 (gateSlot tap u s).2 = some evs →
      Answers (.dispatchSlot tap u cord pin) s fun t => Output.dspAdm tap u false ∈ t.out))

/-- The word commands (R72, R79, R84, R104, R134): each word enters the tile that holds its tag, and the last EOR word retires it. TILE_COMPARE,
TICKET_STATE_ERROR (R34, R86, R95, R102): the first retired tile completes with the status of its verdict, and a tile whose ticket is in error
completes SUSPECT, or goes on where the error could be corrected. -/
def Obligations.WordsAndTilesComplete : Prop :=
  ((∀ (tap tag role index : Nat) (w : W256) (x : Tile) (s : State), tapUp s tap = true → tileAt s tap tag = some x →
      x.retired = none → (acceptOperand x role index w).1.breached = false →
      Answers (.operandWord tap tag role index w) s fun t => tileAt t tap tag = some (acceptOperand x role index w).1)
  ∧ (∀ (tap unit tag index : Nat) (w : W256) (x : Tile) (s : State), tapUp s tap = true → unit < 32 → tileAt s tap tag = some x →
      x.retired = none → index < tkM x.ticket * cdiv (tkN x.ticket) 4 →
      exec (.eorWord tap unit tag index false w) s = .next (updTile tap tag (acceptEor x index w) s))
  ∧ (∀ (tap unit tag index : Nat) (w : W256) (x : Tile) (s : State), tapUp s tap = true → unit < 32 → tileAt s tap tag = some x →
      x.retired = none → index < tkM x.ticket * cdiv (tkN x.ticket) 4 →
      Answers (.eorWord tap unit tag index true w) s fun t => ∃ y, tileAt t tap tag = some y ∧ y.retired = some s.et ∧ y.ticket = x.ticket)
  ∧ (∀ (tap unit tag index : Nat) (last : Bool) (w : W256) (x : Tile) (s : State), tapUp s tap = true → unit < 32 → tileAt s tap tag = some x →
      exec (.valueWord tap unit tag index last w) s = .next (updTile tap tag (acceptValue x index w) s))
  ∧ (∀ (tap unit tag off : Nat) (w : W256) (x : Tile) (s : State), tapUp s tap = true → tileAt s tap tag = some x → x.sampled = true →
      ((findCord s (tkComp x.ticket) (tkCord x.ticket)).bind (fun i => s.cord i)).any (fun k => k.twinned) = false →
      Answers (.captureWord tap unit true tag 0 off w) s fun t => (t.tap tap).capture = (s.tap tap).capture.upd (2 * tag) 0
        (fun d => d ^^^ wordTerm (s.capKeys.get (tkComp x.ticket) 0) 0 (tkCord x.ticket % 2 ^ 24 * 2 ^ 40 + off % 2 ^ 40) w)))
  ∧ ((∀ (tap tag : Nat) (x : Tile) (s : State), tapUp s tap = true → tileAt s tap tag = some x → x.retired.isSome = true →
      (s.tap tap).tags.any (fun e => comparesFirst e.2 x) = false → tkPin x.ticket = false →
      Answers (.tileCompare tap tag) s fun t =>
        Output.tileDone tap (tkTag x.ticket) (judge ((s.tap tap).unit (tkUnit x.ticket)) x).ends ∈ t.out)
  ∧ (∀ (tap tag : Nat) (x : Tile) (s : State), tapUp s tap = true → tileAt s tap tag = some x → x.retired.isSome = true →
      (s.tap tap).tags.any (fun e => comparesFirst e.2 x) = false → tkPin x.ticket = true →
      exec (.tileCompare tap tag) s = .next (pinDone tap (comparePin tap x s)))
  ∧ (∀ (tap tag : Nat) (x : Tile) (s : State), tapUp s tap = true → tileAt s tap tag = some x →
      Answers (.ticketStateError tap tag false) s fun t => Output.tileDone tap (tkTag x.ticket) .suspect ∈ t.out)
  ∧ (∀ (tap tag : Nat) (x : Tile) (s : State), tapUp s tap = true → tileAt s tap tag = some x →
      Answers (.ticketStateError tap tag true) s fun t => tileAt t tap tag = some x ∧ (t.tap tap).corrected = (s.tap tap).corrected + 1 ∧ t.out = s.out))

/-- The exact compare (R83, R86): with no difference in any of the three sums the tile is OK, and with one the tile is not. -/
def Obligations.VerdictIsOkExactlyWithoutDifference : Prop :=
  ∀ (u : UnitSt) (x : Tile), x.breached = false → countsOk x = true → tkKind x.ticket ≠ 3 → tkKind x.ticket ≠ 4 → x.anyInexact = false →
    x.nonfin = false → ((judge u x).ends = .ok ↔ (ercDiffs u x).1 = 0 ∧ (ercDiffs u x).2.1 = 0 ∧ (ercDiffs u x).2.2 = 0)

/-- The send port (R170, R172, R173, R177, R563): without a credit a request stalls and is counted; with one it takes the first free entry; a proven HELD
send is granted by SND_RSP; the handle of a granted send is free once it has left. CREDIT_REFILL (R172, R195): a refill keeps use within the
compartment's quota, and none is given after PF_WARN. -/
def Obligations.SendPortAndQuotas : Prop :=
  ((∀ (tap : Nat) (req : W128) (s : State), tapUp s tap = true → s.esc.sends.has (256 * tap + fld req 0 8) = false →
      (Tbl.get s.esc.pools tap Pool.reset).credits = 0 →
      Answers (.sendRequest tap req) s fun t => (Tbl.get t.esc.pools tap Pool.reset).stalls = (Tbl.get s.esc.pools tap Pool.reset).stalls + 1
        ∧ t.esc.entries = s.esc.entries ∧ t.esc.sends = s.esc.sends ∧ t.out = s.out)
  ∧ (∀ (tap i : Nat) (req : W128) (s : State), tapUp s tap = true → s.esc.sends.has (256 * tap + fld req 0 8) = false →
      (Tbl.get s.esc.pools tap Pool.reset).comp = some (fld req 13 4) → 0 < (Tbl.get s.esc.pools tap Pool.reset).credits →
      Tbl.free s.esc.entries 16384 = some i → unitOut s (tapUnitLoc tap (fld req 8 5)) = false → compQuiet s (fld req 13 4) = false →
      (s.comp (fld req 13 4)).st = .opened → sendBad s (sentEntry s tap i req) = none → stopHolds s (fld req 13 4) = false →
      escForward s (fld req 13 4) = false →
      Answers (.sendRequest tap req) s fun t => t.escEntry i = some (sentEntry s tap i req)
        ∧ (Tbl.get t.esc.pools tap Pool.reset).credits = (Tbl.get s.esc.pools tap Pool.reset).credits - 1
        ∧ t.esc.sends.has (256 * tap + fld req 0 8) = true ∧ t.out = s.out)
  ∧ (∀ (tap handle : Nat) (p : SendSt) (e : EscEntry) (s : State), tapUp s tap = true → handle < 256 →
      s.esc.sends.find? (256 * tap + handle) = some p → p.granted = false → s.escEntry p.index = some e → e.st = .held →
      stopHolds s e.comp = false → e.forward = false → sendProven s e = true →
      Answers (.sendGrant tap handle) s fun t => Output.sndRsp tap (sndRsp handle 0 0 (sendIdOf p.index e.reuse) 0) ∈ t.out)
  ∧ (∀ (tap handle : Nat) (p : SendSt) (s : State), tapUp s tap = true → s.esc.sends.find? (256 * tap + handle) = some p → p.granted = true →
      exec (.sendLeft tap handle) s = .next { s with esc := { s.esc with sends := s.esc.sends.del (256 * tap + handle) } }))
  ∧ (∀ (tap c : Nat) (s : State), tapUp s tap = true → (Tbl.get s.esc.pools tap Pool.reset).comp = some c →
    Answers (.creditRefill tap) s fun t => ∃ n, n ≤ quota s c 1 - escUse s c ∧ (s.isl.pf = true → n = 0)
      ∧ Tbl.get t.esc.pools tap Pool.reset =
          { Tbl.get s.esc.pools tap Pool.reset with
            credits := (Tbl.get s.esc.pools tap Pool.reset).credits + n, asked := (Tbl.get t.esc.pools tap Pool.reset).asked }
      ∧ t.esc.entries = s.esc.entries ∧ t.esc.sends = s.esc.sends)

/-- PROOF_REPORT, ARRIVAL_REPORT and the timeouts of entries (R176, R179, R181, R187, R188). The messages that the spec gives a handler at the die that
receives them (R176, R187, R188, R192, R220, R226, R303, R304, R343): each takes the oldest message of its class and TYPE out of the intake and
handles it; with none there nothing happens. What CLEAR, RECANT_ACK and LATE_RECANT do with the entry they match (R176, R187, R192). -/
def Obligations.EscrowEntriesFollowTheirMessages : Prop :=
  ((∀ (bad : List Nat) (r : ProofRep) (rest : List ProofRep) (e : EscEntry) (s : State), s.hubUp = true → s.esc.reports = r :: rest → s.escEntry r.index = some e →
      e.inbound = false → e.reuse = r.reuse → e.st = .provisional →
      exec (.proofReport bad) s = .next (foldS bad entryError (if r.proven then sendClear r.index { s with esc := { s.esc with reports := rest } }
        else recantOut r.reason r.index { s with esc := { s.esc with reports := rest } })))
  ∧ (∀ (x : W128) (slot len : Nat) (s : State), s.hubUp = true → extProv x = false →
      exec (.arrivalReport x slot len) s = .next (slotResent (extComp s x) slot (countLanded (extComp s x) x slot len s)))
  ∧ (∀ (x : W128) (slot len : Nat) (s : State), s.hubUp = true → extProv x = true → escRoom s (extComp s x) = none →
      List.find? (fun (ie : Nat × EscEntry) => ie.2.inbound && ie.2.peer == extSrcDie x && ie.2.peerComp == extSrcComp x &&
        ie.2.sendId == extSendId x && ie.2.comp == extComp s x && (ie.2.st == .earlyClear || ie.2.st == .earlyRecant)) s.esc.entries = none →
      exec (.arrivalReport x slot len) s = .next { s with esc := { s.esc with arrQuota := s.esc.arrQuota + 1 } })
  ∧ (∀ (i : Nat) (e : EscEntry) (s : State), s.hubUp = true → s.escEntry i = some e → e.inbound = true → e.st = .opened →
      e.born + 400 * escInb s e.comp ≤ s.et → exec (.inboundTimeout i) s = .next (sendRecall i s))
  ∧ (∀ (i : Nat) (e : EscEntry) (s : State), s.hubUp = true → s.escEntry i = some e → e.st = .earlyClear ∨ e.st = .earlyRecant → e.deadline ≤ s.et →
      Answers (.escExpired i) s fun t => t.esc.expired = (freeEntry i s).esc.expired + 1 ∧ Posted Kind.escExpired (hubLoc uEscrow) (freeEntry i s) t)
  ∧ (∀ (i : Nat) (e : EscEntry) (s : State), s.hubUp = true → s.escEntry i = some e → e.st = .branchFailed → e.deadline ≤ s.et →
      exec (.branchFailedExpiry i) s = .next (freeEntry i s)))
  ∧ (∀ (cls typ : Nat) (c : Instr) (f : VcsMsg → State → State),
    (cls, typ, c, f) ∈ [(vcEscrow, 1, Instr.clear, onClear), (vcEscrow, 2, .recant, onRecant), (vcEscrow, 3, .recantAck, onRecantAck),
      (vcEscrow, 4, .recall, onRecall), (vcEscrow, 5, .lateRecant, onLateRecant), (vcLease, 1, .ping, onPing), (vcLease, 3, .leaseRevoke, onRevoke),
      (vcDigest, 1, .digestPart, onDigestPart), (vcDigest, 3, .tensorPart, onTensorPart), (vcDigest, 4, .tensorDiff, onTensorDiff)] →
    (∀ (m : VcsMsg) (s : State), s.hubUp = true → findMsg (fun m => m.cls == cls && fld m.payload 0 4 == typ) s = some m →
        exec c s = .next (f m (dropMsg m s)))
    ∧ (∀ s : State, findMsg (fun m => m.cls == cls && fld m.payload 0 4 == typ) s = none → exec c s = .next s))
  ∧ ((∀ (m : VcsMsg) (c i : Nat) (s : State), escDst s m = some c → (s.comp c).st = .opened →
      findInbound s m.src (fld m.payload 8 4) (fld m.payload 16 16) c escOpen = some i → onClear m s = sweepSends (freeEntry i s))
  ∧ (∀ (m : VcsMsg) (e : EscEntry) (s : State), s.escEntry (fld m.payload 16 14) = some e → e.inbound = false →
      e.reuse = fld m.payload 30 2 → e.st = .recanting → e.acks ≤ 1 → onRecantAck m s = freeEntry (fld m.payload 16 14) s)
  ∧ (∀ (m : VcsMsg) (c : Nat) (s : State), escDst s m = some c → (s.comp c).st ≠ .opened → onClear m s = s ∧ onRecant m s = sendAck m s))

/-- A freed entry advances its index's reuse count, so that a late message for the old send matches nothing (R173). -/
def Obligations.FreedEntryChangesItsReuseCount : Prop :=
  ∀ (i : Nat) (s : State), holders s = [] → reuseOf (freeEntry i s) i = (reuseOf s i + 1) % 4 ∧ reuseOf (freeEntry i s) i ≠ reuseOf s i
    ∧ (freeEntry i s).escEntry i = none
    ∧ ∀ j, j ≠ i → (freeEntry i s).escEntry j = s.escEntry j ∧ reuseOf (freeEntry i s) j = reuseOf s j

/-- VCS_RECEIVE (R335, R554): a correct message for this die is answered DACK and taken where the intake has room, NACK where it has not; one for another
die, or malformed, is answered DACK and reported. DACK, NACK, BRANCH_RETRY and VCS_BRANCH_FAIL (R339): what an answer or its absence does to the
branch it names. RATE_WINDOW (R309) and LEASE_EXPIRED (R303). -/
def Obligations.MessagesBranchesAndWindows : Prop :=
  ((∀ (h : W128) (p : BitVec 384) (s : State), s.hubUp = true → s.dieSet = true → hdrDst h = s.die → messageOk h p = true →
      hdrClass h = 1 ∨ hdrClass h = 2 ∨ hdrClass h = 3 ∨ hdrClass h = 5 ∨ hdrClass h = 6 → intakeRoom s (hdrPlen h) = true →
      exec (.vcsReceive h p) s = .next (takeMsg ⟨hdrClass h, hdrPlen h, hdrSrc h, s.die, hdrGroup h, hdrMseq h, hdrSent h, p⟩
        (answer (hdrSrc h) (hdrMseq h) true s)))
  ∧ (∀ (h : W128) (p : BitVec 384) (s : State), s.hubUp = true → s.dieSet = true → hdrDst h = s.die → messageOk h p = true →
      hdrClass h ≠ 0 → intakeRoom s (hdrPlen h) = false → exec (.vcsReceive h p) s = .next (answer (hdrSrc h) (hdrMseq h) false s))
  ∧ (∀ (h : W128) (p : BitVec 384) (s : State), s.hubUp = true → s.dieSet = true → hdrDst h ≠ s.die → hdrClass h ≠ 0 →
      exec (.vcsReceive h p) s = .next (vcsBad (hdrSrc h) (hdrDst h) (answer (hdrSrc h) (hdrMseq h) true s)))
  ∧ (∀ (h : W128) (p : BitVec 384) (s : State), s.dieSet = false → exec (.vcsReceive h p) s = .next s))
  ∧ ((∀ (mseq src : Nat) (b : Branch) (s : State), s.hubUp = true → findBranch s mseq src = some b → b.use = .plain →
      exec (.dack mseq src) s = .next { s with fab := { s.fab with
        branches := s.fab.branches.filter (fun x => !(x.mseq == mseq && x.dst == src)) } })
  ∧ (∀ (mseq src : Nat) (s : State), s.hubUp = true → exec (.nack mseq src) s = .next { s with fab := { s.fab with
        branches := s.fab.branches.map (fun b => if b.mseq == mseq && b.dst == src then { b with nacked := true } else b) } })
  ∧ (∀ (mseq dst : Nat) (b : Branch) (s : State), s.hubUp = true → findBranch s mseq dst = some b → b.attempts < 4096 →
      Answers (.branchRetry mseq dst) s fun t => t.out = s.out ++ [.vcs dst mseq b.cls b.payload] ∧ t.fab.branches =
        s.fab.branches.map (fun b => if b.mseq == mseq && b.dst == dst then { b with attempts := b.attempts + 1, nacked := false } else b))
  ∧ (∀ (mseq dst : Nat) (b : Branch) (s : State), s.hubUp = true → findBranch s mseq dst = some b → b.cls ≠ vcEscrow → b.use = .plain →
      b.attempts = 4096 ∨ 262144 ≤ 6 * (s.et - b.firstEt) →
      Answers (.vcsBranchFail mseq dst) s fun t => findBranch t mseq dst = none ∧ Posted Kind.vcsBranchFail systemLoc s t)
  ∧ (∀ (mseq dst : Nat) (b : Branch) (s : State), findBranch s mseq dst = some b → b.attempts < 4096 → 6 * (s.et - b.firstEt) < 262144 →
      exec (.vcsBranchFail mseq dst) s = .next s))
  ∧ ((∀ s : State, s.hubUp = true → s.fab.window ≠ s.et / 400000 * 400000 →
      exec .rateWindow s = .next (releaseXfers (releaseVcs { s with
        gov := { s.gov with numeric := [], noted := [], weights := (List.range 16).map (fun c => (c, quota s c 4)) }
        fab := { s.fab with
          window := s.et / 400000 * 400000, vcsUsed := [], streamUsed := [],
          vcsBudget := (List.range 16).map (fun c => (c, quota s c 6)), streamBudget := (List.range 16).map (fun c => (c, quota s c 5)) } })))
  ∧ (∀ s : State, s.fab.window = s.et / 400000 * 400000 → exec .rateWindow s = .next s)
  ∧ (∀ (i : Nat) (s : State), s.hubUp = true → (s.lease i).state = .held → (s.lease i).expiry ≤ s.et →
      Answers (.leaseExpired i) s fun t => (t.lease i).state = .expired ∧
        Posted (if i < 16 then Kind.leaseExpired else Kind.leaseExpiredDie) dieLoc s t)
  ∧ (∀ (i : Nat) (s : State), s.et < (s.lease i).expiry → exec (.leaseExpired i) s = .next s))

/-- CLOSE_TICK, SHARD_SCAN_DONE, DIGEST_PART_SEND (R210, R212, R217–R219): a close of an epoch that is due counts it; scans fill the close; the oldest
close whose scans are done leaves as a DIGEST_PART. TAGGED_WRITE (R215): inside an open window the write is folded into the bank of its entry; outside
one the compartment is marked dirty; a tag of no valid entry of its compartment is counted and reported. -/
def Obligations.EpochsAndTaggedWrites : Prop :=
  ((∀ (c : Nat) (t0 : Tick) (s : State), s.hubUp = true → (s.digComp c).tclose = some t0 → t0 ≤ s.et → (s.digComp c).mode = .normal →
      (s.digComp c).voteNext = none → 1 ≤ voteInterval (s.digComp c).vote →
      Answers (.closeTick c) s fun t => (t.digComp c).tclose = none ∧ (t.digComp c).arrivals = 0 ∧
        if (s.digComp c).steps + 1 < voteInterval (s.digComp c).vote
        then (t.digComp c).steps = (s.digComp c).steps + 1 ∧ (t.digComp c).epochs = (s.digComp c).epochs
        else (t.digComp c).steps = 0 ∧ (t.digComp c).epochs = (s.digComp c).epochs + 1)
  ∧ (∀ (c : Nat) (t0 : Tick) (s : State), (s.digComp c).tclose = some t0 → s.et < t0 → exec (.closeTick c) s = .next s)
  ∧ (∀ (c slot n tid : Nat) (k : Closing) (x : List Extent) (words : List (BitVec 288)) (s : State), s.hubUp = true →
      (s.digComp c).closing.findIdx? (fun k => k.toScan.has slot) = some n → (s.digComp c).closing[n]? = some k →
      Tbl.get k.toScan slot (0, []) = (tid, x) → words.length = extWords x →
      Answers (.shardScanDone c slot words) s fun t => ∃ k' : Closing, (t.digComp c).closing = (s.digComp c).closing.set n k' ∧
        k'.toScan = k.toScan.del slot ∧
        k'.done = k.done.put slot (tid, ((shardOffsets x).zip words).foldl (scanWord k.root k.epoch tid) (0, false)))
  ∧ (∀ (c : Nat) (k : Closing) (rest : List Closing) (s : State), s.hubUp = true → (s.digComp c).closing = k :: rest → k.toScan = [] →
      Answers (.digestPartSend c) s fun t => (t.digComp c).closing = rest)
  ∧ (∀ (c : Nat) (s : State), (s.digComp c).closing = [] → exec (.digestPartSend c) s = .next s))
  ∧ ((∀ (m c slot woff ch : Nat) (w : BitVec 288) (e : Tensor) (s : State), s.hubUp = true → ch < 16 → (s.digComp c).tclose = none →
      s.dig.tensors.find? slot = some e → e.valid = true → e.comp = c → (s.digComp c).windowOpen = true →
      scanning (s.digComp c) slot = false → (s32Dec w).2 ≠ .blazed →
      Answers (.taggedWrite m w false false true c slot woff ch none) s fun t =>
        Tbl.get t.dig.folds (foldKey slot (s.digComp c).bank m) Fold.zero =
          (let f := Tbl.get s.dig.folds (foldKey slot (s.digComp c).bank m) Fold.zero
           { f with
             acc := f.acc ^^^ wordTerm (s.digComp c).root (s.digComp c).epoch (digPos e.tid woff) (s32Dec w).1,
             count := (f.count + 1) % 2 ^ 40, woffSum := (f.woffSum + woff) % 2 ^ 64 })
        ∧ t.dig.tensors = s.dig.tensors)
  ∧ (∀ (m c slot woff ch : Nat) (w : BitVec 288) (e : Tensor) (s : State), s.hubUp = true → ch < 16 → (s.digComp c).tclose = none →
      s.dig.tensors.find? slot = some e → e.valid = true → e.comp = c → (s.digComp c).windowOpen = false →
      scanning (s.digComp c) slot = false →
      Answers (.taggedWrite m w false false true c slot woff ch none) s fun t => (t.digComp c).dirty = true ∧ t.dig.folds = s.dig.folds)
  ∧ (∀ (m c slot woff ch : Nat) (w : BitVec 288) (s : State), s.hubUp = true → ch < 16 → (s.digComp c).tclose = none →
      s.dig.tensors.find? slot = none →
      Answers (.taggedWrite m w false false true c slot woff ch none) s fun t => t.dig.folds = s.dig.folds ∧ Posted Kind.digTag (ctrlLoc m) s t))

/-- The order in which writes of one entry are folded does not matter (R202, R215): the digest of a shard is that of its set of words. -/
def Obligations.FoldsCommute : Prop :=
  ∀ (m c slot a b : Nat) (v w : BitVec 288) (t : Tensor) (s : State), scanning (s.digComp c) slot = false →
    foldTotal (foldWrite m c slot a false false v t (foldWrite m c slot b false false w t s)) slot (s.digComp c).bank =
      foldTotal (foldWrite m c slot b false false w t (foldWrite m c slot a false false v t s)) slot (s.digComp c).bank

/-- VERDICT, DIG_NO_VERDICT, RETENTION_EXPIRY, VOTE_WAIT_EXPIRY, TENSOR_WAIT_EXPIRY, REVOKE (R218, R220, R223, R224, R226, R230). -/
def Obligations.VerdictsAndTheirTimeouts : Prop :=
  (∀ (c : Nat) (m : VcsMsg) (s : State), s.hubUp = true → s.fab.intake = [m] → m.cls = vcDigest → fld m.payload 0 4 = 2 →
      groupComp s m.group = some c → (s.digComp c).awaited = [] → exec .verdict s = .next (applyVerdictMsg m (dropMsg m s)))
  ∧ (∀ (c e : Nat) (t0 : Tick) (rest : List (Nat × Tick)) (s : State), s.hubUp = true → (s.digComp c).awaited = (e, t0) :: rest →
      t0 + 400000 * fld (s.digComp c).vote 112 16 + 40000000 ≤ s.et →
      Answers (.digNoVerdict c) s fun t => (t.digComp c).awaited = rest ∧ Posted Kind.digNoVerdict dieLoc s t)
  ∧ (∀ (c e : Nat) (s : State), s.hubUp = true → Answers (.retentionExpiry c e) s fun t =>
      (t.digComp c).retained = (s.digComp c).retained.filter (fun r =>
        !(r.epoch == e && decide (r.closedAt + (400000 * fld (s.digComp c).vote 112 16 + 40000000) ≤ s.et))))
  ∧ (∀ (c e : Nat) (v : OpenVote) (s : State), s.hubUp = true → (s.arb c).votes = [v] → v.epoch = e % 2 ^ 32 → (s.arb c).checks = [] →
      v.first + voteWait (s.digComp c).vote ≤ s.et → exec (.voteWaitExpiry c e) s = .next (endVote c v s))
  ∧ (∀ (c : Nat) (g : TensorGather) (s : State), s.hubUp = true → (s.arb c).gather = [g] → g.first + voteWait (s.digComp c).vote ≤ s.et →
      exec (.tensorWaitExpiry c) s = .next (sendDiffs c g s))
  ∧ (∀ (c : Nat) (m : VcsMsg) (s : State), s.hubUp = true → findMsg (fun m => m.cls == vcDigest && fld m.payload 0 4 == 5) s = some m →
      groupComp s m.group = some c →
      exec .revoke s = .next (applyRevoke c m.src (fld m.payload 16 12) (fld m.payload 64 64) (dropMsg m s)))

/-- The procedure decide (R221): below a quorum of more than half of the replicas the vote is NOVOTE; it agrees or expels only with a group of more than
half of them, it expels exactly where it names someone, and whom it expels lies outside that group. -/
def Obligations.VoteNeedsMoreThanHalf : Prop :=
  ∀ (n limit : Nat) (cast : List (Nat × W128 × Bool)) (runs : Tbl Nat),
    (cast.length < n / 2 + 1 → (decideVote n limit cast runs).code = vNovote ∧ (decideVote n limit cast runs).runs = runs)
    ∧ ((decideVote n limit cast runs).code = vAgree ∨ (decideVote n limit cast runs).code = vExpel →
        n < 2 * (decideVote n limit cast runs).group.length)
    ∧ ((decideVote n limit cast runs).code = vExpel ↔ (decideVote n limit cast runs).expel ≠ [])
    ∧ (∀ r ∈ (decideVote n limit cast runs).expel, r ∉ (decideVote n limit cast runs).group ∧ r < n)

/-- CLK_RATIO_WRITE, RATIO_SWITCH, LOAD_BEACON, CHECK_BEACON, NEIGHBOUR_COMPARE, ET_LO_READ (R311, R312, R315, R316, R329). MATCH_EXCHANGE and
CLK_MATCH_STALE (R328): a valid peer is asked, and told of once when its entry has been stale for a second. -/
def Obligations.RatiosAndMatchedPeers : Prop :=
  ((∀ (v : W64) (r : Nat) (s : State), s.hubUp = true → r < 16 → s.tim.switches = [] → fld v 32 16 = 0 → v.getLsbD r ≠ s.div4 r →
      s.col.wardensMissing = [] → s.col.fences = [] →
      Answers (.clkRatioWrite v) s fun t => t.tim.switches.find? r = some ((s.et + 256 + 63) / 64 * 64, v.getLsbD r) ∧ t.tim.et = s.tim.et)
  ∧ (∀ (r : Nat) (t0 : Tick) (d : Bool) (s : State), s.hubUp = true → s.tim.switches.find? r = some (t0, d) → t0 ≤ s.et →
      Answers (.ratioSwitch r) s fun t => t.div4 r = d ∧ t.tim.switches = s.tim.switches.del r)
  ∧ (∀ (r : Nat) (t0 : Tick) (d : Bool) (s : State), s.tim.switches.find? r = some (t0, d) → s.et < t0 → exec (.ratioSwitch r) s = .next s)
  ∧ (∀ (part d : Nat) (s : State), s.hubUp = true → exec (.loadBeacon part d) s = .next { s with tim := { s.tim with
      delays := s.tim.delays.put part d, copies := s.tim.copies.del part, beacons := s.tim.beacons.put part s.et } })
  ∧ (∀ (part : Nat) (slip : Int) (s : State), s.hubUp = true → s.et < Tbl.get s.tim.beacons part 0 + 65536 →
      exec (.checkBeacon part slip) s = .next { s with tim := { s.tim with
        copies := s.tim.copies.putD part (Tbl.get s.tim.copies part 0 + slip) 0 } })
  ∧ (∀ (part : Nat) (slip : Int) (s : State), s.hubUp = true → Tbl.get s.tim.beacons part 0 + 65536 ≤ s.et →
      (Tbl.get s.tim.copies part 0 + slip).natAbs ≤ 1 ∨ switching s part = true →
      exec (.checkBeacon part slip) s = .next { s with tim := { s.tim with
        copies := s.tim.copies.putD part (Tbl.get s.tim.copies part 0 + slip) 0, beacons := s.tim.beacons.put part s.et } })
  ∧ (∀ (part : Nat) (slip : Int) (s : State), s.hubUp = true → Tbl.get s.tim.beacons part 0 + 65536 ≤ s.et →
      1 < (Tbl.get s.tim.copies part 0 + slip).natAbs → switching s part = false →
      Answers (.checkBeacon part slip) s fun t => Tbl.get t.tim.copies part 0 = 0 ∧ t.tim.beacons.find? part = some s.et ∧
        t = raiseSlip part { s with tim := t.tim })
  ∧ (∀ (r n : Nat) (a b : Int) (s : State), s.hubUp = true → n ∈ neighbours r → senseOf s r = none → diodeOf s r = some a → diodeOf s n = some b →
      b + 560 < a → Answers (.neighbourCompare r) s fun t => Tbl.get t.tim.spread (32 * r + 2 * n) 0 = Tbl.get s.tim.spread (32 * r + 2 * n) 0 + 1 ∧
        (Tbl.get s.tim.spread (32 * r + 2 * n) 0 = 2 → s.col.flight.length < t.col.flight.length))
  ∧ (∀ (c : Nat) (s : State), s.hubUp = true →
      Answers (.etLoRead true c) s fun t => Tbl.get t.tim.jEtHi c 0 = s.et / 2 ^ 32)
  ∧ (∀ (c : Nat) (s : State), s.hubUp = true → exec (.etLoRead false c) s = .next (s.setRf fEtHi (s.et / 2 ^ 32)))
  ∧ (∀ (c : Nat) (s : State), s.hubUp = false → exec (.etLoRead false c) s = .next { s with isl := { s.isl with accErr := true } }))
  ∧ ((∀ (i : Nat) (m : Match) (s : State), s.hubUp = true → s.tim.peers.find? i = some m → m.valid = true → s.rf fTimeMode = 2 → s.inLoaded = true →
      exec (.matchExchange i) s = .next (sendReq m.peer s))
  ∧ (∀ (i : Nat) (m : Match) (t0 : Tick) (s : State), s.hubUp = true → s.tim.peers.find? i = some m → m.valid = true → s.rf fTimeMode = 2 →
      m.staleTold = false → m.newest = some t0 → t0 + 440000000 ≤ s.et →
      Answers (.clkMatchStale i) s fun t => t.tim.peers.find? i = some { m with staleTold := true } ∧ Posted Kind.clkMatchStale systemLoc s t)
  ∧ (∀ (i : Nat) (m : Match) (s : State), s.tim.peers.find? i = some m → m.staleTold = true → exec (.clkMatchStale i) s = .next s))

/-- ALIGN, T_ANNOUNCE, T_REQ, T_RESP, ET_STEP, DRIFT_EXCHANGE (R321–R327): how an anchored die takes its parent's time. ET_SLEW and SLEW_TICK (R320, R326,
R329): a slew of n moves ET by one tick at each of |n| correction ticks, and never back. -/
def Obligations.AnchoredTimeAndSlew : Prop :=
  ((∀ s : State, s.hubUp = true → s.isl.st = .selftest ∨ s.isl.st = .loaded → s.rf fTimeMode = 1 → s.rf fRoot = 0 → s.tim.heard = [] →
      Answers .align s fun t => t.rf fQuality = qAligning ∧ t.tim.align = some ⟨s.rf fQuality, false, [], none⟩ ∧ t.tim.et = s.tim.et)
  ∧ (∀ s : State, s.hubUp = true → s.isl.st ≠ .selftest → s.isl.st ≠ .loaded → exec .align s = .next (s.setRf fTimeRefused 1))
  ∧ (∀ (m : VcsMsg) (s : State), s.hubUp = true → findMsg (fun m => m.cls == vcTime && fld m.payload 0 4 == 3) s = some m →
      m.src = s.rf fParent → fld m.payload 16 5 < 16 → s.tim.align = none →
      Answers .tAnnounce s fun t => t.tim.heard = s.tim.heard.put m.src (fld m.payload 16 5))
  ∧ (∀ (m : VcsMsg) (s : State), s.hubUp = true → findMsg (fun m => m.cls == vcTime && fld m.payload 0 4 == 1) s = some m →
      s.isl.st = .selftest ∨ s.inLoaded = true → s.dieSet = true → m.src ≠ s.die →
      Answers .tReq s fun t => t.out = s.out ++ [.vcs m.src s.fab.mseq vcTime (BitVec.ofNat 384 (timeMsg 2 (fld m.payload 8 8) 0 s.ft s.ft))])
  ∧ (∀ (t4 : Nat) (m : VcsMsg) (s : State), s.hubUp = true → findMsg (fun m => m.cls == vcTime && fld m.payload 0 4 == 2) s = some m →
      s.tim.reqs.find? (fun r => r.1 == m.src && r.2.1 == fld m.payload 8 8) = none → exec (.tResp t4) s = .next (dropMsg m s))
  ∧ (∀ (t4 t1 q : Nat) (m : VcsMsg) (s : State), s.hubUp = true → findMsg (fun m => m.cls == vcTime && fld m.payload 0 4 == 2) s = some m →
      q = fld m.payload 8 8 → s.tim.reqs.find? (fun r => r.1 == m.src && r.2.1 == q) = some (m.src, q, t1) → m.src ≠ s.rf fParent →
      Answers (.tResp t4) s fun t => t.tim.reqs = s.tim.reqs.filter (fun r => !(r.1 == m.src && r.2.1 == q)) ∧ t.tim.et = s.tim.et ∧
        t.tim.peers = (matchExch m.src t4 ((diff48 (fld m.payload 32 48) t1 - diff48 t4 (fld m.payload 80 48)).fdiv 2) s).tim.peers)
  ∧ (∀ (t4 t1 q : Nat) (m : VcsMsg) (a : Align) (s : State), s.hubUp = true →
      findMsg (fun m => m.cls == vcTime && fld m.payload 0 4 == 2) s = some m → q = fld m.payload 8 8 →
      s.tim.reqs.find? (fun r => r.1 == m.src && r.2.1 == q) = some (m.src, q, t1) → m.src = s.rf fParent → s.tim.align = some a →
      a.step = none → a.exch.length + 1 < s.rf fExch → Answers (.tResp t4) s fun t => t.tim.failed = 0 ∧ t.tim.et = s.tim.et ∧
        t.tim.align = some { a with exch := a.exch ++ [((diff48 (fld m.payload 32 48) t1 - diff48 t4 (fld m.payload 80 48)).fdiv 2,
          (diff48 t4 t1 - diff48 (fld m.payload 80 48) (fld m.payload 32 48)).fdiv 2)] })
  ∧ (∀ (a : Align) (t0 : Tick) (whole : Int) (rem : Nat) (s : State), s.hubUp = true → s.tim.align = some a → a.step = some (t0, whole, rem) →
      t0 ≤ s.et → Answers .etStep s fun t => t.tim.et = ((s.et : Int) + whole).toNat ∧ t.tim.align = none ∧ t.rf fQuality = qLocked ∧
        t.tim.copies = [] ∧ t.tim.shift = (s.tim.shift + rem) % 12)
  ∧ (∀ s : State, s.hubUp = true → s.rf fTimeMode = 1 → s.rf fRoot = 0 → s.rf fQuality = qLocked → s.inLoaded = true →
      s.tim.reqs = [] → s.dieSet = true → s.rf fParent ≠ s.die → Answers .driftExchange s fun t => t.tim.reqs.length = 8 ∧ t.tim.drift = [] ∧
        (∀ r ∈ t.tim.reqs, r.1 = s.rf fParent ∧ r.2.2 = 6 * s.et) ∧ t.tim.failed = s.tim.failed))
  ∧ ((∀ (v : W64) (s : State), s.hubUp = true → (sint 12 (fld v 0 12)).natAbs ≤ 1024 →
      exec (.etSlew v) s = .next { s with tim := { s.tim with slewLeft := sint 12 (fld v 0 12), slewNext := s.et + 1024 } })
  ∧ (∀ (v : W64) (s : State), s.hubUp = true → 1024 < (sint 12 (fld v 0 12)).natAbs → exec (.etSlew v) s = .next s)
  ∧ (∀ s : State, s.hubUp = true → s.tim.slewLeft ≠ 0 → s.tim.slewNext ≤ s.et →
      Answers .slewTick s fun t => t.tim.slewLeft.natAbs + 1 = s.tim.slewLeft.natAbs ∧ t.tim.slewNext = s.tim.slewNext + 1024 ∧
        t.et = (if 0 < s.tim.slewLeft then s.et + 2 else s.et))
  ∧ (∀ s : State, s.tim.slewLeft = 0 ∨ s.et < s.tim.slewNext → exec .slewTick s = .next s))

/-- CORD_REGISTER (R238–R240): a registration that fails its checks is answered with its status and takes no slot; one that passes takes the lowest free
slot, the next JSN and ATTEMPT 0; at the quota the registration stalls. The entries that the search of the cache finds in error are handled first: a
correctable one is corrected and counted, a lost WAITING or SETTLED one is freed (R264). CORD_RETIRE, CORD_SETTLE, DEP_RELEASE, JRN_SPILL, THIRD_RUN
(R141, R241–R243). -/
def Obligations.CordsRegisterAndRetire : Prop :=
  ((∀ (r : Nat) (d : BitVec 768) (s : State), s.hubUp = true → s.powered r = true → registerStatus s d ≠ stOk →
      Answers (.cordRegister r d []) s fun t => t.jrn = s.jrn ∧
        Output.answer r (journalAnswer (fld d 0 32) (registerStatus s d) false 0 0) ∈ t.out)
  ∧ (∀ (r i : Nat) (d : BitVec 768) (s : State), s.hubUp = true → s.powered r = true → registerStatus s d = stOk →
      (cordSlots s (fun k => k.comp == fld d 32 4)).length < quota s (fld d 32 4) 2 → Tbl.free s.jrn.cords 32768 = some i →
      Answers (.cordRegister r d []) s fun t => ∃ k : Cord, t.cord i = some k ∧ k.desc = d ∧ k.jsn = s.jrn.nextJsn.get (fld d 32 4) 0 ∧
        k.attempt = 0 ∧ k.st = .waiting ∧ t.jrn.nextJsn.get (fld d 32 4) 0 = (k.jsn + 1) % (2 ^ 32 - 1))
  ∧ (∀ (r : Nat) (d : BitVec 768) (s : State), s.hubUp = true → s.powered r = true → registerStatus s d = stOk →
      quota s (fld d 32 4) 2 ≤ (cordSlots s (fun k => k.comp == fld d 32 4)).length →
      Answers (.cordRegister r d []) s fun t => t.jrn.cords = s.jrn.cords ∧ t.out = s.out ∧
        t.jrn.stalls.get (fld d 32 4) 0 = s.jrn.stalls.get (fld d 32 4) 0 + 1)
  ∧ (∀ (r : Nat) (d : BitVec 768) (e : Nat × Bool) (l : List (Nat × Bool)) (s : State), s.hubUp = true → s.powered r = true →
      exec (.cordRegister r d (e :: l)) s = exec (.cordRegister r d l) (cacheError e.1 e.2 s))
  ∧ (∀ (i : Nat) (k : Cord) (s : State), s.cord i = some k →
      cacheError i true s = { s with jrn := { s.jrn with corrected := s.jrn.corrected + 1 } })
  ∧ (∀ (i : Nat) (k : Cord) (s : State), s.hubUp = true → s.cord i = some k → k.st = .settled ∨ k.st = .waiting → consumers s k = [] →
      outEntries s k.comp k.id = [] → s.jrn.skids = [] → s.jrn.spares = [] →
      (cacheError i false s).cord i = none ∧ Posted Kind.jrnEntry dieLoc s (cacheError i false s)))
  ∧ ((∀ (r i : Nat) (jt : BitVec 96) (k : Cord) (s : State), s.hubUp = true → s.powered r = true → findCord s (fld jt 0 4) (fld jt 4 32) = some i →
      s.cord i = some k → regionOf k.placed = some r → k.twin = none → k.sampled = false → k.st = .running → s.jrn.skids = [] → s.jrn.spares = [] →
      Answers (.cordRetire r jt) s fun t => ∃ k' : Cord, t.cord i = some k' ∧ k'.st = .retired ∧ k'.seqLast = fld jt 36 32 ∧ k'.jsn = k.jsn)
  ∧ (∀ (i : Nat) (k : Cord) (s : State), s.hubUp = true → s.cord i = some k → settles s k = true → s.jrn.rings.find? k.comp = none →
      s.jrn.spares = [] → s.jrn.skids = [] → consumers s k = [] → Answers (.cordSettle i) s fun t => t.jrn.cords = (s.jrn.cords.put i { k with st := .settled }).del i)
  ∧ (∀ (i : Nat) (k : Cord) (s : State), s.cord i = some k → settles s k = false → s.jrn.skids = [] → exec (.cordSettle i) s = .next s)
  ∧ (∀ (i : Nat) (k : Cord) (s : State), s.hubUp = true → s.cord i = some k → provenCord s k = true → consumers s k = [] →
      exec (.depRelease i) s = .next s)
  ∧ (∀ (i j : Nat) (k q : Cord) (s : State), s.hubUp = true → s.cord i = some k → provenCord s k = true → consumers s k = [j] →
      s.cord j = some q → heldDep s q = false → Answers (.depRelease i) s fun t => t.cord j = some { q with depHeld := false })
  ∧ (∀ (i : Nat) (t0 : Tick) (k : Cord) (s : State), s.hubUp = true → s.jrn.spills.find? (fun e => e.1 == i) = some (i, t0) → s.cord i = some k →
      k.st = .settled → t0 + 4000000 ≤ s.et → Answers (.jrnSpill i) s fun t => t.jrn.cords = s.jrn.cords.del i ∧ Posted Kind.jrnSpill dieLoc s t))

/-- SKID_START, CORD_HANDOVER, SKID, SPARE_WAKE_DONE, JRN_SKID_LATE, RING_FETCH (R253–R258, R263). -/
def Obligations.SkidsMoveCordsInOrder : Prop :=
  (∀ (l : Loc) (w : SkidWait) (s : State), s.hubUp = true → s.jrn.waits.find? (fun w => w.scope == l) = some w → skidDueEt s w ≤ s.et →
      exec (.skidStart l) s = .next (startSkid l s))
  ∧ (∀ (l : Loc) (w : SkidWait) (s : State), s.jrn.waits.find? (fun w => w.scope == l) = some w → s.et < skidDueEt s w → exec (.skidStart l) s = .next s)
  ∧ (∀ (l : Loc) (s : State), s.isl.pf = true → (startSkid l s).jrn.cords = s.jrn.cords ∧ (startSkid l s).jrn.skids = s.jrn.skids)
  ∧ (∀ (l target : Loc) (q : Skid) (x jsn i : Nat) (again : Bool) (rest : List (Nat × Loc × Bool)) (k : Cord) (s : State), s.hubUp = true →
      skidOf s l = some q → q.spare = some x → s.jrn.waking.contains x = false → s.jrn.fetches = [] → q.queue = (jsn, target, again) :: rest →
      findJsn s q.comp jsn = some i → s.cord i = some k → k.recanted = none →
      exec (.cordHandover l) s = .next (handCord i target again (updSkid q (fun k => { k with queue := rest, pend := k.pend ++ [jsn] }) s)))
  ∧ (∀ (l : Loc) (q : Skid) (s : State), s.hubUp = true → skidOf s l = some q → q.queue ≠ [] → exec (.skid l) s = .next s)
  ∧ (∀ (l : Loc) (q : Skid) (s : State), s.hubUp = true → skidOf s l = some q → q.queue = [] →
      exec (.skid l) s = .next (finishSkids (postRecord q.comp 0x05 stOk 0
        (pack [(16, l.toNat), (16, (q.goal.getD 0).toNat), (32, q.cords), (32, q.rewrites)]) (updSkid q (fun k => { k with told := true }) s))))
  ∧ (∀ (r : Nat) (bits : BitVec 8) (s : State), s.hubUp = true → s.powered r = true → exec (.spareWakeDone r bits) s = .next { s with jrn := { s.jrn with
      waking := s.jrn.waking.filter (fun c => !(c / 8 == r && bits.getLsbD (c % 8))) } })
  ∧ (∀ (l : Loc) (q : Skid) (s : State), s.hubUp = true → skidOf s l = some q → q.late = false → q.queue ≠ [] → q.fenceEt + 800000 ≤ s.et →
      Answers (.jrnSkidLate l) s fun t => Posted Kind.jrnSkidLate dieLoc s t ∧ t.jrn.cords = s.jrn.cords)
  ∧ (∀ (tag : Nat) (bytes : BitVec 1024) (s : State), s.cmd.xfers.find? (fun x => x.tag == tag) = none → exec (.ringFetch tag bytes) s = .next s)
  ∧ (∀ (tag c jsn : Nat) (bytes : BitVec 1024) (x : Xfer) (s : State), s.hubUp = true → s.cmd.xfers.find? (fun x => x.tag == tag) = some x →
      x.use = .ringFetch c jsn → s.jrn.fetches = [] → fld bytes 768 32 ≠ jsn →
      Answers (.ringFetch tag bytes) s fun t => t.jrn = s.jrn ∧ t.cmd.xfers = s.cmd.xfers.filter (fun y => y.tag != tag))
  ∧ (∀ (tag c jsn cj n i : Nat) (bytes : BitVec 1024) (x : Xfer) (k j : Cord) (s u v : State), s.hubUp = true →
      s.cmd.xfers.find? (fun x => x.tag == tag) = some x → x.use = .ringFetch c jsn → s.jrn.fetches = [(c, jsn, cj, n)] →
      fld bytes 768 32 = jsn → fld bytes 800 4 = 6 → bitAt bytes 48 = true → bitAt bytes 53 = true → bitAt bytes 814 = false →
      findJsn s c jsn = none → (findJsn s c cj).bind s.cord = some k →
      u = { s with cmd := { s.cmd with xfers := s.cmd.xfers.filter (fun y => y.tag != tag) }, jrn := { s.jrn with fetches := [] } } →
      adoptProducer c bytes n (lostSpare k) u = some v → findJsn v c cj = some i → v.cord i = some j →
      (∀ b ∈ j.lost, overlaps (descBuf (rewriteAll v c (BitVec.ofNat 768 (fld bytes 0 768))) 3) (j.buf b) = true) →
      exec (.ringFetch tag bytes) s = .next (updCord i (fun q => { q with lost := [], depHeld := heldDep v q }) v))

/-- LOCKSTEP_MISMATCH, FETCH_FAULT, TURN_OVERRUN, TAKEOVER (R495, R498, R520, R523, R608): a pair that fails stops, and the standby pair serves.
IMAGE_LOAD, HANDOVER, HANDOVER_TIMEOUT, GATE_REFUSED, RESPONSE, RX_POP, UNIT_RESPONSE (R44, R511, R557, R605–R607). -/
def Obligations.PairsImagesAndTheGate : Prop :=
  ((∀ (b : Bool) (s : State), s.hubUp = true → (pairOf b s).st = .serving →
      exec (.lockstepMismatch b) s = exec (.fetchFault b) s ∧
      Answers (.lockstepMismatch b) s fun t => (pairOf b t).st = .stopped ∧ (pairOf (!b) t) = pairOf (!b) s ∧
        Posted Kind.seqStop (hubLoc (if b then uQB0 else uQA0)) s t)
  ∧ (∀ (b : Bool) (s : State), s.hubUp = true → (pairOf b s).st = .stopped → exec (.lockstepMismatch b) s = .next s ∧ exec (.fetchFault b) s = .next s)
  ∧ (∀ (s : State) (t0 : Tick), s.hubUp = true → (pairOf s.seq.servingB s).st = .serving → (pairOf s.seq.servingB s).turnStart = some t0 →
      t0 + 400 * s.rf fTurnMax < s.et → Answers .turnOverrun s fun t => (pairOf s.seq.servingB t).st = .stopped)
  ∧ (∀ (s : State) (t0 : Tick), (pairOf s.seq.servingB s).turnStart = some t0 → s.et ≤ t0 + 400 * s.rf fTurnMax → exec .turnOverrun s = .next s)
  ∧ (∀ s : State, s.hubUp = true → (pairOf s.seq.servingB s).st = .stopped → (pairOf (!s.seq.servingB) s).st = .standby →
      exec .takeover s = .next (serveGateIn (swapRoles 1 s)))
  ∧ (∀ s : State, s.hubUp = true → (pairOf s.seq.servingB s).st = .stopped → (pairOf (!s.seq.servingB) s).st ≠ .standby →
      3 ≤ (pairOf (!s.seq.servingB) s).stops → Answers .takeover s fun t => t.seq = s.seq ∧ Posted Kind.seqNone dieLoc s t)
  ∧ (∀ s : State, (pairOf s.seq.servingB s).st ≠ .stopped → exec .takeover s = .next s))
  ∧ ((∀ (tag n : Nat) (img : List Byte) (body : BitVec 448) (s : State), s.hubUp = true → s.inLoaded = true → s.isl.gateBusy = false → s.isl.gateValid = false →
      (pairOf (bitAt body 0) s).st ≠ .serving → (pairOf (bitAt body 0) s).stops < 3 → n = fld body 128 64 → n % 8 = 0 → 72 ≤ n → n ≤ 524288 →
      gateSrc s (fld body 64 64) n = some img → imageGood img n = true →
      Answers (.imageLoad tag body) s fun t => (pairOf (bitAt body 0) t).st = .standby ∧
        (if bitAt body 0 then t.seq.romB = false else t.seq.romA = false) ∧ t.isl.gateValid = true ∧ t.isl.gateBusy = false)
  ∧ (∀ (tag : Nat) (body : BitVec 448) (s : State), s.hubUp = true → s.isl.gateBusy = false → s.isl.gateValid = false → s.isl.st ≠ .off →
      s.inLoaded = false ∨ (pairOf (bitAt body 0) s).st = .serving ∨ 3 ≤ (pairOf (bitAt body 0) s).stops →
      Answers (.imageLoad tag body) s fun t => t.seq.prog = s.seq.prog ∧ t.col = s.col)
  ∧ (∀ (tag : Nat) (body : BitVec 448) (s : State), s.hubUp = true → s.isl.st ≠ .off → s.isl.gateBusy = true →
      exec (.imageLoad tag body) s = .next { s with isl := { s.isl with gateErr := 2 } })
  ∧ (∀ (tag : Nat) (s : State), s.hubUp = true → s.inLoaded = true → s.isl.gateBusy = false → s.isl.gateValid = false →
      (pairOf (!s.seq.servingB) s).st = .standby → s.seq.handover = none →
      (pairOf s.seq.servingB s).waiting = none → Answers (.handover tag) s fun t => t.seq.handover = some (s.et, tag) ∧ t.seq.servingB = s.seq.servingB)
  ∧ (∀ (tag : Nat) (w : Waiting) (s : State), s.hubUp = true → s.inLoaded = true → s.isl.gateBusy = false → s.isl.gateValid = false →
      (pairOf (!s.seq.servingB) s).st = .standby → s.seq.handover = none → (pairOf s.seq.servingB s).waiting = some w → w.point = true →
      Answers (.handover tag) s fun t => t.seq.servingB = !s.seq.servingB)
  ∧ (∀ (tag : Nat) (t0 : Tick) (s : State), s.hubUp = true → s.seq.handover = some (t0, tag) → t0 + 400000000 ≤ s.et →
      exec .handoverTimeout s = .next (gateRespond tag stSuspect 0 { s with seq := { s.seq with handover := none } }))
  ∧ (∀ (code tag : Nat) (l : Loc) (s : State), s.hubUp = true → exec (.gateRefused false code tag l) s = .next (refuseCrossing code false l s))
  ∧ (∀ (v : BitVec 512) (rest : List (BitVec 512)) (s : State), s.hubUp = true → s.seq.gateOut = v :: rest →
      Answers .response s fun t => t.seq.gateOut = rest ∧ t.isl.gateRx = v ∧ t.isl.gateValid = true ∧ t.isl.gateBusy = false)
  ∧ (∀ s : State, exec .rxPop s = .next { s with isl := { s.isl with gateValid := false } })
  ∧ (∀ (r : W256) (rest : List W256) (s : State), s.hubUp = true → s.seq.forming = r :: rest → s.seq.responses.length < 256 →
      exec .unitResponse s = .next { s with seq := { s.seq with forming := rest, responses := s.seq.responses ++ [r] } }))

/-- INTAKE_ENTRY (R287, R617): the serving pair takes the head entry once its first reaction is in force. The Cruise Engine answers the oldest request of
its UOP, in the order of R48 (R92, R120, R136, R141, R514): a request of the follow-up goes on with its work, one of a program forms a unit response. -/
def Obligations.EntriesAndCruiseAnswers : Prop :=
  ((∀ (e : Intake) (rest : List Intake) (s : State), s.hubUp = true → s.col.intake = e :: rest → (pairOf s.seq.servingB s).st = .serving →
      s.seq.hookRet = none → reactionPending s e = false → exec .intakeEntry s = .next (followUp e (popIntake s)))
  ∧ (∀ (e : Intake) (rest : List Intake) (s : State), s.col.intake = e :: rest →
      (pairOf s.seq.servingB s).st ≠ .serving ∨ s.seq.hookRet.isSome = true ∨ reactionPending s e = true → exec .intakeEntry s = .next s))
  ∧ ((∀ (r : CruiseRead) (n cls : Nat) (q : W256) (w : Work) (s u : State), s.hubUp = true → nextReq s 1 = some (cls, q) →
      u = countAdj (reqComp q) n (serveReq cls q s) → workOf u q = some w →
      exec (.pinpointRecompute r.buf0 r.buf1 r.buf2 r.bad n) s = .next (tryPin { w with recomp := some (pinAnswer w.tap (descOf u w.comp w.jsn) w.erc r) }
        (setWork w { w with recomp := some (pinAnswer w.tap (descOf u w.comp w.jsn) w.erc r) } u)))
  ∧ (∀ (r : CruiseRead) (n cls : Nat) (q : W256) (w : Work) (x : TolRec) (s u : State), s.hubUp = true → nextReq s 2 = some (cls, q) →
      u = countAdj (reqComp q) n (serveReq cls q s) → workOf u q = some w → w.tol = some x →
      exec (.adjudicate r n) s = .next (endAdjudication w (adjAnswer u w.tap (descOf u w.comp w.jsn) x (w.what == .late) r).1 (locatedCode x) u))
  ∧ (∀ (r : CruiseRead) (tap : Nat) (d : BitVec 768) (t : TileData) (x : TolRec) (s : State), readTile tap d r = some t →
      fenced s (hubLoc uCruise) = false → 3 * (s.et - x.retireEt) + sweepWork x false ≤ 240000 →
      ((adjAnswer s tap (some d) x false r).1 = 1 ↔ (∃ i < tkM x.ticket, rowDiffers t x i = true) ∨ (∃ j < tkN x.ticket, colDiffers t x j = true)) ∧
      ((adjAnswer s tap (some d) x false r).1 ≠ 1 → (adjAnswer s tap (some d) x false r).1 = 2))
  ∧ (∀ (r : CruiseRead) (cls o : Nat) (q : W256) (w : Work) (x : Sample) (s u : State), s.hubUp = true → nextReq s 3 = some (cls, q) →
      u = serveReq cls q s → workOf u q = some w → w.sample = some x → secondOutcome u x r = some o →
      exec (.secondRecompute r) s = .next (endSecond w x o u))
  ∧ (∀ (r : CruiseRead) (cls : Nat) (q : W256) (w : Work) (x : Sample) (s u : State), s.hubUp = true → nextReq s 3 = some (cls, q) →
      u = serveReq cls q s → workOf u q = some w → w.sample = some x → secondOutcome u x r = none →
      exec (.secondRecompute r) s = .next (secondUnread w x u))
  ∧ (∀ (r : CruiseRead) (cls o : Nat) (q : W256) (x : Sample) (s u : State), s.hubUp = true → nextReq s 3 = some (cls, q) →
      u = serveReq cls q s → workOf u q = none → u.gov.mismatched.find? (fun x => x.comp == reqComp q && x.cord == reqCord q) = some x →
      secondOutcome u x r = some o → exec (.secondRecompute r) s = .next (formResponse (unitResponse q stOk o 0 0 s.et) u))
  ∧ (∀ (r : CruiseRead) (cls : Nat) (q : W256) (w : Work) (s u : State), s.hubUp = true → nextReq s 4 = some (cls, q) →
      u = serveReq cls q s → workOf u q = some w → exec (.twinThirdOpinion r) s = .next (endTwin w (thirdOutcome s (reqComp q) (reqCord q) r) u))
  ∧ (∀ (f : Bool) (r : W256) (s : State), s.hubUp = true → headReq s 5 = some r → workOf (takeReq r s) r = none →
      exec (.cruiseSelfTest f) s = .next (formResponse (unitResponse r stOk (b2n f) 0 0 s.et) (takeReq r s)))
  ∧ (∀ (r : CruiseRead) (n : Nat) (f : Bool) (s : State), s.seq.requests = [] → exec (.pinpointRecompute r.buf0 r.buf1 r.buf2 r.bad n) s = .next s ∧
      exec (.adjudicate r n) s = .next s ∧ exec (.secondRecompute r) s = .next s ∧ exec (.twinThirdOpinion r) s = .next s ∧
      exec (.cruiseSelfTest f) s = .next s))

/-- SAMPLE_COMPLETE and SAMPLE_TIMEOUT (R136, R151): the served sample leaves the queue; a digest that agrees is a result, one that differs raises
CRUISE_MISMATCH; a sample that has not started within 16 ms of retire is skipped. PINPOINT_TIMEOUT, PIN_RERUN, THIRD_RUN, START_SKID_NOW, REPLAY,
UNREPLAYABLE, WITHDRAW_CERT (R92, R94, R141, R246, R254, R261, R514). -/
def Obligations.SamplesAndUnitRequests : Prop :=
  ((∀ (r : CruiseRead) (n : Nat) (x : Sample) (d : W128) (y : Redone) (s : State), s.hubUp = true → nextSample s = some x →
      redo s x r = some (d, y) → d ≠ x.digest →
      Answers (.sampleComplete r.buf0 r.buf1 r.buf2 r.bad n) s fun t => t.gov.samples = s.gov.samples.erase x ∧
        t.gov.mismatched = s.gov.mismatched ++ [{ x with first := some d }] ∧ Posted Kind.cruiseMismatch (tapUnitLoc x.tap x.unit) s t)
  ∧ (∀ (r : CruiseRead) (n : Nat) (x : Sample) (y : Redone) (s : State), s.hubUp = true → nextSample s = some x →
      redo s x r = some (x.digest, y) → armed s 2 x.comp (tapUnitLoc x.tap x.unit) = false →
      Answers (.sampleComplete r.buf0 r.buf1 r.buf2 r.bad n) s fun t => t.gov.samples = s.gov.samples.erase x ∧ t.gov.mismatched = s.gov.mismatched ∧
        t.col.flight = s.col.flight)
  ∧ (∀ (r : CruiseRead) (n : Nat) (x : Sample) (s : State), s.hubUp = true → nextSample s = some x → redo s x r = none →
      Answers (.sampleComplete r.buf0 r.buf1 r.buf2 r.bad n) s fun t => t.gov.samples = s.gov.samples.erase x ∧ t.gov.mismatched = s.gov.mismatched ∧
        Posted Kind.cruiseSkipped (hubLoc uCruise) s t)
  ∧ (∀ (r : CruiseRead) (n : Nat) (s : State), s.isl.pf = true → exec (.sampleComplete r.buf0 r.buf1 r.buf2 r.bad n) s = .next s)
  ∧ (∀ (x : Sample) (s : State), s.hubUp = true → s.gov.samples.find? (fun x => decide (s.et > x.retireEt + 6400000)) = some x →
      exec .sampleTimeout s = .next (sampleSkipped x { s with gov := { s.gov with samples := s.gov.samples.erase x } }))
  ∧ (∀ s : State, s.gov.samples = [] → exec .sampleTimeout s = .next s))
  ∧ ((∀ (w : Work) (s : State), s.hubUp = true → s.seq.works.find? (fun w => w.what == .pinpoint && w.rerun.isNone && decide (s.et > w.bound)) = some w →
      recordHeld s w = true → (s.comp w.comp).st = .opened → exec .pinpointTimeout s = .next (endPin w .unresolved s))
  ∧ (∀ (r tk : W256) (tap u : Nat) (s : State), s.hubUp = true → headReq s 0x11 = some r → unitKey (reqLoc r) = some (tap, u) →
      pinTicket (takeReq r s) tap u (reqArg0 r) (reqArg1 r) = some tk →
      Answers .pinRerun s fun t => t.out = s.out ++ [.pinRun (reqLoc r) tk] ∧ t.seq.requests = s.seq.requests.erase r ∧
        t.seq.rerunning = s.seq.rerunning ++ [r])
  ∧ (∀ (r : W256) (i : Nat) (u : Loc) (k : Cord) (tw : Twin) (s : State), s.hubUp = true → headReq s 0x14 = some r →
      findCord s (reqComp r) (reqCord r) = some i → s.cord i = some k → thirdPlace (takeReq r s) (reqComp r) (reqArg0 r) k.placed = some u →
      k.twin = some tw →
      Answers .thirdRun s fun t => t.seq.thirds = s.seq.thirds ++ [r] ∧ t.cord i = some { k with twin := some { tw with third := some (u, none) } })
  ∧ (∀ (r : W256) (s : State), s.hubUp = true → headReq s 0x12 = some r → s.isl.pf = true → s.jrn.skids = [] →
      Answers .startSkidNow s fun t => t.jrn.cords = s.jrn.cords ∧ t.seq.requests = s.seq.requests.erase r)
  ∧ (∀ (r : W256) (l : Loc) (c i x : Nat) (k : Cord) (s : State), s.hubUp = true → headReq s 0x12 = some r → reqLoc r = l → isCore l = true →
      s.isl.pf = false → c < 16 → (s.comp c).st = .opened → s.cord i = some k → k.st = .waiting → affected s c l = [i] →
      (∀ d < 16, d ≠ c → affected s d l = []) → spareForUnit s c l = some x → (∀ e ∈ s.jrn.cords, e.2.lost = []) → s.jrn.skids = [] →
      Answers .startSkidNow s fun t => (∃ k', t.cord i = some k' ∧ k'.st = .skid ∧ k'.jsn = k.jsn ∧ k'.placed = k.placed) ∧
        (∃ g, t.jrn.skids.map (fun q => (q.scope, q.comp, q.spare, q.goal, q.queue)) = [(l, c, some x, some g, [(k.jsn, g, false)])] ∧
          t.jrn.redirs.contains (l, g, c) = true ∧ clusterOf g = some x) ∧
        t.seq.forming = s.seq.forming ++ [unitResponse r stOk 0 0 0 s.et])
  ∧ (∀ (r : W256) (i : Nat) (s : State), s.hubUp = true → headReq s 0x13 = some r → findCord s (reqComp r) (reqCord r) = some i →
      exec .replay s = .next (formResponse (unitResponse r stOk 0 0 0 s.et) (replaySlot 0 i (takeReq r s))))
  ∧ (∀ (r : W256) (i : Nat) (s : State), s.hubUp = true → headReq s 0x15 = some r → findCord s (reqComp r) (reqCord r) = some i →
      1 ≤ reqArg0 r % 256 → reqArg0 r % 256 ≤ 6 → exec .unreplayable s = .next (formResponse (unitResponse r stOk 0 0 0 s.et)
        (unreplayable (reqArg0 r % 256) (reqArg0 r / 256 % 4096) i (takeReq r s))))
  ∧ (∀ (r : W256) (s : State), s.hubUp = true → headReq s 0x21 = some r → exec .withdrawCert s = .next (formResponse
      (unitResponse r stOk 0 (certsFrom s (reqComp r) (reqArg1 r * 2 ^ 32 + reqArg0 r)) 0 s.et)
      (withdrawCert (reqComp r) (reqArg1 r * 2 ^ 32 + reqArg0 r) Kind.cruiseConfirmed (takeReq r s))))
  ∧ (∀ s : State, s.seq.requests = [] → exec .pinRerun s = .next s ∧ exec .thirdRun s = .next s ∧ exec .startSkidNow s = .next s ∧
      exec .replay s = .next s ∧ exec .unreplayable s = .next s ∧ exec .withdrawCert s = .next s))

/-- A cord that is not deterministic, works in place, is NOREPLAY or has used its attempts is not run again (R249, R261, R265): its replay ends it FENCED,
taints the open epoch and raises one message that names the cause. -/
def Obligations.UnreplayableCordsEndFenced : Prop :=
  (∀ (trigger i cause : Nat) (k : Cord) (s : State), s.cord i = some k → noReplayCause s k = some cause → heldOn s s.jrn.cords.length [i] = [i] → s.jrn.spares = [] →
      outEntries s k.comp k.id = [] →
      replaySlot trigger i s = unreplayable cause trigger i s ∧ (replaySlot trigger i s).jrn.cords = s.jrn.cords.del i ∧
        ((replaySlot trigger i s).digComp k.comp).tainted = true ∧
        Posted (if cause = 6 then Kind.jrnReplayLimit else Kind.jrnNoreplay) dieLoc s (replaySlot trigger i s))
  ∧ (∀ (s : State) (k : Cord), noReplayCause s k = none ↔ k.det = true ∧ k.inPlace = false ∧ k.noreplay = false ∧ k.attempt < replayLimit s k.comp)

/-- GOVERNOR_PERIOD, REHEARSAL_POINT, NO_OPPORTUNITY (R155, R162, R164, R165, R167). -/
def Obligations.GovernorRunsAtItsPeriods : Prop :=
  (∀ (c : Nat) (s : State), s.hubUp = true → s.inLoaded = true → s.compLive c = true → s.isl.pf = false →
      s.gov.periodStart.get c 0 + govField s c 16 16 * 400000 ≤ s.et →
      exec (.governorPeriod c) s = .next (newPeriod c (driftPeriod c (governRun c s))) ∧
      Answers (.governorPeriod c) s fun t => t.gov.periodStart.get c 0 = s.et)
  ∧ (∀ (c : Nat) (s : State), s.isl.pf = true ∨ s.et < s.gov.periodStart.get c 0 + govField s c 16 16 * 400000 → exec (.governorPeriod c) s = .next s)
  ∧ (∀ (mech tap pt e : Nat) (s : State), s.hubUp = true → s.gov.points.find? (1024 * mech + tap) = some (pt, e) → pt ≤ s.et →
      rehOn s mech = true → rehearsalOf s mech tap = none → s.isl.pf = false → 2 ≤ mech →
      Answers (.rehearsalPoint mech tap) s fun t => t.gov.rehearsals = s.gov.rehearsals ++ [⟨mech, tap, false, none, s.et, false⟩] ∧ t.taps = s.taps)
  ∧ (∀ (mech tap pt e : Nat) (s : State), s.hubUp = true → s.gov.points.find? (1024 * mech + tap) = some (pt, e) → pt ≤ s.et →
      rehOn s mech = true → rehearsalOf s mech tap = none → s.isl.pf = false → mech < 2 → rehHeld s mech tap = false →
      Answers (.rehearsalPoint mech tap) s fun t => ∃ j, t.gov.rehearsals = s.gov.rehearsals ++ [⟨mech, tap, false, some j, s.et, false⟩] ∧
        (t.tap tap).inject.find? mech = some j)
  ∧ (∀ (mech tap pt e : Nat) (s : State), s.gov.points.find? (1024 * mech + tap) = some (pt, e) → s.et < pt → exec (.rehearsalPoint mech tap) s = .next s)
  ∧ (∀ (mech tap pt e : Nat) (r : Rehearsal) (s : State), s.hubUp = true → s.gov.points.find? (1024 * mech + tap) = some (pt, e) → e ≤ s.et →
      rehearsalOf s mech tap = some r → r.injected = true → r.ended = true → rehOn s mech = true →
      Answers (.noOpportunity mech tap) s fun t => rehearsalOf t mech tap = none ∧ t.col.flight = s.col.flight ∧
        ∃ p, t.gov.points.find? (1024 * mech + tap) = some p ∧ s.et ≤ p.1)
  ∧ (∀ (mech tap pt e : Nat) (r : Rehearsal) (s : State), s.hubUp = true → s.gov.points.find? (1024 * mech + tap) = some (pt, e) → e ≤ s.et →
      rehearsalOf s mech tap = some r → r.injected = false → rehOn s mech = true →
      Answers (.noOpportunity mech tap) s fun t => rehearsalOf t mech tap = none ∧ t.col.flight = s.col.flight ∧
        t.obs.ctrs = (countHub (176 + 3 * mech + 2) 1 s).obs.ctrs ∧ ∃ p, t.gov.points.find? (1024 * mech + tap) = some p ∧ s.et ≤ p.1)
  ∧ (∀ (mech tap pt e : Nat) (r : Rehearsal) (s : State), s.hubUp = true → s.gov.points.find? (1024 * mech + tap) = some (pt, e) → e ≤ s.et →
      rehearsalOf s mech tap = some r → r.injected = true → r.ended = false → mech < 2 →
      Answers (.noOpportunity mech tap) s fun t => rehearsalOf t mech tap = none ∧ Posted Kind.rhMiss (tapPartLoc tap) s t)
  ∧ (∀ (mech tap pt e : Nat) (s : State), s.gov.points.find? (1024 * mech + tap) = some (pt, e) → s.et < e → exec (.noOpportunity mech tap) s = .next s)

/-- The procedure govern (R155): it lowers exponents and raises the twin code, never past the limits it is given, and it says that the target is met only
where the estimate under the settings it answers is at most the target. -/
def Obligations.GovernorKeepsItsLimits : Prop :=
  ∀ (ks : List KindIn) (target cap cruiseNj twinNj twinWork load : Rat) (twinMax fuel code : Nat) (n : Exps),
    (∀ k ∈ ks, k.nmin ≤ expIn n k.kind) → code ≤ twinMax →
    (∀ a ∈ ks, ∀ b ∈ ks, a.kind = b.kind → a = b) →
    (∀ k ∈ ks, k.nmin ≤ expIn (governLoop ks target cap cruiseNj twinNj twinWork twinMax fuel n code load).1 k.kind ∧
        expIn (governLoop ks target cap cruiseNj twinNj twinWork twinMax fuel n code load).1 k.kind ≤ expIn n k.kind)
    ∧ (governLoop ks target cap cruiseNj twinNj twinWork twinMax fuel n code load).2.1 ≤ twinMax
    ∧ ((governLoop ks target cap cruiseNj twinNj twinWork twinMax fuel n code load).2.2 = true →
        escape ks (missOf (governLoop ks target cap cruiseNj twinNj twinWork twinMax fuel n code load).1)
          (twinFraction (governLoop ks target cap cruiseNj twinNj twinWork twinMax fuel n code load).2.1) ≤ target)

/-- Latch operations of a compartment's own host at the home die (R344, R345, R348). An operation of another die may not allocate, free, arm or forward
(R344): it is DENIED and no latch changes. -/
def Obligations.LatchesAtHomeAndFromAfar : Prop :=
  ((∀ (a : Nat) (o : W128) (s : State), s.hubUp = true → lopOp o = 1 → lopGood o = true → lopReply o = false → s.cmd.dieStop = false →
      s.compLive (lopComp o) = true → lopLatch o = a → a ≠ 0xFFFFFFFF → 0 < lopValue o →
      s.fab.latches.any (fun e => decide (a ≤ e.1 ∧ e.1 < a + lopValue o)) = false →
      latchUse s (lopComp o) + lopValue o ≤ quota s (lopComp o) 0 → s.fab.intake = [] →
      Answers (.alloc s.die o) s fun t => ∀ i, t.latch i = if a ≤ i ∧ i < a + lopValue o then some (Latch.fresh (lopComp o)) else s.latch i)
  ∧ (∀ (o : W128) (l : Latch) (s : State), s.hubUp = true → lopOp o = 3 → lopGood o = true → lopReply o = false → s.cmd.dieStop = false →
      s.compLive (lopComp o) = true → s.latch (lopLatch o) = some l → l.comp = lopComp o → l.st ≠ .lost → 0 < lopValue o → l.early < lopValue o →
      s.fab.intake = [] →
      Answers (.arm s.die o) s fun t => ∃ l' : Latch, t.latch (lopLatch o) = some l' ∧ l'.st = .opened ∧ l'.target = lopValue o ∧
        l'.gen = (l.gen + 1) % 65536 ∧ l'.count = l.early ∧ l'.early = 0)
  ∧ (∀ (o : W128) (l : Latch) (s : State), s.hubUp = true → lopOp o = 4 → lopGood o = true → lopReply o = false → s.cmd.dieStop = false →
      s.compLive (lopComp o) = true → s.latch (lopLatch o) = some l → l.comp = lopComp o → l.st = .opened → lopAnygen o = true → 0 < lopValue o →
      l.count + lopValue o < l.target → s.fab.intake = [] →
      Answers (.arrive s.die o none) s fun t => ∃ l' : Latch, t.latch (lopLatch o) = some l' ∧ l'.st = .opened ∧ l'.count = l.count + lopValue o ∧
        l'.target = l.target ∧ l'.gen = l.gen)
  ∧ (∀ (o : W128) (l : Latch) (s : State), s.hubUp = true → lopOp o = 4 → lopGood o = true → lopReply o = false → s.cmd.dieStop = false →
      s.compLive (lopComp o) = true → s.latch (lopLatch o) = some l → l.comp = lopComp o → l.st = .opened → lopAnygen o = true → 0 < lopValue o →
      l.target < l.count + lopValue o → s.fab.intake = [] →
      Answers (.arrive s.die o none) s fun t => t.latch (lopLatch o) = some l ∧ Posted Kind.latchOver dieLoc s t)
  ∧ (∀ (o : W128) (l : Latch) (u : EntryUpset) (s : State), s.hubUp = true → lopOp o = 4 → s.latch (lopLatch o) = some l →
      exec (.arrive s.die o (some u)) s = exec (.arrive s.die o none) (latchUpset (lopLatch o) u s) ∧
        (latchUpset (lopLatch o) u s).latch (lopLatch o) =
          (match u with
          | .corrected => some l
          | .lost | .reserved => some { l with st := .lost }
          | .compLost => none) ∧
        (u ≠ .corrected → u ≠ .reserved → Posted Kind.latchEntry (hubLoc uLatch) s (latchUpset (lopLatch o) u s)))
  ∧ (∀ (o : W128) (s : State), s.hubUp = true → lopOp o = 5 → s.fab.intake = [] →
      Answers (.latchRead s.die o) s fun t => t.fab.latches = s.fab.latches ∧
        t.out = s.out ++ (if lopReply o then [.latchResult (latchApply s.die true o s).2.1] else []))
  ∧ (∀ (o : W128) (s : State), s.hubUp = true → lopOp o = 2 → lopGood o = true → lopReply o = false → s.cmd.dieStop = false →
      s.compLive (lopComp o) = true → 0 < lopValue o → s.fab.intake = [] →
      s.fab.latches.any (fun e => decide (lopLatch o ≤ e.1 ∧ e.1 < lopLatch o + lopValue o) && e.2.comp != lopComp o) = false →
      Answers (.free s.die o) s fun t => t.fab.latches = s.fab.latches.keep (fun k _ => !decide (lopLatch o ≤ k ∧ k < lopLatch o + lopValue o)))
  ∧ (∀ (o : W128) (l : Latch) (s : State), s.hubUp = true → lopOp o = 6 → lopGood o = true → lopReply o = false → s.cmd.dieStop = false →
      s.compLive (lopComp o) = true → s.latch (lopLatch o) = some l → l.comp = lopComp o → s.fab.intake = [] →
      Answers (.setfwd s.die o) s fun t => t.latch (lopLatch o) =
        some { l with pdie := lopAux o, platch := lopValue o, pcomp := fld o 96 4, fwd := bitAt o 100 })
  ∧ (∀ (m : VcsMsg) (s : State), s.hubUp = true → findMsg (fun m => m.cls == vcLatch && fld m.payload 0 4 == 8) s = some m →
      exec .result s = .next (answerOp m.src (lopLatch (BitVec.ofNat 128 (fld m.payload 0 128))) (lopStatus (BitVec.ofNat 128 (fld m.payload 0 128)))
        (BitVec.ofNat 128 (fld m.payload 0 128)) (dropMsg m s)))
  ∧ (∀ (m : VcsMsg) (s : State), s.hubUp = true → findMsg (fun m => m.cls == vcLatch && fld m.payload 0 4 == 9) s = some m →
      groupComp s m.group = none → exec .done s = .next (dropMsg m s))
  ∧ (∀ (m : VcsMsg) (c : Nat) (s : State), s.hubUp = true → findMsg (fun m => m.cls == vcLatch && fld m.payload 0 4 == 9) s = some m →
      groupComp s m.group = some c → Answers .done s fun t => t.fab.latches = s.fab.latches ∧
        ∀ p : Stop, s.fab.stops.find? c = some p → p.home = fld m.payload 16 16 → p.latch = fld m.payload 32 32 →
          t.fab.stops.find? c = some { p with done := true }))
  ∧ (∀ (src : Nat) (o : W128) (s : State), lopGood o = true → (lopOp o = 1 ∨ lopOp o = 2 ∨ lopOp o = 3 ∨ lopOp o = 6) →
    (latchApply src false o s).1 = stDenied ∧ (latchApply src false o s).2.2 = s)

/-- ARRIVE keeps every OPEN latch below its TARGET (R344–R346): what would exceed it is refused, and what reaches it completes the latch. -/
def Obligations.ArrivalsKeepOpenLatchesBelowTarget : Prop :=
  ∀ (src : Nat) (own : Bool) (o : W128) (s : State), lopOp o = 4 →
    (∀ (i : Nat) (l : Latch), s.latch i = some l → l.st = .opened → l.count < l.target ∧ l.early ≤ l.target) →
    ∀ (i : Nat) (l : Latch), (latchApply src own o s).2.2.latch i = some l → l.st = .opened → l.count < l.target ∧ l.early ≤ l.target

/-- The consistent stop (R355–R362). -/
def Obligations.StopsArmTickAndResume : Prop :=
  (∀ (c : Nat) (m : VcsMsg) (s : State), s.hubUp = true → findMsg (fun m => m.cls == vcStop && fld m.payload 0 4 == 1) s = some m →
      groupComp s m.group = some c → (s.comp c).st = .opened → s.isl.pf = false → s.fab.stops.has c = false → s.rf fTimeMode ≠ 2 →
      Answers .stopOrder s fun t => ∃ p : Stop, t.fab.stops.find? c = some p ∧ p.stopId = fld m.payload 16 16 ∧ p.t = fld m.payload 64 64 ∧
        p.lateJoin = decide (fld m.payload 64 64 ≤ s.et) ∧ p.etStop = (if fld m.payload 64 64 ≤ s.et then some s.et else none))
  ∧ (∀ (c : Nat) (p : Stop) (s : State), s.hubUp = true → s.fab.stops.find? c = some p → p.etStop = none → p.t ≤ s.et →
      Answers (.stopTick c) s fun t => t.fab.stops.find? c = some { p with etStop := some p.t })
  ∧ (∀ (c : Nat) (p : Stop) (s : State), s.hubUp = true → s.fab.stops.find? c = some p → p.etStop = none → s.et < p.t →
      Answers (.stopTick c) s fun t => t.fab.stops.find? c = some p)
  ∧ (∀ (c : Nat) (p : Stop) (s : State), s.hubUp = true → s.fab.stops.find? c = some p → p.etStop.isSome = true → p.etQuiet = none →
      s.cmd.dieStop = false → tilesOpen s c = false → sendsOut s c = false → s.fab.granted = [] →
      exec (.stopQuiet c) s = .next (stopArrive c (updStop c (fun p => { p with etQuiet := some s.et }) s)))
  ∧ (∀ (m : VcsMsg) (c : Nat) (s : State), s.hubUp = true →
      s.fab.intake.findSome? (fun m => if m.cls == vcStop && fld m.payload 0 4 == 2 then
        (List.find? (fun (e : Nat × Stop) => e.2.stopId == fld m.payload 16 16) s.fab.stops).map (fun e => (m, e.1)) else none) = some (m, c) →
      Answers .stopMark s fun t => t.fab.intake = s.fab.intake.erase m ∧ t.fab.targets =
        s.fab.targets.put (2 ^ 24 * m.src + 2 * (65536 * c + fld m.payload 32 16) + fld m.payload 13 1) (fld m.payload 64 32))
  ∧ (∀ (c : Nat) (p : Stop) (s : State), s.hubUp = true → s.fab.stops.find? c = some p → p.done = true → p.etCut = none → shortKeys s c = 0 →
      exec (.cutComplete c) s = .next (writeCut c false stOk s))
  ∧ (∀ (c : Nat) (p : Stop) (s : State), s.fab.stops.find? c = some p → shortKeys s c ≠ 0 → exec (.cutComplete c) s = .next s)
  ∧ (∀ (c : Nat) (p : Stop) (t0 : Tick) (s : State), s.hubUp = true → s.fab.stops.find? c = some p → p.etStop = some t0 → p.etCut = none →
      t0 + 400000 * cutWaitMs s ≤ s.et → exec (.stopIncomplete c) s = .next
        (raiseHub uFabric Kind.stopIncomplete dieLoc (detail p.stopId none (some c)) (writeCut c true stSuspect s)))
  ∧ (∀ (m : VcsMsg) (c : Nat) (p : Stop) (s : State), s.hubUp = true → findMsg (fun m => m.cls == vcStop && fld m.payload 0 4 == 3) s = some m →
      groupComp s m.group = some c → s.fab.stops.find? c = some p → p.stopId = fld m.payload 16 16 → p.etCut.isSome = true → s.rf fTimeMode ≠ 2 →
      Answers .resumeReceived s fun t => t.fab.stops.find? c = some { p with resume := some (fld m.payload 64 64) })
  ∧ (∀ (c : Nat) (p : Stop) (t0 : Tick) (s : State), s.hubUp = true → s.fab.stops.find? c = some p → p.resume = some t0 → t0 ≤ s.et →
      p.written = true → s.esc.sends = [] → exec (.resumeRelease c) s = .next { s with fab := { s.fab with stops := s.fab.stops.del c } })
  ∧ (∀ (c : Nat) (p : Stop) (s : State), s.fab.stops.find? c = some p → p.written = false → exec (.resumeRelease c) s = .next s)

/-- The course of a slice (R366–R370, R378): clears, compares, timeouts. SCREEN_DUE, ST_OVERDUE, CLOSING_RECORD_RETRY, EXCURSION, CPER_POP (R376, R389,
R390, R395). -/
def Obligations.SlicesAgesAndRecords : Prop :=
  ((∀ (r slot : Nat) (s : State), s.isl.pf = true → exec (.sliceGridPoint r slot) s = .next s)
  ∧ (∀ (r slot : Nat) (s : State), s.hubUp = true → r < 16 → slot < 2 → s.isl.pf = false → s.col.quietDie = false →
      s.et % 600000 = 18750 * r + 300000 * slot → s.scr.slices.has (2 * r + slot) = false → s.col.wardensMissing = [] → regionTherm s r < 2 →
      screening s = false → s.inLoaded = true → exec (.sliceGridPoint r slot) s = .next (gridIdle r (2 * r + slot) s))
  ∧ (∀ (key : Nat) (x : Slice) (s : State), s.hubUp = true → s.scr.slices.find? key = some x → x.stage = 0 → s.et ≤ x.since + 400 → x.segs ≠ [] →
      Answers (.clearDone key) s fun t => t.out = s.out ++ (.slice x.locus 1 ::
        ((x.segs[x.seg]?).map (fun g => Output.scan x.locus g.mode g.seed g.patterns)).toList) ∧ ∃ y, t.scr.slices.find? key = some y ∧ y.stage = 1 ∧ y.locus = x.locus)
  ∧ (∀ (key : Nat) (x : Slice) (g : Segment) (so : List (BitVec 1024)) (s : State), s.hubUp = true → s.scr.slices.find? key = some x →
      x.stage = 1 → x.confirm = false → chipperScan x.mask so x.chip = x.expectAt x.seg → x.segs[x.seg + 1]? = some g →
      Answers (.segmentEnd key so) s fun t => t.out = s.out ++ [.scan x.locus g.mode g.seed g.patterns] ∧ t.col = s.col ∧
        t.scr.slices.find? key = some { x with seg := x.seg + 1, chip := x.expectAt x.seg })
  ∧ (∀ (key : Nat) (x : Slice) (so : List (BitVec 1024)) (s : State), s.hubUp = true → s.scr.slices.find? key = some x → x.stage = 1 →
      x.confirm = false → targetOf x.locus ≠ some 4 → chipperScan x.mask so x.chip ≠ x.expectAt x.seg →
      Answers (.segmentEnd key so) s fun t => t.out = s.out ++ [.slice x.locus 2] ∧ t.col = s.col ∧
        t.scr.slices.find? key = some { x with bad := true, expected := x.expectAt x.seg, observed := chipperScan x.mask so x.chip, outcome := 1,
                                               stage := 2, since := s.et })
  ∧ (∀ (key : Nat) (x : Slice) (so : List (BitVec 1024)) (s : State), s.hubUp = true → s.scr.slices.find? key = some x → x.stage = 1 →
      x.confirm = true → targetOf x.locus = some 1 → chipperScan x.mask so x.chip = x.observed →
      Answers (.segmentEnd key so) s fun t => Posted Kind.stFail x.locus s t)
  ∧ (∀ (key : Nat) (x : Slice) (so : List (BitVec 1024)) (s : State), s.hubUp = true → s.scr.slices.find? key = some x → x.stage = 1 →
      x.confirm = true → targetOf x.locus = some 1 → chipperScan x.mask so x.chip ≠ x.observed →
      Answers (.segmentEnd key so) s fun t => Posted Kind.stUnstable x.locus s t)
  ∧ (∀ (key c u : Nat) (x : Slice) (s : State), s.hubUp = true → s.scr.slices.find? key = some x → x.stage ≠ 1 → x.since + 400 < s.et →
      named x.locus = .core c u → screening s = false → Answers (.stClear key) s fun t => Posted Kind.stClear x.locus s t ∧
        t.scr.slices = s.scr.slices.del key ∧ t.scr.holds = s.scr.holds)
  ∧ (∀ (key c u : Nat) (x : Slice) (s : State), s.hubUp = true → s.scr.slices.find? key = some x → x.start + 600000 < s.et → targetOf x.locus = some 1 →
      named x.locus = .core c u → screening s = false → Answers (.stTimeout key) s fun t => Posted Kind.stTimeout (tapPartLoc c) s t ∧
        t.scr.slices = s.scr.slices.del key ∧ t.scr.holds = s.scr.holds)
  ∧ (∀ (key : Nat) (x : Slice) (s : State), s.scr.slices.find? key = some x → targetOf x.locus = some 1 → s.et ≤ x.start + 600000 →
      exec (.stTimeout key) s = .next s))
  ∧ ((∀ (l : Loc) (s : State), s.hubUp = true → ages s l = true → periodTicks s < ageOf s l → s.scr.dueTold.contains l.toNat = false →
      Answers (.screenDue l) s fun t => t.scr.dueTold = setAdd s.scr.dueTold l.toNat ∧ t.col = s.col)
  ∧ (∀ (l : Loc) (s : State), s.scr.dueTold.contains l.toNat = true ∨ ageOf s l ≤ periodTicks s → exec (.screenDue l) s = .next s)
  ∧ (∀ (l : Loc) (s : State), s.hubUp = true → ages s l = true → 2 * periodTicks s < ageOf s l → targetOf l = some 1 →
      Tbl.get s.scr.overdueTold l.toNat 0 < ageOf s l / periodTicks s → Answers (.stOverdue l) s fun t => Posted Kind.stOverdue l s t)
  ∧ (∀ (l : Loc) (s : State), ageOf s l ≤ 2 * periodTicks s → exec (.stOverdue l) s = .next s)
  ∧ (∀ (w : Bool) (s : State), s.scr.recordOwed = false → exec (.closingRecordRetry w) s = .next s)
  ∧ (∀ s : State, s.isl.st = .island → s.hubUp = false → exec .excursion s = .next { s with isl := { s.isl with excPending := true } })
  ∧ (∀ s : State, s.isl.st ≠ .off → s.hubUp = true → exec .excursion s = .next (voidRecord { s with isl := { s.isl with excPending := true } }))
  ∧ (∀ s : State, s.isl.st ≠ .off → s.hubUp = true → s.recd.cellarAbsent = false → Answers .excursion s fun t => t.isl.excPending = false ∧
      t.col = s.col ∧ t.recd.cellar ≠ [])
  ∧ (∀ s : State, s.isl.st = .off → exec .excursion s = .next s)
  ∧ (∀ s : State, s.hubUp = true → exec .cperPop s = .next { s with recd := { s.recd with cper := s.recd.cper.drop 1 } }))

/-- The test access port (R371, R584): each opcode selects its register; a private instruction is refused without M_TAP_PRIV. Sensors, canaries and
regulators (R398–R412, R585). -/
def Obligations.SensorsAndTestAccess : Prop :=
  ((∀ s : State, s.isl.st ≠ .off →
      exec .extest s = .next { s with scr := { s.scr with tapIr := 0x00 }, out := s.out ++ [.tap 0x00 0] }
      ∧ exec .idcode s = .next { s with scr := { s.scr with tapIr := 0x01 }, out := s.out ++ [.tap 0x01 (idcode s)] }
      ∧ exec .tapReset s = exec .idcode s
      ∧ exec .samplePreload s = .next { s with scr := { s.scr with tapIr := 0x02 }, out := s.out ++ [.tap 0x02 0] }
      ∧ exec (.bypass 0x55) s = .next { s with scr := { s.scr with tapIr := 0xFF }, out := s.out ++ [.tap 0xFF 0] })
  ∧ (∀ (l : Loc) (s : State), s.isl.st ≠ .off → s.isl.priv = false → exec (.unitScan l) s = .next (tapRefuse s) ∧ exec .hubScan s = .next (tapRefuse s))
  ∧ (∀ (l : Loc) (s : State), s.isl.st ≠ .off → s.isl.priv = true → s.hubUp = true → scannable s l = true →
      Answers (.unitScan l) s fun t => t.scr.lastUnit = l.toNat ∧ t.scr.scanned = setAdd s.scr.scanned l.toNat ∧ t.scr.tapIr = 0x40 ∧
        Posted Kind.stTapScan l s t)
  ∧ (∀ s : State, s.isl.st = .sealed → s.isl.priv = true → Answers .hubScan s fun t => t.scr.hubScanned = true ∧ t.scr.tapIr = 0x41 ∧
        Posted Kind.stTapScan islandLoc s t))
  ∧ ((∀ (i n : Nat) (s : State), s.hubUp = true → wardenGone s (senseRegion i) = false → (s.ro i).samples = [] →
      diodeOf s (senseRegion i) = none → Answers (.roSample i n) s fun t =>
        (t.ro i).temp = roundDiv (roRaw s i n) 65536 + (s.ro i).trim ∧
        (t.ro i).excl = ((s.ro i).excl || n == 0 || decide (Config.roSat ≤ n)))
  ∧ (∀ (r : Nat) (v : Int) (s : State), s.hubUp = true → wardenGone s r = false →
      Answers (.diodeSample r v) s fun t => Tbl.get t.thm.diodes r [] = (v :: Tbl.get s.thm.diodes r []).take 16)
  ∧ (∀ (r : Nat) (v : Int) (s : State), wardenGone s r = true → exec (.diodeSample r v) s = .next s)
  ∧ (∀ (i : Nat) (s : State), s.hubUp = true → exec (.reinstate i) s = .next (doReinstate i s) ∧ ((doReinstate i s).ro i).excl = false ∧
      ((doReinstate i s).canary i).excl = false ∧ ((doReinstate i s).ro i).samples = [])
  ∧ (∀ (i : Nat) (t0 : Tick) (s : State), (s.ro i).lastCal = some t0 → s.et < t0 + 24000000000 → exec (.calibrate i) s = .next s)
  ∧ (∀ (i : Nat) (d v : Int) (s : State), s.hubUp = true → wardenGone s (senseRegion i) = false → (s.ro i).lastCal = none → (s.ro i).excl = false →
      scopeIdle s i = true → Tbl.get s.thm.diodes (senseRegion i) [] = List.replicate 16 d → (s.ro i).raw = List.replicate 64 (65536 * v) → -128 ≤ d - v → d - v ≤ 128 →
      Answers (.calibrate i) s fun t => (t.ro i).trim = d - v ∧ (t.ro i).cal = true ∧ (t.ro i).lastCal = some s.et)
  ∧ (∀ (k : Nat) (t0 : Tick) (s : State), s.hubUp = true → (s.scope k).clock = some (t0, false) → t0 + 400000 ≤ s.et → (s.scope k).n ≤ s.rf fThrMax →
      Answers (.throttleStep k) s fun t => (s.scope k).n ≤ (t.scope k).n ∧ (t.scope k).n ≤ s.rf fThrMax ∧ (t.scope k).n ≤ (s.scope k).n + s.rf fThrStep)
  ∧ (∀ (k : Nat) (t0 : Tick) (s : State), s.hubUp = true → (s.scope k).clock = some (t0, true) → t0 + 400000 ≤ s.et →
      Answers (.throttleStep k) s fun t => (t.scope k).n = (s.scope k).n - s.rf fThrStep)
  ∧ (∀ (i m3 m4 : Nat) (s : State), s.hubUp = true → wardenGone s (senseRegion i) = false → (s.canary i).excl = false → m4 ≤ m3 →
      s.rf fMWarn < m4 → s.rf fMDroop < m4 → 0 < m4 → Answers (.canaryWindow i m3 m4) s fun t =>
        (t.canary i).m3 = m3 ∧ (t.canary i).m4 = m4 ∧ (t.canary i).excl = false ∧ t.col = s.col)
  ∧ (∀ (i m3 m4 : Nat) (s : State), s.hubUp = true → wardenGone s (senseRegion i) = false → (s.canary i).excl = false → m3 < m4 →
      Answers (.canaryWindow i m3 m4) s fun t => (t.canary i).excl = true ∧ (t.canary i).droop = none ∧ Posted Kind.mgFail (canaryLoc i) s t)
  ∧ (∀ (i : Nat) (t0 : Tick) (s : State), s.hubUp = true → (s.canary i).droop = some t0 → t0 + 400 * s.rf fDroopHold ≤ s.et →
      Answers (.droopHoldExpiry i) s fun t => (t.canary i).droop = none)
  ∧ (∀ (n v : Nat) (e : Int) (s : State), s.isl.st ≠ .off → (s.rail n).en = true → (s.rail n).vmode = some e → n < 16 →
      650 ≤ (scale2 (v % 65536 : Nat) e 1000).toNat → (scale2 (v % 65536 : Nat) e 1000).toNat ≤ 850 →
      Answers (.pmbusRead n 0x8B v true) s fun t => (t.rail n).vout = (scale2 (v % 65536 : Nat) e 1000).toNat ∧ (t.rail n).valid = true ∧
        (t.rail n).fails = 0 ∧ t.col = s.col)
  ∧ (∀ (n cmd v : Nat) (s : State), s.isl.st ≠ .off → (s.rail n).en = true → n < 19 → (s.rail n).fails = 2 →
      Answers (.pmbusRead n cmd v false) s fun t => (t.rail n).valid = false ∧ (t.rail n).fails = 3 ∧ Posted Kind.pwrPmbus islandLoc s t)
  ∧ (∀ (a v : Nat) (s : State), s.isl.st ≠ .off → s.thm.alertRead.find? a = none → Answers (.pmAlert a v) s fun t => t.thm.alert = true ∧
      t.thm.alertRead.find? a = some s.et))

/-- The count that a tap's gates apply is at least that of each source (R52, R404): its cluster's and its region's throttle, FLOOR, the droop count of its
canary, and 4 while its warden is missing. -/
def Obligations.GatesApplyTheLargestCount : Prop :=
  ∀ (tap : Nat) (s : State), tap < 128 →
    (s.scope tap).n ≤ gateCount s tap ∧ (s.scope (128 + tap / 8)).n ≤ gateCount s tap ∧ s.rf (fFloor (tap / 8)) ≤ gateCount s tap
    ∧ ((s.canary tap).droop.isSome = true ∨ (∃ i ∈ wardenSensors (tap / 8), (s.canary i).droop.isSome = true) → s.rf fDroopN ≤ gateCount s tap) ∧ (wardenGone s (tap / 8) = true → 4 ≤ gateCount s tap)
    ∧ (gateCount s tap ∈ [(s.scope tap).n, (s.scope (128 + tap / 8)).n, s.rf (fFloor (tap / 8)), s.rf fDroopN, 4, 0])

/-- BANK_OWN, BANK_READ, BANK_WRITE, MEMTEST_WINDOW, CMEM_WINDOW (R416, R426–R430, R437): a bank passes zeroed unless KEEP applies; Firmware reaches its
own banks; a word read after it was written is the word written, and every other word reads as before. -/
def Obligations.BanksPassAndHoldTheirWords : Prop :=
  (∀ (b k : Nat) (o : Owner) (s : State), s.hubUp = true → ownerCode s b ≠ k → Owner.ofCode k = some o → mayPass s b o false = true →
      Answers (.bankOwn b k false) s fun t => (t.bank b).owner = o ∧ (∀ w, bankWord t b (w % 16384) = 0) ∧
        ∀ b' w, b' ≠ b → bankWord t b' (w % 16384) = bankWord s b' (w % 16384))
  ∧ (∀ (b k : Nat) (o : Owner) (keep : Bool) (s : State), s.hubUp = true → ownerCode s b ≠ k → Owner.ofCode k = some o → mayPass s b o keep = false →
      Answers (.bankOwn b k keep) s fun t => (t.bank b).owner = (s.bank b).owner ∧ (t.bank b).refused = true ∧ t.bnk.words = s.bnk.words)
  ∧ (∀ s : State, s.hubUp = true → (s.bank s.bnk.ptrBank).owner = .firmware → s.bnk.ptrWord < 16384 →
      Answers .bankWrite s fun t => t.bnk.ptrDone = true ∧ t.bnk.ptrErr = 0 ∧
        bankData t s.bnk.ptrBank s.bnk.ptrWord = s.bnk.data ∧
        ∀ b w, w < 16384 → (b, w) ≠ (s.bnk.ptrBank, s.bnk.ptrWord) → bankWord t b w = bankWord s b w)
  ∧ (∀ s : State, s.hubUp = true → (s.bank s.bnk.ptrBank).owner ≠ .firmware →
      Answers .bankWrite s fun t => t.bnk.ptrErr = 1 ∧ t.bnk.words = s.bnk.words)
  ∧ (∀ s : State, s.hubUp = true → (s.bank s.bnk.ptrBank).owner ≠ .firmware →
      Answers .bankRead s fun t => t.bnk.ptrErr = 1 ∧ t.bnk.data = s.bnk.data)
  ∧ (∀ s : State, s.hubUp = true → (s.bank s.bnk.ptrBank).owner = .firmware →
      (s32Dec (bankWord s s.bnk.ptrBank s.bnk.ptrWord)).2 = .ok →
      Answers .bankRead s fun t => t.bnk.data = (s32Dec (bankWord s s.bnk.ptrBank s.bnk.ptrWord)).1 ∧ t.bnk.ptrErr = 0)
  ∧ (∀ (b w : Nat) (s : State), s.hubUp = true → s.rf fMemEn = 1 → s.isl.pf = false → w < 128 → 128 * b + w = s.bnk.nextWin → b < 47 →
      (s.bank b).owner = .none → s.bnk.lastWin + 400 * s.rf fHubInt ≤ s.et →
      Answers (.memtestWindow b w false []) s fun t => t.bnk.nextWin = s.bnk.nextWin + 1 ∧ t.bnk.lastWin = s.et ∧ t.bnk.words = s.bnk.words ∧ t.col = s.col)
  ∧ (∀ (b w : Nat) (s : State), s.hubUp = true → s.rf fMemEn = 1 → s.isl.pf = false → w < 128 → 128 * b + w = s.bnk.nextWin → b < 47 →
      (s.bank b).owner ≠ .none → s.bnk.lastWin + 400 * s.rf fHubInt ≤ s.et → (∀ k < 128, (s32Dec (bankWord s b (128 * w + k))).2 = .ok) →
      Answers (.memtestWindow b w false []) s fun t => t.bnk.nextWin = s.bnk.nextWin + 1 ∧ t.col = s.col ∧
        ∀ b' k, b' < 48 → bankWord t b' (k % 16384) = bankWord s b' (k % 16384))
  ∧ (∀ (b w k h : Nat) (p : Bool) (d : W256) (s : State), s.hubUp = true → s.rf fMemEn = 1 → s.isl.pf = false → w < 128 → k < 128 →
      128 * b + w = s.bnk.nextWin → b < 47 → (s.bank b).owner ≠ .none → s.bnk.lastWin + 400 * s.rf fHubInt ≤ s.et →
      Answers (.memtestWindow b w false [⟨h, 128 * w + k, p, some d⟩]) s fun t => bankWord t b (128 * w + k) = s32Enc d)
  ∧ (∀ (b w : Nat) (l : List OwnerAccess) (f : Bool) (s : State), s.rf fMemEn = 0 ∨ s.isl.pf = true → exec (.memtestWindow b w f l) s = .next s)
  ∧ (∀ (tap w t0 n : Nat) (s : State), s.hubUp = true → tap < 128 → s.rf fCmemEn = 1 → s.isl.pf = false → felled s (clusterLoc tap) = false →
      tapServes s tap = true → Tbl.get s.bnk.cmemNext tap (0, 0) = (w, t0) → t0 + 400 * s.rf fCmemInt ≤ s.et →
      Answers (.cmemWindow tap w n 1 false) s fun t => Tbl.get t.bnk.cmemNext tap (0, 0) = ((w + 1) % 768, s.et) ∧
        Posted Kind.cmemUe (coreLoc tap 32) s t)

/-- Counters, tallies, censuses and the trace (R450–R467). -/
def Obligations.CountersTalliesAndTraces : Prop :=
  (∀ s : State, s.hubUp = true → s.rf fObsSpace = 0 → s.rf fObsIndex ≤ 9087 → siteMissing s (s.rf fObsIndex) = false →
      Answers .obsSample s fun t => t.rf fObsData = sampleOf s (s.rf fObsIndex) false ∧ t.rf fObsErr = 0 ∧ t.rf fObsDone = 1 ∧ t.obs = s.obs)
  ∧ (∀ s : State, s.hubUp = true → s.rf fObsSpace = 0 → s.rf fObsIndex ≤ 9087 → siteMissing s (s.rf fObsIndex) = false →
      Answers .obsReset s fun t => t.obs.ctrs = s.obs.ctrs.del (s.rf fObsIndex))
  ∧ (∀ s : State, s.hubUp = true → s.rf fObsSpace = 0 → s.rf fObsIndex ≤ 9087 → siteMissing s (s.rf fObsIndex) = false →
      selSuits (s.rf fObsIndex) (s.rf fSelEvent) (s.rf fSelCore) (s.rf fSelKind) = true → s.rf fObsIndex < 8192 →
      Answers .obsSetsel s fun t => progSel t (s.rf fObsIndex) = (s.rf fSelEvent, s.rf fSelCore) ∧ t.obs.ctrs = s.obs.ctrs.del (s.rf fObsIndex))
  ∧ (∀ (c i : Nat) (s : State), s.hubUp = true → i ≤ 9087 → ctrComp s i = some c → siteMissing s i = false →
      Answers (.jObsSample c i) s fun t => t.jf c fJObsData = sampleOf s i false ∧ t.jf c fJObsErr = 0)
  ∧ (∀ (c i : Nat) (s : State), s.hubUp = true → ctrComp s i ≠ some c → lastOwned s c i = none → Answers (.jObsSample c i) s fun t => t.jf c fJObsErr = 1 ∧ t.jf c fJObsData = s.jf c fJObsData)
  ∧ (∀ s : State, s.hubUp = true → s.rf fTallyMs ≠ 0 → s.obs.lastPeriodic + s.rf fTallyMs * 400000 ≤ s.et → s.obs.orders = [] → s.obs.census = [] →
      s.obs.taken = [] → Answers .periodicTally s fun t => t.obs.orders = [⟨s.et + 200, 1, 0, []⟩] ∧ t.obs.lastPeriodic = s.et)
  ∧ (∀ (o : TallyOrder) (rest : List TallyOrder) (s : State), s.hubUp = true → s.obs.orders = o :: rest → o.t ≤ s.et →
      Answers .tallyFreeze s fun t => t.obs.orders = rest ∧ t.obs.shadow = s.obs.shadow ++ [shadowOf o s] ∧ t.obs.ctrs = s.obs.ctrs)
  ∧ (∀ s : State, (∀ o ∈ s.obs.orders, s.et < o.t) → exec .tallyFreeze s = .next s)
  ∧ (∀ (k : Nat) (sh : Shadow) (rest : List Shadow) (s : State), s.hubUp = true → s.obs.shadow = sh :: rest → sh.order.tags = [] → freeTally s = some k →
      s.col.tapsMissing = [] → s.col.wardensMissing = [] →
      Answers (.tallyDrain []) s fun t => t.obs.shadow = rest ∧ t.obs.nextSlot = (k + 1) % 7 ∧ ∃ y, t.obs.slots.find? k = some y ∧
        y.entries = sh.ctrs ∧ y.bounds = sh.bounds ∧ y.et = sh.order.t ∧ y.id = s.obs.tallyId ∧ y.missing = [])
  ∧ (∀ s : State, (∀ o ∈ s.obs.census, s.et < o.t) → exec (.censusFreeze []) s = .next s)
  ∧ (∀ (o : CensusOrder) (rest : List CensusOrder) (s : State), s.hubUp = true → s.obs.census = o :: rest → o.t ≤ s.et →
      Answers (.censusFreeze []) s fun t => t.obs.census = rest ∧ t.obs.censusId = (s.obs.censusId + 1) % 2 ^ 32)
  ∧ (∀ (c : Nat) (last : Tick) (s : State), s.hubUp = true → s.rf fHangMs ≠ 0 → Tbl.get s.obs.lastRetire c (0, false) = (last, false) →
      last + 400000 * s.rf fHangMs ≤ s.et → s.jrn.cords.any (fun e => e.2.comp == c && e.2.st != .settled) = true →
      Answers (.hangWatch c) s fun t => t.obs.lastRetire.find? c = some (last, true) ∧ Posted Kind.obsHang dieLoc s t)
  ∧ (∀ (c : Nat) (s : State), s.hubUp = true → (s.trace c).staged = [] → exec (.traceDrain c) s = .next s)
  ∧ (∀ (c k : Nat) (t0 : Tick) (r : W256) (rest : List (Tick × W256)) (s : State), s.hubUp = true → (s.trace c).staged = (t0, r) :: rest →
      s.cmd.xfers = [] → s.cmd.xwait = [] → (s.trace c).log2 ≠ 0 → s.isl.pf = false → s.cmd.dieStop = false → 3 ≤ rest.length ∨ t0 + 800 ≤ s.et →
      k = min (min 4 (rest.length + 1)) (min (2 ^ (s.trace c).log2 - ((s.trace c).tail + 2 ^ 32 - (s.trace c).head) % 2 ^ 32)
        (128 - (s.trace c).tail % 128)) → 0 < k →
      Answers (.traceDrain c) s fun t => t.trace c = { s.trace c with staged := (s.trace c).staged.drop k } ∧
        t = streamWrite c ((s.trace c).base + 32 * ((s.trace c).tail % 2 ^ (s.trace c).log2))
          (((s.trace c).staged.take k).flatMap (fun e => toBytes 32 e.2.toNat))
          (.trace c k (recEt r) (recEt ((((s.trace c).staged.take k).map (fun e => e.2)).getLastD 0)))
          (setTrace c { s.trace c with staged := (s.trace c).staged.drop k } s))
  ∧ (∀ (c : Nat) (v : BitVec 32) (s : State), s.hubUp = true → ((s.trace c).tail + 2 ^ 32 - v.toNat) % 2 ^ 32 ≤ 2 ^ (s.trace c).log2 →
      Answers (.traceHeadWrite c v) s fun t => (t.trace c).head = v.toNat ∧ (t.trace c).staged = (s.trace c).staged)
  ∧ (∀ (c : Nat) (v : BitVec 32) (s : State), 2 ^ (s.trace c).log2 < ((s.trace c).tail + 2 ^ 32 - v.toNat) % 2 ^ 32 → exec (.traceHeadWrite c v) s = .next s)

/-- The Recorder (R474–R479, R482, R493): records, buckets, freezes, pages. -/
def Obligations.RecorderWritesAndFreezes : Prop :=
  (∀ (r : BitVec 512) (rest : List (BitVec 512)) (s : State), s.hubUp = true → s.recd.running = true → s.recd.pfHold = false → s.recd.input = r :: rest →
      (bucketOf s (recCode r)).tokens ≠ 0 → Answers .recordWrite s fun t => t.recd.rseq = s.recd.rseq + 1 ∧ t.recd.input = rest ∧
        t.recd.unflushed = s.recd.unflushed ++ [(s.recd.rseq + 1, s.et)] ∧ (bucketOf t (recCode r)).supp = 0)
  ∧ (∀ (r : BitVec 512) (rest : List (BitVec 512)) (s : State), s.hubUp = true → s.recd.running = true → s.recd.pfHold = false → s.recd.input = r :: rest →
      (bucketOf s (recCode r)).tokens = 0 → (bucketOf s (recCode r)).rate ≠ 15 → (bucketOf s (recCode r)).oldLeft = 0 → unlimited r = false →
      Answers .recordWrite s fun t => t.recd.rseq = s.recd.rseq ∧ t.recd.input = rest ∧ t.bnk.words = s.bnk.words ∧
        (bucketOf t (recCode r)).supp = min ((bucketOf s (recCode r)).supp + 1) 0xFFFF)
  ∧ (∀ (r : BitVec 512) (rest : List (BitVec 512)) (s : State), s.recd.running = false → s.recd.input = r :: rest → exec .recordWrite s = .next s)
  ∧ (∀ (code : BitVec 12) (s : State), s.hubUp = true → (bucketOf s code.toNat).rate ≤ 10 → s.et % (400000000 / 2 ^ (bucketOf s code.toNat).rate) = 0 →
      (bucketOf s code.toNat).supp = 0 → Answers (.tokenAdd code) s fun t => bucketOf t code.toNat = { bucketOf s code.toNat with
        tokens := min ((bucketOf s code.toNat).tokens + 1) (2 ^ (bucketOf s code.toNat).burst) })
  ∧ (∀ (n : Nat) (s : State), s.hubUp = true → n ≠ 0 → n ≤ 24576 → s.recd.freeze = none → Answers (.freezeGo n) s fun t => ∃ f, t.recd.freeze = some f ∧
        f.begun = s.et ∧ t.bnk.words = s.bnk.words)
  ∧ (∀ (n : Nat) (s : State), s.hubUp = true → 24576 < n → exec (.freezeGo n) s = .next (recRefuse s))
  ∧ (∀ (f : Freeze) (s : State), s.hubUp = true → s.recd.freeze = some f → Answers .freezeRelease s fun t => t.recd.freeze = none)
  ∧ (∀ (f : Freeze) (s : State), s.hubUp = true → s.recd.freeze = some f → f.begun + s.rf fFreezeS * 400000000 ≤ s.et →
      Answers .freezeTimeout s fun t => t.recd.freeze = none)
  ∧ (∀ (f : Freeze) (s : State), s.recd.freeze = some f → s.et < f.begun + s.rf fFreezeS * 400000000 → exec .freezeTimeout s = .next s)
  ∧ (∀ (k : Nat) (s : State), s.hubUp = true → (ringRead s k).2 = false → recRseq (ringRead s k).1 ≠ 0 →
      Answers (.recRead k) s fun t => t.recd.data = (ringRead s k).1 ∧ t.rf fRecErr = 0 ∧ t.rf fRecDone = 1)
  ∧ (∀ (k : Nat) (s : State), s.hubUp = true → (ringRead s k).2 = false → recRseq (ringRead s k).1 = 0 →
      Answers (.recRead k) s fun t => t.recd.data = s.recd.data ∧ t.rf fRecErr = 1)
  ∧ (∀ (code rate burst : Nat) (s : State), s.hubUp = true → rate < 11 → Answers (.rateWrite code rate burst) s fun t =>
      (bucketOf t (code % 4096)).rate = rate ∧ (bucketOf t (code % 4096)).burst = burst % 16 ∧
        (bucketOf t (code % 4096)).tokens ≤ 2 ^ (burst % 16))
  ∧ (∀ (code : Nat) (s : State), s.hubUp = true → Answers (.rateRead code) s fun t => t.rf fRateCode = code % 4096 ∧ t.recd = s.recd ∧
      t.rf fRateSupp = (bucketOf s (code % 4096)).supp % 2 ^ 16)
  ∧ (∀ (n : Nat) (t0 : Tick) (rest : List (Nat × Tick)) (w : Bool) (s : State), s.hubUp = true → s.recd.unflushed = (n, t0) :: rest → s.recd.retryPage = none →
      s.rf fFlushEn = 1 → s.recd.pfHold = false → 4 * (n / 4) + 3 ≤ s.recd.rseq → exec (.flushPage w) s = .next (pageEnds (n / 4) w s))
  ∧ (∀ (p : Nat) (t0 : Tick) (s : State), s.hubUp = true → s.recd.retryPage = some (p, t0) → t0 + 40000000 ≤ s.et →
      Answers (.recCellar false) s fun t => t.recd.retryPage = some (p, s.et) ∧ Posted Kind.recCellar (hubLoc uRecorder) s t ∧ t.recd.cellar = s.recd.cellar)
  ∧ (∀ (p : Nat) (t0 : Tick) (s : State), s.hubUp = true → s.recd.retryPage = some (p, t0) → t0 + 40000000 ≤ s.et → s.recd.cellarAbsent = false →
      exec (.recCellar true) s = .next (writePage p s))
  ∧ (∀ (p : Nat) (t0 : Tick) (w : Bool) (s : State), s.recd.retryPage = some (p, t0) → s.et < t0 + 40000000 → exec (.recCellar w) s = .next s)
  ∧ (∀ (a : Nat) (s : State), s.isl.st ≠ .off → s.recd.cellarAbsent = false → Answers (.cellarRead a) s fun t =>
      t.recd.cellarData = BitVec.ofNat 256 (ofBytes (cellarBytes s (a % 2 ^ 26 / 32 * 32) 32)) ∧ t.recd.cellar = s.recd.cellar)

/-- PACK_LOAD, REC_KEY, REC_CLEAR, POLICY_WRITE, POLICY_READ, ROOT_KEY, CAPTURE_KEY, FELL_UNDO through the Gate (R44, R385, R487–R490, R557): one message
at a time reaches its unit; while one is there or its RESPONSE is not taken, another is not sent. What a Gate message does that its unit takes (R45,
R134, R201, R293, R385, R487, R490, R529, R556). -/
def Obligations.GateMessagesReachTheirUnits : Prop :=
  (∀ (tag : Nat) (body : BitVec 448) (c : Instr) (s : State),
    c ∈ [Instr.packLoad tag body, .recKey tag body, .recClear tag body, .policyWrite tag body, .policyRead tag body, .rootKey tag body,
      .captureKey tag body, .fellUndo tag body] →
    (s.isl.st ≠ .off → s.hubUp = false → exec c s = .next { s with isl := { s.isl with gateErr := 1 } })
    ∧ (s.isl.st ≠ .off → s.hubUp = true → s.isl.gateBusy = true ∨ s.isl.gateValid = true → exec c s = .next { s with isl := { s.isl with gateErr := 2 } })
    ∧ (s.isl.st = .off → exec c s = .next s))
  ∧ ((∀ (tag : Nat) (body : BitVec 448) (s : State), gateOpen s = true → (pairOf s.seq.servingB s).st = .serving →
      exec (.policyWrite tag body) s = .next (gateIn (gateSent 0x10 tag body s).isl.gateTx (gateSent 0x10 tag body s)) ∧
      exec (.policyRead tag body) s = .next (gateIn (gateSent 0x11 tag body s).isl.gateTx (gateSent 0x11 tag body s)))
  ∧ (∀ (tag : Nat) (body : BitVec 448) (s : State), gateOpen s = true → (pairOf s.seq.servingB s).st ≠ .serving →
      Answers (.policyWrite tag body) s fun t => t.seq.gateIn = s.seq.gateIn ++ [t.isl.gateTx] ∧ t.isl.gateBusy = true ∧ t.bnk = s.bnk)
  ∧ (∀ (tag : Nat) (body : BitVec 448) (s : State), gateOpen s = true → Answers (.rootKey tag body) s fun t =>
      (t.digComp (fld body 0 4)).rootNext = some (fld body 64 256) ∧ (t.digComp (fld body 0 4)).root = (s.digComp (fld body 0 4)).root ∧
        t.isl.gateValid = true ∧ t.isl.gateBusy = false)
  ∧ (∀ (tag : Nat) (body : BitVec 448) (s : State), gateOpen s = true → Answers (.captureKey tag body) s fun t =>
      t.capKeys.get (fld body 0 4) 0 = fld body 64 256 ∧ t.isl.gateValid = true)
  ∧ (∀ (tag : Nat) (body : BitVec 448) (key : List Byte) (s : State), gateOpen s = true → gateSrc s (fld body 64 64) 96 = some key →
      Answers (.recKey tag body) s fun t => t.isl.gateValid = true ∧
        if fuseAccepts s (fld body 0 2) key then t.recd = { s.recd with keys := s.recd.keys.put (fld body 0 2) (BitVec.ofNat 768 (ofBytes key)) }
        else t.recd = s.recd)
  ∧ (∀ (tag upto : Nat) (body : BitVec 448) (tok : List Byte) (s : State), gateOpen s = true → gateSrc s (fld body 64 64) 160 = some tok →
      nfld (ofBytes tok) 0 32 = 0x52454352 → nfld (ofBytes tok) 34 30 = 0 → nfld (ofBytes tok) 160 32 = 0 → nfld (ofBytes tok) 256 256 = 0 →
      nfld (ofBytes tok) 64 64 = s.fuse.dieId.toNat → nfld (ofBytes tok) 192 64 = upto → 0 < upto → upto ≤ s.recd.rseq →
      nfld (ofBytes tok) 128 32 = s.recd.clrGen → keyUsable s (nfld (ofBytes tok) 32 2) = true →
      s.inLoaded = true → Answers (.recClear tag body) s fun t => t.recd.rseq = s.recd.rseq ∧ t.isl.gateValid = true ∧
        if ecdsaP384 (s.recd.keys.get (nfld (ofBytes tok) 32 2) 0) (tok.take 64) (BitVec.ofNat 768 (nfld (ofBytes tok) 512 768))
        then t.recd.clrGen = s.recd.clrGen + 1 ∧ t.recd.pending = none ∧ t.recd.freeze = none else t.recd.clrGen = s.recd.clrGen ∧
          t.recd.pending = s.recd.pending ∧ t.bnk.words = s.bnk.words)
  ∧ (∀ (tag : Nat) (body : BitVec 448) (hdr bs : List Byte) (p : Pack) (s : State), gateOpen s = true → fld body 3 61 = 0 →
      gateSrc s (fld body 64 64) 256 = some hdr → 256 ≤ pkByte (ofBytes hdr) 24 4 → pkByte (ofBytes hdr) 24 4 ≤ 262144 →
      gateSrc s (fld body 64 64) (pkByte (ofBytes hdr) 24 4) = some bs → parsePack s.fuse.unitRev bs = some p →
      recordedVer s p.packId = some p.ver → Answers (.packLoad tag body) s fun t => t.isl.gateValid = true ∧
        if packSigned s bs then t.scr.packs = s.scr.packs.put (fld body 0 3) p ∧ t.scr.packOrder.getLast? = some (fld body 0 3)
        else t.scr = s.scr ∧ Posted Kind.stPackBad dieLoc s t)
  ∧ (∀ (tag v : Nat) (body : BitVec 448) (hdr bs : List Byte) (p : Pack) (s : State), gateOpen s = true → fld body 3 61 = 0 →
      gateSrc s (fld body 64 64) 256 = some hdr → 256 ≤ pkByte (ofBytes hdr) 24 4 → pkByte (ofBytes hdr) 24 4 ≤ 262144 →
      gateSrc s (fld body 64 64) (pkByte (ofBytes hdr) 24 4) = some bs → parsePack s.fuse.unitRev bs = some p →
      recordedVer s p.packId = some v → p.ver < v →
      Answers (.packLoad tag body) s fun t => t.scr = s.scr ∧ t.recd = s.recd ∧ Posted Kind.stPackBad dieLoc s t)
  ∧ (∀ (tag n : Nat) (body : BitVec 448) (tok : List Byte) (s : State), gateOpen s = true → gateSrc s (fld body 64 64) 256 = some tok →
      nfld (ofBytes tok) 0 32 = 0x4F444E55 → nfld (ofBytes tok) 34 30 = 0 → nfld (ofBytes tok) 160 5 = n → 1 ≤ n → n ≤ 16 →
      nfld (ofBytes tok) 165 91 = 0 → nfld (ofBytes tok) (256 + 16 * n) (256 - 16 * n) = 0 →
      ((List.range n).map (fun i => BitVec.ofNat 16 (nfld (ofBytes tok) (256 + 16 * i) 16))).all (mapLists s) = true →
      nfld (ofBytes tok) 64 64 = s.fuse.dieId.toNat → nfld (ofBytes tok) 128 32 = s.col.fellGen →
      Answers (.fellUndo tag body) s fun t => t.isl.gateValid = true ∧ t.col.fell = s.col.fell ∧
        if fuseAccepts s (nfld (ofBytes tok) 32 2) ((tok.drop 64).take 96) && ecdsaP384 (BitVec.ofNat 768 (ofBytes ((tok.drop 64).take 96)))
          (tok.take 160) (BitVec.ofNat 768 (nfld (ofBytes tok) 1280 768))
        then t.col.undone = s.col.undone ++ (List.range n).map (fun i => (BitVec.ofNat 16 (nfld (ofBytes tok) (256 + 16 * i) 16) : Loc).toNat)
        else t.col.undone = s.col.undone ∧ Posted Kind.tokenDenied dieLoc s t))

/-- The rings (R534–R539): TAIL and HEAD writes, enabling, packets that arrive, records that leave. READ_DATA, WACK, STREAM_TIMEOUT (R578): the answer of
a transfer's TAG ends it; an uncorrectable beat repeats a read once. -/
def Obligations.RingsAndTransfers : Prop :=
  ((∀ (c : Nat) (v : BitVec 32) (s : State), s.hubUp = true → 2 ^ s.jf c fCmdLog < (v.toNat + 2 ^ 32 - (s.comp c).cmdHead) % 2 ^ 32 →
      Answers (.cmdqTailWrite c v) s fun t => (t.comp c).cmdErr = 2 ∧ (t.comp c).cmdTail = (s.comp c).cmdTail ∧ t.out = s.out)
  ∧ (∀ (c : Nat) (v : BitVec 32) (s : State), s.hubUp = true → (v.toNat + 2 ^ 32 - (s.comp c).cmdHead) % 2 ^ 32 ≤ 2 ^ s.jf c fCmdLog →
      exec (.cmdqTailWrite c v) s = .next (fetchMore c (updComp c (fun p => { p with cmdTail := v.toNat }) s)) ∧
        Answers (.cmdqTailWrite c v) s fun t => (t.comp c).cmdTail = v.toNat ∧ (t.comp c).cmdErr = (s.comp c).cmdErr)
  ∧ (∀ (c : Nat) (v : BitVec 32) (s : State), s.hubUp = true → s.jf c fCmdEnable = 0 → fld v 8 1 = 1 → 4 ≤ fld v 0 5 → fld v 0 5 ≤ 12 →
      Answers (.cmdqEnable c v) s fun t => (t.comp c).cmdHead = 0 ∧ (t.comp c).cmdTail = 0 ∧ t.jf c fCmdEnable = 1 ∧ t.jf c fCmdLog = fld v 0 5)
  ∧ (∀ (c : Nat) (v : BitVec 32) (s : State), s.hubUp = true → s.jf c fCmdEnable = 0 → fld v 8 1 = 1 → fld v 0 5 < 4 ∨ 12 < fld v 0 5 →
      Answers (.cmdqEnable c v) s fun t => (t.comp c).cmdErr = 1 ∧ t.jf c fCmdEnable = 0)
  ∧ (∀ (c : Nat) (v : BitVec 32) (s : State), s.hubUp = true → s.jf c fCplEnable = 0 → fld v 8 1 = 1 → 4 ≤ fld v 0 5 → fld v 0 5 ≤ 16 →
      Answers (.cplqEnable c v) s fun t => (t.comp c).cplHead = 0 ∧ (t.comp c).cplTail = 0 ∧ t.jf c fCplEnable = 1)
  ∧ (∀ (c : Nat) (v : BitVec 32) (s : State), s.hubUp = true →
      Answers (.cplqHeadWrite c v) s fun t => (t.comp c).cplHead =
        if ((s.comp c).cplTail + 2 ^ 32 - v.toNat) % 2 ^ 32 ≤ 2 ^ s.jf c fCplLog then v.toNat else (s.comp c).cplHead)
  ∧ (∀ (c : Nat) (ps : List (BitVec 512)) (s : State), s.hubUp = true →
      ps.length ≤ (s.cmd.xfers.filter (fun x => x.use == .fetch c)).length →
      exec (.commandFetch c ps) s = .next (takePackets c ps { s with cmd := { s.cmd with xfers := endFetches c ps.length s.cmd.xfers } }))
  ∧ (∀ (c : Nat) (r : Staged) (rest : List Staged) (s : State), s.hubUp = true → (s.comp c).staged = r :: rest → s.isl.pf = false → s.cmd.dieStop = false →
      s.cmd.xfers = [] → s.cmd.xwait = [] → s.jf c fCplLog ≠ 0 →
      ((s.comp c).cplTail + 2 ^ 32 - (s.comp c).cplHead) % 2 ^ 32 < 2 ^ s.jf c fCplLog →
      Answers (.completionWrite c) s fun t => (t.comp c).staged = rest ∧ (t.comp c).cplTail = (s.comp c).cplTail ∧ (t.comp c).lostOwed = false)
  ∧ (∀ (c : Nat) (s : State), s.isl.pf = true ∨ (s.comp c).staged = [] → exec (.completionWrite c) s = .next s))
  ∧ ((∀ (tag : Nat) (d : List (BitVec 288)) (x : Xfer) (s : State), s.hubUp = true → s.cmd.xfers.find? (fun x => x.tag == tag && !x.write) = some x →
      32 * d.length = x.len → (d.map s32Dec).any (fun d => d.2 == .uncorrectable) = false →
      exec (.readData tag 0 d) s = .next (readGood x ((d.map s32Dec).any (fun d => d.2 == .blazed)) ((d.map s32Dec).map (fun d => d.1)) s))
  ∧ (∀ (tag st : Nat) (d : List (BitVec 288)) (x : Xfer) (s : State), s.hubUp = true → s.cmd.xfers.find? (fun x => x.tag == tag && !x.write) = some x →
      st ≠ 0 ∨ 32 * d.length ≠ x.len → exec (.readData tag st d) s = .next (readFails x s))
  ∧ (∀ (tag : Nat) (d : List (BitVec 288)) (x : Xfer) (s : State), s.hubUp = true → s.cmd.xfers.find? (fun x => x.tag == tag && !x.write) = some x →
      32 * d.length = x.len → (d.map s32Dec).any (fun d => d.2 == .uncorrectable) = true → x.again = false →
      Answers (.readData tag 0 d) s fun t => Posted Kind.linkParity (hubLoc uStream) s t ∧ ∀ c, t.comp c = s.comp c)
  ∧ (∀ (tag st : Nat) (x : Xfer) (s : State), s.hubUp = true → s.cmd.xfers.find? (fun x => x.tag == tag && x.write) = some x →
      exec (.wack tag st) s = .next (writeEnds (st == 0) x.use { s with cmd := { s.cmd with xfers := s.cmd.xfers.filter (fun y => y.tag != tag) } }))
  ∧ (∀ (tag : Nat) (x : Xfer) (s : State), s.hubUp = true → s.cmd.xfers.find? (fun x => x.tag == tag) = some x → x.issued + 6400 < s.et → x.write = false →
      exec (.streamTimeout tag) s = .next (readFails x s))
  ∧ (∀ (tag : Nat) (x : Xfer) (s : State), s.cmd.xfers.find? (fun x => x.tag == tag) = some x → s.et ≤ x.issued + 6400 → exec (.streamTimeout tag) s = .next s)
  ∧ (∀ (tag st : Nat) (d : List (BitVec 288)) (s : State), s.cmd.xfers = [] → exec (.readData tag st d) s = .next s ∧ exec (.wack tag st) s = .next s ∧
      exec (.streamTimeout tag) s = .next s))

/-- Every host command whose turn has come has its own effect (R541), and then the next packets of a reserved OPCODE are answered. -/
def Obligations.HostCommandsRunAtTheirTurn : Prop :=
  Ran 0x01 [] .cmdNop (fun c _ tag s => completeCmd c tag 0x01 stOk 0 s)
  ∧ Ran 0x02 [] .status (fun c _ tag s =>
      completeCmd c tag 0x02 stOk (pack [(64, jState s c), (8, (s.comp c).held.length), (8, (s.comp c).staged.length)]) s)
  ∧ Ran 0x03 [(64, 2), (128, 64)] .reopen (fun c p tag s =>
      completeCmd c tag 0x03 (doReopen c (fld p 64 2) (fld p 128 64) s).1 0 (doReopen c (fld p 64 2) (fld p 128 64) s).2)
  ∧ Ran 0x04 [(64, 16), (80, 2)] .fenceReq (fun c p => doFenceReq c (BitVec.ofNat 16 (fld p 64 16)) (fld p 80 2))
  ∧ Ran 0x10 [(64, 128)] .latch (fun c p => doLatchCmd c (BitVec.ofNat 128 (fld p 64 128)))
  ∧ Ran 0x20 [(64, 12), (128, 256)] .tensorSet (fun c p tag s => completeCmd c tag 0x20
      (tensorSet c (fld p 64 12) (BitVec.ofNat 256 (fld p 128 256)) s).1 0 (tensorSet c (fld p 64 12) (BitVec.ofNat 256 (fld p 128 256)) s).2)
  ∧ Ran 0x21 [(64, 14), (128, 128)] .extentSet (fun c p tag s => completeCmd c tag 0x21
      (extentSet c (fld p 64 14) (BitVec.ofNat 128 (fld p 128 128)) s).1 0 (extentSet c (fld p 64 14) (BitVec.ofNat 128 (fld p 128 128)) s).2)
  ∧ Ran 0x22 [(64, 12)] .tensorRead (fun c p tag s =>
      match (s.dig.tensors.find? (fld p 64 12)).filter (fun t => t.valid && t.comp == c) with
      | some t => completeCmd c tag 0x22 stOk (pack [(40, t.words), (24, 0), (64, t.offsum)]) s
      | none => completeCmd c tag 0x22 stDenied 0 s)
  ∧ Ran 0x23 [(64, 64)] .voteSet (fun c p tag s => if fld p 64 64 % 32 ≠ 0 then completeCmd c tag 0x23 stInvalid 0 s
      else streamRead c (fld p 64 64) 64 (.voteFetch c tag []) s)
  ∧ Ran 0x24 [(64, 64)] .certify (fun c p => doCertify c (fld p 64 64))
  ∧ Ran 0x25 [(64, 64), (128, 64), (192, 64), (256, 1)] .restore (fun c p tag =>
      restore c tag (fld p 64 64) (BitVec.ofNat 128 (fld p 128 128)) (bitAt p 256))
  ∧ Ran 0x30 [(64, 64), (128, 5)] .ringSet (fun c p tag s =>
      completeCmd c tag 0x30 (doRingSet c (fld p 64 64) (fld p 128 5) s).1 0 (doRingSet c (fld p 64 64) (fld p 128 5) s).2)
  ∧ Ran 0x31 [(64, 16), (80, 16)] .retarget (fun c p tag s =>
      let r := doRetarget c (BitVec.ofNat 16 (fld p 64 16)) (BitVec.ofNat 16 (fld p 80 16)) s
      completeCmd c tag 0x31 r.1 r.2.1 r.2.2)
  ∧ Ran 0x40 [(64, 64), (128, 32)] .stopSetup (fun c p tag s =>
      if fld p 64 64 % 32 ≠ 0 ∨ fld p 128 32 % 32 ≠ 0 then completeCmd c tag 0x40 stInvalid 0 s
      else completeCmd c tag 0x40 stOk 0 { s with fab := { s.fab with cutBuf := s.fab.cutBuf.put c (fld p 64 64, fld p 128 32) } })
  ∧ Ran 0x41 [(64, 64), (128, 16), (144, 16), (160, 16), (176, 4), (180, 1), (192, 32)] .stop (fun c p => doStop c p)
  ∧ Ran 0x42 [(64, 64), (128, 16), (144, 16)] .resume (fun c p => doResume c p)
  ∧ Ran 0x50 [(64, 64), (128, 32)] .tallySetup (fun c p tag s =>
      if fld p 64 64 % 32 ≠ 0 ∨ fld p 128 32 % 32 ≠ 0 then completeCmd c tag 0x50 stInvalid 0 s
      else completeCmd c tag 0x50 stOk 0 { s with obs := { s.obs with tallyBuf := s.obs.tallyBuf.put c (fld p 64 64, fld p 128 32) } })
  ∧ Ran 0x51 [(64, 64)] .tally (fun c p => doTally c (fld p 64 64))
  ∧ Ran 0x52 [(64, 64), (128, 64), (192, 32)] .census (fun c p => doCensus c (fld p 64 64) (fld p 128 64) (fld p 192 32))
  ∧ Ran 0x53 [(64, 128)] .traceSetup (fun c p tag s =>
      completeCmd c tag 0x53 (traceSetup c (BitVec.ofNat 128 (fld p 64 128)) s).1 0 (traceSetup c (BitVec.ofNat 128 (fld p 64 128)) s).2)
  ∧ Ran 0x54 [(64, 128)] .traceMark (fun c p tag s =>
      completeCmd c tag 0x54 (doTraceMark c (fld p 64 128) s).1 0 (doTraceMark c (fld p 64 128) s).2)
  ∧ Ran 0x55 [(64, 16)] .timeQuery (fun c p tag s =>
      completeCmd c tag 0x55 (doTimeQuery (fld p 64 16) s).1 (doTimeQuery (fld p 64 16) s).2.1 (doTimeQuery (fld p 64 16) s).2.2)
  ∧ Ran 0x60 [(64, 3)] .screenOffer (fun c p tag s =>
      if assigned s (144 + fld p 64 3) ≠ some c then completeCmd c tag 0x60 stDenied 0 s
      else if felled s (hcoreLoc (fld p 64 3)) then completeCmd c tag 0x60 stFenced 0 s
      else { s with scr := { s.scr with offers := s.scr.offers ++ [(fld p 64 3, c, tag)] } })

/-- The conditions under which host commands take effect, and what they leave (R227, R244, R458, R543, R547, R548). -/
def Obligations.HostCommandsCheckTheirRanges : Prop :=
  (∀ (op c : Nat) (used : List (Nat × Nat)) (f : Nat → State → State) (pkt : BitVec 512) (h : Held) (s : State), nextHeld (s.comp c) = some h →
      h.pkt = pkt → fld pkt 0 8 = op → servingOpcode op = false →
      (pktClean pkt used = false → runCmd op used f c pkt s = skipBad 16 c (completeCmd c (fld pkt 16 16) op stInvalid 0 (startHeld c s)))
      ∧ (pktClean pkt used = true → cmdAllowed (startHeld c s) c op = false →
          runCmd op used f c pkt s = skipBad 16 c (completeCmd c (fld pkt 16 16) op stFenced 0 (startHeld c s))))
  ∧ (∀ (c e : Nat) (s : State), (s.comp c).st = .stopped → (s.comp c).causes = [] → (s.lease c).state ≠ .expired → (s.lease c).state ≠ .revoked →
      (doReopen c 0 e s).1 = stOk ∧ (((doReopen c 0 e s).2).comp c).st = .opened ∧
      (doReopen c 1 e s).1 = stOk ∧ (((doReopen c 1 e s).2).comp c).st = .reseeding)
  ∧ (∀ (c mode e : Nat) (s : State), (s.comp c).st ≠ .stopped → doReopen c mode e s = (stInvalid, s))
  ∧ (∀ (c mode e : Nat) (s : State), (s.comp c).st = .stopped → mode ≤ 1 → (s.comp c).causes ≠ [] → doReopen c mode e s = (stSuspect, s))
  ∧ (∀ (c base log2 : Nat) (s : State), s.jrn.rings = [] → base % 4096 = 0 → 10 ≤ log2 → log2 ≤ 24 →
      doRingSet c base log2 s = (stOk, { s with jrn := { s.jrn with rings := [(c, base, log2)] } }))
  ∧ (∀ (c base log2 : Nat) (s : State), 0 < log2 → log2 < 10 ∨ base % 4096 ≠ 0 ∨ 24 < log2 → doRingSet c base log2 s = (stInvalid, s))
  ∧ (∀ (c tag : Nat) (l : Loc) (act : Nat) (s : State), fenceRefused s c l act = none →
      (doFenceReq c l act tag s).col.reqs = s.col.reqs ++ [⟨c, tag, fenceOrder c l act⟩] ∧
      Posted Kind.hostFence (if act = 2 then dieLoc else l) s (doFenceReq c l act tag s))
  ∧ (∀ (c : Nat) (r : W128) (s : State), fld r 0 12 = 0 → fld r 64 5 = 0 ∨ 7 ≤ fld r 64 5 → fld r 64 5 ≤ 24 → fld r 69 3 = 0 → fld r 88 40 = 0 →
      (traceSetup c r s).1 = stOk ∧ ((traceSetup c r s).2.trace c).base = fld r 0 64 ∧ ((traceSetup c r s).2.trace c).log2 = fld r 64 5 ∧
      ((traceSetup c r s).2.trace c).head = 0 ∧ ((traceSetup c r s).2.trace c).tail = 0 ∧ ((traceSetup c r s).2.trace c).staged = [])
  ∧ (∀ (c t tag : Nat) (s : State), t < s.et + 200 → t ≠ 0 → doTally c t tag s = completeCmd c tag 0x51 stLate 0 s)

/-- Accesses by number (R14, R47, R549, R553, R579; what a reserved or misaligned offset does is log entry 23): an island-resident register always
answers, a hub-resident one only while the hub is up, and a job page only under its own compartment. -/
def Obligations.RegisterAccesses : Prop :=
  (∀ (o : Nat) (wide write : Bool) (v : W64) (s : State), s.isl.st ≠ .off → islandOffset o = false → badOffset o wide = true →
      exec (.mreg o wide write v) s = .next (emit (.mPage 2 0) s))
  ∧ (∀ (o : Nat) (wide write : Bool) (v : W64) (s : State), s.isl.st ≠ .off → islandOffset o = false → badOffset o wide = false → s.hubUp = false →
      exec (.mreg o wide write v) s = .next (emit (.mPage 1 0) { s with isl := { s.isl with accErr := true } }))
  ∧ (∀ (o : Nat) (wide : Bool) (v : W64) (s : State), islandOffset o = false → badOffset o wide = false → s.hubUp = true →
      exec (.mreg o wide true v) s = .next (emit (.mPage 0 0) (mWrite (o / 8 * 8) (halves o wide) (placed o wide v.toNat) s)) ∧
      exec (.mreg o wide false v) s = .next (emit (.mPage 0 (BitVec.ofNat 64 (mValue s (o / 8 * 8) (halves o wide)))) (mReadFx (o / 8 * 8) (halves o wide) s)))
  ∧ (∀ (c o : Nat) (wide : Bool) (v : W64) (s : State), s.isl.st ≠ .off → badOffset o wide = true → exec (.registerWrite false wide c o v) s = .next s)
  ∧ (∀ (c o : Nat) (wide : Bool) (v : W64) (s : State), s.isl.st ≠ .off → badOffset o wide = false → islandOffset o = true ∨ s.hubUp = true →
      exec (.registerWrite false wide c o v) s = .next (mWrite (o / 8 * 8) (halves o wide) (placed o wide v.toNat) s))
  ∧ (∀ (c o : Nat) (wide : Bool) (v : W64) (s : State), s.isl.st ≠ .off → badOffset o wide = false → islandOffset o = false → s.hubUp = false →
      exec (.registerWrite false wide c o v) s = .next { s with isl := { s.isl with accErr := true } })
  ∧ (∀ (c o : Nat) (wide : Bool) (v : W64) (s : State), s.hubUp = true → o % (if wide then 8 else 4) = 0 →
      exec (.registerWrite true wide c o v) s = .next (jWrite c (o / 8 * 8) (halves o wide) (placed o wide v.toNat) s))
  ∧ (∀ (core o c : Nat) (wide : Bool) (v : W64) (s : State), s.hubUp = true → assigned s (144 + core) = some c → o / 0x1000 = c →
      s.cmd.halted.contains core = false → o % (if wide then 8 else 4) = 0 →
      exec (.jPageAccess core o wide true v) s = .next (emit (.jPage false 0) (jWrite c (o % 0x1000 / 8 * 8) (halves (o % 0x1000) wide) (placed (o % 0x1000) wide v.toNat) s)) ∧
      exec (.jPageAccess core o wide false v) s = .next (emit (.jPage false (BitVec.ofNat 64 (jValue s c (o % 0x1000 / 8 * 8) (halves (o % 0x1000) wide))))
        (jReadFx c (o % 0x1000 / 8 * 8) (halves (o % 0x1000) wide) s)))
  ∧ (∀ (core o c : Nat) (wide write : Bool) (v : W64) (s : State), s.hubUp = true → assigned s (144 + core) = some c → o / 0x1000 ≠ c →
      Answers (.jPageAccess core o wide write v) s fun t => t.out = s.out ++ [.jPage true (BitVec.allOnes 64)] ∧ Posted Kind.gateDenied (hubLoc uGate) s t ∧
        t.cmd = s.cmd ∧ t.jregs = s.jregs)

/-- The registers that a row of its own writes (R132, R276, R328, R337, R516, R554, R555): what each stores and what each refuses. Register fields (R14):
a field reads what was written to it, its bits alone, and another field reads as before. -/
def Obligations.RegisterCommandsAndFields : Prop :=
  ((∀ (v : W64) (s : State), s.isl.st ≠ .off → Answers (.sampleSeed v) s fun t => t.isl.seed % 2 ^ 64 = v.toNat ∧ t.isl.seedSet = true ∧ t.out = s.out)
  ∧ (∀ (v : W64) (s : State), s.hubUp = true → Answers (.dieIndexWrite v) s fun t => t.die = fld v 0 16 ∧ t.dieSet = bitAt v 16 ∧ t.col = s.col ∧ t.out = s.out)
  ∧ (∀ (u : Nat) (v : W64) (s : State), s.hubUp = true → u < 152 →
      felled s (if u < 128 then clusterLoc u else if u < 144 then slabLoc (u - 128) else hcoreLoc (u - 144)) = false → s.jrn.spares.has u = false →
      s.jrn.cords = [] → Answers (.assignWrite u v) s fun t => assigned t u = if bitAt v 4 then some (fld v 0 4) else none)
  ∧ (∀ (u : Nat) (v : W64) (s : State), s.hubUp = true → u < 152 → s.jrn.spares.has u = true →
      Answers (.assignWrite u v) s fun t => t.cmd = s.cmd ∧ t.obs = s.obs ∧ t.rf (fAsgRefused u) = 1)
  ∧ (∀ s : State, s.hubUp = true → recordLen (s.rf fPrecRec) = 0 →
      (Answers .precWrite s fun t => t.rf fPrecStatus = stInvalid ∧ t.rf fPrecDone = 1 ∧ t.gov = s.gov ∧ t.col = s.col ∧ t.jrn = s.jrn) ∧
      (Answers .precRead s fun t => t.rf fPrecStatus = stInvalid ∧ t.rf fPrecDone = 1 ∧ t.gov = s.gov))
  ∧ (∀ (k : Nat) (s : State), s.hubUp = true → 1 ≤ s.rf fPrecRec → s.rf fPrecRec ≤ 6 → k < 4 → Answers .precRead s fun t =>
      t.rf fPrecStatus = stOk ∧ t.rf fPrecDone = 1 ∧ t.rf (fPrecData k) = nfld (readRecord s (s.rf fPrecRec) (s.rf fPrecComp)) (64 * k) 64 ∧ t.gov = s.gov)
  ∧ (∀ s : State, s.hubUp = true → 1 ≤ s.rf fPrecRec → s.rf fPrecRec ≤ 6 → Answers .precWrite s fun t =>
      t.rf fPrecDone = 1 ∧ t.rf fPrecStatus = (putRecord (s.rf fPrecRec) (s.rf fPrecComp) (pack ((List.range 4).map (fun k => (64, s.rf (fPrecData k))))) s).1 ∧
        t.gov = (putRecord (s.rf fPrecRec) (s.rf fPrecComp) (pack ((List.range 4).map (fun k => (64, s.rf (fPrecData k))))) s).2.gov)
  ∧ (∀ (v : BitVec 32) (s : State), s.hubUp = true → Kind.floor (fld v 0 12) ≤ fld v 16 3 →
      Answers (.sevWrite v) s fun t => sevEntry t (fld v 12 3) (fld v 0 12) = fld v 16 6 ∧ t.rf fSevDone = 1)
  ∧ (∀ (v : BitVec 32) (s : State), s.hubUp = true → fld v 16 3 < Kind.floor (fld v 0 12) →
      Answers (.sevWrite v) s fun t => t.col = s.col ∧ t.rf fSevRefused = 1 ∧ t.rf fSevDone = 1)
  ∧ (∀ (v : BitVec 32) (s : State), s.hubUp = true →
      Answers (.sevRead v) s fun t => t.rf fSevEntry = sevEntry s (fld v 12 3) (fld v 0 12) % 256 ∧ t.rf fSevDone = 1 ∧ t.col = s.col)
  ∧ (∀ (v : BitVec 32) (s : State), s.hubUp = true → fld v 0 16 ≠ 0 → s.rf fGrpFirst ≤ s.rf fGrpLast → s.rf fGrpValid = 1 →
      s.fab.groups.length < 1024 → Answers (.groupWrite v) s fun t => t.fab.groups = s.fab.groups.put (fld v 0 16)
        (Tbl.put (s.fab.groups.get (fld v 0 16) []) (fld v 16 6) (s.rf fGrpFirst, s.rf fGrpLast, s.rf fGrpComp)) ∧ t.rf fGrpErr = 0 ∧ t.rf fGrpDone = 1)
  ∧ (∀ (v : BitVec 32) (s : State), s.hubUp = true → fld v 0 16 = 0 ∨ s.rf fGrpLast < s.rf fGrpFirst →
      Answers (.groupWrite v) s fun t => t.fab = s.fab ∧ t.rf fGrpErr = 1 ∧ t.rf fGrpDone = 1)
  ∧ (∀ (v : BitVec 32) (first last comp : Nat) (s : State), s.hubUp = true → fld v 0 16 ≠ 0 →
      Tbl.find? (s.fab.groups.get (fld v 0 16) []) (fld v 16 6) = some (first, last, comp) → Answers (.groupRead v) s fun t =>
        t.rf fGrpFirst = first % 65536 ∧ t.rf fGrpLast = last % 65536 ∧ t.rf fGrpComp = comp % 16 ∧ t.rf fGrpValid = 1 ∧ t.fab = s.fab)
  ∧ (∀ (v : BitVec 32) (s : State), s.hubUp = true → fld v 0 16 ≠ 0 →
      Answers (.groupDelete v) s fun t => t.fab.groups.find? (fld v 0 16) = none ∧ t.rf fGrpErr = 0 ∧ t.tim = s.tim)
  ∧ (∀ (v : BitVec 32) (s : State), s.hubUp = true → fld v 0 8 < 255 →
      Answers (.matchWrite v) s fun t => (t.tim.peers.find? (fld v 0 8)).map (fun m => (m.peer, m.valid)) = some (fld v 16 16, bitAt v 11) ∧ t.fab = s.fab)
  ∧ (∀ (v : BitVec 32) (m : Match) (s : State), s.hubUp = true → s.tim.peers.find? (fld v 0 8) = some m →
      Answers (.matchRead v) s fun t => t.rf fMatchPeer = m.peer % 65536 ∧ t.rf fMatchValid = b2n m.valid ∧ t.tim = s.tim))
  ∧ ((∀ (s : State) (f : RF) (v : Nat), (s.setRf f v).rf f = v % 2 ^ f.len)
  ∧ (∀ (s : State) (f g : RF) (v : Nat), 64 * f.off + f.lo ≠ 64 * g.off + g.lo → (s.setRf f v).rf g = s.rf g)
  ∧ (∀ (s : State) (c : Nat) (f : RF) (v : Nat), (s.setJf c f v).jf c f = v % 2 ^ f.len)
  ∧ (∀ (s : State) (c d : Nat) (f g : RF) (v : Nat), 64 * (0x1000 * c + f.off) + f.lo ≠ 64 * (0x1000 * d + g.off) + g.lo → (s.setJf c f v).jf d g = s.jf d g))

/-- I3C (R581; what the target answers to CCCs that the spec leaves free is opaque, log entry 24): addresses are taken and dropped, registers written and
read, and every CCC of the list answered. -/
def Obligations.I3cAnswers : Prop :=
  (∀ (lo hi ctl : Byte) (data : List Byte) (s : State), s.isl.st ≠ .off → fld ctl 2 6 = 0 → bitAt ctl 1 = false →
      data.length = (if bitAt ctl 0 then 8 else 4) →
      exec (.i3cPrivateWrite (lo :: hi :: ctl :: data)) s = .next (mPut (lo.toNat + 256 * hi.toNat) (bitAt ctl 0) (ofBytes data) s))
  ∧ (∀ (lo hi ctl : Byte) (data : List Byte) (s : State), s.isl.st ≠ .off → fld ctl 2 6 = 0 → bitAt ctl 1 = true →
      Answers (.i3cPrivateWrite (lo :: hi :: ctl :: data)) s fun t => t.isl.i3cRead = some ((mAccess (lo.toNat + 256 * hi.toNat) (bitAt ctl 0) false 0 s).1,
        (if bitAt ctl 0 then 8 else 4), (mAccess (lo.toNat + 256 * hi.toNat) (bitAt ctl 0) false 0 s).2.1))
  ∧ (∀ (st n v : Nat) (s : State), s.isl.st ≠ .off → s.isl.i3cRead = some (st, n, v) →
      Answers .i3cPrivateRead s fun t => t.out = s.out ++ [.i3c (BitVec.ofNat 8 st :: toBytes n v)] ∧ t.isl.i3cRead = none ∧ t.mregs = s.mregs)
  ∧ (∀ (a : BitVec 7) (s : State), s.isl.st ≠ .off → s.isl.i3cAddr = none →
      (Answers (.entdaa a) s fun t => t.isl.i3cAddr = some a.toNat ∧ t.out = s.out ++ [.i3c (pidBytes s ++ [bcr, Config.i3cDcr])]) ∧
      (Answers (.setdasa a) s fun t => t.isl.i3cAddr = some a.toNat ∧ t.out = s.out) ∧ exec (.setnewda a) s = .next s)
  ∧ (∀ (a : BitVec 7) (old : Nat) (s : State), s.isl.st ≠ .off → s.isl.i3cAddr = some old →
      (Answers (.setnewda a) s fun t => t.isl.i3cAddr = some a.toNat ∧ t.out = s.out) ∧ exec (.entdaa a) s = .next s ∧ exec (.setdasa a) s = .next s)
  ∧ (∀ s : State, exec .rstdaa s = .next { s with isl := { s.isl with i3cAddr := none } })
  ∧ (∀ s : State, s.isl.st ≠ .off → exec .getpid s = .next (emit (.i3c (pidBytes s)) s) ∧ exec .getbcr s = .next (emit (.i3c [bcr]) s) ∧
      exec .getdcr s = .next (emit (.i3c [Config.i3cDcr]) s) ∧ exec .getstatus s = .next (emit (.i3c (toBytes 2 Config.i3cStatus.toNat)) s) ∧
      exec .getmwl s = .next (emit (.i3c [0, 16]) s) ∧ exec .getmrl s = .next (emit (.i3c [0, 16]) s))
  ∧ (∀ s : State, exec .enec s = .next s ∧ exec .disec s = .next s)

/-- Camavarun and the serial port (R582, R613–R615; the numbers of the access error and OVERRUN answers are log entry 25): a command below its level is
DENIED, another prints what it read or did. -/
def Obligations.ConsoleAnswers : Prop :=
  (∀ (wide : Bool) (o c code : Nat) (v : W64) (bank off : Nat) (ws : List W256) (on : Bool) (s : State), s.isl.st ≠ .off → s.isl.overrun = false → s.isl.level = .view →
      ∀ i ∈ [Instr.camWr o wide v, .camSev c code none, .camComp c on, .camSeal, .camCper, .camPolicy o none, .camHandover, .camPut bank off ws,
        .camGate code 0, .camTappriv on], Answers i s fun t => t.out = s.out ++ [.serial false stDenied []] ∧ t.cmd = s.cmd ∧ t.mregs = s.mregs ∧ t.bnk = s.bnk)
  ∧ (∀ (o : Nat) (wide : Bool) (s : State), s.isl.st ≠ .off → s.isl.overrun = false → hasRc o = false → badOffset o wide = false → s.hubUp = true →
      Answers (.camRd o wide) s fun t => t.out.getLast? = some (.serial true stOk [mValue { s with isl := { s.isl with lastInput := s.isl.sec } } (o / 8 * 8) (halves o wide)]))
  ∧ (∀ (o : Nat) (wide : Bool) (v : W64) (s : State), s.isl.st ≠ .off → s.isl.overrun = false → s.isl.level ≠ .view → badOffset o wide = false → s.hubUp = true →
      Answers (.camWr o wide v) s fun t => t = emit (.serial true stOk [])
        (mWrite (o / 8 * 8) (halves o wide) (placed o wide v.toNat) { s with isl := { s.isl with lastInput := s.isl.sec } }))
  ∧ (∀ s : State, s.isl.st ≠ .off → s.isl.overrun = false → Answers .camHelp s fun t => t.out = s.out ++ [.serial true stOk
      ((List.range 18).filter (fun i => (camLevels.getD i .service).code ≤ s.isl.level.code))] ∧ t.mregs = s.mregs)
  ∧ (∀ s : State, s.isl.st ≠ .off → s.isl.overrun = false → s.hubUp = true → Answers .camState s fun t => t.out = s.out ++ [.serial true stOk
      ([s.isl.st.code, seqStatus s, s.et, s.rf fQuality] ++ (List.range 16).map (compCode s))])
  ∧ (∀ (rate : Nat) (s : State), s.isl.st ≠ .off → s.isl.overrun = false → 115200 ≤ rate → rate ≤ 3000000 →
      Answers (.camBaud rate) s fun t => t.isl.baud = rate ∧ t.out = s.out ++ [.serial true stOk []])
  ∧ (∀ (addr n : Nat) (s : State), s.isl.st ≠ .off → s.isl.overrun = false → 1 ≤ n → n ≤ 256 → addr + n ≤ 0x4000000 → s.recd.cellarAbsent = false →
      Answers (.camCellar addr n) s fun t => ∃ vs, t.out.getLast? = some (.serial true stOk vs) ∧ vs.length = n ∧ t.recd.cellar = s.recd.cellar)
  ∧ (∀ (n : Nat) (s : State), s.isl.st ≠ .off → s.isl.overrun = false → 1 ≤ n → n ≤ 64 → s.hubUp = true →
      Answers (.camRec n) s fun t => t.out = s.out ++ [.serial true stOk ((newestRecords s (s.recd.rseq - n)).map (fun e => e.2.toNat))] ∧ t.recd = s.recd)
  ∧ (∀ s : State, s.isl.st ≠ .off → s.isl.overrun = false → Answers (.camUnlock none) s fun t => ∃ n : W64, t.isl.nonce = some n ∧ t.isl.level = s.isl.level ∧
      t.out = s.out ++ [.serial true stOk [n.toNat]])
  ∧ (∀ (tok : BitVec 2048) (s : State), s.isl.st ≠ .off → s.isl.overrun = false → fld tok 0 32 ≠ 0x4B4C4E55 →
      Answers (.camUnlock (some tok)) s fun t => t.isl.nonce = none ∧ t.isl.level = s.isl.level ∧ t.out = s.out ++ [.serial false stInvalid []])
  ∧ (∀ (tok : BitVec 2048) (s : State), s.isl.st ≠ .off → s.isl.overrun = false → s.hubUp = true → fld tok 0 32 = 0x4B4C4E55 → 1 ≤ fld tok 34 2 → fld tok 34 2 ≤ 2 →
      fld tok 36 28 = 0 → fld tok 192 320 = 0 → s.isl.nonce.map (fun n => n.toNat) ≠ some (fld tok 128 64) → Answers (.camUnlock (some tok)) s fun t =>
        t.isl.nonce = none ∧ t.isl.level = s.isl.level ∧ t.out = s.out ++ [.serial false stDenied []] ∧ Posted Kind.tokenDenied dieLoc s t)
  ∧ (∀ (tok : BitVec 2048) (n : W64) (s : State), s.isl.st ≠ .off → s.isl.overrun = false → s.isl.nonce = some n → fld tok 0 32 = 0x4B4C4E55 → 1 ≤ fld tok 34 2 →
      fld tok 34 2 ≤ 2 → fld tok 36 28 = 0 → fld tok 192 320 = 0 → n.toNat = fld tok 128 64 → fld tok 64 64 = s.fuse.dieId.toNat →
      Answers (.camUnlock (some tok)) s fun t => t.isl.nonce = none ∧
        if fuseAccepts s (fld tok 32 2) (((toBytes 256 tok.toNat).drop 64).take 96) &&
          ecdsaP384 (BitVec.ofNat 768 (ofBytes (((toBytes 256 tok.toNat).drop 64).take 96))) ((toBytes 256 tok.toNat).take 160) (BitVec.ofNat 768 (fld tok 1280 768))
        then t.isl.level = (if fld tok 34 2 = 1 then .operate else .service) ∧ t.out = s.out ++ [.serial true stOk []]
        else t.isl.level = s.isl.level ∧ t.out = s.out ++ [.serial false stDenied []])
  ∧ (∀ s : State, s.isl.st ≠ .off → s.isl.overrun = false → Answers .camLock s fun t => t.isl.level = .view ∧ t.out = s.out ++ [.serial true stOk []])
  ∧ (∀ (cls kind : Nat) (s : State), s.isl.st ≠ .off → s.isl.overrun = false → s.isl.level ≠ .view → s.hubUp = true → cls < 8 → kind < 4096 →
      Answers (.camSev cls kind none) s fun t => t.out = s.out ++ [.serial true stOk [sevEntry s cls kind % 256]] ∧ t.col = s.col)
  ∧ (∀ (cls kind : Nat) (e : Byte) (s : State), s.isl.st ≠ .off → s.isl.overrun = false → s.isl.level ≠ .view → s.hubUp = true → cls < 8 → kind < 4096 →
      fld e 0 3 < Kind.floor kind → Answers (.camSev cls kind (some e)) s fun t => t.out = s.out ++ [.serial false stInvalid []] ∧ t.col = s.col)
  ∧ (∀ (c : Nat) (close : Bool) (s : State), s.isl.st ≠ .off → s.isl.overrun = false → s.isl.level ≠ .view → s.hubUp = true → c > 15 →
      Answers (.camComp c close) s fun t => t.out = s.out ++ [.serial false stInvalid []] ∧ t.cmd = s.cmd)
  ∧ (∀ (c : Nat) (s : State), s.isl.st ≠ .off → s.isl.overrun = false → s.isl.level ≠ .view → s.hubUp = true → c < 16 → (s.comp c).st ≠ .closed →
      Answers (.camComp c true) s fun t => (t.comp c).st = .closed ∧ t.out.getLast? = some (.serial true stOk []))
  ∧ (∀ s : State, s.isl.overrun = false → s.isl.level ≠ .view → s.hubUp = true → s.isl.st = .loaded ∨ s.isl.st = .opened →
      Answers .camSeal s fun t => t.isl.st = .drain ∧ t.out.getLast? = some (.serial true stOk []))
  ∧ (∀ (r : BitVec 2624) (rs : List (BitVec 2624)) (s : State), s.isl.st ≠ .off → s.isl.overrun = false → s.isl.level ≠ .view → s.hubUp = true → s.recd.cper = r :: rs →
      Answers .camCper s fun t => t.recd.cper = rs ∧ t.out = s.out ++ [.serial true stOk [r.toNat]])
  ∧ (∀ (o : Nat) (s : State), s.isl.overrun = false → s.isl.level ≠ .view → gateOpen s = true → (pairOf s.seq.servingB s).st ≠ .serving →
      Answers (.camPolicy o none) s fun t => t.isl.gateBusy = true ∧ t.seq.gateIn = s.seq.gateIn ++ [t.isl.gateTx] ∧ t.out = s.out ++ [.serial true stOk []])
  ∧ (∀ (o : Nat) (s : State), s.isl.overrun = false → s.isl.level ≠ .view → gateOpen s = true → (pairOf s.seq.servingB s).st = .serving → o + 32 ≤ 524288 →
      Answers (.camPolicy o none) s fun t => t.out = s.out ++ [.serial true stOk [ofBytes (bankBytes s 32 o 32)]] ∧ t.isl.gateValid = false ∧ t.bnk = s.bnk)
  ∧ (∀ (o : Nat) (bs : List Byte) (s : State), s.isl.overrun = false → s.isl.level ≠ .view → gateOpen s = true → (pairOf s.seq.servingB s).st = .serving →
      0x8900 ≤ o → o + 4 ≤ 0x8B00 → o % 4 = 0 → bs.length = 4 →
      Answers (.camPolicy o (some bs)) s fun t => bankBytes t 32 o 4 = bs ∧ t.isl.gateValid = false ∧ ∃ vs, t.out.getLast? = some (.serial true stOk vs))
  ∧ (∀ s : State, s.isl.st ≠ .off → s.isl.overrun = false → s.isl.level ≠ .view → s.hubUp = true → s.isl.gateBusy = true →
      Answers .camHandover s fun t => t.out = s.out ++ [.serial false stQuota []] ∧ t.isl.gateErr = 2 ∧ t.seq = s.seq)
  ∧ (∀ (s : State), s.isl.overrun = false → s.isl.level ≠ .view → gateOpen s = true →
      Answers .camHandover s fun t => fld t.isl.gateTx 0 16 = 0x41 ∧ ∃ g st vs, t.out.getLast? = some (.serial g st vs))
  ∧ (∀ (code : Nat) (body : BitVec 448) (s : State), s.isl.st ≠ .off → s.isl.overrun = false → s.isl.level = .service → s.hubUp = true → code < 0x20 ∨ 0x41 < code →
      Answers (.camGate code body) s fun t => t.out = s.out ++ [.serial false stInvalid []] ∧ t.isl.gateTx = s.isl.gateTx)
  ∧ (∀ (body : BitVec 448) (s : State), s.isl.overrun = false → s.isl.level = .service → gateOpen s = true →
      Answers (.camGate 0x21 body) s fun t => t.capKeys.get (fld body 0 4) 0 = fld body 64 256 ∧ t.isl.gateValid = false ∧
        ∃ vs, t.out.getLast? = some (.serial true stOk vs))
  ∧ (∀ (bank off : Nat) (ws : List W256) (s : State), s.isl.st ≠ .off → s.isl.overrun = false → s.isl.level = .service → s.hubUp = true → bank < 42 ∨ 47 < bank →
      Answers (.camPut bank off ws) s fun t => t.out = s.out ++ [.serial false stInvalid []] ∧ t.bnk = s.bnk)
  ∧ (∀ (bank off : Nat) (w : W256) (s : State), s.isl.st ≠ .off → s.isl.overrun = false → s.isl.level = .service → s.hubUp = true → 42 ≤ bank → bank ≤ 47 →
      off % 32 = 0 → off / 32 < 16384 → (s.bank bank).owner = .firmware →
      Answers (.camPut bank off [w]) s fun t => bankData t bank (off / 32) = w ∧ t.out.getLast? = some (.serial true stOk []))
  ∧ (∀ (on : Bool) (s : State), s.isl.st ≠ .off → s.isl.overrun = false → s.isl.level = .service →
      Answers (.camTappriv on) s fun t => t.isl.priv = on ∧ t.out = s.out ++ [.serial true stOk []])
  ∧ (∀ s : State, s.isl.st ≠ .off → s.isl.lastInput + 600 ≤ s.isl.sec →
      exec .camIdleTimeout s = .next { s with isl := { s.isl with level := .view } })
  ∧ (∀ s : State, exec .serialBreak s = .next { s with isl := { s.isl with baud := 115200 } })
  ∧ (∀ s : State, s.isl.st ≠ .off → s.isl.sec < 2 ^ 48 - 1 → s.isl.wall < 2 ^ 64 - 1 → exec .islSecond s = .next
      { s with isl := { s.isl with sec := s.isl.sec + 1, wall := if s.isl.wall = 0 then 0 else s.isl.wall + 1 } })

/-- Registers (R499): g0 reads zero, p0 reads 1, and writes of both are discarded; another register holds what was written. NOP, comparisons, PLOG and
branches (R502, R503, R506): p[PD] takes the result, the pc its target. -/
def Obligations.QuoperRegistersAndComparisons : Prop :=
  ((∀ (p : Pair) (v : W64) (w : Bool), p.reg 0 = 0 ∧ p.setReg 0 v = p ∧ p.pred 0 = true ∧ p.setPred 0 w = p)
  ∧ (∀ (p : Pair) (i j : Nat) (v : W64), i ≠ 0 → (p.setReg i v).reg j = if j = i then v else p.reg j)
  ∧ (∀ (p : Pair) (i j : Nat) (w : Bool), i ≠ 0 → i < 8 → j < 8 → (p.setPred i w).pred j = if j = i then w else p.pred j)
  ∧ (∀ (b : Bool) (s : State) (st : PairSt) (entry i : Nat), let p := (pairOf b s).start st entry
      p.reg i = 0 ∧ (p.pred i = decide (i = 0)) ∧ p.q.find? i = none ∧ p.stat = 0))
  ∧ ((∀ (b : Bool) (q : BitVec 56) (s : State), goes b q (qNamed 0 0 0 0 0 0) s = true → exec (.qNop b q) s = .next (updPair b Pair.next s))
  ∧ (∀ (b : Bool) (q : BitVec 56) (s : State), goes b q (qNamed 31 31 31 7 0 0) s = true → ∀ c ∈ ([(0, fun x y => x == y), (1, fun x y => x != y), (2, fun x y => decide (x.toNat < y.toNat)),
      (3, fun x y => decide (y.toNat ≤ x.toNat)), (4, fun x y => decide (x.toInt < y.toInt)), (5, fun x y => decide (y.toInt ≤ x.toInt))] : List (Nat × (W64 → W64 → Bool))),
      qRd q = c.1 → exec (.qCmp b q) s = .next (updPair b (fun p => (p.setPred (qPd q) (c.2 (p.reg (qRa q)) (p.reg (qRb q)))).next) s))
  ∧ (∀ (b : Bool) (q : BitVec 56) (s : State), goes b q (qNamed 31 31 0 7 0 immAll) s = true → ∀ c ∈ ([(0, fun x y => x == y), (1, fun x y => x != y), (2, fun x y => decide (x.toNat < y.toNat)),
      (3, fun x y => decide (y.toNat ≤ x.toNat)), (4, fun x y => decide (x.toInt < y.toInt)), (5, fun x y => decide (y.toInt ≤ x.toInt))] : List (Nat × (W64 → W64 → Bool))),
      qRd q = c.1 → exec (.qCmpi b q) s = .next (updPair b (fun p => (p.setPred (qPd q) (c.2 (p.reg (qRa q)) ((BitVec.ofNat 32 (fld q 0 32)).signExtend 64))).next) s))
  ∧ (∀ (b : Bool) (q : BitVec 56) (s : State), goes b q (qNamed 31 31 31 7 0 0) s = true → 6 ≤ qRd q → exec (.qCmp b q) s = .next (malformed b q s))
  ∧ (∀ (b : Bool) (q : BitVec 56) (s : State), goes b q (qNamed 0 7 7 7 0 3) s = true → ∀ c ∈ ([(0, fun x y => x && y), (1, fun x y => x || y), (2, fun x y => x != y),
      (3, fun x y => x && !y)] : List (Nat × (Bool → Bool → Bool))), fld q 0 2 = c.1 →
      exec (.qPlog b q) s = .next (updPair b (fun p => (p.setPred (qPd q) (c.2 (p.pred (qRa q)) (p.pred (qRb q)))).next) s))
  ∧ (∀ (b : Bool) (q : BitVec 56) (s : State), goes b q (qNamed 0 0 0 0 0 immAll) s = true →
      (Answers (.qBr b q) s fun t => (((pairOf b t).pc : Int) - (pairOf b s).pc - (BitVec.ofNat 32 (fld q 0 32)).toInt) % 65536 = 0 ∧
        (pairOf b t).pc < 65536 ∧ (pairOf b t).g = (pairOf b s).g) ∧
      (Answers (.qCall b q) s fun t => (((pairOf b t).pc : Int) - (pairOf b s).pc - (BitVec.ofNat 32 (fld q 0 32)).toInt) % 65536 = 0 ∧
        (pairOf b t).pc < 65536 ∧ (pairOf b t).reg 31 = BitVec.ofNat 64 (((pairOf b s).pc + 1) % 65536)))
  ∧ (∀ (b : Bool) (q : BitVec 56) (s : State), goes b q (qNamed 0 31 0 0 0 immAll) s = true → s.seq.hookRet = none →
      exec (.qJr b q) s = .next (updPair b (fun p => { p with pc := ((p.reg (qRa q)).toNat + fld q 0 32) % 65536 }) s))
  ∧ (∀ (b : Bool) (q : BitVec 56) (r : Nat) (s : State), goesServing b q (qNamed 0 31 0 0 0 immAll) s = true → s.seq.hookRet = some r →
      Answers (.qJr b q) s fun t => (pairOf b t).pc = (((pairOf b s).reg (qRa q)).toNat + fld q 0 32) % 65536 ∧
        t.seq.hookRet = (if r = (((pairOf b s).reg (qRa q)).toNat + fld q 0 32) % 65536 then none else some r)))

/-- Guards (R502): an instruction whose guard is 0 does nothing but pass on to the next one. Malformed instructions (R501, R504): a bit that the row does
not name makes the instruction malformed: STAT is INVALID, p[PD] 0, SEQ_FAULT is raised, and the pair goes on. The standby pair (R496): what only the
serving pair may do completes DENIED there. -/
def Obligations.QuoperRefusals : Prop :=
  (∀ (b : Bool) (q : BitVec 56) (path : PathParity) (s : State), runs b s = true → (pairOf b s).pred (qPred q) = qNeg q →
    ∀ i ∈ [Instr.qNop b q, .qAdd b q, .qAddi b q, .qSub b q, .qMul b q, .qAnd b q, .qOr b q, .qXor b q, .qAndi b q, .qOri b q, .qXori b q, .qShl b q, .qShr b q,
      .qSar b q, .qRor b q, .qGfmul b q, .qMovi b q, .qMovhi b q, .qFfs b q, .qPopc b q, .qCmp b q, .qCmpi b q, .qPlog b q, .qSel b q, .qMovs b q, .qBr b q, .qCall b q,
      .qJr b q, .qLd b q path, .qSt b q path, .qLdw b q, .qStw b q, .qOwn b q, .qMpr b q, .qMpw b q, .qBind b q, .qPop b q, .qPush b q, .qQlen b q, .qTimer b q, .qWait b q,
      .qLop b q, .qLread b q, .qSevw b q, .qSevr b q, .qPwrite b q, .qPread b q, .qFence b q, .qFell b q, .qRaise b q, .qSlice b q, .qSage b q, .qSense b q,
      .qPause b q, .qRec b q, .qCper b q, .qCsamp b q, .qCrst b q, .qCsel b q, .qTally b q, .qCensus b q],
      exec i s = .next (updPair b Pair.next s))
  ∧ ((∀ (b : Bool) (q : BitVec 56) (path : PathParity) (s : State), runs b s = true → (pairOf b s).pred (qPred q) ≠ qNeg q → s.recd.input.length < 64 →
    ∀ i ∈ [(Instr.qNop b q, qNamed 0 0 0 0 0 0), (.qAdd b q, qNamed 31 31 31 0 0 0), (.qAddi b q, qNamed 31 31 0 0 0 immAll), (.qMul b q, qNamed 31 31 31 0 0 0),
      (.qShl b q, qNamed 31 31 31 0 0 63), (.qMovi b q, qNamed 31 0 0 0 0 immAll), (.qFfs b q, qNamed 31 31 0 0 0 0), (.qCmp b q, qNamed 31 31 31 7 0 0),
      (.qPlog b q, qNamed 0 7 7 7 0 3), (.qMovs b q, qNamed 31 0 0 0 0 0xFF), (.qBr b q, qNamed 0 0 0 0 0 immAll), (.qJr b q, qNamed 0 31 0 0 0 immAll),
      (.qLd b q path, qNamed 31 31 0 7 0 immAll), (.qSt b q path, qNamed 0 31 31 7 0 immAll), (.qOwn b q, qNamed 0 0 0 7 0 0x1F3F), (.qMpr b q, qNamed 31 0 0 7 1 0xFFFF),
      (.qBind b q, qNamed 0 0 15 7 0 0xFFFF), (.qPop b q, qNamed 31 31 15 7 0 immAll), (.qTimer b q, qNamed 0 31 0 7 0 15), (.qWait b q, qNamed 31 31 0 7 1 0xFFFF),
      (.qLop b q, qNamed 0 31 0 7 0 immAll), (.qFell b q, qNamed 0 31 0 7 0 0), (.qFence b q, qNamed 0 31 31 7 0 0xFF7), (.qSense b q, qNamed 31 31 0 7 0 7),
      (.qRec b q, qNamed 0 31 0 7 0 immAll), (.qCsel b q, qNamed 0 31 31 7 0 0), (.qCensus b q, qNamed 0 31 0 7 0 0)],
      q.toNat &&& i.2 ≠ q.toNat → exec i.1 s = .next (malformed b q s))
  ∧ (∀ (b : Bool) (q : BitVec 56) (s : State), (pairOf b (malformed b q s)).stat = stInvalid ∧ (qPd q ≠ 0 → (pairOf b (malformed b q s)).pred (qPd q) = false) ∧
      (pairOf b (malformed b q s)).pc = ((pairOf b s).pc + 1) % 65536 ∧ (pairOf b (malformed b q s)).g = (pairOf b s).g ∧
      Posted Kind.seqFault (hubLoc (if b then uQB0 else uQA0)) s (malformed b q s)))
  ∧ (∀ (b : Bool) (q : BitVec 56) (s : State), (pairOf b s).st = .standby → (pairOf b s).waiting = none → (pairOf b s).pred (qPred q) ≠ qNeg q →
    ∀ i ∈ [(Instr.qMpr b q, qNamed 31 0 0 7 1 0xFFFF), (.qMpw b q, qNamed 0 0 31 7 1 0xFFFF), (.qPush b q, qNamed 0 31 15 7 0 immAll), (.qLop b q, qNamed 0 31 0 7 0 immAll),
      (.qLread b q, qNamed 31 31 0 7 0 0), (.qSevw b q, qNamed 0 31 31 7 0 0), (.qSevr b q, qNamed 31 31 0 7 0 0), (.qPwrite b q, qNamed 0 31 0 7 0 0x1FFFF),
      (.qPread b q, qNamed 0 31 0 7 0 0x1FFFF), (.qFence b q, qNamed 0 31 31 7 0 0xFF7), (.qFell b q, qNamed 0 31 0 7 0 0), (.qRaise b q, qNamed 0 31 0 7 0 immAll),
      (.qSlice b q, qNamed 0 31 0 7 0 7), (.qSage b q, qNamed 31 31 0 7 0 0), (.qSense b q, qNamed 31 31 0 7 0 7), (.qPause b q, qNamed 0 31 0 7 0 15),
      (.qRec b q, qNamed 0 31 0 7 0 immAll), (.qCper b q, qNamed 0 31 0 7 0 0), (.qCsamp b q, qNamed 31 31 0 7 0 0), (.qCrst b q, qNamed 0 31 0 7 0 0),
      (.qCsel b q, qNamed 0 31 31 7 0 0), (.qTally b q, qNamed 0 31 0 7 0 0), (.qCensus b q, qNamed 0 31 0 7 0 0)],
      qClean q i.2 = true → Reports i.1 b q stDenied s s)

/-- The scalar class (R506): the value that each instruction writes to g[RD], every other register and everything outside the pair as before. -/
def Obligations.ScalarInstructionsWriteTheirValue : Prop :=
  (∀ (b : Bool) (q : BitVec 56) (s : State),
    ∀ e ∈ ([(Instr.qAdd, qNamed 31 31 31 0 0 0, fun p => p.reg (qRa q) + p.reg (qRb q)),
      (.qAddi, qNamed 31 31 0 0 0 immAll, fun p => p.reg (qRa q) + qSext q),
      (.qSub, qNamed 31 31 31 0 0 0, fun p => p.reg (qRa q) - p.reg (qRb q)),
      (.qMul, qNamed 31 31 31 0 0 0, fun p => p.reg (qRa q) * p.reg (qRb q)),
      (.qAnd, qNamed 31 31 31 0 0 0, fun p => p.reg (qRa q) &&& p.reg (qRb q)),
      (.qOr, qNamed 31 31 31 0 0 0, fun p => p.reg (qRa q) ||| p.reg (qRb q)),
      (.qXor, qNamed 31 31 31 0 0 0, fun p => p.reg (qRa q) ^^^ p.reg (qRb q)),
      (.qAndi, qNamed 31 31 0 0 0 immAll, fun p => p.reg (qRa q) &&& BitVec.ofNat 64 (fld q 0 32)),
      (.qOri, qNamed 31 31 0 0 0 immAll, fun p => p.reg (qRa q) ||| BitVec.ofNat 64 (fld q 0 32)),
      (.qXori, qNamed 31 31 0 0 0 immAll, fun p => p.reg (qRa q) ^^^ BitVec.ofNat 64 (fld q 0 32)),
      (.qShl, qNamed 31 31 31 0 0 63, fun p => p.reg (qRa q) <<< (((p.reg (qRb q)).toNat + fld q 0 6) % 64)),
      (.qShr, qNamed 31 31 31 0 0 63, fun p => p.reg (qRa q) >>> (((p.reg (qRb q)).toNat + fld q 0 6) % 64)),
      (.qSar, qNamed 31 31 31 0 0 63, fun p => (p.reg (qRa q)).sshiftRight (((p.reg (qRb q)).toNat + fld q 0 6) % 64)),
      (.qRor, qNamed 31 31 31 0 0 63, fun p => (p.reg (qRa q)).rotateRight (((p.reg (qRb q)).toNat + fld q 0 6) % 64)),
      (.qGfmul, qNamed 31 31 31 0 0 0, fun p => BitVec.ofNat 64 (gfMul (p.reg (qRa q)).toNat (p.reg (qRb q)).toNat)),
      (.qMovi, qNamed 31 0 0 0 0 immAll, fun _ => (BitVec.ofNat 32 (fld q 0 32)).signExtend 64),
      (.qMovhi, qNamed 31 31 0 0 0 immAll, fun p => BitVec.ofNat 64 (2 ^ 32 * fld q 0 32 + (p.reg (qRa q)).toNat % 2 ^ 32)),
      (.qFfs, qNamed 31 31 0 0 0 0, fun p => BitVec.ofNat 64 (ffs (p.reg (qRa q)))),
      (.qPopc, qNamed 31 31 0 0 0 0, fun p => BitVec.ofNat 64 ((List.range 64).countP (fun i => (p.reg (qRa q)).getLsbD i))),
      (.qSel, qNamed 31 31 31 7 0 0, fun p => if p.pred (qPd q) then p.reg (qRa q) else p.reg (qRb q))]
      : List ((Bool → BitVec 56 → Instr) × Nat × (Pair → W64))),
      goes b q e.2.1 s = true → exec (e.1 b q) s = .next (updPair b (fun p => (p.setReg (qRd q) (e.2.2 p)).next) s))
  ∧ (∀ v : W64, (ffs v = 64 ↔ v = 0) ∧ (v ≠ 0 → v.getLsbD (ffs v) = true ∧ ∀ i < ffs v, v.getLsbD i = false))
  ∧ (∀ (b : Bool) (q : BitVec 56) (s : State), goes b q (qNamed 31 0 0 0 0 0xFF) s = true → fld q 0 32 ≤ 11 →
      exec (.qMovs b q) s = .next (updPair b (fun p => (p.setReg (qRd q) (qSpecial b s (fld q 0 32))).next) s))

/-- The memory class (R422, R425, R426, R507): 8 B and 32 B accesses to banks that the pair's role owns, one whose path parity fails twice, banks handed
on, and hub-resident registers. -/
def Obligations.QuoperMemoryClass : Prop :=
  (∀ (b : Bool) (q : BitVec 56) (path : PathParity) (a : Nat) (w : W256) (s : State), goes b q (qNamed 31 31 0 7 0 immAll) s = true →
      qAddr b q s = a → a % 8 = 0 → a >>> 19 ≤ 47 → path ≠ .failed →
      ownsBank b s (a >>> 19) = true → s32Dec (bankWord s (a >>> 19) (a % 2 ^ 19 / 32)) = (w, .ok) →
      exec (.qLd b q path) s = .next (updPair b (fun p => ({ p.setReg (qRd q) (BitVec.ofNat 64 (fld w (8 * (a % 32)) 64)) with bankErr := 0 }).report q stOk) s))
  ∧ (∀ (b : Bool) (q : BitVec 56) (path : PathParity) (s : State), goes b q (qNamed 31 31 0 7 0 immAll) s = true → qAddr b q s % 8 ≠ 0 ∨ 47 < qAddr b q s >>> 19 → Reports (.qLd b q path) b q stInvalid s s)
  ∧ (∀ (b : Bool) (q : BitVec 56) (path : PathParity) (s : State), goes b q (qNamed 31 31 0 7 0 immAll) s = true → qAddr b q s % 8 = 0 → qAddr b q s >>> 19 ≤ 47 →
      ownsBank b s (qAddr b q s >>> 19) = false → Reports (.qLd b q path) b q stDenied s (countHub 193 1 s))
  ∧ (∀ (b : Bool) (q : BitVec 56) (s : State), goes b q (qNamed 31 31 0 7 0 immAll) s = true → addrCheck b s (qAddr b q s) 8 = stOk →
      Answers (.qLd b q .failed) s fun t => (pairOf b t).stat = stSuspect ∧ (pairOf b t).bankErr = 1 ∧
        (s.col.flight.length < t.col.flight.length ∧ (t.col.flight.getLast?).any (fun f => msgKind f.msg == Kind.hmParity) = true))
  ∧ (∀ (b : Bool) (q : BitVec 56) (s : State), goes b q (qNamed 0 31 31 7 0 immAll) s = true → addrCheck b s (qAddr b q s) 8 = stOk →
      Answers (.qSt b q .failed) s fun t => (pairOf b t).stat = stOk ∧ t.bnk = s.bnk ∧ Posted Kind.hmParity (hubLoc uBanks) s t)
  ∧ (∀ (b : Bool) (q : BitVec 56) (path : PathParity) (a : Nat) (s : State), goes b q (qNamed 0 31 31 7 0 immAll) s = true → qAddr b q s = a →
      a % 8 = 0 → a >>> 19 ≤ 47 → path ≠ .failed →
      ownsBank b s (a >>> 19) = true → Reports (.qSt b q path) b q stOk s (bankWrite (a >>> 19) (a % 2 ^ 19) 8 (gB b q s) s))
  ∧ (∀ (b : Bool) (q : BitVec 56) (a : Nat) (w : W256) (s : State), goes b q (qNamed 31 31 0 7 0 immAll) s = true → qRd q % 4 = 0 → 4 ≤ qRd q → qAddr b q s = a →
      a % 32 = 0 → a >>> 19 ≤ 47 → ownsBank b s (a >>> 19) = true → s32Dec (bankWord s (a >>> 19) (a % 2 ^ 19 / 32)) = (w, .ok) →
      Answers (.qLdw b q) s fun t => (pairOf b t).stat = stOk ∧ (pairOf b t).bankErr = 0 ∧ t.bnk = s.bnk ∧
        ∀ l < 4, (pairOf b t).reg (qRd q + l) = BitVec.ofNat 64 (fld w (64 * l) 64))
  ∧ (∀ (b : Bool) (q : BitVec 56) (a l : Nat) (s : State), goes b q (qNamed 0 31 31 7 0 immAll) s = true → qRb q % 4 = 0 → 4 ≤ qRb q → qAddr b q s = a →
      a % 32 = 0 → a >>> 19 ≤ 47 → ownsBank b s (a >>> 19) = true → l < 4 →
      Answers (.qStw b q) s fun t => (pairOf b t).stat = stOk ∧ fld (bankData t (a >>> 19) (a % 2 ^ 19 / 32)) (64 * l) 64 = ((pairOf b s).reg (qRb q + l)).toNat ∧
        ∀ k w, 16384 * k + w ≠ 16384 * (a >>> 19) + a % 2 ^ 19 / 32 → bankWord t k w = bankWord s k w)
  ∧ (∀ (b : Bool) (q : BitVec 56) (o : Owner) (s : State), goesServing b q (qNamed 0 0 0 7 0 0x1F3F) s = true → Owner.ofCode (fld q 8 4) = some o →
      mayPass s (fld q 0 6) o (bitAt q 12) = true → Answers (.qOwn b q) s fun t => (pairOf b t).stat = stOk ∧ (t.bank (fld q 0 6)).owner = o)
  ∧ (∀ (b : Bool) (q : BitVec 56) (o : Owner) (s : State), goesServing b q (qNamed 0 0 0 7 0 0x1F3F) s = true → Owner.ofCode (fld q 8 4) = some o →
      mayPass s (fld q 0 6) o (bitAt q 12) = false → Reports (.qOwn b q) b q stInvalid s s)
  ∧ (∀ (b : Bool) (q : BitVec 56) (s : State), goesServing b q (qNamed 31 0 0 7 1 0xFFFF) s = true → s.hubUp = true → badOffset (fld q 0 16) (!qX q) = false →
      islandOffset (fld q 0 16) = false → ReportsValue (.qMpr b q) b q stOk (mValue s (fld q 0 16 / 8 * 8) (halves (fld q 0 16) (!qX q))) s
        (mReadFx (fld q 0 16 / 8 * 8) (halves (fld q 0 16) (!qX q)) s))
  ∧ (∀ (b : Bool) (q : BitVec 56) (s : State), goesServing b q (qNamed 31 0 0 7 1 0xFFFF) s = true → badOffset (fld q 0 16) (!qX q) = false →
      islandOffset (fld q 0 16) = true → Reports (.qMpr b q) b q stDenied s s)
  ∧ (∀ (b : Bool) (q : BitVec 56) (s : State), goesServing b q (qNamed 0 0 31 7 1 0xFFFF) s = true → s.hubUp = true → badOffset (fld q 0 16) (!qX q) = false →
      islandOffset (fld q 0 16) = false → Reports (.qMpw b q) b q stOk s (mWrite (fld q 0 16 / 8 * 8) (halves (fld q 0 16) (!qX q)) (placed (fld q 0 16) (!qX q) (gB b q s)) s))

/-- The queue class, timers and WAIT (R508, R509, R513). -/
def Obligations.QuoperQueuesTimersAndWait : Prop :=
  (∀ (b : Bool) (q : BitVec 56) (s : State), goesServing b q (qNamed 0 0 15 7 0 0xFFFF) s = true → queueKnown (fld q 0 32) = true →
      exec (.qBind b q) s = .next (updPair b (fun p => ({ p with q := p.q.put (qHandle q) (fld q 0 32) }).report q stOk) s))
  ∧ (∀ (b : Bool) (q : BitVec 56) (s : State), goes b q (qNamed 0 0 15 7 0 0xFFFF) s = true → queueKnown (fld q 0 32) = false → Reports (.qBind b q) b q stInvalid s s)
  ∧ (∀ (b : Bool) (q : BitVec 56) (s : State), goes b q (qNamed 0 0 15 7 0 0xFFFF) s = true → serves b s = false → queueKnown (fld q 0 32) = true → fld q 0 32 ≠ 2 →
      Reports (.qBind b q) b q stDenied s s)
  ∧ (∀ (b : Bool) (q : BitVec 56) (id n v : Nat) (s : State), goes b q (qNamed 31 31 15 7 0 immAll) s = true → (pairOf b s).q.find? (qHandle q) = some id → poppable id = true →
      queueHead b s id = some (n, v) → opCheck b s (qAddr b q s) n = stOk →
      ReportsValue (.qPop b q) b q stOk n s (queueDrop b id (opWrite (qAddr b q s) n v s)))
  ∧ (∀ (b : Bool) (q : BitVec 56) (id : Nat) (s : State), goes b q (qNamed 31 31 15 7 0 immAll) s = true → (pairOf b s).q.find? (qHandle q) = some id → poppable id = true →
      queueHead b s id = none → Reports (.qPop b q) b q stEmpty s s)
  ∧ (∀ (b : Bool) (q : BitVec 56) (r : W256) (s : State), goesServing b q (qNamed 0 31 15 7 0 immAll) s = true → (pairOf b s).q.find? (qHandle q) = some 4 →
      opCheck b s (qAddr b q s) 32 = stOk → opRead (qAddr b q s) 32 s = (r.toNat, false, s) → uopKnown (fld r 0 8) = true → fld r 12 4 = 0 → fld r 224 32 = 0 →
      (s.comp (fld r 8 4)).st ≠ .stopped → s.seq.requests = [] → Reports (.qPush b q) b q stOk s { s with seq := { s.seq with requests := [r] } })
  ∧ (∀ (b : Bool) (q : BitVec 56) (id : Nat) (s : State), goesServing b q (qNamed 0 31 15 7 0 immAll) s = true → (pairOf b s).q.find? (qHandle q) = some id → pushable id = false →
      Reports (.qPush b q) b q stInvalid s s)
  ∧ (∀ (b : Bool) (q : BitVec 56) (id : Nat) (s : State), goes b q (qNamed 31 0 15 7 0 0) s = true → (pairOf b s).q.find? (qHandle q) = some id →
      ReportsValue (.qQlen b q) b q stOk (queueLen b s id) s s)
  ∧ (∀ (b : Bool) (q : BitVec 56) (s : State), goes b q (qNamed 0 31 0 7 0 15) s = true → gA b q s = 0 →
      Answers (.qTimer b q) s fun t => (pairOf b t).timers.find? (fld q 0 4) = none ∧ (pairOf b t).stat = stOk)
  ∧ (∀ (b : Bool) (q : BitVec 56) (s : State), goes b q (qNamed 0 31 0 7 0 15) s = true → s.et < gA b q s →
      Answers (.qTimer b q) s fun t => (pairOf b t).timers.find? (fld q 0 4) = some (gA b q s) ∧ (pairOf b t).stat = stOk ∧ t.seq.forming = s.seq.forming)
  ∧ (∀ (b : Bool) (q : BitVec 56) (s : State), goesServing b q (qNamed 0 31 0 7 0 15) s = true → gA b q s ≠ 0 → gA b q s ≤ s.et →
      Answers (.qTimer b q) s fun t => (pairOf b t).timers.find? (fld q 0 4) = none ∧ ∃ r, t.seq.forming = s.seq.forming ++ [r] ∧ fld r 0 8 = 0x50 ∧ fld r 64 64 = fld q 0 4)
  ∧ (∀ (b : Bool) (n t0 : Nat) (s : State), (pairOf b s).timers.find? n = some t0 → t0 ≤ s.et → serves b s = true → n < 16 →
      Answers (.timerExpiry b n) s fun t => (pairOf b t).timers.find? n = none ∧ ∃ r, t.seq.forming = s.seq.forming ++ [r] ∧ fld r 0 8 = 0x50 ∧ fld r 64 64 = n)
  ∧ (∀ (b : Bool) (n t0 : Nat) (s : State), (pairOf b s).timers.find? n = some t0 → t0 ≤ s.et → serves b s = false → n < 16 → s.seq.sysStandby.length < 16 →
      Answers (.timerExpiry b n) s fun t => (pairOf b t).timers.find? n = none ∧ t.seq.sysStandby = s.seq.sysStandby ++ [sysEntry 6 n s.et])
  ∧ (∀ (b : Bool) (n t0 : Nat) (s : State), (pairOf b s).timers.find? n = some t0 → s.et < t0 → exec (.timerExpiry b n) s = .next s)
  ∧ (∀ (b : Bool) (q : BitVec 56) (h : Nat) (s : State), goes b q (qNamed 31 31 0 7 1 0xFFFF) s = true → s.seq.handover = none → qRd q ≠ 0 →
      (List.range 16).any (fun h => (fld q 0 32).testBit h && !(pairOf b s).q.has h) = false → readyHandle b s (fld q 0 32) = some h →
      Answers (.qWait b q) s fun t => (pairOf b t).waiting = none ∧ (pairOf b t).stat = stOk ∧ (pairOf b t).reg (qRd q) = BitVec.ofNat 64 h ∧ (pairOf b t).turnStart = some s.et)
  ∧ (∀ (b : Bool) (q : BitVec 56) (s : State), goes b q (qNamed 31 31 0 7 1 0xFFFF) s = true → s.seq.handover = none → s.et < gA b q s →
      (List.range 16).any (fun h => (fld q 0 32).testBit h && !(pairOf b s).q.has h) = false → readyHandle b s (fld q 0 32) = none →
      Answers (.qWait b q) s fun t => (pairOf b t).waiting = some ⟨fld q 0 32, qRd q, qPd q, gA b q s, qX q⟩ ∧ (pairOf b t).stat = (pairOf b s).stat)
  ∧ (∀ (b : Bool) (q : BitVec 56) (s : State), goes b q (qNamed 31 31 0 7 1 0xFFFF) s = true → fld q 0 32 = 0 → gA b q s = 0 →
      Answers (.qWait b q) s fun t => (pairOf b t).waiting = none ∧ (pairOf b t).stat = stInvalid)

/-- The instructions on the block's units (R515–R519; what an operand must be aligned to is log entry 21): a status, and for some a value. -/
def Obligations.QuoperUnitClasses : Prop :=
  (∀ (b : Bool) (q : BitVec 56) (v : Nat) (s : State), goesServing b q (qNamed 0 31 0 7 0 immAll) s = true → opCheck b s (qAddr b q s) 16 = stOk →
      opRead (qAddr b q s) 16 s = (v, false, s) → lopHere s (BitVec.ofNat 128 v) = true → lopReply (BitVec.ofNat 128 v) = false →
      Reports (.qLop b q) b q (latchApply s.die true (BitVec.ofNat 128 v) s).1 s (latchApply s.die true (BitVec.ofNat 128 v) s).2.2)
  ∧ (∀ (b : Bool) (q : BitVec 56) (s : State), goesServing b q (qNamed 31 31 0 7 0 0) s = true → gA b q s ≤ 131071 →
      ReportsValue (.qLread b q) b q stOk (latchWord s (gA b q s)) s s)
  ∧ (∀ (b : Bool) (q : BitVec 56) (s : State), goesServing b q (qNamed 31 31 0 7 0 0) s = true → 131071 < gA b q s → Reports (.qLread b q) b q stInvalid s s)
  ∧ (∀ (b : Bool) (q : BitVec 56) (s : State), goesServing b q (qNamed 0 31 31 7 0 0) s = true → Kind.floor (gA b q s % 4096) ≤ gB b q s % 8 →
      Answers (.qSevw b q) s fun t => (pairOf b t).stat = stOk ∧ sevEntry t (gA b q s / 4096 % 8) (gA b q s % 4096) = gB b q s % 64)
  ∧ (∀ (b : Bool) (q : BitVec 56) (s : State), goesServing b q (qNamed 0 31 31 7 0 0) s = true → gB b q s % 8 < Kind.floor (gA b q s % 4096) → Reports (.qSevw b q) b q stInvalid s s)
  ∧ (∀ (b : Bool) (q : BitVec 56) (s : State), goesServing b q (qNamed 31 31 0 7 0 0) s = true →
      ReportsValue (.qSevr b q) b q stOk (sevEntry s (gA b q s / 4096 % 8) (gA b q s % 4096)) s s)
  ∧ (∀ (b : Bool) (q : BitVec 56) (v : Nat) (s : State), goesServing b q (qNamed 0 31 0 7 0 0x1FFFF) s = true → recordLen (polTarget q).1 ≠ 0 →
      opCheck b s (gA b q s) (recordLen (polTarget q).1) = stOk → opRead (gA b q s) (recordLen (polTarget q).1) s = (v, false, s) →
      Reports (.qPwrite b q) b q (putRecord (polTarget q).1 (polTarget q).2 v s).1 s (putRecord (polTarget q).1 (polTarget q).2 v s).2)
  ∧ (∀ (b : Bool) (q : BitVec 56) (s : State), goesServing b q (qNamed 0 31 0 7 0 0x1FFFF) s = true → recordLen (polTarget q).1 ≠ 0 → (polTarget q).2 ≤ 16 →
      opCheck b s (gA b q s) (recordLen (polTarget q).1) = stOk →
      Reports (.qPread b q) b q stOk s (opWrite (gA b q s) (recordLen (polTarget q).1) (readRecord s (polTarget q).1 (polTarget q).2) s))
  ∧ (∀ (b : Bool) (q : BitVec 56) (s : State), goesServing b q (qNamed 0 31 31 7 0 0xFF7) s = true → named (gLoc b q s) ≠ .invalid → fld q 0 3 = 2 →
      Answers (.qFence b q) s fun t => (pairOf b t).stat = stOk ∧ (gLoc b q s).toNat ∈ t.col.suspects ∧ t.col.fences = s.col.fences)
  ∧ (∀ (b : Bool) (q : BitVec 56) (s : State), goesServing b q (qNamed 0 31 31 7 0 0xFF7) s = true → named (gLoc b q s) ≠ .invalid → fld q 0 3 = 0 → 3 ≤ fld q 4 3 →
      Reports (.qFence b q) b q stOk s (orderReaction (fld q 4 3) (gB b q s % 4096) (if bitAt q 7 then some (fld q 8 4) else none) (gLoc b q s) s))
  ∧ (∀ (b : Bool) (q : BitVec 56) (s : State), goesServing b q (qNamed 0 31 0 7 0 0) s = true → fellable (gLoc b q s) = true → felled s (gLoc b q s) = true →
      Reports (.qFell b q) b q stFenced s s)
  ∧ (∀ (b : Bool) (q : BitVec 56) (s : State), goesServing b q (qNamed 0 31 0 7 0 0) s = true → fellable (gLoc b q s) = true → felled s (gLoc b q s) = false →
      Reports (.qFell b q) b q stOk s (fellLocus (gLoc b q s) s))
  ∧ (∀ (b : Bool) (q : BitVec 56) (v : Nat) (s : State), goesServing b q (qNamed 0 31 0 7 0 immAll) s = true → opCheck b s (qAddr b q s) 16 = stOk →
      opRead (qAddr b q s) 16 s = (v, false, s) → v % 4096 ≠ 0 →
      Answers (.qRaise b q) s fun t => (pairOf b t).stat = stOk ∧ ∃ m u on, t.col.flight = s.col.flight ++ [{ link := 33, unit := u, msg := m, floodOn := on }] ∧ fld m 0 12 = v % 4096 ∧ fld m 12 3 = 5)
  ∧ (∀ (b : Bool) (q : BitVec 56) (tg : Nat) (p : Pack) (s : State), goesServing b q (qNamed 0 31 0 7 0 7) s = true → targetOf (gLoc b q s) = some tg →
      s.scr.packs.find? (fld q 0 3) = some p → p.target = tg → felled s (gLoc b q s) = false → s.scr.directed = [] →
      Reports (.qSlice b q) b q stOk s { s with scr := { s.scr with directed := [⟨gLoc b q s, fld q 0 3⟩] } })
  ∧ (∀ (b : Bool) (q : BitVec 56) (s : State), goesServing b q (qNamed 31 31 0 7 0 0) s = true → (targetOf (gLoc b q s)).isSome = true →
      ReportsValue (.qSage b q) b q stOk (ageOf s (gLoc b q s) / 400000) s s)
  ∧ (∀ (b : Bool) (q : BitVec 56) (s : State), goesServing b q (qNamed 31 31 0 7 0 7) s = true →
      (fld q 0 32 = 0 → gA b q s < 192 → ReportsValue (.qSense b q) b q stOk (sensorReg s (gA b q s)) s s) ∧
      (fld q 0 32 = 3 → gA b q s < 19 → ReportsValue (.qSense b q) b q stOk (Tbl.get s.thm.railCopy (gA b q s) 0) s s) ∧
      (4 ≤ fld q 0 32 → Reports (.qSense b q) b q stInvalid s s))
  ∧ (∀ (b : Bool) (q : BitVec 56) (s : State), goesServing b q (qNamed 0 31 0 7 0 15) s = true → gA b q s ≤ 15 →
      Answers (.qPause b q) s fun t => (pairOf b t).stat = stOk ∧ t.rf (fFloor (gA b q s)) = fld q 0 4)
  ∧ (∀ (b : Bool) (q : BitVec 56) (v : Nat) (s : State), goesServing b q (qNamed 0 31 0 7 0 immAll) s = true → s.recd.input = [] → opCheck b s (qAddr b q s) 64 = stOk →
      opRead (qAddr b q s) 64 s = (v, false, s) → recType (BitVec.ofNat 512 v) = 1 → 0 < (bucketOf s (recCode (BitVec.ofNat 512 v))).tokens →
      Reports (.qRec b q) b q stOk s (pushRec false (BitVec.ofNat 512 v) s))
  ∧ (∀ (b : Bool) (q : BitVec 56) (s : State), goesServing b q (qNamed 0 31 0 7 0 immAll) s = true → 64 ≤ s.recd.input.length → exec (.qRec b q) s = .next s)
  ∧ (∀ (b : Bool) (q : BitVec 56) (v : Nat) (s : State), goesServing b q (qNamed 0 31 0 7 0 0) s = true → opCheck b s (gA b q s) 128 = stOk →
      opRead (gA b q s) 128 s = (v, false, s) → s.recd.cper.length < 32 →
      Reports (.qCper b q) b q stOk s { s with recd := { s.recd with cper := s.recd.cper ++ [cperRecord s v] } })
  ∧ (∀ (b : Bool) (q : BitVec 56) (s : State), goesServing b q (qNamed 31 31 0 7 0 0) s = true → ctrStatus s (gA b q s) = stOk →
      ReportsValue (.qCsamp b q) b q stOk (sampleOf s (gA b q s) false) s s)
  ∧ (∀ (b : Bool) (q : BitVec 56) (s : State), goesServing b q (qNamed 31 31 0 7 0 0) s = true → 9087 < gA b q s → Reports (.qCsamp b q) b q stInvalid s s)
  ∧ (∀ (b : Bool) (q : BitVec 56) (s : State), goesServing b q (qNamed 0 31 0 7 0 0) s = true → ctrStatus s (gA b q s) = stOk →
      Answers (.qCrst b q) s fun t => (pairOf b t).stat = stOk ∧ sampleOf t (gA b q s) false = ctrEntry Ctr.zero false true)
  ∧ (∀ (b : Bool) (q : BitVec 56) (s : State), goesServing b q (qNamed 0 31 31 7 0 0) s = true → ctrStatus s (gA b q s) = stOk →
      selSuits (gA b q s) (gB b q s % 32) (gB b q s / 32 % 64) (gB b q s / 4096 % 4096) = true →
      Reports (.qCsel b q) b q stOk s (setSel (gA b q s) (gB b q s % 32) (gB b q s / 32 % 64) (gB b q s / 4096 % 4096) s))
  ∧ (∀ (b : Bool) (q : BitVec 56) (tt : Nat) (s : State), goesServing b q (qNamed 0 31 0 7 0 0) s = true → orderTick s.et (freezeTicks s) (gA b q s) = some tt →
      (freeTally s).isSome = true → s.obs.orders = [] →
      Answers (.qTally b q) s fun t => (pairOf b t).stat = stOk ∧ ∃ o, t.obs.orders = [o] ∧ o.t = tt)
  ∧ (∀ (b : Bool) (q : BitVec 56) (s : State), goesServing b q (qNamed 0 31 0 7 0 0) s = true → orderTick s.et (freezeTicks s) (gA b q s) = none →
      Reports (.qTally b q) b q stLate s s ∧ Reports (.qCensus b q) b q stLate s s)
  ∧ (∀ (b : Bool) (q : BitVec 56) (tt : Nat) (s : State), goesServing b q (qNamed 0 31 0 7 0 0) s = true → orderTick s.et (freezeTicks s) (gA b q s) = some tt →
      Reports (.qCensus b q) b q stOk s { s with obs := { s.obs with census := s.obs.census ++ [⟨tt, 0, .management⟩] } })

/-- The queue of commands: a step takes the command in front, and with none waiting the clock moves by one tick, which is the model's choice (log entry
2); no row's word spells a command, since the table gives its rows no bits (log entry 1). -/
def Obligations.StepTakesTheCommandInFront : Prop :=
  (∀ (c : Instr) (rest : List Instr) (s : State), step { s with pending := c :: rest } = exec c { s with pending := rest })
  ∧ (∀ s : State, s.pending = [] → step s = .next (clockTick s))
  ∧ (∀ (nbits w : Nat) (s : State), decodeTableWord nbits w = none ∧ s.withFetchWord nbits w = s)

/-- Reset (R14, R17, R592; the registers that the spec gives no reset value hold what log entry 3 names): the block is OFF, nothing waits and nothing has
left it, both memories have their canonical form, and register fields hold their reset values. -/
def Obligations.ResetIsOff : Prop :=
  State.reset.isl.st = .off ∧ State.reset.pending = [] ∧ State.reset.out = [] ∧ State.reset.canonical = true ∧ State.reset.hubUp = false
  ∧ (∀ f : RF, State.reset.rf f = f.reset % 2 ^ f.len) ∧ (∀ c, (State.reset.comp c).st = .closed) ∧ State.reset.isl.baud = 115200
  ∧ State.reset.isl.level = .view ∧ (∀ k w, bankWord State.reset k w = 0)

/-- Every step answers a next state, and keeps the canonical form of both addressed memories (R416, R480; log entry 10), the fuses, whether the cellar's
device is fitted, what has left the block, and the order of the commands that wait. -/
def Obligations.EveryStepKeepsTheMemoriesAndTheQueue : Prop :=
  ∀ s : State, ∃ t, step s = .next t ∧ (s.canonical = true → t.canonical = true) ∧ t.pending = s.pending.drop 1 ∧ t.fuse = s.fuse ∧
    t.recd.cellarAbsent = s.recd.cellarAbsent ∧ s.out <+: t.out

/-- Only the events of R592, the requests to open, close and seal, and accesses that name a register by number change the block's state. Only what decides
a fell changes the fell map in use (R288, R381, R515), and only image loads change a program bank (R605, R607). Only their own commands change the
console's level (R614), the severity table (R276), ET (R316, R324, R326) and the power-fail warning (R55, R604). -/
def Obligations.OnlyTheirCommandsChangeTheMachinesModes : Prop :=
  ((∀ (c : Instr) (s t : State), changesBlock c = false → exec c s = .next t → t.isl.st = s.isl.st)
  ∧ (∀ s : State, (clockTick s).isl.st = s.isl.st))
  ∧ ((∀ (c : Instr) (s t : State), fellsUnits c = false → exec c s = .next t → t.col.fell = s.col.fell)
  ∧ (∀ (c : Instr) (s t : State), loadsProgram c = false → exec c s = .next t → t.seq.prog = s.seq.prog)
  ∧ (∀ s : State, (clockTick s).col.fell = s.col.fell ∧ (clockTick s).seq.prog = s.seq.prog))
  ∧ ((∀ (c : Instr) (s t : State), changesLevel c = false → exec c s = .next t → t.isl.level = s.isl.level)
  ∧ (∀ (c : Instr) (s t : State), changesSeverity c = false → exec c s = .next t → t.col.sev = s.col.sev)
  ∧ (∀ (c : Instr) (s t : State), changesTime c = false → exec c s = .next t → t.tim.et = s.tim.et)
  ∧ (∀ (c : Instr) (s t : State), changesPowerFail c = false → exec c s = .next t → t.isl.pf = s.isl.pf)
  ∧ (∀ s : State, (clockTick s).isl.level = s.isl.level ∧ (clockTick s).col.sev = s.col.sev ∧ (clockTick s).isl.pf = s.isl.pf))

/-- The frame of every command and of the clock's tick: a part of the state that `reaches` does not list for it is as before, the bytes of the cellar and
the words of the hub banks among the parts. -/
def Obligations.CommandsLeaveOtherPartsAlone : Prop :=
  (∀ (c : Instr) (p : Part) (s t : State), (reaches c).contains p = false → exec c s = .next t → p.same s t)
  ∧ (∀ (p : Part) (s : State), p ∉ [Part.tim, .gov, .obs] → p.same s (clockTick s))

/-- Localisation (R86): an element error whose column sums are rotated by its place is found at that place, with no other reading. -/
def Obligations.ElementErrorsAreLocated : Prop :=
  (∀ d i j : Nat, 0 < d → d < m61 → i < 61 → j < 61 → localise d (d * 2 ^ i % m61) (d * 2 ^ j % m61) = .element i j)
  ∧ (∀ d x i : Nat, 0 < d → d < m61 → i < 61 → (∀ j < 61, d * 2 ^ j % m61 ≠ x) →
      localise d (d * 2 ^ i % m61) x = .row i ∧ localise d x (d * 2 ^ i % m61) = .column i)
  ∧ (∀ x y : Nat, localise 0 x y = if x = 0 ∧ y = 0 then .ok else .multiple)

/-- Candidates (R87): the rows or columns of a located class within the tile, and how many there can be. -/
def Obligations.CandidatesOfALocatedClass : Prop :=
  (∀ t bound i : Nat, t < 61 → (i ∈ cands t bound ↔ i < bound ∧ ∃ q, i = t + 61 * q))
  ∧ (∀ t : Nat, (cands t 256).length ≤ 5 ∧ (cands t 1024).length ≤ 17)

/-- The symbol code (R416, R417): an encoded word decodes to itself, and an error confined to one of its 36 symbols is corrected. -/
def Obligations.SymbolCodeCorrectsOneSymbol : Prop :=
  (∀ d : W256, s32Dec (s32Enc d) = (d, .ok))
  ∧ (∀ (d : W256) (p e : Nat), p < 32 → 0 < e → e < 256 → s32Dec (s32Enc d ^^^ BitVec.ofNat 288 (e * 2 ^ (8 * p))) = (d, .corrected))
  ∧ (∀ (d : W256) (p e : Nat), 32 ≤ p → p < 36 → 0 < e → e < 256 → s32Dec (s32Enc d ^^^ BitVec.ofNat 288 (e * 2 ^ (8 * p))) = (d, .corrected))

/-- A hub-resident register while the hub does not answer (R47): a read returns zero, a write is dropped, and both set ACC_ERR and nothing else. -/
def Obligations.HubRegistersWithoutTheHub : Prop :=
  (∀ (o : Nat) (wide write : Bool) (v : W64) (s : State), s.isl.st ≠ .off → s.hubUp = false → islandOffset o = false → badOffset o wide = false →
      exec (.mreg o wide write v) s = .next (emit (.mPage 1 0) { s with isl := { s.isl with accErr := true } }))
  ∧ (∀ (c o : Nat) (wide : Bool) (v : W64) (s : State), s.isl.st ≠ .off → s.hubUp = false → islandOffset o = false → badOffset o wide = false →
      exec (.registerWrite false wide c o v) s = .next { s with isl := { s.isl with accErr := true } })

/-- Keys (R487): REC_KEY is taken exactly where the fuses accept the key for its slot; and what VDD_CORE's fall leaves holds no key. -/
def Obligations.RecorderKeysNeedTheirFuse : Prop :=
  (∀ (tag : Nat) (body : BitVec 448) (key : List Byte) (s : State), gateOpen s = true → gateSrc s (fld body 64 64) 96 = some key →
      Answers (.recKey tag body) s fun t => t.recd.keys = (if fuseAccepts s (fld body 0 2) key then s.recd.keys.put (fld body 0 2) (BitVec.ofNat 768 (ofBytes key)) else s.recd.keys) ∧
        fld t.isl.gateRx 32 4 = if fuseAccepts s (fld body 0 2) key then stOk else stDenied)
  ∧ (∀ (bits : BitVec 16) (s : State), s.hubUp = true → s.isl.corePg &&& bits ≠ 0 → s.isl.corePg &&& ~~~bits = 0 →
      Answers (.corePgFall bits) s fun t => t.recd.keys = [])
  ∧ (∀ (slot : Nat) (key : List Byte) (s : State), slot < 4 → (fuseAccepts s slot key = true ↔ s.fuse.revoked.getLsbD slot = false ∧ s.fuse.keyHash.find? slot = some (sha384 key)))

/-- Rate limits (R476): a FAULT record of severity 5 to 7 and the records of clears, ET steps, power fail, states and freezes are never limited. -/
def Obligations.SomeRecordsAreNeverLimited : Prop :=
  (∀ r : BitVec 512, unlimited r = true ↔ (recType r = 1 ∧ 5 ≤ recSev r) ∨ (recType r = 2 ∧ recCode r ∈ [Kind.recClear, Kind.recEtStep, Kind.recPf, Kind.recState, Kind.recFreeze]))
  ∧ (∀ (r : BitVec 512) (rest : List (BitVec 512)) (s : State), s.hubUp = true → s.recd.running = true → s.recd.pfHold = false → s.recd.input = r :: rest →
      unlimited r = true → Answers .recordWrite s fun t => t.recd.rseq = s.recd.rseq + 1 ∧ t.recd.input = rest ∧
        (bucketOf t (recCode r)).tokens = (bucketOf s (recCode r)).tokens)
end

