-- ==== Sys2Proof/Laws/Table.lean ====
section
/-! SUPPORT. Sparse tables: a read after a write, and the canonical form that every write keeps. -/
namespace Sys2Proof.Machine

variable {α : Type}

/-- Every key of a table lies above `k`. -/
def Tbl.above (k : Nat) (t : Tbl α) : Prop := ∀ e ∈ t, k < e.1

theorem Tbl.sorted_cons (k : Nat) (v : α) (r : Tbl α) : Tbl.sorted ((k, v) :: r) = true ↔ Tbl.above k r ∧ Tbl.sorted r = true := by
  induction r generalizing k v with
  | nil => simp [Tbl.sorted, Tbl.above]
  | cons e r ih =>
    obtain ⟨l, w⟩ := e
    have h := ih l w
    simp only [Tbl.sorted, Bool.and_eq_true, decide_eq_true_eq, Tbl.above, List.mem_cons, forall_eq_or_imp] at h ⊢
    constructor
    · rintro ⟨hk, hs⟩
      exact ⟨⟨hk, fun e he => Nat.lt_trans hk ((h.1 hs).1 e he)⟩, hs⟩
    · rintro ⟨⟨hk, _⟩, hs⟩
      exact ⟨hk, hs⟩

theorem Tbl.put_mem (t : Tbl α) (i : Nat) (v : α) : ∀ e ∈ Tbl.put t i v, e = (i, v) ∨ e ∈ t := by
  induction t with
  | nil => simp [Tbl.put]
  | cons e r ih =>
    obtain ⟨k, w⟩ := e
    intro x hx
    unfold Tbl.put at hx
    split at hx
    · simpa using hx
    · split at hx
      · rcases List.mem_cons.1 hx with rfl | h
        · exact .inl rfl
        · exact .inr (List.mem_cons_of_mem _ h)
      · rcases List.mem_cons.1 hx with rfl | h
        · exact .inr (List.mem_cons_self ..)
        · exact (ih x h).imp_right (List.mem_cons_of_mem _)

theorem Tbl.del_mem (t : Tbl α) (i : Nat) : ∀ e ∈ Tbl.del t i, e ∈ t := fun _ he => (List.mem_filter.1 he).1

theorem Tbl.put_sorted (t : Tbl α) (i : Nat) (v : α) (h : Tbl.sorted t = true) : Tbl.sorted (Tbl.put t i v) = true := by
  induction t with
  | nil => rfl
  | cons e r ih =>
    obtain ⟨k, w⟩ := e
    obtain ⟨ha, hs⟩ := (Tbl.sorted_cons k w r).1 h
    unfold Tbl.put
    split
    · rename_i hlt
      exact (Tbl.sorted_cons _ _ _).2 ⟨fun e he => by rcases List.mem_cons.1 he with rfl | h'
                                                      · exact hlt
                                                      · exact Nat.lt_trans hlt (ha e h'), h⟩
    · split
      · rename_i heq
        exact (Tbl.sorted_cons _ _ _).2 ⟨heq ▸ ha, hs⟩
      · refine (Tbl.sorted_cons _ _ _).2 ⟨fun e he => ?_, ih hs⟩
        rcases Tbl.put_mem r i v e he with rfl | h'
        · show k < i; omega
        · exact ha e h'

theorem Tbl.filter_sorted (t : Tbl α) (p : Nat × α → Bool) (h : Tbl.sorted t = true) : Tbl.sorted (t.filter p) = true := by
  induction t with
  | nil => rfl
  | cons e r ih =>
    obtain ⟨k, w⟩ := e
    obtain ⟨ha, hs⟩ := (Tbl.sorted_cons k w r).1 h
    rw [List.filter_cons]
    split
    · exact (Tbl.sorted_cons _ _ _).2 ⟨fun e he => ha e ((List.mem_filter.1 he).1), ih hs⟩
    · exact ih hs

theorem Tbl.del_sorted (t : Tbl α) (i : Nat) (h : Tbl.sorted t = true) : Tbl.sorted (Tbl.del t i) = true := Tbl.filter_sorted t _ h

variable [DecidableEq α]

/-- A write keeps the canonical form. -/
theorem Tbl.putD_canon (t : Tbl α) (i : Nat) (v d : α) (h : Tbl.canon t d = true) : Tbl.canon (Tbl.putD t i v d) d = true := by
  simp only [Tbl.canon, Bool.and_eq_true, List.all_eq_true, decide_eq_true_eq] at h ⊢
  unfold Tbl.putD
  split
  · exact ⟨Tbl.del_sorted t i h.1, fun e he => h.2 e (Tbl.del_mem t i e he)⟩
  · rename_i hv
    refine ⟨Tbl.put_sorted t i v h.1, fun e he => ?_⟩
    rcases Tbl.put_mem t i v e he with rfl | h'
    · exact hv
    · exact h.2 e h'

theorem Tbl.filter_canon (t : Tbl α) (p : Nat × α → Bool) (d : α) (h : Tbl.canon t d = true) : Tbl.canon (t.filter p) d = true := by
  simp only [Tbl.canon, Bool.and_eq_true, List.all_eq_true, decide_eq_true_eq] at h ⊢
  exact ⟨Tbl.filter_sorted t p h.1, fun e he => h.2 e ((List.mem_filter.1 he).1)⟩

omit [DecidableEq α] in
theorem Tbl.find?_above (k : Nat) (t : Tbl α) (h : Tbl.above k t) : Tbl.find? t k = none := by
  induction t with
  | nil => rfl
  | cons e r ih =>
    obtain ⟨l, w⟩ := e
    have hl : k < l := h (l, w) (List.mem_cons_self ..)
    rw [Tbl.find?, if_neg (by omega)]
    exact ih (fun e he => h e (List.mem_cons_of_mem _ he))

omit [DecidableEq α] in
/-- A read after a write of the same key. -/
theorem Tbl.find?_put_self (t : Tbl α) (i : Nat) (v : α) : Tbl.find? (Tbl.put t i v) i = some v := by
  induction t with
  | nil => simp [Tbl.put, Tbl.find?]
  | cons e r ih =>
    obtain ⟨k, w⟩ := e
    unfold Tbl.put
    split
    · simp [Tbl.find?]
    · split
      · simp [Tbl.find?]
      · rw [Tbl.find?, if_neg (by omega)]
        exact ih

omit [DecidableEq α] in
/-- A read of another key. -/
theorem Tbl.find?_put_ne (t : Tbl α) (i j : Nat) (v : α) (h : j ≠ i) : Tbl.find? (Tbl.put t i v) j = Tbl.find? t j := by
  induction t with
  | nil => simp [Tbl.put, Tbl.find?, Ne.symm h]
  | cons e r ih =>
    obtain ⟨k, w⟩ := e
    unfold Tbl.put
    split
    · simp [Tbl.find?, Ne.symm h]
    · split
      · rename_i heq
        simp [Tbl.find?, Ne.symm h, ← heq]
      · simp only [Tbl.find?, ih]

omit [DecidableEq α] in
/-- A read of a removed key. -/
theorem Tbl.find?_del_self (t : Tbl α) (i : Nat) : Tbl.find? (Tbl.del t i) i = none := by
  induction t with
  | nil => rfl
  | cons e r ih =>
    unfold Tbl.del at ih ⊢
    rw [List.filter_cons]
    split
    · rename_i h
      rw [Tbl.find?, if_neg (by simpa using h)]
      exact ih
    · exact ih

omit [DecidableEq α] in
theorem Tbl.find?_del_ne (t : Tbl α) (i j : Nat) (h : j ≠ i) : Tbl.find? (Tbl.del t i) j = Tbl.find? t j := by
  induction t with
  | nil => rfl
  | cons e r ih =>
    obtain ⟨k, w⟩ := e
    unfold Tbl.del at ih ⊢
    rw [List.filter_cons]
    split
    · simp only [Tbl.find?, ih]
    · rename_i hk
      simp only [bne_iff_ne, ne_eq, Decidable.not_not] at hk
      rw [Tbl.find?, if_neg (by omega)]
      exact ih

/-- What a table reads as after a write. -/
theorem Tbl.get_putD (t : Tbl α) (i j : Nat) (v d : α) :
    Tbl.get (Tbl.putD t i v d) j d = if j = i then v else Tbl.get t j d := by
  unfold Tbl.putD Tbl.get
  split
  · rename_i hv
    split
    · rename_i hj
      subst hj
      rw [Tbl.find?_del_self t j, hv]
      rfl
    · rename_i hj
      rw [Tbl.find?_del_ne t i j hj]
  · split
    · rename_i hj
      subst hj
      rw [Tbl.find?_put_self]
      rfl
    · rename_i hj
      rw [Tbl.find?_put_ne t i j v hj]

omit [DecidableEq α] in
theorem Tbl.get_put_self (t : Tbl α) (i : Nat) (v d : α) : Tbl.get (Tbl.put t i v) i d = v := by
  rw [Tbl.get, Tbl.find?_put_self]
  rfl

omit [DecidableEq α] in
theorem Tbl.get_put_ne (t : Tbl α) (i j : Nat) (v d : α) (h : j ≠ i) : Tbl.get (Tbl.put t i v) j d = Tbl.get t j d := by
  rw [Tbl.get, Tbl.find?_put_ne t i j v h]
  rfl

/-- Every write to the cellar keeps its canonical form. -/
theorem putBytes_wf (m : List Host.Cell) (a : Nat) (bs : List Byte) (h : Memory.wf m = true) : Memory.wf (putBytes m a bs) = true := by
  induction bs generalizing m a with
  | nil => exact h
  | cons b r ih =>
    unfold putBytes
    apply ih
    split
    · exact Tbl.putD_canon m a b 0 h
    · exact h

end Sys2Proof.Machine
end

