-- ==== Sys2Proof/Laws/Kept.lean ====
section
/-! SUPPORT. What no command changes: the fuses, the commands that wait, and whether the cellar's device is fitted; what only grows:
the record of what has left the block and the free values taken; the canonical form that the cellar and the hub banks keep; and what only
a few commands change: the block's state, the fell map in use, the program banks, the level of the serial console, power fail, the severity table and ET. -/
namespace Sys2Proof.Machine

/-- Which of these an operation leaves alone, and which whole parts of the state. -/
structure Mask where
  leaves : Part → Bool
  st : Bool
  fell : Bool
  prog : Bool
  level : Bool
  pf : Bool
  sev : Bool
  et : Bool

/-- `s` follows `a`: nothing that commands leave alone has changed, nor what `m` names, and the two memories keep their canonical form. -/
structure Kept (m : Mask) (a s : State) : Prop where
  fuse : s.fuse = a.fuse
  pending : s.pending = a.pending
  absent : s.recd.cellarAbsent = a.recd.cellarAbsent
  out : a.out <+: s.out
  freeCtr : a.freeCtr ≤ s.freeCtr
  cellar : Memory.wf a.recd.cellar = true → Memory.wf s.recd.cellar = true
  words : Words.wf a.bnk.words = true → Words.wf s.bnk.words = true
  st : m.st = true → s.isl.st = a.isl.st
  fell : m.fell = true → s.col.fell = a.col.fell
  prog : m.prog = true → s.seq.prog = a.seq.prog
  level : m.level = true → s.isl.level = a.isl.level
  pf : m.pf = true → s.isl.pf = a.isl.pf
  sev : m.sev = true → s.col.sev = a.col.sev
  et : m.et = true → s.tim.et = a.tim.et
  parts : ∀ p, m.leaves p = true → p.same a s

theorem Part.same_trans {a s t : State} (p : Part) (h : p.same a s) (k : p.same s t) : p.same a t := by
  cases p <;> exact Eq.trans k h

theorem Part.same_symm {a s : State} (p : Part) (h : p.same a s) : p.same s a := by
  cases p <;> exact Eq.symm h

theorem Kept.refl (m : Mask) (a : State) : Kept m a a :=
  ⟨rfl, rfl, rfl, List.prefix_refl _, Nat.le_refl _, id, id, fun _ => rfl, fun _ => rfl, fun _ => rfl, fun _ => rfl, fun _ => rfl, fun _ => rfl, fun _ => rfl,
    fun p _ => by cases p <;> rfl⟩

variable {m : Mask} {a s t : State}

theorem Kept.trans (h : Kept m a s) (k : Kept m s t) : Kept m a t :=
  ⟨k.fuse.trans h.fuse, k.pending.trans h.pending, k.absent.trans h.absent, h.out.trans k.out, Nat.le_trans h.freeCtr k.freeCtr,
    fun w => k.cellar (h.cellar w), fun w => k.words (h.words w),
    fun w => (k.st w).trans (h.st w), fun w => (k.fell w).trans (h.fell w), fun w => (k.prog w).trans (h.prog w),
    fun w => (k.level w).trans (h.level w), fun w => (k.pf w).trans (h.pf w), fun w => (k.sev w).trans (h.sev w), fun w => (k.et w).trans (h.et w),
    fun p w => p.same_trans (h.parts p w) (k.parts p w)⟩

/-- An update of other fields. -/
theorem kept_upd (h : Kept m a s) {isl tim col taps gov esc dig jrn fab scr thm b obs r seq cmd mregs jregs capKeys}
    (hb : b.words = s.bnk.words) (hr : r.cellar = s.recd.cellar) (hc : r.cellarAbsent = s.recd.cellarAbsent)
    (hi : m.st = true → isl.st = s.isl.st) (hf : m.fell = true → col.fell = s.col.fell) (hp : m.prog = true → seq.prog = s.seq.prog)
    (hl : m.level = true → isl.level = s.isl.level) (hpf : m.pf = true → isl.pf = s.isl.pf) (hsv : m.sev = true → col.sev = s.col.sev) (het : m.et = true → tim.et = s.tim.et)
    (qisl : m.leaves .isl = true → isl = s.isl) (qtim : m.leaves .tim = true → tim = s.tim) (qcol : m.leaves .col = true → col = s.col)
    (qtaps : m.leaves .taps = true → taps = s.taps) (qgov : m.leaves .gov = true → gov = s.gov) (qesc : m.leaves .esc = true → esc = s.esc) (qdig : m.leaves .dig = true → dig = s.dig)
    (qjrn : m.leaves .jrn = true → jrn = s.jrn) (qfab : m.leaves .fab = true → fab = s.fab) (qscr : m.leaves .scr = true → scr = s.scr) (qthm : m.leaves .thm = true → thm = s.thm)
    (qbnk : m.leaves .bnk = true → b = s.bnk) (qobs : m.leaves .obs = true → obs = s.obs) (qrecd : m.leaves .recd = true → r = s.recd) (qseq : m.leaves .seq = true → seq = s.seq)
    (qcmd : m.leaves .cmd = true → cmd = s.cmd) (qmregs : m.leaves .mregs = true → mregs = s.mregs) (qjregs : m.leaves .jregs = true → jregs = s.jregs) (qcapKeys : m.leaves .capKeys = true → capKeys = s.capKeys) :
    Kept m a (State.mk s.pending s.out s.freeCtr s.fuse isl tim col taps gov esc dig jrn fab scr thm b obs r seq cmd mregs jregs capKeys) :=
  ⟨h.fuse, h.pending, hc.trans h.absent, h.out, h.freeCtr, fun w => by rw [hr]; exact h.cellar w, fun w => by rw [hb]; exact h.words w,
    fun w => (hi w).trans (h.st w), fun w => (hf w).trans (h.fell w), fun w => (hp w).trans (h.prog w), fun w => (hl w).trans (h.level w), fun w => (hpf w).trans (h.pf w), fun w => (hsv w).trans (h.sev w), fun w => (het w).trans (h.et w),
    fun p w => p.same_trans (h.parts p w) (by
      cases p
      · exact qisl w
      · exact qtim w
      · exact qcol w
      · exact qtaps w
      · exact qgov w
      · exact qesc w
      · exact qdig w
      · exact qjrn w
      · exact qfab w
      · exact qscr w
      · exact qthm w
      · exact qbnk w
      · exact qobs w
      · exact qrecd w
      · exact qseq w
      · exact qcmd w
      · exact qmregs w
      · exact qjregs w
      · exact qcapKeys w
      · exact hr
      · exact hb)⟩

theorem kept_snd {β : Type} {x : β} {p : β × State} (e : p = (x, t)) (h : Kept m a p.2) : Kept m a t := by
  subst e
  exact h

theorem kept_third {β γ : Type} {x : β} {y : γ} {p : β × γ × State} (e : p = (x, y, t)) (h : Kept m a p.2.2) : Kept m a t := by
  subst e
  exact h

/-- The same as a rewriting rule, read from left to right. -/
theorem kept_upd_iff {isl tim col taps gov esc dig jrn fab scr thm b obs r seq cmd mregs jregs capKeys}
    (hb : b.words = s.bnk.words) (hr : r.cellar = s.recd.cellar) (hc : r.cellarAbsent = s.recd.cellarAbsent)
    (hi : m.st = true → isl.st = s.isl.st) (hf : m.fell = true → col.fell = s.col.fell) (hp : m.prog = true → seq.prog = s.seq.prog)
    (hl : m.level = true → isl.level = s.isl.level) (hpf : m.pf = true → isl.pf = s.isl.pf) (hsv : m.sev = true → col.sev = s.col.sev) (het : m.et = true → tim.et = s.tim.et)
    (qisl : m.leaves .isl = true → isl = s.isl) (qtim : m.leaves .tim = true → tim = s.tim) (qcol : m.leaves .col = true → col = s.col)
    (qtaps : m.leaves .taps = true → taps = s.taps) (qgov : m.leaves .gov = true → gov = s.gov) (qesc : m.leaves .esc = true → esc = s.esc) (qdig : m.leaves .dig = true → dig = s.dig)
    (qjrn : m.leaves .jrn = true → jrn = s.jrn) (qfab : m.leaves .fab = true → fab = s.fab) (qscr : m.leaves .scr = true → scr = s.scr) (qthm : m.leaves .thm = true → thm = s.thm)
    (qbnk : m.leaves .bnk = true → b = s.bnk) (qobs : m.leaves .obs = true → obs = s.obs) (qrecd : m.leaves .recd = true → r = s.recd) (qseq : m.leaves .seq = true → seq = s.seq)
    (qcmd : m.leaves .cmd = true → cmd = s.cmd) (qmregs : m.leaves .mregs = true → mregs = s.mregs) (qjregs : m.leaves .jregs = true → jregs = s.jregs) (qcapKeys : m.leaves .capKeys = true → capKeys = s.capKeys) :
    Kept m a (State.mk s.pending s.out s.freeCtr s.fuse isl tim col taps gov esc dig jrn fab scr thm b obs r seq cmd mregs jregs capKeys)
      ↔ Kept m a s :=
  ⟨fun h => ⟨h.fuse, h.pending, hc.symm.trans h.absent, h.out, h.freeCtr, fun w => by rw [← hr]; exact h.cellar w,
    fun w => by rw [← hb]; exact h.words w, fun w => (hi w).symm.trans (h.st w), fun w => (hf w).symm.trans (h.fell w),
    fun w => (hp w).symm.trans (h.prog w), fun w => (hl w).symm.trans (h.level w), fun w => (hpf w).symm.trans (h.pf w), fun w => (hsv w).symm.trans (h.sev w), fun w => (het w).symm.trans (h.et w),
    fun p w => p.same_trans (h.parts p w) (by
      cases p
      · exact (qisl w).symm
      · exact (qtim w).symm
      · exact (qcol w).symm
      · exact (qtaps w).symm
      · exact (qgov w).symm
      · exact (qesc w).symm
      · exact (qdig w).symm
      · exact (qjrn w).symm
      · exact (qfab w).symm
      · exact (qscr w).symm
      · exact (qthm w).symm
      · exact (qbnk w).symm
      · exact (qobs w).symm
      · exact (qrecd w).symm
      · exact (qseq w).symm
      · exact (qcmd w).symm
      · exact (qmregs w).symm
      · exact (qjregs w).symm
      · exact (qcapKeys w).symm
      · exact hr.symm
      · exact hb.symm)⟩,
    fun h => kept_upd h hb hr hc hi hf hp hl hpf hsv het qisl qtim qcol qtaps qgov qesc qdig qjrn qfab qscr qthm qbnk qobs qrecd qseq qcmd qmregs qjregs qcapKeys⟩

theorem kept_ite {c : Prop} [Decidable c] (h : Kept m a s) (k : Kept m a t) : Kept m a (if c then s else t) := by
  split
  · exact h
  · exact k

theorem kept_id (h : Kept m a s) : Kept m a (id s) := h

theorem kept_ite_snd {β : Type} {c : Prop} [Decidable c] {p q : β × State} (h : Kept m a p.2) (k : Kept m a q.2) :
    Kept m a (if c then p else q).2 := by
  split
  · exact h
  · exact k

theorem kept_ite_third {β γ : Type} {c : Prop} [Decidable c] {p q : β × γ × State} (h : Kept m a p.2.2) (k : Kept m a q.2.2) :
    Kept m a (if c then p else q).2.2 := by
  split
  · exact h
  · exact k

theorem foldl_kept {α : Type} {f : State → α → State} (hf : ∀ x t, Kept m a t → Kept m a (f t x)) (l : List α) (h : Kept m a s) :
    Kept m a (l.foldl f s) := by
  induction l generalizing s with
  | nil => exact h
  | cons x r ih => exact ih (hf x s h)

theorem foldl_kept_pair {α β : Type} {f : β × State → α → β × State} {r : β × State} (hf : ∀ x r, Kept m a r.2 → Kept m a (f r x).2)
    (l : List α) (h : Kept m a r.2) : Kept m a (l.foldl f r).2 := by
  induction l generalizing r with
  | nil => exact h
  | cons x l ih => exact ih (hf x r h)

theorem foldl_kept_proj {α β : Type} (p : β → State) {f : β → α → β} {r : β} (hf : ∀ x r, Kept m a (p r) → Kept m a (p (f r x)))
    (l : List α) (h : Kept m a (p r)) : Kept m a (p (l.foldl f r)) := by
  induction l generalizing r with
  | nil => exact h
  | cons x l ih => exact ih (hf x r h)

theorem foldS_kept {α : Type} {l : List α} {f : α → State → State} (hf : ∀ x t, Kept m a t → Kept m a (f x t)) (h : Kept m a s) :
    Kept m a (foldS l f s) := foldl_kept (f := fun t x => f x t) hf l h

theorem whenS_kept {b : Bool} {f : State → State} (hf : ∀ t, Kept m a t → Kept m a (f t)) (h : Kept m a s) : Kept m a (whenS b f s) := by
  unfold whenS
  split
  · exact hf s h
  · exact h

theorem kept_getD {o : Option State} (h : Kept m a s) (hf : ∀ t, o = some t → Kept m a t) : Kept m a (o.getD s) := by
  cases o with
  | none => exact h
  | some t => exact hf t rfl

theorem emit_kept {o : Output} (h : Kept m a s) : Kept m a (emit o s) :=
  ⟨h.fuse, h.pending, h.absent, h.out.trans (List.prefix_append _ _), h.freeCtr, h.cellar, h.words, h.st, h.fell, h.prog, h.level, h.pf, h.sev, h.et,
    fun p w => p.same_trans (h.parts p w) (by cases p <;> rfl)⟩

theorem takeFree_kept (h : Kept m a s) : Kept m a (takeFree s).2 :=
  ⟨h.fuse, h.pending, h.absent, h.out, Nat.le_succ_of_le h.freeCtr, h.cellar, h.words, h.st, h.fell, h.prog, h.level, h.pf, h.sev, h.et,
    fun p w => p.same_trans (h.parts p w) (by cases p <;> rfl)⟩

theorem words_put {w : Tbl (BitVec 288)} {i : Nat} {v : BitVec 288} (h : Words.wf w = true) : Words.wf (Tbl.putD w i v 0) = true :=
  Tbl.putD_canon w i v 0 h

theorem bankStore_kept {bank word : Nat} {d : W256} (hbnk : m.leaves .bnk = false) (hwords : m.leaves .words = false) (h : Kept m a s) : Kept m a (bankStore bank word d s) := by
  unfold bankStore
  exact ⟨h.fuse, h.pending, h.absent, h.out, h.freeCtr, h.cellar, fun w => by
    generalize s32Enc d = v
    dsimp only
    exact words_put (h.words w), h.st, h.fell, h.prog, h.level, h.pf, h.sev, h.et,
    fun p w => p.same_trans (h.parts p w) (by
      cases p
      case bnk => exact absurd w (by rw [hbnk]; decide)
      case words => exact absurd w (by rw [hwords]; decide)
      all_goals rfl)⟩

theorem cellarWrite_kept {n : Nat} {bs : List Byte} (hrecd : m.leaves .recd = false) (hcellar : m.leaves .cellar = false) (h : Kept m a s) : Kept m a (cellarWrite n bs s) := by
  unfold cellarWrite
  split
  · exact h
  · exact ⟨h.fuse, h.pending, h.absent, h.out, h.freeCtr, fun w => putBytes_wf _ _ _ (h.cellar w), h.words, h.st, h.fell, h.prog, h.level, h.pf, h.sev, h.et,
      fun p w => p.same_trans (h.parts p w) (by
        cases p
        case recd => exact absurd w (by rw [hrecd]; decide)
        case cellar => exact absurd w (by rw [hcellar]; decide)
        all_goals rfl)⟩

end Sys2Proof.Machine
end

