-- ==== Sys2Proof/Laws/KeptShared.lean ====
section
/-! SUPPORT. What no command changes, operation by operation: the shared operations, the fabric, the sequencers, the latches and the cords. -/
namespace Sys2Proof.Machine

set_option linter.unusedSimpArgs false
set_option linter.unusedVariables false

variable {m : Mask} {a s t : State}

/-! ### Ops -/

theorem State.setRf_kept {f : RF} {v : Nat} (hmregs : m.leaves .mregs = false) (h : Kept m a s) : Kept m a (State.setRf s f v) := by
  unfold State.setRf
  repeat' first
    | with_reducible assumption
    | intro _
    | with_reducible apply kept_ite
    | simp only [↓kept_upd_iff, implies_true, hmregs, Bool.false_eq_true, false_implies]
    | dsimp only
    | split

theorem State.setJf_kept {c : Nat} {f : RF} {v : Nat} (hjregs : m.leaves .jregs = false) (h : Kept m a s) : Kept m a (State.setJf s c f v) := by
  unfold State.setJf
  repeat' first
    | with_reducible assumption
    | intro _
    | with_reducible apply kept_ite
    | simp only [↓kept_upd_iff, implies_true, hjregs, Bool.false_eq_true, false_implies]
    | dsimp only
    | split

theorem hubReg_kept {f : State → State} (hf : ∀  t, Kept m a t → Kept m a (f  t)) (hisl : m.leaves .isl = false) (h : Kept m a s) : Kept m a (hubReg f s) := by
  unfold hubReg
  repeat' first
    | with_reducible assumption
    | intro _
    | with_reducible apply hf
    | with_reducible apply kept_ite
    | simp only [↓kept_upd_iff, implies_true, hisl, Bool.false_eq_true, false_implies]
    | dsimp only
    | split

theorem updComp_kept {c : Nat} {f : Comp → Comp} (hcmd : m.leaves .cmd = false) (h : Kept m a s) : Kept m a (updComp c f s) := by
  unfold updComp
  repeat' first
    | with_reducible assumption
    | intro _
    | with_reducible apply kept_ite
    | simp only [↓kept_upd_iff, implies_true, hcmd, Bool.false_eq_true, false_implies]
    | dsimp only
    | split

theorem atHub_kept {f : State → State} (hf : ∀  t, Kept m a t → Kept m a (f  t)) (h : Kept m a s) : Kept m a (atHub f s) := by
  unfold atHub
  repeat' first
    | with_reducible assumption
    | intro _
    | with_reducible apply whenS_kept
    | with_reducible apply hf
    | with_reducible apply kept_ite
    | dsimp only
    | split

theorem atRegion_kept {r : Nat} {f : State → State} (hf : ∀  t, Kept m a t → Kept m a (f  t)) (h : Kept m a s) : Kept m a (atRegion r f s) := by
  unfold atRegion
  repeat' first
    | with_reducible assumption
    | intro _
    | with_reducible apply whenS_kept
    | with_reducible apply hf
    | with_reducible apply kept_ite
    | dsimp only
    | split

theorem atTapPort_kept {tap : Nat} {f : State → State} (hf : ∀  t, Kept m a t → Kept m a (f  t)) (h : Kept m a s) : Kept m a (atTapPort tap f s) := by
  unfold atTapPort
  repeat' first
    | with_reducible assumption
    | intro _
    | with_reducible apply whenS_kept
    | with_reducible apply hf
    | with_reducible apply kept_ite
    | dsimp only
    | split

theorem atCorePort_kept {h_ : Nat} {f : State → State} (hf : ∀  t, Kept m a t → Kept m a (f  t)) (h : Kept m a s) : Kept m a (atCorePort h_ f s) := by
  unfold atCorePort
  repeat' first
    | with_reducible assumption
    | intro _
    | with_reducible apply whenS_kept
    | with_reducible apply hf
    | with_reducible apply kept_ite
    | dsimp only
    | split

theorem raiseOn_kept {link : Nat} {unit : Nat} {m_ : W128} (hcol : m.leaves .col = false) (h : Kept m a s) : Kept m a (raiseOn link unit m_ s) := by
  unfold raiseOn
  repeat' first
    | with_reducible assumption
    | intro _
    | with_reducible apply kept_ite
    | simp only [↓kept_upd_iff, implies_true, hcol, Bool.false_eq_true, false_implies]
    | dsimp only
    | split

theorem raiseHub_kept {unit : Nat} {kind : Nat} {l : Loc} {d : Nat} (hcol : m.leaves .col = false) (h : Kept m a s) : Kept m a (raiseHub unit kind l d s) := by
  unfold raiseHub
  repeat' first
    | with_reducible assumption
    | intro _
    | with_reducible apply raiseOn_kept
    | with_reducible apply kept_ite
    | dsimp only
    | split

theorem raiseFabric_kept {kind : Nat} {l : Loc} {d : Nat} (hcol : m.leaves .col = false) (h : Kept m a s) : Kept m a (raiseFabric kind l d s) := by
  unfold raiseFabric
  repeat' first
    | with_reducible assumption
    | intro _
    | with_reducible apply raiseOn_kept
    | with_reducible apply kept_ite
    | dsimp only
    | split

theorem raiseIsland_kept {kind : Nat} {l : Loc} {d : Nat} (hcol : m.leaves .col = false) (h : Kept m a s) : Kept m a (raiseIsland kind l d s) := by
  unfold raiseIsland
  repeat' first
    | with_reducible assumption
    | intro _
    | with_reducible apply raiseOn_kept
    | with_reducible apply kept_ite
    | dsimp only
    | split

theorem writeSev_kept {cls : Nat} {kind : Nat} {v : Nat} (hsev : m.sev = false) (hcol : m.leaves .col = false) (h : Kept m a s) : Kept m a (writeSev cls kind v s).2 := by
  unfold writeSev
  repeat' first
    | with_reducible assumption
    | intro _
    | with_reducible apply kept_ite
    | with_reducible apply kept_ite_snd
    | simp only [↓kept_upd_iff, implies_true, hsev, hcol, Bool.false_eq_true, false_implies]
    | dsimp only
    | split

theorem count_kept {i : Nat} {n : Nat} (hobs : m.leaves .obs = false) (h : Kept m a s) : Kept m a (count i n s) := by
  unfold count
  repeat' first
    | with_reducible assumption
    | intro _
    | with_reducible apply kept_ite
    | simp only [↓kept_upd_iff, implies_true, hobs, Bool.false_eq_true, false_implies]
    | dsimp only
    | split

theorem resetCtr_kept {i : Nat} (hobs : m.leaves .obs = false) (h : Kept m a s) : Kept m a (resetCtr i s) := by
  unfold resetCtr
  repeat' first
    | with_reducible assumption
    | intro _
    | with_reducible apply kept_ite
    | simp only [↓kept_upd_iff, implies_true, hobs, Bool.false_eq_true, false_implies]
    | dsimp only
    | split

theorem resetScope_kept {tap : Nat} (hobs : m.leaves .obs = false) (h : Kept m a s) : Kept m a (resetScope tap s) := by
  unfold resetScope
  repeat' first
    | with_reducible assumption
    | intro _
    | with_reducible apply foldS_kept
    | with_reducible apply resetCtr_kept
    | with_reducible apply kept_ite
    | dsimp only
    | split

theorem placeSpare_kept {c : Nat} {v : Option SpareSt} (hobs : m.leaves .obs = false) (hjrn : m.leaves .jrn = false) (h : Kept m a s) : Kept m a (placeSpare c v s) := by
  unfold placeSpare
  repeat' first
    | with_reducible assumption
    | intro _
    | with_reducible apply whenS_kept
    | with_reducible apply resetScope_kept
    | with_reducible apply kept_ite
    | simp only [↓kept_upd_iff, implies_true, hobs, hjrn, Bool.false_eq_true, false_implies]
    | dsimp only
    | split

theorem setSpare_kept {c : Nat} {v : SpareSt} (hobs : m.leaves .obs = false) (hjrn : m.leaves .jrn = false) (h : Kept m a s) : Kept m a (setSpare c v s) := by
  unfold setSpare
  repeat' first
    | with_reducible assumption
    | intro _
    | with_reducible apply placeSpare_kept
    | with_reducible apply kept_ite
    | dsimp only
    | split

theorem countTap_kept {tap : Nat} {ev : Nat} {core : Nat} {n : Nat} (hobs : m.leaves .obs = false) (h : Kept m a s) : Kept m a (countTap tap ev core n s) := by
  unfold countTap
  repeat' first
    | with_reducible assumption
    | intro _
    | with_reducible apply count_kept
    | with_reducible apply foldS_kept
    | with_reducible apply kept_ite
    | dsimp only
    | split

theorem countWarden_kept {r : Nat} {ev : Nat} (hobs : m.leaves .obs = false) (h : Kept m a s) : Kept m a (countWarden r ev s) := by
  unfold countWarden
  repeat' first
    | with_reducible assumption
    | intro _
    | with_reducible apply count_kept
    | with_reducible apply kept_ite
    | dsimp only
    | split

theorem countMem_kept {m_ : Nat} {ev : Nat} {n : Nat} (hobs : m.leaves .obs = false) (h : Kept m a s) : Kept m a (countMem m_ ev n s) := by
  unfold countMem
  repeat' first
    | with_reducible assumption
    | intro _
    | with_reducible apply count_kept
    | with_reducible apply kept_ite
    | dsimp only
    | split

theorem countHub_kept {i : Nat} {n : Nat} (hobs : m.leaves .obs = false) (h : Kept m a s) : Kept m a (countHub i n s) := by
  unfold countHub
  repeat' first
    | with_reducible assumption
    | intro _
    | with_reducible apply count_kept
    | with_reducible apply kept_ite
    | dsimp only
    | split

theorem pushOrder_kept {o : Order} (hcol : m.leaves .col = false) (h : Kept m a s) : Kept m a (pushOrder o s) := by
  unfold pushOrder
  repeat' first
    | with_reducible assumption
    | intro _
    | with_reducible apply kept_ite
    | simp only [↓kept_upd_iff, implies_true, hcol, Bool.false_eq_true, false_implies]
    | dsimp only
    | split

theorem setSuspect_kept {l : Loc} (hcol : m.leaves .col = false) (h : Kept m a s) : Kept m a (setSuspect l s) := by
  unfold setSuspect
  repeat' first
    | with_reducible assumption
    | intro _
    | with_reducible apply kept_ite
    | simp only [↓kept_upd_iff, implies_true, hcol, Bool.false_eq_true, false_implies]
    | dsimp only
    | split

theorem stopDie_kept {kind : Nat} (hcol : m.leaves .col = false) (hcmd : m.leaves .cmd = false) (h : Kept m a s) : Kept m a (stopDie kind s) := by
  unfold stopDie
  repeat' first
    | with_reducible assumption
    | intro _
    | with_reducible apply foldS_kept
    | with_reducible apply whenS_kept
    | with_reducible apply updComp_kept
    | with_reducible apply pushOrder_kept
    | with_reducible apply kept_ite
    | simp only [↓kept_upd_iff, implies_true, hcol, hcmd, Bool.false_eq_true, false_implies]
    | dsimp only
    | split

theorem liftStop_kept {c : Nat} (hcol : m.leaves .col = false) (hcmd : m.leaves .cmd = false) (h : Kept m a s) : Kept m a (liftStop c s) := by
  unfold liftStop
  repeat' first
    | with_reducible assumption
    | intro _
    | with_reducible apply updComp_kept
    | with_reducible apply kept_ite
    | simp only [↓kept_upd_iff, implies_true, hcol, hcmd, Bool.false_eq_true, false_implies]
    | dsimp only
    | split

theorem countKind_kept {kind : Nat} (hobs : m.leaves .obs = false) (h : Kept m a s) : Kept m a (countKind kind s) := by
  unfold countKind
  repeat' first
    | with_reducible assumption
    | intro _
    | with_reducible apply countHub_kept
    | with_reducible apply foldS_kept
    | with_reducible apply kept_ite
    | dsimp only
    | split

theorem storeOverflow_kept  (hobs : m.leaves .obs = false) (hcol : m.leaves .col = false) (hcmd : m.leaves .cmd = false) (h : Kept m a s) : Kept m a (storeOverflow s) := by
  unfold storeOverflow
  repeat' first
    | with_reducible assumption
    | intro _
    | with_reducible apply whenS_kept
    | with_reducible apply countKind_kept
    | with_reducible apply countHub_kept
    | with_reducible apply stopDie_kept
    | with_reducible apply setSuspect_kept
    | with_reducible apply kept_ite
    | simp only [↓kept_upd_iff, implies_true, hobs, hcol, hcmd, Bool.false_eq_true, false_implies]
    | dsimp only
    | split

theorem popIntake_kept  (hobs : m.leaves .obs = false) (hcol : m.leaves .col = false) (hcmd : m.leaves .cmd = false) (hseq : m.leaves .seq = false) (h : Kept m a s) : Kept m a (popIntake s) := by
  unfold popIntake
  repeat' first
    | with_reducible assumption
    | intro _
    | with_reducible apply storeOverflow_kept
    | with_reducible apply kept_ite
    | simp only [↓kept_upd_iff, implies_true, hobs, hcol, hcmd, hseq, Bool.false_eq_true, false_implies]
    | dsimp only
    | split

theorem raiseTap_kept {tap : Nat} {kind : Nat} {reh : Bool} {l : Loc} {d : Nat} (hobs : m.leaves .obs = false) (hcol : m.leaves .col = false) (h : Kept m a s) : Kept m a (raiseTap tap kind reh l d s) := by
  unfold raiseTap
  repeat' first
    | with_reducible assumption
    | intro _
    | with_reducible apply countTap_kept
    | with_reducible apply whenS_kept
    | with_reducible apply countWarden_kept
    | with_reducible apply raiseOn_kept
    | with_reducible apply kept_ite
    | dsimp only
    | split

theorem raiseWarden_kept {r : Nat} {kind : Nat} {l : Loc} {d : Nat} (hcol : m.leaves .col = false) (h : Kept m a s) : Kept m a (raiseWarden r kind l d s) := by
  unfold raiseWarden
  repeat' first
    | with_reducible assumption
    | intro _
    | with_reducible apply raiseOn_kept
    | with_reducible apply kept_ite
    | dsimp only
    | split

theorem raiseMem_kept {m_ : Nat} {kind : Nat} {l : Loc} {d : Nat} (hcol : m.leaves .col = false) (h : Kept m a s) : Kept m a (raiseMem m_ kind l d s) := by
  unfold raiseMem
  repeat' first
    | with_reducible assumption
    | intro _
    | with_reducible apply raiseOn_kept
    | with_reducible apply kept_ite
    | dsimp only
    | split

theorem raiseHcore_kept {h_ : Nat} {kind : Nat} {l : Loc} {d : Nat} (hcol : m.leaves .col = false) (h : Kept m a s) : Kept m a (raiseHcore h_ kind l d s) := by
  unfold raiseHcore
  repeat' first
    | with_reducible assumption
    | intro _
    | with_reducible apply raiseOn_kept
    | with_reducible apply kept_ite
    | dsimp only
    | split

theorem pushRec_kept {hw : Bool} {img : BitVec 512} (hrecd : m.leaves .recd = false) (h : Kept m a s) : Kept m a (pushRec hw img s) := by
  unfold pushRec
  repeat' first
    | with_reducible assumption
    | intro _
    | with_reducible apply kept_ite
    | simp only [↓kept_upd_iff, implies_true, hrecd, Bool.false_eq_true, false_implies]
    | dsimp only
    | split

theorem admitRec_kept  (hrecd : m.leaves .recd = false) (h : Kept m a s) : Kept m a (admitRec s) := by
  unfold admitRec
  repeat' first
    | with_reducible assumption
    | intro _
    | with_reducible apply kept_ite
    | simp only [↓kept_upd_iff, implies_true, hrecd, Bool.false_eq_true, false_implies]
    | dsimp only
    | split

theorem recEvent_kept {code : Nat} {arg : Nat} {body : Nat} {aux : Nat} (hrecd : m.leaves .recd = false) (h : Kept m a s) : Kept m a (recEvent code arg body aux s) := by
  unfold recEvent
  repeat' first
    | with_reducible assumption
    | intro _
    | with_reducible apply pushRec_kept
    | with_reducible apply kept_ite
    | dsimp only
    | split

theorem dropRecord_kept {c : Nat} (hcmd : m.leaves .cmd = false) (h : Kept m a s) : Kept m a (dropRecord c s) := by
  unfold dropRecord
  repeat' first
    | with_reducible assumption
    | intro _
    | with_reducible apply updComp_kept
    | with_reducible apply kept_ite
    | simp only [↓kept_upd_iff, implies_true, hcmd, Bool.false_eq_true, false_implies]
    | dsimp only
    | split

theorem postRecord_kept {c : Nat} {typ : Nat} {status : Nat} {tag : Nat} {body : Nat} (hcmd : m.leaves .cmd = false) (h : Kept m a s) : Kept m a (postRecord c typ status tag body s) := by
  unfold postRecord
  repeat' first
    | with_reducible assumption
    | intro _
    | with_reducible apply dropRecord_kept
    | with_reducible apply updComp_kept
    | with_reducible apply kept_ite
    | simp only [↓kept_upd_iff, implies_true, hcmd, Bool.false_eq_true, false_implies]
    | dsimp only
    | split

theorem completeCmd_kept {c : Nat} {tag : Nat} {opcode : Nat} {status : Nat} {result : Nat} (hcmd : m.leaves .cmd = false) (h : Kept m a s) : Kept m a (completeCmd c tag opcode status result s) := by
  unfold completeCmd
  repeat' first
    | with_reducible assumption
    | intro _
    | with_reducible apply postRecord_kept
    | with_reducible apply updComp_kept
    | with_reducible apply kept_ite
    | simp only [↓kept_upd_iff, implies_true, hcmd, Bool.false_eq_true, false_implies]
    | dsimp only
    | split

theorem trace_kept {c : Nat} {typ : Nat} {flags : Nat} {locus : Nat} {payload : Nat} (hobs : m.leaves .obs = false) (h : Kept m a s) : Kept m a (trace c typ flags locus payload s) := by
  unfold trace
  repeat' first
    | with_reducible assumption
    | intro _
    | with_reducible apply kept_ite
    | simp only [↓kept_upd_iff, implies_true, hobs, Bool.false_eq_true, false_implies]
    | dsimp only
    | split

theorem updBank_kept {bank : Nat} {f : BankReg → BankReg} (hbnk : m.leaves .bnk = false) (h : Kept m a s) : Kept m a (updBank bank f s) := by
  unfold updBank
  repeat' first
    | with_reducible assumption
    | intro _
    | with_reducible apply kept_ite
    | simp only [↓kept_upd_iff, implies_true, hbnk, Bool.false_eq_true, false_implies]
    | dsimp only
    | split

theorem bankFetch_kept {bank : Nat} {word : Nat} (hbnk : m.leaves .bnk = false) (hcol : m.leaves .col = false) (hwords : m.leaves .words = false) (h : Kept m a s) : Kept m a (bankFetch bank word s).2.2 := by
  unfold bankFetch
  repeat' first
    | with_reducible assumption
    | intro _
    | with_reducible apply raiseHub_kept
    | with_reducible apply updBank_kept
    | with_reducible apply bankStore_kept
    | with_reducible apply kept_ite
    | with_reducible apply kept_ite_third
    | simp only [↓kept_upd_iff, implies_true, hbnk, hcol, hwords, Bool.false_eq_true, false_implies]
    | dsimp only
    | split

theorem carryLfsr_kept {bank : Nat} {off : Nat} {len : Nat} (hgov : m.leaves .gov = false) (h : Kept m a s) : Kept m a (carryLfsr bank off len s) := by
  unfold carryLfsr
  repeat' first
    | with_reducible assumption
    | intro _
    | with_reducible apply kept_ite
    | simp only [↓kept_upd_iff, implies_true, hgov, Bool.false_eq_true, false_implies]
    | dsimp only
    | split

theorem bankWrite_kept {bank : Nat} {off : Nat} {len : Nat} {v : Nat} (hbnk : m.leaves .bnk = false) (hgov : m.leaves .gov = false) (hwords : m.leaves .words = false) (h : Kept m a s) : Kept m a (bankWrite bank off len v s) := by
  unfold bankWrite
  repeat' first
    | with_reducible assumption
    | intro _
    | with_reducible apply carryLfsr_kept
    | with_reducible apply bankStore_kept
    | with_reducible apply kept_ite
    | dsimp only
    | split

theorem polWrite_kept {off : Nat} {len : Nat} {v : Nat} (hbnk : m.leaves .bnk = false) (hgov : m.leaves .gov = false) (hwords : m.leaves .words = false) (h : Kept m a s) : Kept m a (polWrite off len v s) := by
  unfold polWrite
  repeat' first
    | with_reducible assumption
    | intro _
    | with_reducible apply bankWrite_kept
    | with_reducible apply kept_ite
    | dsimp only
    | split

theorem stepSelector_kept {off : Nat} (hgov : m.leaves .gov = false) (h : Kept m a s) : Kept m a (stepSelector off s).2 := by
  unfold stepSelector
  repeat' first
    | with_reducible assumption
    | intro _
    | with_reducible apply kept_ite
    | with_reducible apply kept_ite_snd
    | simp only [↓kept_upd_iff, implies_true, hgov, Bool.false_eq_true, false_implies]
    | dsimp only
    | split

theorem writeBackLfsrs_kept  (hbnk : m.leaves .bnk = false) (hgov : m.leaves .gov = false) (hwords : m.leaves .words = false) (h : Kept m a s) : Kept m a (writeBackLfsrs s) := by
  unfold writeBackLfsrs
  repeat' first
    | with_reducible assumption
    | intro _
    | with_reducible apply foldS_kept
    | with_reducible apply polWrite_kept
    | with_reducible apply kept_ite
    | dsimp only
    | split

theorem twoCopyWrite_kept {a_ : Nat} {b : Nat} {size : Nat} {magic : Nat} {mid : Nat} (hrecd : m.leaves .recd = false) (hcellar : m.leaves .cellar = false) (h : Kept m a s) : Kept m a (twoCopyWrite a_ b size magic mid s) := by
  unfold twoCopyWrite
  repeat' first
    | with_reducible assumption
    | intro _
    | with_reducible apply cellarWrite_kept
    | with_reducible apply kept_ite
    | dsimp only
    | split

theorem setPolicy_kept {rec_ : Nat} {c : Nat} {v : Nat} (hgov : m.leaves .gov = false) (h : Kept m a s) : Kept m a (setPolicy rec_ c v s) := by
  unfold setPolicy
  repeat' first
    | with_reducible assumption
    | intro _
    | with_reducible apply kept_ite
    | simp only [↓kept_upd_iff, implies_true, hgov, Bool.false_eq_true, false_implies]
    | dsimp only
    | split

theorem gateRespond_kept {tag : Nat} {status : Nat} {body : Nat} (hisl : m.leaves .isl = false) (h : Kept m a s) : Kept m a (gateRespond tag status body s) := by
  unfold gateRespond
  repeat' first
    | with_reducible assumption
    | intro _
    | with_reducible apply kept_ite
    | simp only [↓kept_upd_iff, implies_true, hisl, Bool.false_eq_true, false_implies]
    | dsimp only
    | split

theorem atGate_kept {code : Nat} {tag : Nat} {body : BitVec 448} {f : State → State} (hf : ∀  t, Kept m a t → Kept m a (f  t)) (hisl : m.leaves .isl = false) (h : Kept m a s) : Kept m a (atGate code tag body f s) := by
  unfold atGate
  repeat' first
    | with_reducible assumption
    | intro _
    | with_reducible apply hf
    | with_reducible apply kept_ite
    | simp only [↓kept_upd_iff, implies_true, hisl, Bool.false_eq_true, false_implies]
    | dsimp only
    | split

theorem refuseCrossing_kept {code : Nat} {management : Bool} {l : Loc} (hobs : m.leaves .obs = false) (hcol : m.leaves .col = false) (hrecd : m.leaves .recd = false) (h : Kept m a s) : Kept m a (refuseCrossing code management l s) := by
  unfold refuseCrossing
  repeat' first
    | with_reducible assumption
    | intro _
    | with_reducible apply raiseHub_kept
    | with_reducible apply recEvent_kept
    | with_reducible apply countHub_kept
    | with_reducible apply kept_ite
    | dsimp only
    | split

/-! ### Fabric -/

theorem placeBranch_kept {b : Branch} (hfab : m.leaves .fab = false) (h : Kept m a s) : Kept m a (placeBranch b s) := by
  unfold placeBranch
  repeat' first
    | with_reducible assumption
    | intro _
    | with_reducible apply emit_kept
    | with_reducible apply kept_ite
    | simp only [↓kept_upd_iff, implies_true, hfab, Bool.false_eq_true, false_implies]
    | dsimp only
    | split

theorem takeMsg_kept {m_ : VcsMsg} (hfab : m.leaves .fab = false) (h : Kept m a s) : Kept m a (takeMsg m_ s) := by
  unfold takeMsg
  repeat' first
    | with_reducible assumption
    | intro _
    | with_reducible apply kept_ite
    | simp only [↓kept_upd_iff, implies_true, hfab, Bool.false_eq_true, false_implies]
    | dsimp only
    | split

theorem issueBranch_kept {cnt : Option Nat} {b : Branch} (hfab : m.leaves .fab = false) (h : Kept m a s) : Kept m a (issueBranch cnt b s).2 := by
  unfold issueBranch
  repeat' first
    | with_reducible assumption
    | intro _
    | with_reducible apply takeMsg_kept
    | with_reducible apply placeBranch_kept
    | with_reducible apply kept_ite
    | with_reducible apply kept_ite_snd
    | simp only [↓kept_upd_iff, implies_true, hfab, Bool.false_eq_true, false_implies]
    | dsimp only
    | split

theorem releaseVcs_kept  (hfab : m.leaves .fab = false) (h : Kept m a s) : Kept m a (releaseVcs s) := by
  unfold releaseVcs
  repeat' first
    | with_reducible assumption
    | intro _
    | with_reducible apply foldS_kept
    | with_reducible apply issueBranch_kept
    | with_reducible apply kept_ite
    | simp only [↓kept_upd_iff, implies_true, hfab, Bool.false_eq_true, false_implies]
    | refine kept_snd (by with_reducible assumption) ?_
    | refine kept_third (by with_reducible assumption) ?_
    | dsimp only
    | split

theorem sendMulti_kept {cnt : Option Nat} {b : Branch} (hcol : m.leaves .col = false) (hfab : m.leaves .fab = false) (h : Kept m a s) : Kept m a (sendMulti cnt b s).2 := by
  unfold sendMulti
  repeat' first
    | with_reducible assumption
    | intro _
    | with_reducible apply whenS_kept
    | with_reducible apply raiseFabric_kept
    | with_reducible apply issueBranch_kept
    | with_reducible apply kept_ite
    | with_reducible apply kept_ite_snd
    | simp only [↓kept_upd_iff, implies_true, hcol, hfab, Bool.false_eq_true, false_implies]
    | with_reducible apply foldl_kept
    | with_reducible apply foldl_kept_pair
    | refine kept_snd (by with_reducible assumption) ?_
    | refine kept_third (by with_reducible assumption) ?_
    | dsimp only
    | split

theorem sendPlain_kept {cnt : Option Nat} {cls : Nat} {dst : Nat} {plen : Nat} {payload : Nat} (hfab : m.leaves .fab = false) (h : Kept m a s) : Kept m a (sendPlain cnt cls dst plen payload s) := by
  unfold sendPlain
  repeat' first
    | with_reducible assumption
    | intro _
    | with_reducible apply issueBranch_kept
    | with_reducible apply kept_ite
    | refine kept_snd (by with_reducible assumption) ?_
    | refine kept_third (by with_reducible assumption) ?_
    | dsimp only
    | split

theorem multiPlain_kept {cnt : Option Nat} {cls : Nat} {group : Nat} {plen : Nat} {payload : Nat} (hcol : m.leaves .col = false) (hfab : m.leaves .fab = false) (h : Kept m a s) : Kept m a (multiPlain cnt cls group plen payload s) := by
  unfold multiPlain
  repeat' first
    | with_reducible assumption
    | intro _
    | with_reducible apply sendMulti_kept
    | with_reducible apply kept_ite
    | refine kept_snd (by with_reducible assumption) ?_
    | refine kept_third (by with_reducible assumption) ?_
    | dsimp only
    | split

theorem dropMsg_kept {m_ : VcsMsg} (hfab : m.leaves .fab = false) (h : Kept m a s) : Kept m a (dropMsg m_ s) := by
  unfold dropMsg
  repeat' first
    | with_reducible assumption
    | intro _
    | with_reducible apply kept_ite
    | simp only [↓kept_upd_iff, implies_true, hfab, Bool.false_eq_true, false_implies]
    | dsimp only
    | split

theorem withMsg_kept {cls : Nat} {typ : Nat} {f : VcsMsg → State → State} (hf : ∀ x0 t, Kept m a t → Kept m a (f x0 t)) (hfab : m.leaves .fab = false) (h : Kept m a s) : Kept m a (withMsg cls typ f s) := by
  unfold withMsg
  repeat' first
    | with_reducible assumption
    | intro _
    | with_reducible apply dropMsg_kept
    | with_reducible apply hf
    | with_reducible apply kept_ite
    | dsimp only
    | split

theorem vcsBad_kept {src : Nat} {d : Nat} (hcol : m.leaves .col = false) (h : Kept m a s) : Kept m a (vcsBad src d s) := by
  unfold vcsBad
  repeat' first
    | with_reducible assumption
    | intro _
    | with_reducible apply raiseFabric_kept
    | with_reducible apply kept_ite
    | dsimp only
    | split

theorem updStop_kept {c : Nat} {f : Stop → Stop} (hfab : m.leaves .fab = false) (h : Kept m a s) : Kept m a (updStop c f s) := by
  unfold updStop
  repeat' first
    | with_reducible assumption
    | intro _
    | with_reducible apply kept_ite
    | simp only [↓kept_upd_iff, implies_true, hfab, Bool.false_eq_true, false_implies]
    | dsimp only
    | split

theorem answer_kept {src : Nat} {mseq : Nat} {good : Bool} (h : Kept m a s) : Kept m a (answer src mseq good s) := by
  unfold answer
  repeat' first
    | with_reducible assumption
    | intro _
    | with_reducible apply emit_kept
    | with_reducible apply kept_ite
    | dsimp only
    | split

/-! ### Quoper -/

theorem updPair_kept {b : Bool} {f : Pair → Pair} (hseq : m.leaves .seq = false) (h : Kept m a s) : Kept m a (updPair b f s) := by
  unfold updPair
  repeat' first
    | with_reducible assumption
    | intro _
    | with_reducible apply kept_ite
    | simp only [↓kept_upd_iff, implies_true, hseq, Bool.false_eq_true, false_implies]
    | dsimp only
    | split

theorem malformed_kept {b : Bool} {q : BitVec 56} (hcol : m.leaves .col = false) (hseq : m.leaves .seq = false) (h : Kept m a s) : Kept m a (malformed b q s) := by
  unfold malformed
  repeat' first
    | with_reducible assumption
    | intro _
    | with_reducible apply raiseHub_kept
    | with_reducible apply updPair_kept
    | with_reducible apply kept_ite
    | dsimp only
    | split

theorem qIssue_kept {b : Bool} {q : BitVec 56} {good : Bool} {f : State → State} (hf : ∀  t, Kept m a t → Kept m a (f  t)) (hcol : m.leaves .col = false) (hseq : m.leaves .seq = false) (h : Kept m a s) : Kept m a (qIssue b q good f s) := by
  unfold qIssue
  repeat' first
    | with_reducible assumption
    | intro _
    | with_reducible apply updPair_kept
    | with_reducible apply malformed_kept
    | with_reducible apply hf
    | with_reducible apply kept_ite
    | dsimp only
    | split

theorem qScalar_kept {b : Bool} {q : BitVec 56} {mask : Nat} {f : Pair → W64} (hcol : m.leaves .col = false) (hseq : m.leaves .seq = false) (h : Kept m a s) : Kept m a (qScalar b q mask f s) := by
  unfold qScalar
  repeat' first
    | with_reducible assumption
    | intro _
    | with_reducible apply qIssue_kept
    | with_reducible apply updPair_kept
    | with_reducible apply kept_ite
    | dsimp only
    | split

theorem qRRR_kept {b : Bool} {q : BitVec 56} {f : W64 → W64 → W64} (hcol : m.leaves .col = false) (hseq : m.leaves .seq = false) (h : Kept m a s) : Kept m a (qRRR b q f s) := by
  unfold qRRR
  repeat' first
    | with_reducible assumption
    | intro _
    | with_reducible apply qScalar_kept
    | with_reducible apply kept_ite
    | dsimp only
    | split

theorem qRRI_kept {b : Bool} {q : BitVec 56} {f : W64 → W64} (hcol : m.leaves .col = false) (hseq : m.leaves .seq = false) (h : Kept m a s) : Kept m a (qRRI b q f s) := by
  unfold qRRI
  repeat' first
    | with_reducible assumption
    | intro _
    | with_reducible apply qScalar_kept
    | with_reducible apply kept_ite
    | dsimp only
    | split

theorem qShift_kept {b : Bool} {q : BitVec 56} {f : W64 → Nat → W64} (hcol : m.leaves .col = false) (hseq : m.leaves .seq = false) (h : Kept m a s) : Kept m a (qShift b q f s) := by
  unfold qShift
  repeat' first
    | with_reducible assumption
    | intro _
    | with_reducible apply qScalar_kept
    | with_reducible apply kept_ite
    | dsimp only
    | split

theorem qCompare_kept {b : Bool} {q : BitVec 56} {mask : Nat} {y : Pair → W64} (hcol : m.leaves .col = false) (hseq : m.leaves .seq = false) (h : Kept m a s) : Kept m a (qCompare b q mask y s) := by
  unfold qCompare
  repeat' first
    | with_reducible assumption
    | intro _
    | with_reducible apply qIssue_kept
    | with_reducible apply updPair_kept
    | with_reducible apply kept_ite
    | dsimp only
    | split

theorem hookReturns_kept {b : Bool} (hseq : m.leaves .seq = false) (h : Kept m a s) : Kept m a (hookReturns b s) := by
  unfold hookReturns
  repeat' first
    | with_reducible assumption
    | intro _
    | with_reducible apply kept_ite
    | simp only [↓kept_upd_iff, implies_true, hseq, Bool.false_eq_true, false_implies]
    | dsimp only
    | split

theorem qStatus_kept {b : Bool} {q : BitVec 56} {good : Bool} {standby : Bool} {f : State → Nat × State} (hf : ∀  t, Kept m a t → Kept m a (f  t).2) (hcol : m.leaves .col = false) (hseq : m.leaves .seq = false) (h : Kept m a s) : Kept m a (qStatus b q good standby f s) := by
  unfold qStatus
  repeat' first
    | with_reducible assumption
    | intro _
    | with_reducible apply qIssue_kept
    | with_reducible apply updPair_kept
    | with_reducible apply hf
    | with_reducible apply kept_ite
    | dsimp only
    | split

theorem qStatusG_kept {b : Bool} {q : BitVec 56} {good : Bool} {standby : Bool} {f : State → Nat × Option W64 × State} (hf : ∀  t, Kept m a t → Kept m a (f  t).2.2) (hcol : m.leaves .col = false) (hseq : m.leaves .seq = false) (h : Kept m a s) : Kept m a (qStatusG b q good standby f s) := by
  unfold qStatusG
  repeat' first
    | with_reducible assumption
    | intro _
    | with_reducible apply qStatus_kept
    | with_reducible apply updPair_kept
    | with_reducible apply hf
    | with_reducible apply kept_ite
    | dsimp only
    | split

theorem sysPush_kept {serving : Bool} {typ : Nat} {arg : Nat} (hseq : m.leaves .seq = false) (h : Kept m a s) : Kept m a (sysPush serving typ arg s) := by
  unfold sysPush
  repeat' first
    | with_reducible assumption
    | intro _
    | with_reducible apply kept_ite
    | simp only [↓kept_upd_iff, implies_true, hseq, Bool.false_eq_true, false_implies]
    | dsimp only
    | split

theorem sysBoth_kept {typ : Nat} {arg : Nat} (hseq : m.leaves .seq = false) (h : Kept m a s) : Kept m a (sysBoth typ arg s) := by
  unfold sysBoth
  repeat' first
    | with_reducible assumption
    | intro _
    | with_reducible apply sysPush_kept
    | with_reducible apply kept_ite
    | dsimp only
    | split

theorem swapRoles_kept {arg : Nat} (hseq : m.leaves .seq = false) (h : Kept m a s) : Kept m a (swapRoles arg s) := by
  unfold swapRoles
  repeat' first
    | with_reducible assumption
    | intro _
    | with_reducible apply updPair_kept
    | with_reducible apply sysPush_kept
    | with_reducible apply kept_ite
    | simp only [↓kept_upd_iff, implies_true, hseq, Bool.false_eq_true, false_implies]
    | dsimp only
    | split

/-! ### QuoperMem -/

theorem bankRefused_kept {st : Nat} (hobs : m.leaves .obs = false) (h : Kept m a s) : Kept m a (bankRefused st s) := by
  unfold bankRefused
  repeat' first
    | with_reducible assumption
    | intro _
    | with_reducible apply whenS_kept
    | with_reducible apply countHub_kept
    | with_reducible apply kept_ite
    | dsimp only
    | split

theorem qWord_kept {a_ : Nat} (hbnk : m.leaves .bnk = false) (hcol : m.leaves .col = false) (hwords : m.leaves .words = false) (h : Kept m a s) : Kept m a (qWord a_ s).2.2 := by
  unfold qWord
  repeat' first
    | with_reducible assumption
    | intro _
    | with_reducible apply bankFetch_kept
    | with_reducible apply kept_ite
    | with_reducible apply kept_ite_third
    | refine kept_snd (by with_reducible assumption) ?_
    | refine kept_third (by with_reducible assumption) ?_
    | dsimp only
    | split

theorem parityFailed_kept {a_ : Nat} (hcol : m.leaves .col = false) (h : Kept m a s) : Kept m a (parityFailed a_ s) := by
  unfold parityFailed
  repeat' first
    | with_reducible assumption
    | intro _
    | with_reducible apply raiseHub_kept
    | with_reducible apply kept_ite
    | dsimp only
    | split

theorem doLd_kept {b : Bool} {q : BitVec 56} {path : PathParity} (hbnk : m.leaves .bnk = false) (hobs : m.leaves .obs = false) (hcol : m.leaves .col = false) (hseq : m.leaves .seq = false) (hwords : m.leaves .words = false) (h : Kept m a s) : Kept m a (doLd b q path s).2 := by
  unfold doLd
  repeat' first
    | with_reducible assumption
    | intro _
    | with_reducible apply bankRefused_kept
    | with_reducible apply qWord_kept
    | with_reducible apply parityFailed_kept
    | with_reducible apply updPair_kept
    | with_reducible apply kept_ite
    | with_reducible apply kept_ite_snd
    | simp only [↓kept_upd_iff, implies_true, hbnk, hobs, hcol, hseq, hwords, Bool.false_eq_true, false_implies]
    | refine kept_snd (by with_reducible assumption) ?_
    | refine kept_third (by with_reducible assumption) ?_
    | dsimp only
    | split

theorem doSt_kept {b : Bool} {q : BitVec 56} {path : PathParity} (hbnk : m.leaves .bnk = false) (hobs : m.leaves .obs = false) (hcol : m.leaves .col = false) (hgov : m.leaves .gov = false) (hwords : m.leaves .words = false) (h : Kept m a s) : Kept m a (doSt b q path s).2 := by
  unfold doSt
  repeat' first
    | with_reducible assumption
    | intro _
    | with_reducible apply bankRefused_kept
    | with_reducible apply parityFailed_kept
    | with_reducible apply bankWrite_kept
    | with_reducible apply kept_ite
    | with_reducible apply kept_ite_snd
    | dsimp only
    | split

theorem doLdw_kept {b : Bool} {q : BitVec 56} (hbnk : m.leaves .bnk = false) (hobs : m.leaves .obs = false) (hcol : m.leaves .col = false) (hseq : m.leaves .seq = false) (hwords : m.leaves .words = false) (h : Kept m a s) : Kept m a (doLdw b q s).2 := by
  unfold doLdw
  repeat' first
    | with_reducible assumption
    | intro _
    | with_reducible apply bankRefused_kept
    | with_reducible apply qWord_kept
    | with_reducible apply updPair_kept
    | with_reducible apply kept_ite
    | with_reducible apply kept_ite_snd
    | simp only [↓kept_upd_iff, implies_true, hbnk, hobs, hcol, hseq, hwords, Bool.false_eq_true, false_implies]
    | with_reducible apply foldl_kept
    | with_reducible apply foldl_kept_pair
    | refine kept_snd (by with_reducible assumption) ?_
    | refine kept_third (by with_reducible assumption) ?_
    | dsimp only
    | split

theorem doStw_kept {b : Bool} {q : BitVec 56} (hbnk : m.leaves .bnk = false) (hobs : m.leaves .obs = false) (hgov : m.leaves .gov = false) (hwords : m.leaves .words = false) (h : Kept m a s) : Kept m a (doStw b q s).2 := by
  unfold doStw
  repeat' first
    | with_reducible assumption
    | intro _
    | with_reducible apply bankRefused_kept
    | with_reducible apply bankWrite_kept
    | with_reducible apply kept_ite
    | with_reducible apply kept_ite_snd
    | dsimp only
    | split

theorem opRead_kept {x n : Nat} (hbnk : m.leaves .bnk = false) (hcol : m.leaves .col = false) (hwords : m.leaves .words = false) (h : Kept m a s) : Kept m a (opRead x n s).2.2 := by
  unfold opRead
  dsimp only
  exact foldl_kept_proj (fun r : Nat × Nat × Bool × State => r.2.2.2) (fun _ _ hr => qWord_kept (by assumption) (by assumption) (by assumption) hr) _ h

theorem opWrite_kept {a_ : Nat} {n : Nat} {v : Nat} (hbnk : m.leaves .bnk = false) (hgov : m.leaves .gov = false) (hwords : m.leaves .words = false) (h : Kept m a s) : Kept m a (opWrite a_ n v s) := by
  unfold opWrite
  repeat' first
    | with_reducible assumption
    | intro _
    | with_reducible apply bankWrite_kept
    | with_reducible apply foldS_kept
    | with_reducible apply kept_ite
    | dsimp only
    | split

theorem startHeld_kept {c : Nat} (hcmd : m.leaves .cmd = false) (h : Kept m a s) : Kept m a (startHeld c s) := by
  unfold startHeld
  repeat' first
    | with_reducible assumption
    | intro _
    | with_reducible apply updComp_kept
    | with_reducible apply kept_ite
    | simp only [↓kept_upd_iff, implies_true, hcmd, Bool.false_eq_true, false_implies]
    | dsimp only
    | split

theorem queueDrop_kept {b : Bool} {id : Nat} (hbnk : m.leaves .bnk = false) (hobs : m.leaves .obs = false) (hisl : m.leaves .isl = false) (hcol : m.leaves .col = false) (hgov : m.leaves .gov = false) (hcmd : m.leaves .cmd = false) (hseq : m.leaves .seq = false) (hwords : m.leaves .words = false) (h : Kept m a s) : Kept m a (queueDrop b id s) := by
  unfold queueDrop
  repeat' first
    | with_reducible assumption
    | intro _
    | with_reducible apply popIntake_kept
    | with_reducible apply startHeld_kept
    | with_reducible apply gateIn_kept
    | with_reducible apply kept_id
    | with_reducible apply kept_ite
    | simp only [↓kept_upd_iff, implies_true, hbnk, hobs, hisl, hcol, hgov, hcmd, hseq, hwords, Bool.false_eq_true, false_implies]
    | dsimp only
    | split

theorem doBind_kept {b : Bool} {q : BitVec 56} (hseq : m.leaves .seq = false) (h : Kept m a s) : Kept m a (doBind b q s).2 := by
  unfold doBind
  repeat' first
    | with_reducible assumption
    | intro _
    | with_reducible apply updPair_kept
    | with_reducible apply kept_id
    | with_reducible apply kept_ite
    | with_reducible apply kept_ite_snd
    | simp only [↓kept_upd_iff, implies_true, hseq, Bool.false_eq_true, false_implies]
    | dsimp only
    | split

theorem doPop_kept {b : Bool} {q : BitVec 56} (hbnk : m.leaves .bnk = false) (hobs : m.leaves .obs = false) (hisl : m.leaves .isl = false) (hcol : m.leaves .col = false) (hgov : m.leaves .gov = false) (hcmd : m.leaves .cmd = false) (hseq : m.leaves .seq = false) (hwords : m.leaves .words = false) (h : Kept m a s) : Kept m a (doPop b q s).2.2 := by
  unfold doPop
  repeat' first
    | with_reducible assumption
    | intro _
    | with_reducible apply bankRefused_kept
    | with_reducible apply queueDrop_kept
    | with_reducible apply opWrite_kept
    | with_reducible apply kept_id
    | with_reducible apply kept_ite
    | with_reducible apply kept_ite_third
    | dsimp only
    | split

theorem formResponse_kept {r : W256} (hseq : m.leaves .seq = false) (h : Kept m a s) : Kept m a (formResponse r s) := by
  unfold formResponse
  repeat' first
    | with_reducible assumption
    | intro _
    | with_reducible apply kept_ite
    | simp only [↓kept_upd_iff, implies_true, hseq, Bool.false_eq_true, false_implies]
    | dsimp only
    | split

theorem pushRequest_kept {r : W256} (hseq : m.leaves .seq = false) (h : Kept m a s) : Kept m a (pushRequest r s).2 := by
  unfold pushRequest
  repeat' first
    | with_reducible assumption
    | intro _
    | with_reducible apply formResponse_kept
    | with_reducible apply kept_ite
    | with_reducible apply kept_ite_snd
    | simp only [↓kept_upd_iff, implies_true, hseq, Bool.false_eq_true, false_implies]
    | dsimp only
    | split

theorem pushCompletion_kept {c : Nat} {r : W256} (hcmd : m.leaves .cmd = false) (h : Kept m a s) : Kept m a (pushCompletion c r s).2 := by
  unfold pushCompletion
  repeat' first
    | with_reducible assumption
    | intro _
    | with_reducible apply completeCmd_kept
    | with_reducible apply postRecord_kept
    | with_reducible apply kept_ite
    | with_reducible apply kept_ite_snd
    | dsimp only
    | split

theorem doPush_kept {b : Bool} {q : BitVec 56} (hbnk : m.leaves .bnk = false) (hobs : m.leaves .obs = false) (hcol : m.leaves .col = false) (hcmd : m.leaves .cmd = false) (hrecd : m.leaves .recd = false) (hseq : m.leaves .seq = false) (hwords : m.leaves .words = false) (h : Kept m a s) : Kept m a (doPush b q s).2 := by
  unfold doPush
  repeat' first
    | with_reducible assumption
    | intro _
    | with_reducible apply bankRefused_kept
    | with_reducible apply opRead_kept
    | with_reducible apply pushRequest_kept
    | with_reducible apply refuseCrossing_kept
    | with_reducible apply pushCompletion_kept
    | with_reducible apply kept_id
    | with_reducible apply kept_ite
    | with_reducible apply kept_ite_snd
    | simp only [↓kept_upd_iff, implies_true, hbnk, hobs, hcol, hcmd, hrecd, hseq, hwords, Bool.false_eq_true, false_implies]
    | refine kept_snd (by with_reducible assumption) ?_
    | refine kept_third (by with_reducible assumption) ?_
    | dsimp only
    | split

theorem doQlen_kept {b : Bool} {q : BitVec 56} (h : Kept m a s) : Kept m a (doQlen b q s).2.2 := by
  unfold doQlen
  repeat' first
    | with_reducible assumption
    | intro _
    | with_reducible apply kept_id
    | with_reducible apply kept_ite
    | with_reducible apply kept_ite_third
    | dsimp only
    | split

theorem expireTimer_kept {b : Bool} {n : Nat} (hseq : m.leaves .seq = false) (h : Kept m a s) : Kept m a (expireTimer b n s) := by
  unfold expireTimer
  repeat' first
    | with_reducible assumption
    | intro _
    | with_reducible apply updPair_kept
    | with_reducible apply formResponse_kept
    | with_reducible apply sysPush_kept
    | with_reducible apply kept_ite
    | simp only [↓kept_upd_iff, implies_true, hseq, Bool.false_eq_true, false_implies]
    | dsimp only
    | split

theorem doTimer_kept {b : Bool} {q : BitVec 56} (hseq : m.leaves .seq = false) (h : Kept m a s) : Kept m a (doTimer b q s).2 := by
  unfold doTimer
  repeat' first
    | with_reducible assumption
    | intro _
    | with_reducible apply updPair_kept
    | with_reducible apply expireTimer_kept
    | with_reducible apply kept_ite
    | with_reducible apply kept_ite_snd
    | simp only [↓kept_upd_iff, implies_true, hseq, Bool.false_eq_true, false_implies]
    | dsimp only
    | split

theorem waitDone_kept {b : Bool} {w : Waiting} {h_ : Nat} {status : Nat} (hseq : m.leaves .seq = false) (h : Kept m a s) : Kept m a (waitDone b w h_ status s) := by
  unfold waitDone
  repeat' first
    | with_reducible assumption
    | intro _
    | with_reducible apply updPair_kept
    | with_reducible apply kept_ite
    | simp only [↓kept_upd_iff, implies_true, hseq, Bool.false_eq_true, false_implies]
    | dsimp only
    | split

theorem wakePair_kept {b : Bool} (hseq : m.leaves .seq = false) (h : Kept m a s) : Kept m a (wakePair b s) := by
  unfold wakePair
  repeat' first
    | with_reducible assumption
    | intro _
    | with_reducible apply waitDone_kept
    | with_reducible apply kept_ite
    | dsimp only
    | split

theorem endTurn_kept {b : Bool} (hseq : m.leaves .seq = false) (h : Kept m a s) : Kept m a (endTurn b s) := by
  unfold endTurn
  repeat' first
    | with_reducible assumption
    | intro _
    | with_reducible apply whenS_kept
    | with_reducible apply updPair_kept
    | with_reducible apply kept_ite
    | simp only [↓kept_upd_iff, implies_true, hseq, Bool.false_eq_true, false_implies]
    | dsimp only
    | split

theorem tryHandover_kept  (hisl : m.leaves .isl = false) (hseq : m.leaves .seq = false) (h : Kept m a s) : Kept m a (tryHandover s) := by
  unfold tryHandover
  repeat' first
    | with_reducible assumption
    | intro _
    | with_reducible apply gateRespond_kept
    | with_reducible apply swapRoles_kept
    | with_reducible apply kept_ite
    | dsimp only
    | split

theorem doWait_kept {b : Bool} {q : BitVec 56} (hisl : m.leaves .isl = false) (hseq : m.leaves .seq = false) (h : Kept m a s) : Kept m a (doWait b q s) := by
  unfold doWait
  repeat' first
    | with_reducible assumption
    | intro _
    | with_reducible apply endTurn_kept
    | with_reducible apply updPair_kept
    | with_reducible apply wakePair_kept
    | with_reducible apply whenS_kept
    | with_reducible apply tryHandover_kept
    | with_reducible apply kept_ite
    | simp only [↓kept_upd_iff, implies_true, hisl, hseq, Bool.false_eq_true, false_implies]
    | dsimp only
    | split

/-! ### Latch -/

theorem putLatch_kept {i : Nat} {l : Latch} (hfab : m.leaves .fab = false) (h : Kept m a s) : Kept m a (putLatch i l s) := by
  unfold putLatch
  repeat' first
    | with_reducible assumption
    | intro _
    | with_reducible apply kept_ite
    | simp only [↓kept_upd_iff, implies_true, hfab, Bool.false_eq_true, false_implies]
    | dsimp only
    | split

theorem straggle_kept {i : Nat} {gen : Nat} {l : Latch} (hobs : m.leaves .obs = false) (hcmd : m.leaves .cmd = false) (hfab : m.leaves .fab = false) (h : Kept m a s) : Kept m a (straggle i gen l s) := by
  unfold straggle
  repeat' first
    | with_reducible assumption
    | intro _
    | with_reducible apply trace_kept
    | with_reducible apply countHub_kept
    | with_reducible apply postRecord_kept
    | with_reducible apply kept_ite
    | simp only [↓kept_upd_iff, implies_true, hobs, hcmd, hfab, Bool.false_eq_true, false_implies]
    | dsimp only
    | split

theorem latchComplete_kept {n i src : Nat} (hobs : m.leaves .obs = false) (hcol : m.leaves .col = false) (hcmd : m.leaves .cmd = false) (hfab : m.leaves .fab = false) (h : Kept m a s) : Kept m a (latchComplete n i src s) := by
  induction n generalizing s with
  | zero => exact h
  | succ n ih =>
    unfold latchComplete
    repeat' first
      | with_reducible assumption
      | with_reducible apply ih
      | with_reducible apply straggle_kept
      | with_reducible apply putLatch_kept
      | with_reducible apply postRecord_kept
      | with_reducible apply multiPlain_kept
      | with_reducible apply sendPlain_kept
      | with_reducible apply kept_ite
      | dsimp only
      | split

theorem latchApply_kept {src : Nat} {own : Bool} {o : W128} (hobs : m.leaves .obs = false) (hcol : m.leaves .col = false) (hcmd : m.leaves .cmd = false) (hfab : m.leaves .fab = false) (h : Kept m a s) : Kept m a (latchApply src own o s).2.2 := by
  unfold latchApply
  repeat' first
    | with_reducible assumption
    | intro _
    | with_reducible apply raiseHub_kept
    | with_reducible apply foldS_kept
    | with_reducible apply putLatch_kept
    | with_reducible apply count_kept
    | with_reducible apply latchComplete_kept
    | with_reducible apply kept_ite
    | with_reducible apply kept_ite_third
    | simp only [↓kept_upd_iff, implies_true, hobs, hcol, hcmd, hfab, Bool.false_eq_true, false_implies]
    | dsimp only
    | split

theorem latchRow_kept {src : Nat} {o : W128} (hobs : m.leaves .obs = false) (hcol : m.leaves .col = false) (hcmd : m.leaves .cmd = false) (hfab : m.leaves .fab = false) (h : Kept m a s) : Kept m a (latchRow src o s) := by
  unfold latchRow
  repeat' first
    | with_reducible assumption
    | intro _
    | with_reducible apply dropMsg_kept
    | with_reducible apply latchApply_kept
    | with_reducible apply emit_kept
    | with_reducible apply sendPlain_kept
    | with_reducible apply kept_ite
    | refine kept_snd (by with_reducible assumption) ?_
    | refine kept_third (by with_reducible assumption) ?_
    | dsimp only
    | split

theorem latchRowOf_kept {op : Nat} {src : Nat} {o : W128} (hobs : m.leaves .obs = false) (hcol : m.leaves .col = false) (hcmd : m.leaves .cmd = false) (hfab : m.leaves .fab = false) (h : Kept m a s) : Kept m a (latchRowOf op src o s) := by
  unfold latchRowOf
  repeat' first
    | with_reducible assumption
    | intro _
    | with_reducible apply whenS_kept
    | with_reducible apply latchRow_kept
    | with_reducible apply kept_ite
    | dsimp only
    | split

theorem latchUpset_kept {i : Nat} {u : EntryUpset} (hcol : m.leaves .col = false) (hfab : m.leaves .fab = false) (h : Kept m a s) : Kept m a (latchUpset i u s) := by
  unfold latchUpset
  repeat' first
    | with_reducible assumption
    | intro _
    | with_reducible apply raiseHub_kept
    | with_reducible apply putLatch_kept
    | with_reducible apply kept_ite
    | simp only [↓kept_upd_iff, implies_true, hcol, hfab, Bool.false_eq_true, false_implies]
    | dsimp only
    | split

theorem doArrive_kept {src : Nat} {o : W128} {upset : Option EntryUpset} (hobs : m.leaves .obs = false) (hcol : m.leaves .col = false) (hcmd : m.leaves .cmd = false) (hfab : m.leaves .fab = false) (h : Kept m a s) : Kept m a (doArrive src o upset s) := by
  unfold doArrive
  repeat' first
    | with_reducible assumption
    | intro _
    | with_reducible apply latchRowOf_kept
    | with_reducible apply whenS_kept
    | with_reducible apply latchUpset_kept
    | with_reducible apply kept_ite
    | dsimp only
    | split

theorem lopResponse_kept {r : W128} (hseq : m.leaves .seq = false) (h : Kept m a s) : Kept m a (lopResponse r s) := by
  unfold lopResponse
  repeat' first
    | with_reducible assumption
    | intro _
    | with_reducible apply formResponse_kept
    | with_reducible apply kept_ite
    | dsimp only
    | split

theorem answerOp_kept {home : Nat} {latch : Nat} {status : Nat} {r : W128} (hcmd : m.leaves .cmd = false) (hseq : m.leaves .seq = false) (hfab : m.leaves .fab = false) (h : Kept m a s) : Kept m a (answerOp home latch status r s) := by
  unfold answerOp
  repeat' first
    | with_reducible assumption
    | intro _
    | with_reducible apply completeCmd_kept
    | with_reducible apply lopResponse_kept
    | with_reducible apply kept_ite
    | simp only [↓kept_upd_iff, implies_true, hcmd, hseq, hfab, Bool.false_eq_true, false_implies]
    | dsimp only
    | split

theorem doDone_kept  (hcmd : m.leaves .cmd = false) (hfab : m.leaves .fab = false) (h : Kept m a s) : Kept m a (doDone s) := by
  unfold doDone
  repeat' first
    | with_reducible assumption
    | intro _
    | with_reducible apply withMsg_kept
    | with_reducible apply postRecord_kept
    | with_reducible apply updStop_kept
    | with_reducible apply kept_ite
    | simp only [↓kept_upd_iff, implies_true, hcmd, hfab, Bool.false_eq_true, false_implies]
    | dsimp only
    | split

theorem sendLatch_kept {c : Nat} {tag : Option Nat} {o : W128} (hfab : m.leaves .fab = false) (h : Kept m a s) : Kept m a (sendLatch c tag o s).2 := by
  unfold sendLatch
  repeat' first
    | with_reducible assumption
    | intro _
    | with_reducible apply issueBranch_kept
    | with_reducible apply kept_ite
    | with_reducible apply kept_ite_snd
    | simp only [↓kept_upd_iff, implies_true, hfab, Bool.false_eq_true, false_implies]
    | refine kept_snd (by with_reducible assumption) ?_
    | refine kept_third (by with_reducible assumption) ?_
    | dsimp only
    | split

/-! ### Arrival -/

theorem updDig_kept {c : Nat} {f : DigComp → DigComp} (hdig : m.leaves .dig = false) (h : Kept m a s) : Kept m a (updDig c f s) := by
  unfold updDig
  repeat' first
    | with_reducible assumption
    | intro _
    | with_reducible apply kept_ite
    | simp only [↓kept_upd_iff, implies_true, hdig, Bool.false_eq_true, false_implies]
    | dsimp only
    | split

theorem startLatch_kept {c : Nat} {tag : Nat} {op : W128} (hobs : m.leaves .obs = false) (hcol : m.leaves .col = false) (hcmd : m.leaves .cmd = false) (hfab : m.leaves .fab = false) (h : Kept m a s) : Kept m a (startLatch c tag op s) := by
  unfold startLatch
  repeat' first
    | with_reducible assumption
    | intro _
    | with_reducible apply latchApply_kept
    | with_reducible apply completeCmd_kept
    | with_reducible apply sendLatch_kept
    | with_reducible apply whenS_kept
    | with_reducible apply kept_ite
    | refine kept_snd (by with_reducible assumption) ?_
    | refine kept_third (by with_reducible assumption) ?_
    | dsimp only
    | split

theorem releaseArrivals_kept {c : Nat} (hdig : m.leaves .dig = false) (hobs : m.leaves .obs = false) (hcol : m.leaves .col = false) (hcmd : m.leaves .cmd = false) (hfab : m.leaves .fab = false) (h : Kept m a s) : Kept m a (releaseArrivals c s) := by
  unfold releaseArrivals
  repeat' first
    | with_reducible assumption
    | intro _
    | with_reducible apply updDig_kept
    | with_reducible apply foldS_kept
    | with_reducible apply completeCmd_kept
    | with_reducible apply startLatch_kept
    | with_reducible apply kept_ite
    | simp only [↓kept_upd_iff, implies_true, hdig, hobs, hcol, hcmd, hfab, Bool.false_eq_true, false_implies]
    | dsimp only
    | split

theorem drainBad_kept {i : Nat} {reuse : Nat} (hdig : m.leaves .dig = false) (h : Kept m a s) : Kept m a (drainBad i reuse s) := by
  unfold drainBad
  repeat' first
    | with_reducible assumption
    | intro _
    | with_reducible apply foldS_kept
    | with_reducible apply updDig_kept
    | with_reducible apply kept_ite
    | simp only [↓kept_upd_iff, implies_true, hdig, Bool.false_eq_true, false_implies]
    | dsimp only
    | split

theorem drained_kept {i : Nat} {reuse : Nat} (hdig : m.leaves .dig = false) (hobs : m.leaves .obs = false) (hcol : m.leaves .col = false) (hcmd : m.leaves .cmd = false) (hfab : m.leaves .fab = false) (h : Kept m a s) : Kept m a (drained i reuse s) := by
  unfold drained
  repeat' first
    | with_reducible assumption
    | intro _
    | with_reducible apply foldS_kept
    | with_reducible apply releaseArrivals_kept
    | with_reducible apply updDig_kept
    | with_reducible apply kept_ite
    | simp only [↓kept_upd_iff, implies_true, hdig, hobs, hcol, hcmd, hfab, Bool.false_eq_true, false_implies]
    | dsimp only
    | split

/-! ### Cords -/

theorem updCord_kept {slot : Nat} {f : Cord → Cord} (hjrn : m.leaves .jrn = false) (h : Kept m a s) : Kept m a (updCord slot f s) := by
  unfold updCord
  repeat' first
    | with_reducible assumption
    | intro _
    | with_reducible apply kept_ite
    | simp only [↓kept_upd_iff, implies_true, hjrn, Bool.false_eq_true, false_implies]
    | dsimp only
    | split

theorem setCordSt_kept {slot : Nat} {st : CordSt} (hobs : m.leaves .obs = false) (hjrn : m.leaves .jrn = false) (h : Kept m a s) : Kept m a (setCordSt slot st s) := by
  unfold setCordSt
  repeat' first
    | with_reducible assumption
    | intro _
    | with_reducible apply trace_kept
    | with_reducible apply updCord_kept
    | with_reducible apply kept_id
    | with_reducible apply kept_ite
    | simp only [↓kept_upd_iff, implies_true, hobs, hjrn, Bool.false_eq_true, false_implies]
    | dsimp only
    | split

theorem freeCord_kept {slot : Nat} (hjrn : m.leaves .jrn = false) (h : Kept m a s) : Kept m a (freeCord slot s) := by
  unfold freeCord
  repeat' first
    | with_reducible assumption
    | intro _
    | with_reducible apply kept_ite
    | simp only [↓kept_upd_iff, implies_true, hjrn, Bool.false_eq_true, false_implies]
    | dsimp only
    | split

theorem postCord_kept {k : Cord} {final : Bool} {status : Nat} (hcmd : m.leaves .cmd = false) (h : Kept m a s) : Kept m a (postCord k final status s) := by
  unfold postCord
  repeat' first
    | with_reducible assumption
    | intro _
    | with_reducible apply postRecord_kept
    | with_reducible apply kept_id
    | with_reducible apply kept_ite
    | dsimp only
    | split

theorem postRecant_kept {c : Nat} {cord : Nat} {die : Nat} {reason : Nat} {cause : Nat} {epoch : Nat} (hcmd : m.leaves .cmd = false) (h : Kept m a s) : Kept m a (postRecant c cord die reason cause epoch s) := by
  unfold postRecant
  repeat' first
    | with_reducible assumption
    | intro _
    | with_reducible apply postRecord_kept
    | with_reducible apply kept_ite
    | dsimp only
    | split

theorem spreadTaint_kept {c : Nat} {slot : Nat} {r : Nat × Nat} (hjrn : m.leaves .jrn = false) (h : Kept m a s) : Kept m a (spreadTaint c slot r s) := by
  unfold spreadTaint
  repeat' first
    | with_reducible assumption
    | intro _
    | with_reducible apply foldS_kept
    | with_reducible apply updCord_kept
    | with_reducible apply kept_ite
    | dsimp only
    | split

theorem wmarkAccept_kept {tap : Nat} {unit : Nat} {seq : Nat} (hesc : m.leaves .esc = false) (h : Kept m a s) : Kept m a (wmarkAccept tap unit seq s) := by
  unfold wmarkAccept
  repeat' first
    | with_reducible assumption
    | intro _
    | with_reducible apply kept_ite
    | simp only [↓kept_upd_iff, implies_true, hesc, Bool.false_eq_true, false_implies]
    | dsimp only
    | split

theorem wmarkGood_kept {tap : Nat} {unit : Nat} {seq : Nat} (hesc : m.leaves .esc = false) (h : Kept m a s) : Kept m a (wmarkGood tap unit seq s) := by
  unfold wmarkGood
  repeat' first
    | with_reducible assumption
    | intro _
    | with_reducible apply kept_ite
    | simp only [↓kept_upd_iff, implies_true, hesc, Bool.false_eq_true, false_implies]
    | dsimp only
    | split

theorem wmarkBad_kept {tap : Nat} {unit : Nat} {seq : Nat} {cord : Nat} {kind : Nat} (hesc : m.leaves .esc = false) (h : Kept m a s) : Kept m a (wmarkBad tap unit seq cord kind s) := by
  unfold wmarkBad
  repeat' first
    | with_reducible assumption
    | intro _
    | with_reducible apply kept_ite
    | simp only [↓kept_upd_iff, implies_true, hesc, Bool.false_eq_true, false_implies]
    | dsimp only
    | split

theorem wmarkReplay_kept {tap : Nat} {unit : Nat} {cord : Nat} (hesc : m.leaves .esc = false) (h : Kept m a s) : Kept m a (wmarkReplay tap unit cord s) := by
  unfold wmarkReplay
  repeat' first
    | with_reducible assumption
    | intro _
    | with_reducible apply kept_ite
    | simp only [↓kept_upd_iff, implies_true, hesc, Bool.false_eq_true, false_implies]
    | dsimp only
    | split

/-! ### Escrow -/

theorem putEntry_kept {i : Nat} {e : EscEntry} (hesc : m.leaves .esc = false) (h : Kept m a s) : Kept m a (putEntry i e s) := by
  unfold putEntry
  repeat' first
    | with_reducible assumption
    | intro _
    | with_reducible apply kept_ite
    | simp only [↓kept_upd_iff, implies_true, hesc, Bool.false_eq_true, false_implies]
    | dsimp only
    | split

theorem freeEntry_kept {i : Nat} (hdig : m.leaves .dig = false) (hobs : m.leaves .obs = false) (hcol : m.leaves .col = false) (hcmd : m.leaves .cmd = false) (hesc : m.leaves .esc = false) (hfab : m.leaves .fab = false) (h : Kept m a s) : Kept m a (freeEntry i s) := by
  unfold freeEntry
  repeat' first
    | with_reducible assumption
    | intro _
    | with_reducible apply drained_kept
    | with_reducible apply kept_ite
    | simp only [↓kept_upd_iff, implies_true, hdig, hobs, hcol, hcmd, hesc, hfab, Bool.false_eq_true, false_implies]
    | dsimp only
    | split

theorem taintEpoch_kept {c : Nat} (hdig : m.leaves .dig = false) (h : Kept m a s) : Kept m a (taintEpoch c s) := by
  unfold taintEpoch
  repeat' first
    | with_reducible assumption
    | intro _
    | with_reducible apply updDig_kept
    | with_reducible apply kept_ite
    | simp only [↓kept_upd_iff, implies_true, hdig, Bool.false_eq_true, false_implies]
    | dsimp only
    | split

theorem traceSend_kept {flags : Nat} {i : Nat} {e : EscEntry} (hobs : m.leaves .obs = false) (h : Kept m a s) : Kept m a (traceSend flags i e s) := by
  unfold traceSend
  repeat' first
    | with_reducible assumption
    | intro _
    | with_reducible apply trace_kept
    | with_reducible apply kept_ite
    | dsimp only
    | split

theorem countUnmatched_kept  (hesc : m.leaves .esc = false) (h : Kept m a s) : Kept m a (countUnmatched s) := by
  unfold countUnmatched
  repeat' first
    | with_reducible assumption
    | intro _
    | with_reducible apply kept_ite
    | simp only [↓kept_upd_iff, implies_true, hesc, Bool.false_eq_true, false_implies]
    | dsimp only
    | split

theorem escBranchFailed_kept {i : Nat} {reuse : Nat} (hesc : m.leaves .esc = false) (h : Kept m a s) : Kept m a (escBranchFailed i reuse s) := by
  unfold escBranchFailed
  repeat' first
    | with_reducible assumption
    | intro _
    | with_reducible apply putEntry_kept
    | with_reducible apply countUnmatched_kept
    | with_reducible apply kept_ite
    | simp only [↓kept_upd_iff, implies_true, hesc, Bool.false_eq_true, false_implies]
    | dsimp only
    | split

theorem sendRecant_kept {i : Nat} {reason : Nat} (hdig : m.leaves .dig = false) (hobs : m.leaves .obs = false) (hcol : m.leaves .col = false) (hesc : m.leaves .esc = false) (hfab : m.leaves .fab = false) (h : Kept m a s) : Kept m a (sendRecant i reason s) := by
  unfold sendRecant
  repeat' first
    | with_reducible assumption
    | intro _
    | with_reducible apply traceSend_kept
    | with_reducible apply drainBad_kept
    | with_reducible apply sendMulti_kept
    | with_reducible apply putEntry_kept
    | with_reducible apply whenS_kept
    | with_reducible apply escBranchFailed_kept
    | with_reducible apply issueBranch_kept
    | with_reducible apply kept_ite
    | simp only [↓kept_upd_iff, implies_true, hdig, hobs, hcol, hesc, hfab, Bool.false_eq_true, false_implies]
    | refine kept_snd (by with_reducible assumption) ?_
    | refine kept_third (by with_reducible assumption) ?_
    | dsimp only
    | split

theorem noteSent_kept {c : Nat} {cord : Nat} (hjrn : m.leaves .jrn = false) (h : Kept m a s) : Kept m a (noteSent c cord s) := by
  unfold noteSent
  repeat' first
    | with_reducible assumption
    | intro _
    | with_reducible apply updCord_kept
    | with_reducible apply kept_ite
    | simp only [↓kept_upd_iff, implies_true, hjrn, Bool.false_eq_true, false_implies]
    | dsimp only
    | split

theorem sendClear_kept {i : Nat} (hdig : m.leaves .dig = false) (hobs : m.leaves .obs = false) (hcol : m.leaves .col = false) (hcmd : m.leaves .cmd = false) (hjrn : m.leaves .jrn = false) (hesc : m.leaves .esc = false) (hfab : m.leaves .fab = false) (h : Kept m a s) : Kept m a (sendClear i s) := by
  unfold sendClear
  repeat' first
    | with_reducible assumption
    | intro _
    | with_reducible apply traceSend_kept
    | with_reducible apply freeEntry_kept
    | with_reducible apply noteSent_kept
    | with_reducible apply multiPlain_kept
    | with_reducible apply sendPlain_kept
    | with_reducible apply kept_ite
    | dsimp only
    | split

theorem countDrop_kept {e : EscEntry} (hobs : m.leaves .obs = false) (h : Kept m a s) : Kept m a (countDrop e s) := by
  unfold countDrop
  repeat' first
    | with_reducible assumption
    | intro _
    | with_reducible apply countTap_kept
    | with_reducible apply kept_ite
    | dsimp only
    | split

theorem dropHeld_kept {i : Nat} (hdig : m.leaves .dig = false) (hobs : m.leaves .obs = false) (hcol : m.leaves .col = false) (hcmd : m.leaves .cmd = false) (hesc : m.leaves .esc = false) (hfab : m.leaves .fab = false) (h : Kept m a s) : Kept m a (dropHeld i s) := by
  unfold dropHeld
  repeat' first
    | with_reducible assumption
    | intro _
    | with_reducible apply countDrop_kept
    | with_reducible apply traceSend_kept
    | with_reducible apply freeEntry_kept
    | with_reducible apply whenS_kept
    | with_reducible apply drainBad_kept
    | with_reducible apply emit_kept
    | with_reducible apply kept_ite
    | simp only [↓kept_upd_iff, implies_true, hdig, hobs, hcol, hcmd, hesc, hfab, Bool.false_eq_true, false_implies]
    | dsimp only
    | split

theorem recantOut_kept {reason : Nat} {i : Nat} (hdig : m.leaves .dig = false) (hobs : m.leaves .obs = false) (hcol : m.leaves .col = false) (hcmd : m.leaves .cmd = false) (hesc : m.leaves .esc = false) (hfab : m.leaves .fab = false) (h : Kept m a s) : Kept m a (recantOut reason i s) := by
  unfold recantOut
  repeat' first
    | with_reducible assumption
    | intro _
    | with_reducible apply dropHeld_kept
    | with_reducible apply countDrop_kept
    | with_reducible apply sendRecant_kept
    | with_reducible apply countUnmatched_kept
    | with_reducible apply kept_ite
    | dsimp only
    | split

theorem dropAtTap_kept {reason : Nat} {i : Nat} (hdig : m.leaves .dig = false) (hobs : m.leaves .obs = false) (hcol : m.leaves .col = false) (hcmd : m.leaves .cmd = false) (hesc : m.leaves .esc = false) (hfab : m.leaves .fab = false) (h : Kept m a s) : Kept m a (dropAtTap reason i s) := by
  unfold dropAtTap
  repeat' first
    | with_reducible assumption
    | intro _
    | with_reducible apply dropHeld_kept
    | with_reducible apply kept_ite
    | simp only [↓kept_upd_iff, implies_true, hdig, hobs, hcol, hcmd, hesc, hfab, Bool.false_eq_true, false_implies]
    | dsimp only
    | split

theorem sweepSends_kept  (hdig : m.leaves .dig = false) (hobs : m.leaves .obs = false) (hcol : m.leaves .col = false) (hcmd : m.leaves .cmd = false) (hesc : m.leaves .esc = false) (hfab : m.leaves .fab = false) (h : Kept m a s) : Kept m a (sweepSends s) := by
  unfold sweepSends
  repeat' first
    | with_reducible assumption
    | intro _
    | with_reducible apply foldS_kept
    | with_reducible apply dropAtTap_kept
    | with_reducible apply kept_ite
    | simp only [↓kept_upd_iff, implies_true, hdig, hobs, hcol, hcmd, hesc, hfab, Bool.false_eq_true, false_implies]
    | dsimp only
    | split

theorem acctLost_kept {c : Nat} (hcol : m.leaves .col = false) (hfab : m.leaves .fab = false) (h : Kept m a s) : Kept m a (acctLost c s) := by
  unfold acctLost
  repeat' first
    | with_reducible assumption
    | intro _
    | with_reducible apply raiseFabric_kept
    | with_reducible apply kept_ite
    | simp only [↓kept_upd_iff, implies_true, hcol, hfab, Bool.false_eq_true, false_implies]
    | dsimp only
    | split

theorem countGranted_kept {c : Nat} {dest : Nat} {group : Bool} (hcol : m.leaves .col = false) (hfab : m.leaves .fab = false) (h : Kept m a s) : Kept m a (countGranted c dest group s) := by
  unfold countGranted
  repeat' first
    | with_reducible assumption
    | intro _
    | with_reducible apply acctLost_kept
    | with_reducible apply kept_ite
    | simp only [↓kept_upd_iff, implies_true, hcol, hfab, Bool.false_eq_true, false_implies]
    | dsimp only
    | split

theorem grantSend_kept {key : Nat} (hdig : m.leaves .dig = false) (hobs : m.leaves .obs = false) (hcol : m.leaves .col = false) (hcmd : m.leaves .cmd = false) (hjrn : m.leaves .jrn = false) (hesc : m.leaves .esc = false) (hfab : m.leaves .fab = false) (h : Kept m a s) : Kept m a (grantSend key s) := by
  unfold grantSend
  repeat' first
    | with_reducible assumption
    | intro _
    | with_reducible apply putEntry_kept
    | with_reducible apply emit_kept
    | with_reducible apply sweepSends_kept
    | with_reducible apply countGranted_kept
    | with_reducible apply traceSend_kept
    | with_reducible apply countTap_kept
    | with_reducible apply freeEntry_kept
    | with_reducible apply noteSent_kept
    | with_reducible apply kept_ite
    | simp only [↓kept_upd_iff, implies_true, hdig, hobs, hcol, hcmd, hjrn, hesc, hfab, Bool.false_eq_true, false_implies]
    | dsimp only
    | split

theorem sendPortFailed_kept {tap : Nat} (hobs : m.leaves .obs = false) (hcol : m.leaves .col = false) (h : Kept m a s) : Kept m a (sendPortFailed tap s) := by
  unfold sendPortFailed
  repeat' first
    | with_reducible assumption
    | intro _
    | with_reducible apply raiseTap_kept
    | with_reducible apply kept_ite
    | dsimp only
    | split

theorem doSendRequest_kept {tap : Nat} {req : W128} (hdig : m.leaves .dig = false) (hobs : m.leaves .obs = false) (hcol : m.leaves .col = false) (hcmd : m.leaves .cmd = false) (hjrn : m.leaves .jrn = false) (hesc : m.leaves .esc = false) (hfab : m.leaves .fab = false) (h : Kept m a s) : Kept m a (doSendRequest tap req s) := by
  unfold doSendRequest
  repeat' first
    | with_reducible assumption
    | intro _
    | with_reducible apply sendPortFailed_kept
    | with_reducible apply putEntry_kept
    | with_reducible apply dropHeld_kept
    | with_reducible apply updStop_kept
    | with_reducible apply whenS_kept
    | with_reducible apply grantSend_kept
    | with_reducible apply kept_ite
    | simp only [↓kept_upd_iff, implies_true, hdig, hobs, hcol, hcmd, hjrn, hesc, hfab, Bool.false_eq_true, false_implies]
    | dsimp only
    | split

theorem serveTap_kept {tap : Nat} {c : Nat} (hesc : m.leaves .esc = false) (h : Kept m a s) : Kept m a (serveTap tap c s) := by
  unfold serveTap
  repeat' first
    | with_reducible assumption
    | intro _
    | with_reducible apply kept_ite
    | simp only [↓kept_upd_iff, implies_true, hesc, Bool.false_eq_true, false_implies]
    | dsimp only
    | split

theorem unserveTap_kept {tap : Nat} (hesc : m.leaves .esc = false) (h : Kept m a s) : Kept m a (unserveTap tap s) := by
  unfold unserveTap
  repeat' first
    | with_reducible assumption
    | intro _
    | with_reducible apply kept_ite
    | simp only [↓kept_upd_iff, implies_true, hesc, Bool.false_eq_true, false_implies]
    | dsimp only
    | split

theorem doCreditRefill_kept {tap : Nat} (hesc : m.leaves .esc = false) (h : Kept m a s) : Kept m a (doCreditRefill tap s) := by
  unfold doCreditRefill
  repeat' first
    | with_reducible assumption
    | intro _
    | with_reducible apply kept_ite
    | simp only [↓kept_upd_iff, implies_true, hesc, Bool.false_eq_true, false_implies]
    | with_reducible apply foldl_kept
    | with_reducible apply foldl_kept_pair
    | dsimp only
    | split

theorem doProofReport_kept  (hdig : m.leaves .dig = false) (hobs : m.leaves .obs = false) (hcol : m.leaves .col = false) (hcmd : m.leaves .cmd = false) (hjrn : m.leaves .jrn = false) (hesc : m.leaves .esc = false) (hfab : m.leaves .fab = false) (h : Kept m a s) : Kept m a (doProofReport s) := by
  unfold doProofReport
  repeat' first
    | with_reducible assumption
    | intro _
    | with_reducible apply countUnmatched_kept
    | with_reducible apply sendClear_kept
    | with_reducible apply recantOut_kept
    | with_reducible apply kept_ite
    | simp only [↓kept_upd_iff, implies_true, hdig, hobs, hcol, hcmd, hjrn, hesc, hfab, Bool.false_eq_true, false_implies]
    | dsimp only
    | split

theorem discardChecks_kept {slot : Nat} (hgov : m.leaves .gov = false) (hjrn : m.leaves .jrn = false) (h : Kept m a s) : Kept m a (discardChecks slot s) := by
  unfold discardChecks
  repeat' first
    | with_reducible assumption
    | intro _
    | with_reducible apply updCord_kept
    | with_reducible apply kept_ite
    | simp only [↓kept_upd_iff, implies_true, hgov, hjrn, Bool.false_eq_true, false_implies]
    | dsimp only
    | split

theorem withdrawTiles_kept {c : Nat} {cord : Nat} {reason : Nat} (htaps : m.leaves .taps = false) (h : Kept m a s) : Kept m a (withdrawTiles c cord reason s) := by
  unfold withdrawTiles
  repeat' first
    | with_reducible assumption
    | intro _
    | with_reducible apply kept_ite
    | simp only [↓kept_upd_iff, implies_true, htaps, Bool.false_eq_true, false_implies]
    | dsimp only
    | split

theorem tellRecanted_kept {slot : Nat} {reason : Nat} {k : Cord} (hcmd : m.leaves .cmd = false) (hjrn : m.leaves .jrn = false) (h : Kept m a s) : Kept m a (tellRecanted slot reason k s) := by
  unfold tellRecanted
  repeat' first
    | with_reducible assumption
    | intro _
    | with_reducible apply postRecant_kept
    | with_reducible apply updCord_kept
    | with_reducible apply postCord_kept
    | with_reducible apply kept_id
    | with_reducible apply kept_ite
    | simp only [↓kept_upd_iff, implies_true, hcmd, hjrn, Bool.false_eq_true, false_implies]
    | dsimp only
    | split

theorem recantCord_kept {reason : Nat} {slots : List Nat} {slot : Nat} (hdig : m.leaves .dig = false) (hobs : m.leaves .obs = false) (hcol : m.leaves .col = false) (hgov : m.leaves .gov = false) (hcmd : m.leaves .cmd = false) (htaps : m.leaves .taps = false) (hjrn : m.leaves .jrn = false) (hesc : m.leaves .esc = false) (hfab : m.leaves .fab = false) (h : Kept m a s) : Kept m a (recantCord reason slots slot s) := by
  unfold recantCord
  repeat' first
    | with_reducible assumption
    | intro _
    | with_reducible apply updCord_kept
    | with_reducible apply withdrawTiles_kept
    | with_reducible apply tellRecanted_kept
    | with_reducible apply discardChecks_kept
    | with_reducible apply whenS_kept
    | with_reducible apply setCordSt_kept
    | with_reducible apply foldS_kept
    | with_reducible apply recantOut_kept
    | with_reducible apply kept_id
    | with_reducible apply kept_ite
    | simp only [↓kept_upd_iff, implies_true, hdig, hobs, hcol, hgov, hcmd, htaps, hjrn, hesc, hfab, Bool.false_eq_true, false_implies]
    | dsimp only
    | split

theorem applyRecant_kept {i : Nat} {reason : Nat} (hdig : m.leaves .dig = false) (hobs : m.leaves .obs = false) (hcol : m.leaves .col = false) (hgov : m.leaves .gov = false) (hcmd : m.leaves .cmd = false) (htaps : m.leaves .taps = false) (hjrn : m.leaves .jrn = false) (hesc : m.leaves .esc = false) (hfab : m.leaves .fab = false) (h : Kept m a s) : Kept m a (applyRecant i reason s) := by
  unfold applyRecant
  repeat' first
    | with_reducible assumption
    | intro _
    | with_reducible apply foldS_kept
    | with_reducible apply recantCord_kept
    | with_reducible apply kept_ite
    | dsimp only
    | split

theorem sendAck_kept {m_ : VcsMsg} (hfab : m.leaves .fab = false) (h : Kept m a s) : Kept m a (sendAck m_ s) := by
  unfold sendAck
  repeat' first
    | with_reducible assumption
    | intro _
    | with_reducible apply sendPlain_kept
    | with_reducible apply kept_ite
    | dsimp only
    | split

theorem escUnmatched_kept {c : Option Nat} (hcol : m.leaves .col = false) (hesc : m.leaves .esc = false) (h : Kept m a s) : Kept m a (escUnmatched c s) := by
  unfold escUnmatched
  repeat' first
    | with_reducible assumption
    | intro _
    | with_reducible apply raiseHub_kept
    | with_reducible apply countUnmatched_kept
    | with_reducible apply kept_ite
    | dsimp only
    | split

theorem earlyEntry_kept {m_ : VcsMsg} {c : Nat} {st : EscSt} (hcol : m.leaves .col = false) (hesc : m.leaves .esc = false) (h : Kept m a s) : Kept m a (earlyEntry m_ c st s) := by
  unfold earlyEntry
  repeat' first
    | with_reducible assumption
    | intro _
    | with_reducible apply escUnmatched_kept
    | with_reducible apply putEntry_kept
    | with_reducible apply kept_ite
    | dsimp only
    | split

theorem onClear_kept {m_ : VcsMsg} (hdig : m.leaves .dig = false) (hobs : m.leaves .obs = false) (hcol : m.leaves .col = false) (hcmd : m.leaves .cmd = false) (hesc : m.leaves .esc = false) (hfab : m.leaves .fab = false) (h : Kept m a s) : Kept m a (onClear m_ s) := by
  unfold onClear
  repeat' first
    | with_reducible assumption
    | intro _
    | with_reducible apply escUnmatched_kept
    | with_reducible apply sweepSends_kept
    | with_reducible apply freeEntry_kept
    | with_reducible apply earlyEntry_kept
    | with_reducible apply kept_ite
    | dsimp only
    | split

theorem noteRecant_kept {c : Nat} (hfab : m.leaves .fab = false) (h : Kept m a s) : Kept m a (noteRecant c s) := by
  unfold noteRecant
  repeat' first
    | with_reducible assumption
    | intro _
    | with_reducible apply updStop_kept
    | with_reducible apply kept_ite
    | simp only [↓kept_upd_iff, implies_true, hfab, Bool.false_eq_true, false_implies]
    | dsimp only
    | split

theorem onRecant_kept {m_ : VcsMsg} (hdig : m.leaves .dig = false) (hobs : m.leaves .obs = false) (hcol : m.leaves .col = false) (hgov : m.leaves .gov = false) (hcmd : m.leaves .cmd = false) (htaps : m.leaves .taps = false) (hjrn : m.leaves .jrn = false) (hesc : m.leaves .esc = false) (hfab : m.leaves .fab = false) (h : Kept m a s) : Kept m a (onRecant m_ s) := by
  unfold onRecant
  repeat' first
    | with_reducible assumption
    | intro _
    | with_reducible apply escUnmatched_kept
    | with_reducible apply sendAck_kept
    | with_reducible apply sweepSends_kept
    | with_reducible apply freeEntry_kept
    | with_reducible apply noteRecant_kept
    | with_reducible apply applyRecant_kept
    | with_reducible apply earlyEntry_kept
    | with_reducible apply kept_ite
    | dsimp only
    | split

theorem onRecantAck_kept {m_ : VcsMsg} (hdig : m.leaves .dig = false) (hobs : m.leaves .obs = false) (hcol : m.leaves .col = false) (hcmd : m.leaves .cmd = false) (hesc : m.leaves .esc = false) (hfab : m.leaves .fab = false) (h : Kept m a s) : Kept m a (onRecantAck m_ s) := by
  unfold onRecantAck
  repeat' first
    | with_reducible assumption
    | intro _
    | with_reducible apply countUnmatched_kept
    | with_reducible apply freeEntry_kept
    | with_reducible apply putEntry_kept
    | with_reducible apply whenS_kept
    | with_reducible apply escUnmatched_kept
    | with_reducible apply kept_ite
    | simp only [↓kept_upd_iff, implies_true, hdig, hobs, hcol, hcmd, hesc, hfab, Bool.false_eq_true, false_implies]
    | dsimp only
    | split

theorem repeatRecant_kept {i : Nat} {dst : Nat} {e : EscEntry} (hesc : m.leaves .esc = false) (hfab : m.leaves .fab = false) (h : Kept m a s) : Kept m a (repeatRecant i dst e s) := by
  unfold repeatRecant
  repeat' first
    | with_reducible assumption
    | intro _
    | with_reducible apply issueBranch_kept
    | with_reducible apply whenS_kept
    | with_reducible apply escBranchFailed_kept
    | with_reducible apply kept_ite
    | refine kept_snd (by with_reducible assumption) ?_
    | refine kept_third (by with_reducible assumption) ?_
    | dsimp only
    | split

theorem onRecall_kept {m_ : VcsMsg} (hdig : m.leaves .dig = false) (hobs : m.leaves .obs = false) (hcol : m.leaves .col = false) (hesc : m.leaves .esc = false) (hfab : m.leaves .fab = false) (h : Kept m a s) : Kept m a (onRecall m_ s) := by
  unfold onRecall
  repeat' first
    | with_reducible assumption
    | intro _
    | with_reducible apply countDrop_kept
    | with_reducible apply sendRecant_kept
    | with_reducible apply repeatRecant_kept
    | with_reducible apply countUnmatched_kept
    | with_reducible apply sendPlain_kept
    | with_reducible apply kept_ite
    | dsimp only
    | split

/-! ### Governor -/

theorem countSilent_kept {l : Loc} (hgov : m.leaves .gov = false) (h : Kept m a s) : Kept m a (countSilent l s) := by
  unfold countSilent
  repeat' first
    | with_reducible assumption
    | intro _
    | with_reducible apply kept_ite
    | simp only [↓kept_upd_iff, implies_true, hgov, Bool.false_eq_true, false_implies]
    | dsimp only
    | split

theorem newPeriod_kept {c : Nat} (hgov : m.leaves .gov = false) (h : Kept m a s) : Kept m a (newPeriod c s) := by
  unfold newPeriod
  repeat' first
    | with_reducible assumption
    | intro _
    | with_reducible apply kept_ite
    | simp only [↓kept_upd_iff, implies_true, hgov, Bool.false_eq_true, false_implies]
    | dsimp only
    | split

theorem setEst_kept {c : Nat} {est : Option Nat} {status : Nat} (hbnk : m.leaves .bnk = false) (hgov : m.leaves .gov = false) (hwords : m.leaves .words = false) (h : Kept m a s) : Kept m a (setEst c est status s) := by
  unfold setEst
  repeat' first
    | with_reducible assumption
    | intro _
    | with_reducible apply polWrite_kept
    | with_reducible apply kept_ite
    | dsimp only
    | split

theorem applySettings_kept {c : Nat} {n : Exps} {code : Nat} (hbnk : m.leaves .bnk = false) (hgov : m.leaves .gov = false) (hwords : m.leaves .words = false) (h : Kept m a s) : Kept m a (applySettings c n code s) := by
  unfold applySettings
  repeat' first
    | with_reducible assumption
    | intro _
    | with_reducible apply foldS_kept
    | with_reducible apply polWrite_kept
    | with_reducible apply kept_ite
    | dsimp only
    | split

theorem driftPeriod_kept {c : Nat} (hdig : m.leaves .dig = false) (h : Kept m a s) : Kept m a (driftPeriod c s) := by
  unfold driftPeriod
  repeat' first
    | with_reducible assumption
    | intro _
    | with_reducible apply kept_ite
    | simp only [↓kept_upd_iff, implies_true, hdig, Bool.false_eq_true, false_implies]
    | dsimp only
    | split

theorem governRun_kept {c : Nat} (hbnk : m.leaves .bnk = false) (hcol : m.leaves .col = false) (hgov : m.leaves .gov = false) (hwords : m.leaves .words = false) (h : Kept m a s) : Kept m a (governRun c s) := by
  unfold governRun
  repeat' first
    | with_reducible assumption
    | intro _
    | with_reducible apply setEst_kept
    | with_reducible apply whenS_kept
    | with_reducible apply applySettings_kept
    | with_reducible apply raiseHub_kept
    | with_reducible apply kept_ite
    | simp only [↓kept_upd_iff, implies_true, hbnk, hcol, hgov, hwords, Bool.false_eq_true, false_implies]
    | with_reducible apply foldl_kept
    | with_reducible apply foldl_kept_pair
    | dsimp only
    | split

theorem doGovernorPeriod_kept {c : Nat} (hdig : m.leaves .dig = false) (hbnk : m.leaves .bnk = false) (hcol : m.leaves .col = false) (hgov : m.leaves .gov = false) (hwords : m.leaves .words = false) (h : Kept m a s) : Kept m a (doGovernorPeriod c s) := by
  unfold doGovernorPeriod
  repeat' first
    | with_reducible assumption
    | intro _
    | with_reducible apply newPeriod_kept
    | with_reducible apply driftPeriod_kept
    | with_reducible apply governRun_kept
    | with_reducible apply kept_ite
    | dsimp only
    | split

theorem stepLfsr_kept {c : Nat} {k : Nat} (hgov : m.leaves .gov = false) (h : Kept m a s) : Kept m a (stepLfsr c k s).2 := by
  unfold stepLfsr
  repeat' first
    | with_reducible assumption
    | intro _
    | with_reducible apply stepSelector_kept
    | with_reducible apply kept_ite
    | with_reducible apply kept_ite_snd
    | refine kept_snd (by with_reducible assumption) ?_
    | refine kept_third (by with_reducible assumption) ?_
    | dsimp only
    | split

theorem nextPoint_kept {mech : Nat} {tap : Nat} (hgov : m.leaves .gov = false) (h : Kept m a s) : Kept m a (nextPoint mech tap s) := by
  unfold nextPoint
  repeat' first
    | with_reducible assumption
    | intro _
    | with_reducible apply stepLfsr_kept
    | with_reducible apply kept_ite
    | simp only [↓kept_upd_iff, implies_true, hgov, Bool.false_eq_true, false_implies]
    | refine kept_snd (by with_reducible assumption) ?_
    | refine kept_third (by with_reducible assumption) ?_
    | dsimp only
    | split

theorem doRehearsalPoint_kept {mech : Nat} {tap : Nat} (hgov : m.leaves .gov = false) (htaps : m.leaves .taps = false) (h : Kept m a s) : Kept m a (doRehearsalPoint mech tap s) := by
  unfold doRehearsalPoint
  repeat' first
    | with_reducible assumption
    | intro _
    | with_reducible apply nextPoint_kept
    | with_reducible apply stepLfsr_kept
    | with_reducible apply kept_ite
    | simp only [↓kept_upd_iff, implies_true, hgov, htaps, Bool.false_eq_true, false_implies]
    | refine kept_snd (by with_reducible assumption) ?_
    | refine kept_third (by with_reducible assumption) ?_
    | dsimp only
    | split

theorem injectNow_kept {mech : Nat} {tap : Nat} (hgov : m.leaves .gov = false) (h : Kept m a s) : Kept m a (injectNow mech tap s) := by
  unfold injectNow
  repeat' first
    | with_reducible assumption
    | intro _
    | with_reducible apply kept_ite
    | simp only [↓kept_upd_iff, implies_true, hgov, Bool.false_eq_true, false_implies]
    | dsimp only
    | split

/-! ### Digest -/

theorem recount_kept {c : Nat} (hdig : m.leaves .dig = false) (h : Kept m a s) : Kept m a (recount c s) := by
  unfold recount
  repeat' first
    | with_reducible assumption
    | intro _
    | with_reducible apply kept_ite
    | simp only [↓kept_upd_iff, implies_true, hdig, Bool.false_eq_true, false_implies]
    | dsimp only
    | split

theorem applyStaged_kept {c : Nat} (hdig : m.leaves .dig = false) (h : Kept m a s) : Kept m a (applyStaged c s) := by
  unfold applyStaged
  repeat' first
    | with_reducible assumption
    | intro _
    | with_reducible apply recount_kept
    | with_reducible apply kept_ite
    | simp only [↓kept_upd_iff, implies_true, hdig, Bool.false_eq_true, false_implies]
    | dsimp only
    | split

theorem tensorSet_kept {c : Nat} {slot : Nat} {v : W256} (hdig : m.leaves .dig = false) (hobs : m.leaves .obs = false) (h : Kept m a s) : Kept m a (tensorSet c slot v s).2 := by
  unfold tensorSet
  repeat' first
    | with_reducible assumption
    | intro _
    | with_reducible apply count_kept
    | with_reducible apply applyStaged_kept
    | with_reducible apply kept_ite
    | with_reducible apply kept_ite_snd
    | simp only [↓kept_upd_iff, implies_true, hdig, hobs, Bool.false_eq_true, false_implies]
    | dsimp only
    | split

theorem extentSet_kept {c : Nat} {i : Nat} {v : W128} (hdig : m.leaves .dig = false) (h : Kept m a s) : Kept m a (extentSet c i v s).2 := by
  unfold extentSet
  repeat' first
    | with_reducible assumption
    | intro _
    | with_reducible apply applyStaged_kept
    | with_reducible apply kept_ite
    | with_reducible apply kept_ite_snd
    | simp only [↓kept_upd_iff, implies_true, hdig, Bool.false_eq_true, false_implies]
    | dsimp only
    | split

theorem updFold_kept {k : Nat} {f : Fold → Fold} (hdig : m.leaves .dig = false) (h : Kept m a s) : Kept m a (updFold k f s) := by
  unfold updFold
  repeat' first
    | with_reducible assumption
    | intro _
    | with_reducible apply kept_ite
    | simp only [↓kept_upd_iff, implies_true, hdig, Bool.false_eq_true, false_implies]
    | dsimp only
    | split

theorem scanRace_kept {ctrl : Nat} {c : Nat} {slot : Nat} (hdig : m.leaves .dig = false) (hcol : m.leaves .col = false) (h : Kept m a s) : Kept m a (scanRace ctrl c slot s) := by
  unfold scanRace
  repeat' first
    | with_reducible assumption
    | intro _
    | with_reducible apply updDig_kept
    | with_reducible apply raiseMem_kept
    | with_reducible apply kept_ite
    | simp only [↓kept_upd_iff, implies_true, hdig, hcol, Bool.false_eq_true, false_implies]
    | dsimp only
    | split

theorem foldWrite_kept {ctrl : Nat} {c : Nat} {slot : Nat} {woff : Nat} {masked : Bool} {drop : Bool} {word : BitVec 288} {t_ : Tensor} (hdig : m.leaves .dig = false) (hobs : m.leaves .obs = false) (hcol : m.leaves .col = false) (h : Kept m a s) : Kept m a (foldWrite ctrl c slot woff masked drop word t_ s) := by
  unfold foldWrite
  repeat' first
    | with_reducible assumption
    | intro _
    | with_reducible apply whenS_kept
    | with_reducible apply scanRace_kept
    | with_reducible apply countMem_kept
    | with_reducible apply updFold_kept
    | with_reducible apply count_kept
    | with_reducible apply kept_ite
    | simp only [↓kept_upd_iff, implies_true, hdig, hobs, hcol, Bool.false_eq_true, false_implies]
    | dsimp only
    | split

theorem scanReads_kept {l : List Extent} (h : Kept m a s) : Kept m a (scanReads l s) := by
  unfold scanReads
  repeat' first
    | with_reducible assumption
    | intro _
    | with_reducible apply foldS_kept
    | with_reducible apply emit_kept
    | with_reducible apply kept_ite
    | dsimp only
    | split

theorem closeEntry_kept {c : Nat} {bank : Nat} {all : Bool} {e : Nat × Tensor} {r : Closing × State} (hcol : m.leaves .col = false) (h : Kept m a r.2) : Kept m a (closeEntry c bank all e r).2 := by
  unfold closeEntry
  repeat' first
    | with_reducible assumption
    | intro _
    | with_reducible apply scanReads_kept
    | with_reducible apply raiseHub_kept
    | with_reducible apply kept_ite
    | with_reducible apply kept_ite_snd
    | simp only [↓kept_upd_iff, implies_true, hcol, Bool.false_eq_true, false_implies]
    | dsimp only
    | split

theorem beginClose_kept {c : Nat} {mode : DigMode} {epoch : Nat} {flags : Nat} {all : Bool} (hdig : m.leaves .dig = false) (hcol : m.leaves .col = false) (h : Kept m a s) : Kept m a (beginClose c mode epoch flags all s) := by
  unfold beginClose
  repeat' first
    | with_reducible assumption
    | intro _
    | with_reducible apply closeEntry_kept
    | with_reducible apply updDig_kept
    | with_reducible apply kept_ite
    | simp only [↓kept_upd_iff, implies_true, hdig, hcol, Bool.false_eq_true, false_implies]
    | with_reducible apply foldl_kept
    | with_reducible apply foldl_kept_pair
    | refine kept_snd (by with_reducible assumption) ?_
    | refine kept_third (by with_reducible assumption) ?_
    | dsimp only
    | split

theorem openWindow_kept {c : Nat} (hdig : m.leaves .dig = false) (h : Kept m a s) : Kept m a (openWindow c s) := by
  unfold openWindow
  repeat' first
    | with_reducible assumption
    | intro _
    | with_reducible apply updDig_kept
    | with_reducible apply kept_ite
    | simp only [↓kept_upd_iff, implies_true, hdig, Bool.false_eq_true, false_implies]
    | dsimp only
    | split

theorem openDue_kept {c : Nat} (hdig : m.leaves .dig = false) (h : Kept m a s) : Kept m a (openDue c s) := by
  unfold openDue
  repeat' first
    | with_reducible assumption
    | intro _
    | with_reducible apply openWindow_kept
    | with_reducible apply updDig_kept
    | with_reducible apply kept_ite
    | simp only [↓kept_upd_iff, implies_true, hdig, Bool.false_eq_true, false_implies]
    | dsimp only
    | split

theorem applyVote_kept {c : Nat} {v : BitVec 512} (hdig : m.leaves .dig = false) (h : Kept m a s) : Kept m a (applyVote c v s) := by
  unfold applyVote
  repeat' first
    | with_reducible assumption
    | intro _
    | with_reducible apply updDig_kept
    | with_reducible apply whenS_kept
    | with_reducible apply applyStaged_kept
    | with_reducible apply kept_ite
    | simp only [↓kept_upd_iff, implies_true, hdig, Bool.false_eq_true, false_implies]
    | dsimp only
    | split

theorem voteSet_kept {c : Nat} {v : BitVec 512} (hdig : m.leaves .dig = false) (h : Kept m a s) : Kept m a (voteSet c v s) := by
  unfold voteSet
  repeat' first
    | with_reducible assumption
    | intro _
    | with_reducible apply openDue_kept
    | with_reducible apply applyVote_kept
    | with_reducible apply updDig_kept
    | with_reducible apply kept_ite
    | simp only [↓kept_upd_iff, implies_true, hdig, Bool.false_eq_true, false_implies]
    | dsimp only
    | split

theorem releaseParts_kept {c : Nat} {epoch : Nat} (hdig : m.leaves .dig = false) (hobs : m.leaves .obs = false) (hcol : m.leaves .col = false) (hcmd : m.leaves .cmd = false) (hfab : m.leaves .fab = false) (h : Kept m a s) : Kept m a (releaseParts c epoch s) := by
  unfold releaseParts
  repeat' first
    | with_reducible assumption
    | intro _
    | with_reducible apply releaseArrivals_kept
    | with_reducible apply updDig_kept
    | with_reducible apply kept_ite
    | simp only [↓kept_upd_iff, implies_true, hdig, hobs, hcol, hcmd, hfab, Bool.false_eq_true, false_implies]
    | dsimp only
    | split

theorem doCloseTick_kept {c : Nat} (hdig : m.leaves .dig = false) (hobs : m.leaves .obs = false) (hcol : m.leaves .col = false) (hcmd : m.leaves .cmd = false) (hfab : m.leaves .fab = false) (h : Kept m a s) : Kept m a (doCloseTick c s) := by
  unfold doCloseTick
  repeat' first
    | with_reducible assumption
    | intro _
    | with_reducible apply foldS_kept
    | with_reducible apply countMem_kept
    | with_reducible apply beginClose_kept
    | with_reducible apply whenS_kept
    | with_reducible apply releaseParts_kept
    | with_reducible apply updDig_kept
    | with_reducible apply applyStaged_kept
    | with_reducible apply applyVote_kept
    | with_reducible apply openDue_kept
    | with_reducible apply kept_ite
    | simp only [↓kept_upd_iff, implies_true, hdig, hobs, hcol, hcmd, hfab, Bool.false_eq_true, false_implies]
    | dsimp only
    | split

theorem accLost_kept {ctrl : Nat} {c : Nat} (hdig : m.leaves .dig = false) (hcol : m.leaves .col = false) (h : Kept m a s) : Kept m a (accLost ctrl c s) := by
  unfold accLost
  repeat' first
    | with_reducible assumption
    | intro _
    | with_reducible apply raiseHub_kept
    | with_reducible apply updDig_kept
    | with_reducible apply kept_ite
    | simp only [↓kept_upd_iff, implies_true, hdig, hcol, Bool.false_eq_true, false_implies]
    | dsimp only
    | split

theorem doTaggedWrite_kept {ctrl : Nat} {word : BitVec 288} {masked : Bool} {drop : Bool} {dg : Bool} {c : Nat} {slot : Nat} {woff : Nat} {acc : Option WordUpset} (hdig : m.leaves .dig = false) (hobs : m.leaves .obs = false) (hcol : m.leaves .col = false) (hcmd : m.leaves .cmd = false) (hfab : m.leaves .fab = false) (h : Kept m a s) : Kept m a (doTaggedWrite ctrl word masked drop dg c slot woff acc s) := by
  unfold doTaggedWrite
  repeat' first
    | with_reducible assumption
    | intro _
    | with_reducible apply whenS_kept
    | with_reducible apply countMem_kept
    | with_reducible apply doCloseTick_kept
    | with_reducible apply raiseMem_kept
    | with_reducible apply updDig_kept
    | with_reducible apply scanRace_kept
    | with_reducible apply foldWrite_kept
    | with_reducible apply accLost_kept
    | with_reducible apply kept_ite
    | simp only [↓kept_upd_iff, implies_true, hdig, hobs, hcol, hcmd, hfab, Bool.false_eq_true, false_implies]
    | dsimp only
    | split

theorem doShardScanDone_kept {c : Nat} {slot : Nat} {words : List (BitVec 288)} (hdig : m.leaves .dig = false) (hobs : m.leaves .obs = false) (h : Kept m a s) : Kept m a (doShardScanDone c slot words s) := by
  unfold doShardScanDone
  repeat' first
    | with_reducible assumption
    | intro _
    | with_reducible apply foldS_kept
    | with_reducible apply countMem_kept
    | with_reducible apply updDig_kept
    | with_reducible apply kept_ite
    | simp only [↓kept_upd_iff, implies_true, hdig, hobs, Bool.false_eq_true, false_implies]
    | with_reducible apply foldl_kept
    | with_reducible apply foldl_kept_pair
    | dsimp only
    | split

theorem sendPart_kept {c : Nat} {epoch : Nat} {flags : Nat} {kc : Nat} {lanes : W128} (hfab : m.leaves .fab = false) (h : Kept m a s) : Kept m a (sendPart c epoch flags kc lanes s) := by
  unfold sendPart
  repeat' first
    | with_reducible assumption
    | intro _
    | with_reducible apply sendPlain_kept
    | with_reducible apply kept_ite
    | dsimp only
    | split

theorem doDigestPartSend_kept {c : Nat} (hdig : m.leaves .dig = false) (hobs : m.leaves .obs = false) (hcol : m.leaves .col = false) (hcmd : m.leaves .cmd = false) (hfab : m.leaves .fab = false) (h : Kept m a s) : Kept m a (doDigestPartSend c s) := by
  unfold doDigestPartSend
  repeat' first
    | with_reducible assumption
    | intro _
    | with_reducible apply updDig_kept
    | with_reducible apply releaseParts_kept
    | with_reducible apply sendPart_kept
    | with_reducible apply kept_ite
    | simp only [↓kept_upd_iff, implies_true, hdig, hobs, hcol, hcmd, hfab, Bool.false_eq_true, false_implies]
    | with_reducible apply foldl_kept
    | with_reducible apply foldl_kept_pair
    | dsimp only
    | split

theorem stopDigest_kept {c : Nat} (hdig : m.leaves .dig = false) (hobs : m.leaves .obs = false) (hcol : m.leaves .col = false) (hcmd : m.leaves .cmd = false) (hfab : m.leaves .fab = false) (h : Kept m a s) : Kept m a (stopDigest c s) := by
  unfold stopDigest
  repeat' first
    | with_reducible assumption
    | intro _
    | with_reducible apply updDig_kept
    | with_reducible apply whenS_kept
    | with_reducible apply sendPart_kept
    | with_reducible apply releaseParts_kept
    | with_reducible apply kept_ite
    | simp only [↓kept_upd_iff, implies_true, hdig, hobs, hcol, hcmd, hfab, Bool.false_eq_true, false_implies]
    | dsimp only
    | split

theorem abandonEpoch_kept {c : Nat} (hdig : m.leaves .dig = false) (h : Kept m a s) : Kept m a (abandonEpoch c s) := by
  unfold abandonEpoch
  repeat' first
    | with_reducible assumption
    | intro _
    | with_reducible apply updDig_kept
    | with_reducible apply kept_ite
    | simp only [↓kept_upd_iff, implies_true, hdig, Bool.false_eq_true, false_implies]
    | dsimp only
    | split

theorem memTapFailed_kept {m_ : Nat} (hdig : m.leaves .dig = false) (hcol : m.leaves .col = false) (h : Kept m a s) : Kept m a (memTapFailed m_ s) := by
  unfold memTapFailed
  repeat' first
    | with_reducible assumption
    | intro _
    | with_reducible apply foldS_kept
    | with_reducible apply updDig_kept
    | with_reducible apply raiseHub_kept
    | with_reducible apply kept_ite
    | simp only [↓kept_upd_iff, implies_true, hdig, hcol, Bool.false_eq_true, false_implies]
    | dsimp only
    | split

theorem digestArrival_kept {c : Nat} {tag : Nat} {op : W128} {waits : List (Nat × Nat)} (hdig : m.leaves .dig = false) (hobs : m.leaves .obs = false) (hcol : m.leaves .col = false) (hcmd : m.leaves .cmd = false) (hfab : m.leaves .fab = false) (h : Kept m a s) : Kept m a (digestArrival c tag op waits s) := by
  unfold digestArrival
  repeat' first
    | with_reducible assumption
    | intro _
    | with_reducible apply updDig_kept
    | with_reducible apply releaseArrivals_kept
    | with_reducible apply kept_ite
    | simp only [↓kept_upd_iff, implies_true, hdig, hobs, hcol, hcmd, hfab, Bool.false_eq_true, false_implies]
    | dsimp only
    | split

theorem openCheck_kept {c : Nat} {mode : DigMode} (hdig : m.leaves .dig = false) (h : Kept m a s) : Kept m a (openCheck c mode s) := by
  unfold openCheck
  repeat' first
    | with_reducible assumption
    | intro _
    | with_reducible apply openWindow_kept
    | with_reducible apply updDig_kept
    | with_reducible apply kept_ite
    | simp only [↓kept_upd_iff, implies_true, hdig, Bool.false_eq_true, false_implies]
    | dsimp only
    | split

theorem certify_kept {c : Nat} {tag : Nat} {e : Nat} (hdig : m.leaves .dig = false) (hcol : m.leaves .col = false) (h : Kept m a s) : Kept m a (certify c tag e s).2 := by
  unfold certify
  repeat' first
    | with_reducible assumption
    | intro _
    | with_reducible apply beginClose_kept
    | with_reducible apply updDig_kept
    | with_reducible apply kept_ite
    | with_reducible apply kept_ite_snd
    | simp only [↓kept_upd_iff, implies_true, hdig, hcol, Bool.false_eq_true, false_implies]
    | dsimp only
    | split

theorem restore_kept {c : Nat} {tag : Nat} {e : Nat} {lanes : W128} {arb : Bool} (hdig : m.leaves .dig = false) (h : Kept m a s) : Kept m a (restore c tag e lanes arb s) := by
  unfold restore
  repeat' first
    | with_reducible assumption
    | intro _
    | with_reducible apply updDig_kept
    | with_reducible apply openCheck_kept
    | with_reducible apply kept_ite
    | simp only [↓kept_upd_iff, implies_true, hdig, Bool.false_eq_true, false_implies]
    | dsimp only
    | split

theorem applyRevoke_kept {c : Nat} {die : Nat} {reason : Nat} {e : Nat} (hdig : m.leaves .dig = false) (hcol : m.leaves .col = false) (hcmd : m.leaves .cmd = false) (h : Kept m a s) : Kept m a (applyRevoke c die reason e s) := by
  unfold applyRevoke
  repeat' first
    | with_reducible assumption
    | intro _
    | with_reducible apply updDig_kept
    | with_reducible apply raiseHub_kept
    | with_reducible apply postRecant_kept
    | with_reducible apply kept_ite
    | dsimp only
    | split

theorem withdrawCert_kept {c : Nat} {e : Nat} {reason : Nat} (hdig : m.leaves .dig = false) (hcol : m.leaves .col = false) (hcmd : m.leaves .cmd = false) (hfab : m.leaves .fab = false) (h : Kept m a s) : Kept m a (withdrawCert c e reason s) := by
  unfold withdrawCert
  repeat' first
    | with_reducible assumption
    | intro _
    | with_reducible apply sendMulti_kept
    | with_reducible apply applyRevoke_kept
    | with_reducible apply kept_ite
    | refine kept_snd (by with_reducible assumption) ?_
    | refine kept_third (by with_reducible assumption) ?_
    | dsimp only
    | split

/-! ### Sampling -/

theorem unsampled_kept {c : Nat} (hobs : m.leaves .obs = false) (h : Kept m a s) : Kept m a (unsampled c s) := by
  unfold unsampled
  repeat' first
    | with_reducible assumption
    | intro _
    | with_reducible apply countHub_kept
    | with_reducible apply kept_ite
    | dsimp only
    | split

theorem skipSample_kept {c : Nat} {k : Nat} {cord : Nat} (hobs : m.leaves .obs = false) (hcol : m.leaves .col = false) (h : Kept m a s) : Kept m a (skipSample c k cord s) := by
  unfold skipSample
  repeat' first
    | with_reducible assumption
    | intro _
    | with_reducible apply trace_kept
    | with_reducible apply raiseHub_kept
    | with_reducible apply unsampled_kept
    | with_reducible apply kept_ite
    | dsimp only
    | split

theorem updMeas_kept {c : Nat} {k : Nat} {f : Meas → Meas} (hgov : m.leaves .gov = false) (h : Kept m a s) : Kept m a (updMeas c k f s) := by
  unfold updMeas
  repeat' first
    | with_reducible assumption
    | intro _
    | with_reducible apply kept_ite
    | simp only [↓kept_upd_iff, implies_true, hgov, Bool.false_eq_true, false_implies]
    | dsimp only
    | split

theorem cruiseSelect_kept {c : Nat} {k : Nat} {eligible : Bool} (hobs : m.leaves .obs = false) (hgov : m.leaves .gov = false) (hjrn : m.leaves .jrn = false) (h : Kept m a s) : Kept m a (cruiseSelect c k eligible s).2 := by
  unfold cruiseSelect
  repeat' first
    | with_reducible assumption
    | intro _
    | with_reducible apply updMeas_kept
    | with_reducible apply unsampled_kept
    | with_reducible apply stepLfsr_kept
    | with_reducible apply kept_ite
    | with_reducible apply kept_ite_snd
    | simp only [↓kept_upd_iff, implies_true, hobs, hgov, hjrn, Bool.false_eq_true, false_implies]
    | refine kept_snd (by with_reducible assumption) ?_
    | refine kept_third (by with_reducible assumption) ?_
    | dsimp only
    | split

theorem twinSelect_kept {c : Nat} {placed : Loc} {d : BitVec 768} (hgov : m.leaves .gov = false) (hjrn : m.leaves .jrn = false) (h : Kept m a s) : Kept m a (twinSelect c placed d s).2 := by
  unfold twinSelect
  repeat' first
    | with_reducible assumption
    | intro _
    | with_reducible apply updMeas_kept
    | with_reducible apply stepSelector_kept
    | with_reducible apply kept_ite
    | with_reducible apply kept_ite_snd
    | simp only [↓kept_upd_iff, implies_true, hgov, hjrn, Bool.false_eq_true, false_implies]
    | refine kept_snd (by with_reducible assumption) ?_
    | refine kept_third (by with_reducible assumption) ?_
    | dsimp only
    | split

theorem checkOver_kept {c : Nat} {jsn : Nat} (hjrn : m.leaves .jrn = false) (h : Kept m a s) : Kept m a (checkOver c jsn s) := by
  unfold checkOver
  repeat' first
    | with_reducible assumption
    | intro _
    | with_reducible apply updCord_kept
    | with_reducible apply kept_ite
    | simp only [↓kept_upd_iff, implies_true, hjrn, Bool.false_eq_true, false_implies]
    | dsimp only
    | split

theorem checkEnds_kept {c : Nat} {jsn : Nat} {attempt : Nat} (hjrn : m.leaves .jrn = false) (h : Kept m a s) : Kept m a (checkEnds c jsn attempt s) := by
  unfold checkEnds
  repeat' first
    | with_reducible assumption
    | intro _
    | with_reducible apply checkOver_kept
    | with_reducible apply kept_ite
    | dsimp only
    | split

theorem queueSample_kept {eligible : Bool} {x : Sample} (hobs : m.leaves .obs = false) (hcol : m.leaves .col = false) (hgov : m.leaves .gov = false) (hjrn : m.leaves .jrn = false) (h : Kept m a s) : Kept m a (queueSample eligible x s) := by
  unfold queueSample
  repeat' first
    | with_reducible assumption
    | intro _
    | with_reducible apply skipSample_kept
    | with_reducible apply checkEnds_kept
    | with_reducible apply updMeas_kept
    | with_reducible apply kept_ite
    | simp only [↓kept_upd_iff, implies_true, hobs, hcol, hgov, hjrn, Bool.false_eq_true, false_implies]
    | dsimp only
    | split

theorem numericEvent_kept {c : Nat} {e : Nat} (hobs : m.leaves .obs = false) (hgov : m.leaves .gov = false) (hcmd : m.leaves .cmd = false) (h : Kept m a s) : Kept m a (numericEvent c e s) := by
  unfold numericEvent
  repeat' first
    | with_reducible assumption
    | intro _
    | with_reducible apply countHub_kept
    | with_reducible apply postRecord_kept
    | with_reducible apply kept_ite
    | simp only [↓kept_upd_iff, implies_true, hobs, hgov, hcmd, Bool.false_eq_true, false_implies]
    | dsimp only
    | split

/-! ### Stream -/

theorem sendXfer_kept {x : Xfer} {beats : List W256} (hcmd : m.leaves .cmd = false) (hfab : m.leaves .fab = false) (h : Kept m a s) : Kept m a (sendXfer x beats s) := by
  unfold sendXfer
  repeat' first
    | with_reducible assumption
    | intro _
    | with_reducible apply emit_kept
    | with_reducible apply kept_ite
    | simp only [↓kept_upd_iff, implies_true, hcmd, hfab, Bool.false_eq_true, false_implies]
    | dsimp only
    | split

theorem issueXfer_kept {x : Xfer} {beats : List W256} (hcmd : m.leaves .cmd = false) (hfab : m.leaves .fab = false) (h : Kept m a s) : Kept m a (issueXfer x beats s) := by
  unfold issueXfer
  repeat' first
    | with_reducible assumption
    | intro _
    | with_reducible apply sendXfer_kept
    | with_reducible apply kept_ite
    | simp only [↓kept_upd_iff, implies_true, hcmd, hfab, Bool.false_eq_true, false_implies]
    | dsimp only
    | split

theorem streamWrite_kept {comp : Nat} {addr : Nat} {bs : List Byte} {use : XferFor} (hcmd : m.leaves .cmd = false) (hfab : m.leaves .fab = false) (h : Kept m a s) : Kept m a (streamWrite comp addr bs use s) := by
  unfold streamWrite
  repeat' first
    | with_reducible assumption
    | intro _
    | with_reducible apply foldS_kept
    | with_reducible apply issueXfer_kept
    | with_reducible apply kept_ite
    | dsimp only
    | split

theorem streamRead_kept {comp : Nat} {addr : Nat} {len : Nat} {use : XferFor} (hcmd : m.leaves .cmd = false) (hfab : m.leaves .fab = false) (h : Kept m a s) : Kept m a (streamRead comp addr len use s) := by
  unfold streamRead
  repeat' first
    | with_reducible assumption
    | intro _
    | with_reducible apply foldS_kept
    | with_reducible apply issueXfer_kept
    | with_reducible apply kept_ite
    | dsimp only
    | split

theorem releaseXfers_kept  (hobs : m.leaves .obs = false) (hcmd : m.leaves .cmd = false) (hfab : m.leaves .fab = false) (h : Kept m a s) : Kept m a (releaseXfers s) := by
  unfold releaseXfers
  repeat' first
    | with_reducible assumption
    | intro _
    | with_reducible apply trace_kept
    | with_reducible apply foldS_kept
    | with_reducible apply issueXfer_kept
    | with_reducible apply kept_ite
    | simp only [↓kept_upd_iff, implies_true, hobs, hcmd, hfab, Bool.false_eq_true, false_implies]
    | dsimp only
    | split

/-! ### Journal -/

theorem raiseJrn_kept {kind : Nat} {cord : Nat} {cause : Nat} {trigger : Nat} {c : Nat} (hcol : m.leaves .col = false) (h : Kept m a s) : Kept m a (raiseJrn kind cord cause trigger c s) := by
  unfold raiseJrn
  repeat' first
    | with_reducible assumption
    | intro _
    | with_reducible apply raiseHub_kept
    | with_reducible apply kept_ite
    | dsimp only
    | split

theorem drawSpares_kept {n : Nat} (hobs : m.leaves .obs = false) (hjrn : m.leaves .jrn = false) (h : Kept m a s) : Kept m a (drawSpares n s) := by
  induction n generalizing s with
  | zero => exact h
  | succ n ih =>
    unfold drawSpares
    split
    · exact ih (setSpare_kept (by assumption) (by assumption) h)
    · exact h

theorem redrawSpares_kept  (hobs : m.leaves .obs = false) (hjrn : m.leaves .jrn = false) (h : Kept m a s) : Kept m a (redrawSpares s) := by
  unfold redrawSpares
  repeat' first
    | with_reducible assumption
    | intro _
    | with_reducible apply foldS_kept
    | with_reducible apply setSpare_kept
    | with_reducible apply drawSpares_kept
    | with_reducible apply kept_ite
    | simp only [↓kept_upd_iff, implies_true, hobs, hjrn, Bool.false_eq_true, false_implies]
    | dsimp only
    | split

theorem redrawOne_kept  (hobs : m.leaves .obs = false) (hjrn : m.leaves .jrn = false) (h : Kept m a s) : Kept m a (redrawOne s) := by
  unfold redrawOne
  repeat' first
    | with_reducible assumption
    | intro _
    | with_reducible apply setSpare_kept
    | with_reducible apply countHub_kept
    | with_reducible apply kept_ite
    | simp only [↓kept_upd_iff, implies_true, hobs, hjrn, Bool.false_eq_true, false_implies]
    | dsimp only
    | split

theorem spareIdle_kept {c : Nat} (hobs : m.leaves .obs = false) (hjrn : m.leaves .jrn = false) (hesc : m.leaves .esc = false) (h : Kept m a s) : Kept m a (spareIdle c s) := by
  unfold spareIdle
  repeat' first
    | with_reducible assumption
    | intro _
    | with_reducible apply unserveTap_kept
    | with_reducible apply setSpare_kept
    | with_reducible apply placeSpare_kept
    | with_reducible apply kept_ite
    | dsimp only
    | split

theorem sparesIdle_kept  (hobs : m.leaves .obs = false) (hjrn : m.leaves .jrn = false) (hesc : m.leaves .esc = false) (h : Kept m a s) : Kept m a (sparesIdle s) := by
  unfold sparesIdle
  repeat' first
    | with_reducible assumption
    | intro _
    | with_reducible apply foldS_kept
    | with_reducible apply spareIdle_kept
    | with_reducible apply kept_ite
    | dsimp only
    | split

theorem dropCapture_kept {l : Loc} {cord : Nat} (htaps : m.leaves .taps = false) (h : Kept m a s) : Kept m a (dropCapture l cord s) := by
  unfold dropCapture
  repeat' first
    | with_reducible assumption
    | intro _
    | with_reducible apply kept_ite
    | simp only [↓kept_upd_iff, implies_true, htaps, Bool.false_eq_true, false_implies]
    | dsimp only
    | split

theorem wakeSpare_kept {t_ : Nat} {c : Nat} (hjrn : m.leaves .jrn = false) (hesc : m.leaves .esc = false) (h : Kept m a s) : Kept m a (wakeSpare t_ c s) := by
  unfold wakeSpare
  repeat' first
    | with_reducible assumption
    | intro _
    | with_reducible apply emit_kept
    | with_reducible apply serveTap_kept
    | with_reducible apply kept_ite
    | simp only [↓kept_upd_iff, implies_true, hjrn, hesc, Bool.false_eq_true, false_implies]
    | dsimp only
    | split

theorem startRun_kept {k : Cord} {u : Loc} (htaps : m.leaves .taps = false) (hjrn : m.leaves .jrn = false) (hesc : m.leaves .esc = false) (h : Kept m a s) : Kept m a (startRun k u s) := by
  unfold startRun
  repeat' first
    | with_reducible assumption
    | intro _
    | with_reducible apply whenS_kept
    | with_reducible apply wakeSpare_kept
    | with_reducible apply emit_kept
    | with_reducible apply dropCapture_kept
    | with_reducible apply kept_id
    | with_reducible apply kept_ite
    | dsimp only
    | split

theorem twinUnsampled_kept {c : Nat} (hobs : m.leaves .obs = false) (h : Kept m a s) : Kept m a (twinUnsampled c s) := by
  unfold twinUnsampled
  repeat' first
    | with_reducible assumption
    | intro _
    | with_reducible apply countHub_kept
    | with_reducible apply kept_ite
    | dsimp only
    | split

theorem selectCord_kept {slot : Nat} (hobs : m.leaves .obs = false) (hgov : m.leaves .gov = false) (htaps : m.leaves .taps = false) (hjrn : m.leaves .jrn = false) (hesc : m.leaves .esc = false) (h : Kept m a s) : Kept m a (selectCord slot s) := by
  unfold selectCord
  repeat' first
    | with_reducible assumption
    | intro _
    | with_reducible apply cruiseSelect_kept
    | with_reducible apply twinSelect_kept
    | with_reducible apply startRun_kept
    | with_reducible apply updCord_kept
    | with_reducible apply whenS_kept
    | with_reducible apply twinUnsampled_kept
    | with_reducible apply kept_ite
    | simp only [↓kept_upd_iff, implies_true, hobs, hgov, htaps, hjrn, hesc, Bool.false_eq_true, false_implies]
    | refine kept_snd (by with_reducible assumption) ?_
    | refine kept_third (by with_reducible assumption) ?_
    | dsimp only
    | split

theorem watchFrom_kept {c : Nat} (hobs : m.leaves .obs = false) (h : Kept m a s) : Kept m a (watchFrom c s) := by
  unfold watchFrom
  repeat' first
    | with_reducible assumption
    | intro _
    | with_reducible apply kept_ite
    | simp only [↓kept_upd_iff, implies_true, hobs, Bool.false_eq_true, false_implies]
    | dsimp only
    | split

theorem doCordRegister_kept {region : Nat} {d : BitVec 768} (hobs : m.leaves .obs = false) (hgov : m.leaves .gov = false) (hcmd : m.leaves .cmd = false) (htaps : m.leaves .taps = false) (hjrn : m.leaves .jrn = false) (hesc : m.leaves .esc = false) (h : Kept m a s) : Kept m a (doCordRegister region d s) := by
  unfold doCordRegister
  repeat' first
    | with_reducible assumption
    | intro _
    | with_reducible apply emit_kept
    | with_reducible apply answer_kept
    | with_reducible apply postRecord_kept
    | with_reducible apply watchFrom_kept
    | with_reducible apply selectCord_kept
    | with_reducible apply kept_ite
    | simp only [↓kept_upd_iff, implies_true, hobs, hgov, hcmd, htaps, hjrn, hesc, Bool.false_eq_true, false_implies]
    | dsimp only
    | split

theorem twinCompare_kept {slot : Nat} (hcol : m.leaves .col = false) (hgov : m.leaves .gov = false) (hcmd : m.leaves .cmd = false) (hjrn : m.leaves .jrn = false) (h : Kept m a s) : Kept m a (twinCompare slot s) := by
  unfold twinCompare
  repeat' first
    | with_reducible assumption
    | intro _
    | with_reducible apply updCord_kept
    | with_reducible apply postCord_kept
    | with_reducible apply raiseHub_kept
    | with_reducible apply injectNow_kept
    | with_reducible apply raiseOn_kept
    | with_reducible apply kept_id
    | with_reducible apply kept_ite
    | simp only [↓kept_upd_iff, implies_true, hcol, hgov, hcmd, hjrn, Bool.false_eq_true, false_implies]
    | dsimp only
    | split

theorem twinFenced_kept {slot : Nat} (hobs : m.leaves .obs = false) (hcmd : m.leaves .cmd = false) (hjrn : m.leaves .jrn = false) (h : Kept m a s) : Kept m a (twinFenced slot s) := by
  unfold twinFenced
  repeat' first
    | with_reducible assumption
    | intro _
    | with_reducible apply whenS_kept
    | with_reducible apply postCord_kept
    | with_reducible apply twinUnsampled_kept
    | with_reducible apply updCord_kept
    | with_reducible apply kept_ite
    | simp only [↓kept_upd_iff, implies_true, hobs, hcmd, hjrn, Bool.false_eq_true, false_implies]
    | dsimp only
    | split

theorem fenceTwins_kept {p : Loc → Bool} (hobs : m.leaves .obs = false) (hcmd : m.leaves .cmd = false) (hjrn : m.leaves .jrn = false) (h : Kept m a s) : Kept m a (fenceTwins p s) := by
  unfold fenceTwins
  repeat' first
    | with_reducible assumption
    | intro _
    | with_reducible apply foldS_kept
    | with_reducible apply twinFenced_kept
    | with_reducible apply updCord_kept
    | with_reducible apply kept_ite
    | simp only [↓kept_upd_iff, implies_true, hobs, hcmd, hjrn, Bool.false_eq_true, false_implies]
    | dsimp only
    | split

theorem finishSkids_kept  (hobs : m.leaves .obs = false) (hcmd : m.leaves .cmd = false) (hjrn : m.leaves .jrn = false) (hesc : m.leaves .esc = false) (hrecd : m.leaves .recd = false) (h : Kept m a s) : Kept m a (finishSkids s) := by
  unfold finishSkids
  repeat' first
    | with_reducible assumption
    | intro _
    | with_reducible apply sparesIdle_kept
    | with_reducible apply foldS_kept
    | with_reducible apply recEvent_kept
    | with_reducible apply postRecord_kept
    | with_reducible apply kept_ite
    | simp only [↓kept_upd_iff, implies_true, hobs, hcmd, hjrn, hesc, hrecd, Bool.false_eq_true, false_implies]
    | dsimp only
    | split

theorem leaveSkids_kept {c : Nat} {jsns : List Nat} (hobs : m.leaves .obs = false) (hcmd : m.leaves .cmd = false) (hjrn : m.leaves .jrn = false) (hesc : m.leaves .esc = false) (hrecd : m.leaves .recd = false) (h : Kept m a s) : Kept m a (leaveSkids c jsns s) := by
  unfold leaveSkids
  repeat' first
    | with_reducible assumption
    | intro _
    | with_reducible apply finishSkids_kept
    | with_reducible apply kept_ite
    | simp only [↓kept_upd_iff, implies_true, hobs, hcmd, hjrn, hesc, hrecd, Bool.false_eq_true, false_implies]
    | dsimp only
    | split

theorem skidRetired_kept {c : Nat} {jsn : Nat} (hobs : m.leaves .obs = false) (hcmd : m.leaves .cmd = false) (hjrn : m.leaves .jrn = false) (hesc : m.leaves .esc = false) (hrecd : m.leaves .recd = false) (h : Kept m a s) : Kept m a (skidRetired c jsn s) := by
  unfold skidRetired
  repeat' first
    | with_reducible assumption
    | intro _
    | with_reducible apply finishSkids_kept
    | with_reducible apply kept_ite
    | simp only [↓kept_upd_iff, implies_true, hobs, hcmd, hjrn, hesc, hrecd, Bool.false_eq_true, false_implies]
    | dsimp only
    | split

theorem thirdRun_kept {slot : Nat} {region : Nat} (hjrn : m.leaves .jrn = false) (h : Kept m a s) : Kept m a (thirdRun slot region s) := by
  unfold thirdRun
  repeat' first
    | with_reducible assumption
    | intro _
    | with_reducible apply updCord_kept
    | with_reducible apply kept_id
    | with_reducible apply kept_ite
    | simp only [↓kept_upd_iff, implies_true, hjrn, Bool.false_eq_true, false_implies]
    | dsimp only
    | split

theorem retireSecond_kept {slot : Nat} (hobs : m.leaves .obs = false) (hcol : m.leaves .col = false) (hgov : m.leaves .gov = false) (hcmd : m.leaves .cmd = false) (hjrn : m.leaves .jrn = false) (hesc : m.leaves .esc = false) (h : Kept m a s) : Kept m a (retireSecond slot s) := by
  unfold retireSecond
  repeat' first
    | with_reducible assumption
    | intro _
    | with_reducible apply sparesIdle_kept
    | with_reducible apply twinCompare_kept
    | with_reducible apply updCord_kept
    | with_reducible apply kept_id
    | with_reducible apply kept_ite
    | simp only [↓kept_upd_iff, implies_true, hobs, hcol, hgov, hcmd, hjrn, hesc, Bool.false_eq_true, false_implies]
    | dsimp only
    | split

theorem retirePrimary_kept {slot : Nat} {seqLast : Nat} (hobs : m.leaves .obs = false) (hcol : m.leaves .col = false) (hgov : m.leaves .gov = false) (hcmd : m.leaves .cmd = false) (hjrn : m.leaves .jrn = false) (hesc : m.leaves .esc = false) (hrecd : m.leaves .recd = false) (h : Kept m a s) : Kept m a (retirePrimary slot seqLast s) := by
  unfold retirePrimary
  repeat' first
    | with_reducible assumption
    | intro _
    | with_reducible apply updCord_kept
    | with_reducible apply whenS_kept
    | with_reducible apply setCordSt_kept
    | with_reducible apply queueSample_kept
    | with_reducible apply twinCompare_kept
    | with_reducible apply postCord_kept
    | with_reducible apply skidRetired_kept
    | with_reducible apply kept_id
    | with_reducible apply kept_ite
    | simp only [↓kept_upd_iff, implies_true, hobs, hcol, hgov, hcmd, hjrn, hesc, hrecd, Bool.false_eq_true, false_implies]
    | dsimp only
    | split

theorem doCordRetire_kept {region : Nat} {jt : BitVec 96} (hobs : m.leaves .obs = false) (hcol : m.leaves .col = false) (hgov : m.leaves .gov = false) (hcmd : m.leaves .cmd = false) (hjrn : m.leaves .jrn = false) (hesc : m.leaves .esc = false) (hrecd : m.leaves .recd = false) (h : Kept m a s) : Kept m a (doCordRetire region jt s) := by
  unfold doCordRetire
  repeat' first
    | with_reducible assumption
    | intro _
    | with_reducible apply retireSecond_kept
    | with_reducible apply thirdRun_kept
    | with_reducible apply retirePrimary_kept
    | with_reducible apply kept_ite
    | dsimp only
    | split

theorem releaseDeps_kept {slot : Nat} (hjrn : m.leaves .jrn = false) (h : Kept m a s) : Kept m a (releaseDeps slot s) := by
  unfold releaseDeps
  repeat' first
    | with_reducible assumption
    | intro _
    | with_reducible apply foldS_kept
    | with_reducible apply updCord_kept
    | with_reducible apply kept_ite
    | simp only [↓kept_upd_iff, implies_true, hjrn, Bool.false_eq_true, false_implies]
    | dsimp only
    | split

theorem doCordSettle_kept {slot : Nat} (hobs : m.leaves .obs = false) (hcmd : m.leaves .cmd = false) (hjrn : m.leaves .jrn = false) (hesc : m.leaves .esc = false) (hfab : m.leaves .fab = false) (h : Kept m a s) : Kept m a (doCordSettle slot s) := by
  unfold doCordSettle
  repeat' first
    | with_reducible assumption
    | intro _
    | with_reducible apply sparesIdle_kept
    | with_reducible apply releaseDeps_kept
    | with_reducible apply setCordSt_kept
    | with_reducible apply postCord_kept
    | with_reducible apply freeCord_kept
    | with_reducible apply streamWrite_kept
    | with_reducible apply kept_ite
    | simp only [↓kept_upd_iff, implies_true, hobs, hcmd, hjrn, hesc, hfab, Bool.false_eq_true, false_implies]
    | dsimp only
    | split

theorem spillDone_kept {slot : Nat} (hjrn : m.leaves .jrn = false) (h : Kept m a s) : Kept m a (spillDone slot s) := by
  unfold spillDone
  repeat' first
    | with_reducible assumption
    | intro _
    | with_reducible apply whenS_kept
    | with_reducible apply freeCord_kept
    | with_reducible apply kept_ite
    | simp only [↓kept_upd_iff, implies_true, hjrn, Bool.false_eq_true, false_implies]
    | dsimp only
    | split

theorem doJrnSpill_kept {slot : Nat} (hcol : m.leaves .col = false) (hjrn : m.leaves .jrn = false) (h : Kept m a s) : Kept m a (doJrnSpill slot s) := by
  unfold doJrnSpill
  repeat' first
    | with_reducible assumption
    | intro _
    | with_reducible apply raiseJrn_kept
    | with_reducible apply spillDone_kept
    | with_reducible apply kept_id
    | with_reducible apply kept_ite
    | dsimp only
    | split

theorem endFenced_kept {slot : Nat} (hcmd : m.leaves .cmd = false) (hjrn : m.leaves .jrn = false) (h : Kept m a s) : Kept m a (endFenced slot s) := by
  unfold endFenced
  repeat' first
    | with_reducible assumption
    | intro _
    | with_reducible apply freeCord_kept
    | with_reducible apply postCord_kept
    | with_reducible apply kept_ite
    | dsimp only
    | split

theorem endUnrun_kept {c : Nat} {trigger : Nat} {slots : List Nat} (hdig : m.leaves .dig = false) (hobs : m.leaves .obs = false) (hcol : m.leaves .col = false) (hcmd : m.leaves .cmd = false) (hjrn : m.leaves .jrn = false) (hesc : m.leaves .esc = false) (hrecd : m.leaves .recd = false) (hfab : m.leaves .fab = false) (h : Kept m a s) : Kept m a (endUnrun c trigger slots s) := by
  unfold endUnrun
  repeat' first
    | with_reducible assumption
    | intro _
    | with_reducible apply foldS_kept
    | with_reducible apply endFenced_kept
    | with_reducible apply recantOut_kept
    | with_reducible apply leaveSkids_kept
    | with_reducible apply kept_id
    | with_reducible apply kept_ite
    | simp only [↓kept_upd_iff, implies_true, hdig, hobs, hcol, hcmd, hjrn, hesc, hrecd, hfab, Bool.false_eq_true, false_implies]
    | dsimp only
    | split

theorem unreplayable_kept {cause : Nat} {trigger : Nat} {slot : Nat} (hdig : m.leaves .dig = false) (hobs : m.leaves .obs = false) (hcol : m.leaves .col = false) (hcmd : m.leaves .cmd = false) (hjrn : m.leaves .jrn = false) (hesc : m.leaves .esc = false) (hrecd : m.leaves .recd = false) (hfab : m.leaves .fab = false) (h : Kept m a s) : Kept m a (unreplayable cause trigger slot s) := by
  unfold unreplayable
  repeat' first
    | with_reducible assumption
    | intro _
    | with_reducible apply endUnrun_kept
    | with_reducible apply raiseJrn_kept
    | with_reducible apply taintEpoch_kept
    | with_reducible apply kept_id
    | with_reducible apply kept_ite
    | dsimp only
    | split

theorem cacheError_kept {slot : Nat} {correctable : Bool} (hdig : m.leaves .dig = false) (hobs : m.leaves .obs = false) (hcol : m.leaves .col = false) (hcmd : m.leaves .cmd = false) (hjrn : m.leaves .jrn = false) (hesc : m.leaves .esc = false) (hrecd : m.leaves .recd = false) (hfab : m.leaves .fab = false) (h : Kept m a s) : Kept m a (cacheError slot correctable s) := by
  unfold cacheError
  repeat' first
    | with_reducible assumption
    | intro _
    | with_reducible apply endUnrun_kept
    | with_reducible apply spillDone_kept
    | with_reducible apply unreplayable_kept
    | with_reducible apply raiseJrn_kept
    | with_reducible apply kept_id
    | with_reducible apply kept_ite
    | simp only [↓kept_upd_iff, implies_true, hdig, hobs, hcol, hcmd, hjrn, hesc, hrecd, hfab, Bool.false_eq_true, false_implies]
    | dsimp only
    | split

theorem handCord_kept {slot : Nat} {target : Loc} {again : Bool} (hobs : m.leaves .obs = false) (hgov : m.leaves .gov = false) (htaps : m.leaves .taps = false) (hjrn : m.leaves .jrn = false) (hesc : m.leaves .esc = false) (h : Kept m a s) : Kept m a (handCord slot target again s) := by
  unfold handCord
  repeat' first
    | with_reducible assumption
    | intro _
    | with_reducible apply whenS_kept
    | with_reducible apply wmarkReplay_kept
    | with_reducible apply dropCapture_kept
    | with_reducible apply updCord_kept
    | with_reducible apply setCordSt_kept
    | with_reducible apply selectCord_kept
    | with_reducible apply emit_kept
    | with_reducible apply kept_id
    | with_reducible apply kept_ite
    | simp only [↓kept_upd_iff, implies_true, hobs, hgov, htaps, hjrn, hesc, Bool.false_eq_true, false_implies]
    | dsimp only
    | split

theorem handOver_kept {slot : Nat} {target : Loc} {again : Bool} (hobs : m.leaves .obs = false) (hgov : m.leaves .gov = false) (htaps : m.leaves .taps = false) (hjrn : m.leaves .jrn = false) (hesc : m.leaves .esc = false) (h : Kept m a s) : Kept m a (handOver slot target again s) := by
  unfold handOver
  repeat' first
    | with_reducible assumption
    | intro _
    | with_reducible apply updCord_kept
    | with_reducible apply setCordSt_kept
    | with_reducible apply handCord_kept
    | with_reducible apply kept_ite
    | simp only [↓kept_upd_iff, implies_true, hobs, hgov, htaps, hjrn, hesc, Bool.false_eq_true, false_implies]
    | dsimp only
    | split

theorem startOn_kept {slot : Nat} {target : Loc} {again : Bool} (hobs : m.leaves .obs = false) (hgov : m.leaves .gov = false) (htaps : m.leaves .taps = false) (hjrn : m.leaves .jrn = false) (hesc : m.leaves .esc = false) (h : Kept m a s) : Kept m a (startOn slot target again s) := by
  unfold startOn
  repeat' first
    | with_reducible assumption
    | intro _
    | with_reducible apply setCordSt_kept
    | with_reducible apply handCord_kept
    | with_reducible apply kept_ite
    | simp only [↓kept_upd_iff, implies_true, hobs, hgov, htaps, hjrn, hesc, Bool.false_eq_true, false_implies]
    | dsimp only
    | split

theorem fetchAway_kept {n : Nat} {c : Nat} {consumer : Nat} {away : List Nat} (hbnk : m.leaves .bnk = false) (hcol : m.leaves .col = false) (hcmd : m.leaves .cmd = false) (hjrn : m.leaves .jrn = false) (hfab : m.leaves .fab = false) (hwords : m.leaves .words = false) (h : Kept m a s) : Kept m a (fetchAway n c consumer away s).2 := by
  unfold fetchAway
  repeat' first
    | with_reducible assumption
    | intro _
    | with_reducible apply foldS_kept
    | with_reducible apply streamRead_kept
    | with_reducible apply ringFetch_kept
    | with_reducible apply kept_ite
    | with_reducible apply kept_ite_snd
    | simp only [↓kept_upd_iff, implies_true, hbnk, hcol, hcmd, hjrn, hfab, hwords, Bool.false_eq_true, false_implies]
    | refine kept_snd (by with_reducible assumption) ?_
    | refine kept_third (by with_reducible assumption) ?_
    | dsimp only
    | split

theorem regen_kept {first : Option Nat} {n slot : Nat} (hbnk : m.leaves .bnk = false) (hobs : m.leaves .obs = false) (hcol : m.leaves .col = false) (hgov : m.leaves .gov = false) (hcmd : m.leaves .cmd = false) (htaps : m.leaves .taps = false) (hjrn : m.leaves .jrn = false) (hesc : m.leaves .esc = false) (hfab : m.leaves .fab = false) (hwords : m.leaves .words = false) (h : Kept m a s) : Kept m a (regen first n slot s).2 := by
  induction n generalizing first slot s with
  | zero => exact h
  | succ n ih =>
    unfold regen
    repeat' first
      | with_reducible assumption
      | with_reducible apply ih
      | with_reducible apply whenS_kept
      | with_reducible apply foldS_kept
      | with_reducible apply updCord_kept
      | with_reducible apply startOn_kept
      | with_reducible apply fetchAway_kept
      | with_reducible apply kept_ite
      | with_reducible apply kept_ite_snd
      | simp only [↓kept_upd_iff, implies_true, hbnk, hobs, hcol, hgov, hcmd, htaps, hjrn, hesc, hfab, hwords, Bool.false_eq_true, false_implies]
      | with_reducible apply foldl_kept_pair
      | refine kept_snd (by with_reducible assumption) ?_
      | dsimp only
      | split
      | intro

theorem parkCord_kept {trigger : Nat} {slot : Nat} (hobs : m.leaves .obs = false) (hjrn : m.leaves .jrn = false) (h : Kept m a s) : Kept m a (parkCord trigger slot s) := by
  unfold parkCord
  repeat' first
    | with_reducible assumption
    | intro _
    | with_reducible apply setCordSt_kept
    | with_reducible apply kept_ite
    | simp only [↓kept_upd_iff, implies_true, hobs, hjrn, Bool.false_eq_true, false_implies]
    | dsimp only
    | split

theorem replaySlot_kept {trigger : Nat} {slot : Nat} (hdig : m.leaves .dig = false) (hbnk : m.leaves .bnk = false) (hobs : m.leaves .obs = false) (hcol : m.leaves .col = false) (hgov : m.leaves .gov = false) (hcmd : m.leaves .cmd = false) (htaps : m.leaves .taps = false) (hjrn : m.leaves .jrn = false) (hesc : m.leaves .esc = false) (hrecd : m.leaves .recd = false) (hfab : m.leaves .fab = false) (hwords : m.leaves .words = false) (h : Kept m a s) : Kept m a (replaySlot trigger slot s) := by
  unfold replaySlot
  repeat' first
    | with_reducible assumption
    | intro _
    | with_reducible apply unreplayable_kept
    | with_reducible apply updCord_kept
    | with_reducible apply regen_kept
    | with_reducible apply handCord_kept
    | with_reducible apply parkCord_kept
    | with_reducible apply kept_ite
    | simp only [↓kept_upd_iff, implies_true, hdig, hbnk, hobs, hcol, hgov, hcmd, htaps, hjrn, hesc, hrecd, hfab, hwords, Bool.false_eq_true, false_implies]
    | refine kept_snd (by with_reducible assumption) ?_
    | refine kept_third (by with_reducible assumption) ?_
    | dsimp only
    | split

theorem slotResent_kept {c : Nat} {slot : Nat} (hdig : m.leaves .dig = false) (hbnk : m.leaves .bnk = false) (hobs : m.leaves .obs = false) (hcol : m.leaves .col = false) (hgov : m.leaves .gov = false) (hcmd : m.leaves .cmd = false) (htaps : m.leaves .taps = false) (hjrn : m.leaves .jrn = false) (hesc : m.leaves .esc = false) (hrecd : m.leaves .recd = false) (hfab : m.leaves .fab = false) (hwords : m.leaves .words = false) (h : Kept m a s) : Kept m a (slotResent c slot s) := by
  unfold slotResent
  repeat' first
    | with_reducible assumption
    | intro _
    | with_reducible apply foldS_kept
    | with_reducible apply updCord_kept
    | with_reducible apply replaySlot_kept
    | with_reducible apply kept_ite
    | simp only [↓kept_upd_iff, implies_true, hdig, hbnk, hobs, hcol, hgov, hcmd, htaps, hjrn, hesc, hrecd, hfab, hwords, Bool.false_eq_true, false_implies]
    | dsimp only
    | split

/-! ### Time -/

theorem writeRatio_kept {value : Nat} (htim : m.leaves .tim = false) (hmregs : m.leaves .mregs = false) (h : Kept m a s) : Kept m a (writeRatio value s) := by
  unfold writeRatio
  repeat' first
    | with_reducible assumption
    | intro _
    | with_reducible apply foldS_kept
    | with_reducible apply State.setRf_kept
    | with_reducible apply kept_ite
    | simp only [↓kept_upd_iff, implies_true, htim, hmregs, Bool.false_eq_true, false_implies]
    | dsimp only
    | split

theorem doClkRatioWrite_kept {v : W64} (htim : m.leaves .tim = false) (hmregs : m.leaves .mregs = false) (h : Kept m a s) : Kept m a (doClkRatioWrite v s) := by
  unfold doClkRatioWrite
  repeat' first
    | with_reducible assumption
    | intro _
    | with_reducible apply writeRatio_kept
    | with_reducible apply State.setRf_kept
    | with_reducible apply kept_ite
    | dsimp only
    | split

theorem doRatioSwitch_kept {r : Nat} (hobs : m.leaves .obs = false) (htim : m.leaves .tim = false) (hmregs : m.leaves .mregs = false) (h : Kept m a s) : Kept m a (doRatioSwitch r s) := by
  unfold doRatioSwitch
  repeat' first
    | with_reducible assumption
    | intro _
    | with_reducible apply State.setRf_kept
    | with_reducible apply countWarden_kept
    | with_reducible apply kept_ite
    | simp only [↓kept_upd_iff, implies_true, hobs, htim, hmregs, Bool.false_eq_true, false_implies]
    | dsimp only
    | split

theorem loadCopy_kept {part : Nat} (htim : m.leaves .tim = false) (h : Kept m a s) : Kept m a (loadCopy part s) := by
  unfold loadCopy
  repeat' first
    | with_reducible assumption
    | intro _
    | with_reducible apply kept_ite
    | simp only [↓kept_upd_iff, implies_true, htim, Bool.false_eq_true, false_implies]
    | dsimp only
    | split

theorem raiseSlip_kept {part : Nat} (hobs : m.leaves .obs = false) (hcol : m.leaves .col = false) (h : Kept m a s) : Kept m a (raiseSlip part s) := by
  unfold raiseSlip
  repeat' first
    | with_reducible assumption
    | intro _
    | with_reducible apply raiseTap_kept
    | with_reducible apply countWarden_kept
    | with_reducible apply raiseWarden_kept
    | with_reducible apply raiseMem_kept
    | with_reducible apply raiseHcore_kept
    | with_reducible apply raiseHub_kept
    | with_reducible apply kept_ite
    | dsimp only
    | split

theorem doCheckBeacon_kept {part : Nat} {slip : Int} (hobs : m.leaves .obs = false) (hcol : m.leaves .col = false) (htim : m.leaves .tim = false) (h : Kept m a s) : Kept m a (doCheckBeacon part slip s) := by
  unfold doCheckBeacon
  repeat' first
    | with_reducible assumption
    | intro _
    | with_reducible apply raiseSlip_kept
    | with_reducible apply loadCopy_kept
    | with_reducible apply kept_ite
    | simp only [↓kept_upd_iff, implies_true, hobs, hcol, htim, Bool.false_eq_true, false_implies]
    | dsimp only
    | split

theorem spreadStep_kept {r : Nat} {n : Nat} {which : Nat} {breach : Bool} {diff : Nat} (hcol : m.leaves .col = false) (htim : m.leaves .tim = false) (h : Kept m a s) : Kept m a (spreadStep r n which breach diff s) := by
  unfold spreadStep
  repeat' first
    | with_reducible assumption
    | intro _
    | with_reducible apply breach_kept
    | with_reducible apply whenS_kept
    | with_reducible apply raiseWarden_kept
    | with_reducible apply kept_ite
    | simp only [↓kept_upd_iff, implies_true, hcol, htim, Bool.false_eq_true, false_implies]
    | dsimp only
    | split

theorem doNeighbourCompare_kept {r : Nat} (hcol : m.leaves .col = false) (htim : m.leaves .tim = false) (h : Kept m a s) : Kept m a (doNeighbourCompare r s) := by
  unfold doNeighbourCompare
  repeat' first
    | with_reducible assumption
    | intro _
    | with_reducible apply foldS_kept
    | with_reducible apply spreadStep_kept
    | with_reducible apply kept_ite
    | dsimp only
    | split

theorem sendReq_kept {peer : Nat} (hseq : m.leaves .seq = false) (hfab : m.leaves .fab = false) (htim : m.leaves .tim = false) (h : Kept m a s) : Kept m a (sendReq peer s) := by
  unfold sendReq
  repeat' first
    | with_reducible assumption
    | intro _
    | with_reducible apply sendPlain_kept
    | with_reducible apply kept_ite
    | simp only [↓kept_upd_iff, implies_true, hseq, hfab, htim, Bool.false_eq_true, false_implies]
    | dsimp only
    | split

theorem sendAnnounce_kept  (hcol : m.leaves .col = false) (hfab : m.leaves .fab = false) (h : Kept m a s) : Kept m a (sendAnnounce s) := by
  unfold sendAnnounce
  repeat' first
    | with_reducible assumption
    | intro _
    | with_reducible apply multiPlain_kept
    | with_reducible apply kept_ite
    | dsimp only
    | split

theorem raiseParentLost_kept  (hcol : m.leaves .col = false) (h : Kept m a s) : Kept m a (raiseParentLost s) := by
  unfold raiseParentLost
  repeat' first
    | with_reducible assumption
    | intro _
    | with_reducible apply raiseFabric_kept
    | with_reducible apply kept_ite
    | dsimp only
    | split

theorem setOffset_kept {v : Int} (hmregs : m.leaves .mregs = false) (h : Kept m a s) : Kept m a (setOffset v s) := by
  unfold setOffset
  repeat' first
    | with_reducible assumption
    | intro _
    | with_reducible apply State.setRf_kept
    | with_reducible apply kept_ite
    | dsimp only
    | split

theorem fixStep_kept {a_ : Align} (htim : m.leaves .tim = false) (hmregs : m.leaves .mregs = false) (h : Kept m a s) : Kept m a (fixStep a_ s) := by
  unfold fixStep
  repeat' first
    | with_reducible assumption
    | intro _
    | with_reducible apply setOffset_kept
    | with_reducible apply kept_ite
    | simp only [↓kept_upd_iff, implies_true, htim, hmregs, Bool.false_eq_true, false_implies]
    | dsimp only
    | split

theorem endDrift_kept  (hcol : m.leaves .col = false) (htim : m.leaves .tim = false) (hmregs : m.leaves .mregs = false) (h : Kept m a s) : Kept m a (endDrift s) := by
  unfold endDrift
  repeat' first
    | with_reducible assumption
    | intro _
    | with_reducible apply setOffset_kept
    | with_reducible apply raiseHub_kept
    | with_reducible apply State.setRf_kept
    | with_reducible apply kept_ite
    | simp only [↓kept_upd_iff, implies_true, hcol, htim, hmregs, Bool.false_eq_true, false_implies]
    | with_reducible apply foldl_kept
    | with_reducible apply foldl_kept_pair
    | dsimp only
    | split

theorem traceTime_kept {peer : Nat} {t1 : Nat} {t2 : Nat} {t3 : Nat} {t4 : Nat} (hobs : m.leaves .obs = false) (h : Kept m a s) : Kept m a (traceTime peer t1 t2 t3 t4 s) := by
  unfold traceTime
  repeat' first
    | with_reducible assumption
    | intro _
    | with_reducible apply foldS_kept
    | with_reducible apply trace_kept
    | with_reducible apply kept_ite
    | dsimp only
    | split

theorem matchExch_kept {peer : Nat} {t4 : Nat} {offset : Int} (htim : m.leaves .tim = false) (h : Kept m a s) : Kept m a (matchExch peer t4 offset s) := by
  unfold matchExch
  repeat' first
    | with_reducible assumption
    | intro _
    | with_reducible apply kept_ite
    | simp only [↓kept_upd_iff, implies_true, htim, Bool.false_eq_true, false_implies]
    | dsimp only
    | split

theorem doTResp_kept {t4 : Nat} (hobs : m.leaves .obs = false) (hcol : m.leaves .col = false) (hseq : m.leaves .seq = false) (hfab : m.leaves .fab = false) (htim : m.leaves .tim = false) (hmregs : m.leaves .mregs = false) (h : Kept m a s) : Kept m a (doTResp t4 s) := by
  unfold doTResp
  repeat' first
    | with_reducible assumption
    | intro _
    | with_reducible apply withMsg_kept
    | with_reducible apply matchExch_kept
    | with_reducible apply traceTime_kept
    | with_reducible apply fixStep_kept
    | with_reducible apply sendReq_kept
    | with_reducible apply endDrift_kept
    | with_reducible apply kept_ite
    | simp only [↓kept_upd_iff, implies_true, hobs, hcol, hseq, hfab, htim, hmregs, Bool.false_eq_true, false_implies]
    | dsimp only
    | split

theorem doTReq_kept  (hfab : m.leaves .fab = false) (h : Kept m a s) : Kept m a (doTReq s) := by
  unfold doTReq
  repeat' first
    | with_reducible assumption
    | intro _
    | with_reducible apply withMsg_kept
    | with_reducible apply sendPlain_kept
    | with_reducible apply kept_ite
    | dsimp only
    | split

theorem startExch_kept  (hseq : m.leaves .seq = false) (hfab : m.leaves .fab = false) (htim : m.leaves .tim = false) (h : Kept m a s) : Kept m a (startExch s) := by
  unfold startExch
  repeat' first
    | with_reducible assumption
    | intro _
    | with_reducible apply sendReq_kept
    | with_reducible apply kept_ite
    | simp only [↓kept_upd_iff, implies_true, hseq, hfab, htim, Bool.false_eq_true, false_implies]
    | dsimp only
    | split

theorem doAlign_kept  (hcol : m.leaves .col = false) (hseq : m.leaves .seq = false) (hfab : m.leaves .fab = false) (htim : m.leaves .tim = false) (hmregs : m.leaves .mregs = false) (h : Kept m a s) : Kept m a (doAlign s) := by
  unfold doAlign
  repeat' first
    | with_reducible assumption
    | intro _
    | with_reducible apply State.setRf_kept
    | with_reducible apply sendAnnounce_kept
    | with_reducible apply startExch_kept
    | with_reducible apply kept_ite
    | simp only [↓kept_upd_iff, implies_true, hcol, hseq, hfab, htim, hmregs, Bool.false_eq_true, false_implies]
    | dsimp only
    | split

theorem doTAnnounce_kept  (hcol : m.leaves .col = false) (hseq : m.leaves .seq = false) (hfab : m.leaves .fab = false) (htim : m.leaves .tim = false) (h : Kept m a s) : Kept m a (doTAnnounce s) := by
  unfold doTAnnounce
  repeat' first
    | with_reducible assumption
    | intro _
    | with_reducible apply withMsg_kept
    | with_reducible apply raiseParentLost_kept
    | with_reducible apply startExch_kept
    | with_reducible apply kept_ite
    | simp only [↓kept_upd_iff, implies_true, hcol, hseq, hfab, htim, Bool.false_eq_true, false_implies]
    | dsimp only
    | split

theorem doEtStep_kept  (het : m.et = false) (hcol : m.leaves .col = false) (hesc : m.leaves .esc = false) (hrecd : m.leaves .recd = false) (hfab : m.leaves .fab = false) (htim : m.leaves .tim = false) (hmregs : m.leaves .mregs = false) (h : Kept m a s) : Kept m a (doEtStep s) := by
  unfold doEtStep
  repeat' first
    | with_reducible assumption
    | intro _
    | with_reducible apply emit_kept
    | with_reducible apply recEvent_kept
    | with_reducible apply sendAnnounce_kept
    | with_reducible apply State.setRf_kept
    | with_reducible apply kept_ite
    | simp only [↓kept_upd_iff, implies_true, het, hcol, hesc, hrecd, hfab, htim, hmregs, Bool.false_eq_true, false_implies]
    | dsimp only
    | split

theorem abandonAlign_kept  (htim : m.leaves .tim = false) (hmregs : m.leaves .mregs = false) (h : Kept m a s) : Kept m a (abandonAlign s) := by
  unfold abandonAlign
  repeat' first
    | with_reducible assumption
    | intro _
    | with_reducible apply State.setRf_kept
    | with_reducible apply kept_ite
    | simp only [↓kept_upd_iff, implies_true, htim, hmregs, Bool.false_eq_true, false_implies]
    | dsimp only
    | split

theorem doDriftExchange_kept  (hcol : m.leaves .col = false) (hseq : m.leaves .seq = false) (hfab : m.leaves .fab = false) (htim : m.leaves .tim = false) (h : Kept m a s) : Kept m a (doDriftExchange s) := by
  unfold doDriftExchange
  repeat' first
    | with_reducible assumption
    | intro _
    | with_reducible apply whenS_kept
    | with_reducible apply raiseParentLost_kept
    | with_reducible apply foldS_kept
    | with_reducible apply sendReq_kept
    | with_reducible apply kept_ite
    | simp only [↓kept_upd_iff, implies_true, hcol, hseq, hfab, htim, Bool.false_eq_true, false_implies]
    | dsimp only
    | split

theorem doEtSlew_kept {v : W64} (htim : m.leaves .tim = false) (h : Kept m a s) : Kept m a (doEtSlew v s) := by
  unfold doEtSlew
  repeat' first
    | with_reducible assumption
    | intro _
    | with_reducible apply kept_ite
    | simp only [↓kept_upd_iff, implies_true, htim, Bool.false_eq_true, false_implies]
    | dsimp only
    | split

theorem doSlewTick_kept  (het : m.et = false) (htim : m.leaves .tim = false) (h : Kept m a s) : Kept m a (doSlewTick s) := by
  unfold doSlewTick
  repeat' first
    | with_reducible assumption
    | intro _
    | with_reducible apply kept_ite
    | simp only [↓kept_upd_iff, implies_true, het, htim, Bool.false_eq_true, false_implies]
    | dsimp only
    | split

theorem doClkMatchStale_kept {entry : Nat} (hcol : m.leaves .col = false) (htim : m.leaves .tim = false) (h : Kept m a s) : Kept m a (doClkMatchStale entry s) := by
  unfold doClkMatchStale
  repeat' first
    | with_reducible assumption
    | intro _
    | with_reducible apply raiseFabric_kept
    | with_reducible apply kept_ite
    | simp only [↓kept_upd_iff, implies_true, hcol, htim, Bool.false_eq_true, false_implies]
    | dsimp only
    | split

theorem latchEt_kept {c : Option Nat} (htim : m.leaves .tim = false) (hmregs : m.leaves .mregs = false) (h : Kept m a s) : Kept m a (latchEt c s) := by
  unfold latchEt
  repeat' first
    | with_reducible assumption
    | intro _
    | with_reducible apply State.setRf_kept
    | with_reducible apply kept_ite
    | simp only [↓kept_upd_iff, implies_true, htim, hmregs, Bool.false_eq_true, false_implies]
    | dsimp only
    | split

end Sys2Proof.Machine
end

