-- ==== Sys2Proof/Laws/KeptParts.lean ====
section
/-! SUPPORT. What no command changes, operation by operation: the taps, the Collector, the sensors, the skids and the Recorder. -/
namespace Sys2Proof.Machine

set_option linter.unusedSimpArgs false
set_option linter.unusedVariables false

variable {m : Mask} {a s t : State}

/-! ### ClosingRecord -/

theorem recordFailed_kept  (hcol : m.leaves .col = false) (h : Kept m a s) : Kept m a (recordFailed s) := by
  unfold recordFailed
  repeat' first
    | with_reducible assumption
    | intro _
    | with_reducible apply raiseHub_kept
    | with_reducible apply kept_ite
    | dsimp only
    | split

theorem writeClosing_kept  (hscr : m.leaves .scr = false) (hcol : m.leaves .col = false) (hrecd : m.leaves .recd = false) (hcellar : m.leaves .cellar = false) (h : Kept m a s) : Kept m a (writeClosing s) := by
  unfold writeClosing
  repeat' first
    | with_reducible assumption
    | intro _
    | with_reducible apply recordFailed_kept
    | with_reducible apply twoCopyWrite_kept
    | with_reducible apply kept_ite
    | simp only [↓kept_upd_iff, implies_true, hscr, hcol, hrecd, hcellar, Bool.false_eq_true, false_implies]
    | dsimp only
    | split

theorem voidRecord_kept  (hisl : m.leaves .isl = false) (hcol : m.leaves .col = false) (hrecd : m.leaves .recd = false) (hcellar : m.leaves .cellar = false) (h : Kept m a s) : Kept m a (voidRecord s) := by
  unfold voidRecord
  repeat' first
    | with_reducible assumption
    | intro _
    | with_reducible apply recordFailed_kept
    | with_reducible apply twoCopyWrite_kept
    | with_reducible apply kept_ite
    | simp only [↓kept_upd_iff, implies_true, hisl, hcol, hrecd, hcellar, Bool.false_eq_true, false_implies]
    | dsimp only
    | split

theorem excursionReading_kept {t_ : Int} (hisl : m.leaves .isl = false) (hcol : m.leaves .col = false) (hrecd : m.leaves .recd = false) (hcellar : m.leaves .cellar = false) (h : Kept m a s) : Kept m a (excursionReading t_ s) := by
  unfold excursionReading
  repeat' first
    | with_reducible assumption
    | intro _
    | with_reducible apply whenS_kept
    | with_reducible apply voidRecord_kept
    | with_reducible apply kept_ite
    | dsimp only
    | split

/-! ### Thermal -/

theorem updRo_kept {i : Nat} {f : RoSensor → RoSensor} (hthm : m.leaves .thm = false) (h : Kept m a s) : Kept m a (updRo i f s) := by
  unfold updRo
  repeat' first
    | with_reducible assumption
    | intro _
    | with_reducible apply kept_ite
    | simp only [↓kept_upd_iff, implies_true, hthm, Bool.false_eq_true, false_implies]
    | dsimp only
    | split

theorem updScope_kept {k : Nat} {f : ThScope → ThScope} (hthm : m.leaves .thm = false) (h : Kept m a s) : Kept m a (updScope k f s) := by
  unfold updScope
  repeat' first
    | with_reducible assumption
    | intro _
    | with_reducible apply kept_ite
    | simp only [↓kept_upd_iff, implies_true, hthm, Bool.false_eq_true, false_implies]
    | dsimp only
    | split

theorem updCanary_kept {i : Nat} {f : Canary → Canary} (hthm : m.leaves .thm = false) (h : Kept m a s) : Kept m a (updCanary i f s) := by
  unfold updCanary
  repeat' first
    | with_reducible assumption
    | intro _
    | with_reducible apply kept_ite
    | simp only [↓kept_upd_iff, implies_true, hthm, Bool.false_eq_true, false_implies]
    | dsimp only
    | split

theorem updRail_kept {n : Nat} {f : Rail → Rail} (hthm : m.leaves .thm = false) (h : Kept m a s) : Kept m a (updRail n f s) := by
  unfold updRail
  repeat' first
    | with_reducible assumption
    | intro _
    | with_reducible apply kept_ite
    | simp only [↓kept_upd_iff, implies_true, hthm, Bool.false_eq_true, false_implies]
    | dsimp only
    | split

theorem raiseSense_kept {r : Nat} {kind : Nat} {l : Loc} {d : Nat} (hcol : m.leaves .col = false) (h : Kept m a s) : Kept m a (raiseSense r kind l d s) := by
  unfold raiseSense
  repeat' first
    | with_reducible assumption
    | intro _
    | with_reducible apply raiseHub_kept
    | with_reducible apply raiseWarden_kept
    | with_reducible apply kept_ite
    | dsimp only
    | split

theorem withGates_kept {r : Nat} {source : Nat} {f : State → State} (hf : ∀  t, Kept m a t → Kept m a (f  t)) (hobs : m.leaves .obs = false) (h : Kept m a s) : Kept m a (withGates r source f s) := by
  unfold withGates
  repeat' first
    | with_reducible assumption
    | intro _
    | with_reducible apply foldS_kept
    | with_reducible apply whenS_kept
    | with_reducible apply trace_kept
    | with_reducible apply hf
    | with_reducible apply kept_ite
    | dsimp only
    | split

theorem judgeScope_kept {i : Nat} {k : Nat} (hobs : m.leaves .obs = false) (hcol : m.leaves .col = false) (hthm : m.leaves .thm = false) (h : Kept m a s) : Kept m a (judgeScope i k s) := by
  unfold judgeScope
  repeat' first
    | with_reducible assumption
    | intro _
    | with_reducible apply withGates_kept
    | with_reducible apply updScope_kept
    | with_reducible apply whenS_kept
    | with_reducible apply raiseSense_kept
    | with_reducible apply kept_ite
    | simp only [↓kept_upd_iff, implies_true, hobs, hcol, hthm, Bool.false_eq_true, false_implies]
    | dsimp only
    | split

theorem leaveTrip_kept {r : Nat} (hthm : m.leaves .thm = false) (h : Kept m a s) : Kept m a (leaveTrip r s) := by
  unfold leaveTrip
  repeat' first
    | with_reducible assumption
    | intro _
    | with_reducible apply foldS_kept
    | with_reducible apply updScope_kept
    | with_reducible apply kept_ite
    | simp only [↓kept_upd_iff, implies_true, hthm, Bool.false_eq_true, false_implies]
    | dsimp only
    | split

theorem doThrottleStep_kept {k : Nat} (hobs : m.leaves .obs = false) (hthm : m.leaves .thm = false) (h : Kept m a s) : Kept m a (doThrottleStep k s) := by
  unfold doThrottleStep
  repeat' first
    | with_reducible assumption
    | intro _
    | with_reducible apply withGates_kept
    | with_reducible apply updScope_kept
    | with_reducible apply kept_ite
    | simp only [↓kept_upd_iff, implies_true, hobs, hthm, Bool.false_eq_true, false_implies]
    | dsimp only
    | split

theorem excludeRo_kept {i : Nat} (hobs : m.leaves .obs = false) (hcol : m.leaves .col = false) (hthm : m.leaves .thm = false) (h : Kept m a s) : Kept m a (excludeRo i s) := by
  unfold excludeRo
  repeat' first
    | with_reducible assumption
    | intro _
    | with_reducible apply raiseSense_kept
    | with_reducible apply countWarden_kept
    | with_reducible apply updRo_kept
    | with_reducible apply kept_ite
    | simp only [↓kept_upd_iff, implies_true, hobs, hcol, hthm, Bool.false_eq_true, false_implies]
    | dsimp only
    | split

theorem doRoSample_kept {i : Nat} {count : Nat} (hobs : m.leaves .obs = false) (hcol : m.leaves .col = false) (hthm : m.leaves .thm = false) (h : Kept m a s) : Kept m a (doRoSample i count s) := by
  unfold doRoSample
  repeat' first
    | with_reducible assumption
    | intro _
    | with_reducible apply count_kept
    | with_reducible apply updRo_kept
    | with_reducible apply countWarden_kept
    | with_reducible apply whenS_kept
    | with_reducible apply excludeRo_kept
    | with_reducible apply judgeScope_kept
    | with_reducible apply kept_ite
    | simp only [↓kept_upd_iff, implies_true, hobs, hcol, hthm, Bool.false_eq_true, false_implies]
    | dsimp only
    | split

theorem doDiodeSample_kept {r : Nat} {temp : Int} (hscr : m.leaves .scr = false) (hisl : m.leaves .isl = false) (hcol : m.leaves .col = false) (hrecd : m.leaves .recd = false) (hthm : m.leaves .thm = false) (hcellar : m.leaves .cellar = false) (h : Kept m a s) : Kept m a (doDiodeSample r temp s) := by
  unfold doDiodeSample
  repeat' first
    | with_reducible assumption
    | intro _
    | with_reducible apply whenS_kept
    | with_reducible apply raiseWarden_kept
    | with_reducible apply excursionReading_kept
    | with_reducible apply kept_ite
    | simp only [↓kept_upd_iff, implies_true, hscr, hisl, hcol, hrecd, hthm, hcellar, Bool.false_eq_true, false_implies]
    | dsimp only
    | split

theorem doCalibrate_kept {i : Nat} (hobs : m.leaves .obs = false) (hcol : m.leaves .col = false) (hthm : m.leaves .thm = false) (h : Kept m a s) : Kept m a (doCalibrate i s) := by
  unfold doCalibrate
  repeat' first
    | with_reducible assumption
    | intro _
    | with_reducible apply countWarden_kept
    | with_reducible apply updRo_kept
    | with_reducible apply raiseWarden_kept
    | with_reducible apply kept_ite
    | simp only [↓kept_upd_iff, implies_true, hobs, hcol, hthm, Bool.false_eq_true, false_implies]
    | with_reducible apply foldl_kept
    | with_reducible apply foldl_kept_pair
    | dsimp only
    | split

theorem doReinstate_kept {i : Nat} (hthm : m.leaves .thm = false) (h : Kept m a s) : Kept m a (doReinstate i s) := by
  unfold doReinstate
  repeat' first
    | with_reducible assumption
    | intro _
    | with_reducible apply updCanary_kept
    | with_reducible apply updRo_kept
    | with_reducible apply kept_ite
    | simp only [↓kept_upd_iff, implies_true, hthm, Bool.false_eq_true, false_implies]
    | dsimp only
    | split

theorem excludeCanary_kept {i : Nat} (hcol : m.leaves .col = false) (hthm : m.leaves .thm = false) (h : Kept m a s) : Kept m a (excludeCanary i s) := by
  unfold excludeCanary
  repeat' first
    | with_reducible assumption
    | intro _
    | with_reducible apply raiseSense_kept
    | with_reducible apply updCanary_kept
    | with_reducible apply kept_ite
    | simp only [↓kept_upd_iff, implies_true, hcol, hthm, Bool.false_eq_true, false_implies]
    | dsimp only
    | split

theorem actMargin_kept {i : Nat} {m_ : Nat} (hobs : m.leaves .obs = false) (hcol : m.leaves .col = false) (hthm : m.leaves .thm = false) (h : Kept m a s) : Kept m a (actMargin i m_ s) := by
  unfold actMargin
  repeat' first
    | with_reducible assumption
    | intro _
    | with_reducible apply raiseSense_kept
    | with_reducible apply countWarden_kept
    | with_reducible apply updCanary_kept
    | with_reducible apply withGates_kept
    | with_reducible apply whenS_kept
    | with_reducible apply kept_ite
    | simp only [↓kept_upd_iff, implies_true, hobs, hcol, hthm, Bool.false_eq_true, false_implies]
    | dsimp only
    | split

theorem doCanaryWindow_kept {i : Nat} {m3 : Nat} {m4 : Nat} (hobs : m.leaves .obs = false) (hcol : m.leaves .col = false) (hthm : m.leaves .thm = false) (h : Kept m a s) : Kept m a (doCanaryWindow i m3 m4 s) := by
  unfold doCanaryWindow
  repeat' first
    | with_reducible assumption
    | intro _
    | with_reducible apply updCanary_kept
    | with_reducible apply withGates_kept
    | with_reducible apply excludeCanary_kept
    | with_reducible apply actMargin_kept
    | with_reducible apply kept_ite
    | simp only [↓kept_upd_iff, implies_true, hobs, hcol, hthm, Bool.false_eq_true, false_implies]
    | dsimp only
    | split

theorem doDroopHoldExpiry_kept {i : Nat} (hobs : m.leaves .obs = false) (hthm : m.leaves .thm = false) (h : Kept m a s) : Kept m a (doDroopHoldExpiry i s) := by
  unfold doDroopHoldExpiry
  repeat' first
    | with_reducible assumption
    | intro _
    | with_reducible apply withGates_kept
    | with_reducible apply updCanary_kept
    | with_reducible apply kept_ite
    | simp only [↓kept_upd_iff, implies_true, hobs, hthm, Bool.false_eq_true, false_implies]
    | dsimp only
    | split

theorem judgeVout_kept {n : Nat} {mv : Nat} (hcol : m.leaves .col = false) (h : Kept m a s) : Kept m a (judgeVout n mv s) := by
  unfold judgeVout
  repeat' first
    | with_reducible assumption
    | intro _
    | with_reducible apply whenS_kept
    | with_reducible apply raiseIsland_kept
    | with_reducible apply kept_ite
    | dsimp only
    | split

theorem copyRails_kept  (hthm : m.leaves .thm = false) (h : Kept m a s) : Kept m a (copyRails s) := by
  unfold copyRails
  repeat' first
    | with_reducible assumption
    | intro _
    | with_reducible apply kept_ite
    | simp only [↓kept_upd_iff, implies_true, hthm, Bool.false_eq_true, false_implies]
    | with_reducible apply foldl_kept
    | with_reducible apply foldl_kept_pair
    | dsimp only
    | split

theorem takeStatus_kept {n : Nat} {v : Nat} (hcol : m.leaves .col = false) (hthm : m.leaves .thm = false) (h : Kept m a s) : Kept m a (takeStatus n v s) := by
  unfold takeStatus
  repeat' first
    | with_reducible assumption
    | intro _
    | with_reducible apply updRail_kept
    | with_reducible apply whenS_kept
    | with_reducible apply raiseIsland_kept
    | with_reducible apply kept_ite
    | simp only [↓kept_upd_iff, implies_true, hcol, hthm, Bool.false_eq_true, false_implies]
    | dsimp only
    | split

theorem deviceFails_kept {n : Nat} {k : Nat} (hthm : m.leaves .thm = false) (h : Kept m a s) : Kept m a (deviceFails n k s) := by
  unfold deviceFails
  repeat' first
    | with_reducible assumption
    | intro _
    | with_reducible apply foldS_kept
    | with_reducible apply updRail_kept
    | with_reducible apply kept_ite
    | simp only [↓kept_upd_iff, implies_true, hthm, Bool.false_eq_true, false_implies]
    | dsimp only
    | split

theorem railFail_kept {n : Nat} (hcol : m.leaves .col = false) (hthm : m.leaves .thm = false) (h : Kept m a s) : Kept m a (railFail n s) := by
  unfold railFail
  repeat' first
    | with_reducible assumption
    | intro _
    | with_reducible apply updRail_kept
    | with_reducible apply deviceFails_kept
    | with_reducible apply whenS_kept
    | with_reducible apply raiseIsland_kept
    | with_reducible apply kept_ite
    | simp only [↓kept_upd_iff, implies_true, hcol, hthm, Bool.false_eq_true, false_implies]
    | dsimp only
    | split

theorem doPmbusRead_kept {n : Nat} {command : Nat} {value : Nat} {ok : Bool} (hcol : m.leaves .col = false) (hthm : m.leaves .thm = false) (h : Kept m a s) : Kept m a (doPmbusRead n command value ok s) := by
  unfold doPmbusRead
  repeat' first
    | with_reducible assumption
    | intro _
    | with_reducible apply railFail_kept
    | with_reducible apply updRail_kept
    | with_reducible apply deviceFails_kept
    | with_reducible apply judgeVout_kept
    | with_reducible apply takeStatus_kept
    | with_reducible apply kept_ite
    | simp only [↓kept_upd_iff, implies_true, hcol, hthm, Bool.false_eq_true, false_implies]
    | dsimp only
    | split

theorem doPmAlert_kept {addr : Nat} {status : Nat} (hcol : m.leaves .col = false) (hthm : m.leaves .thm = false) (h : Kept m a s) : Kept m a (doPmAlert addr status s) := by
  unfold doPmAlert
  repeat' first
    | with_reducible assumption
    | intro _
    | with_reducible apply foldS_kept
    | with_reducible apply takeStatus_kept
    | with_reducible apply kept_ite
    | simp only [↓kept_upd_iff, implies_true, hcol, hthm, Bool.false_eq_true, false_implies]
    | dsimp only
    | split

/-! ### Slices -/

theorem raiseScreen_kept {l : Loc} {kind : Nat} {d : Nat} (hcol : m.leaves .col = false) (h : Kept m a s) : Kept m a (raiseScreen l kind d s) := by
  unfold raiseScreen
  repeat' first
    | with_reducible assumption
    | intro _
    | with_reducible apply raiseWarden_kept
    | with_reducible apply raiseHcore_kept
    | with_reducible apply kept_ite
    | dsimp only
    | split

theorem countSlice_kept {l : Loc} {ev : Nat} (hobs : m.leaves .obs = false) (h : Kept m a s) : Kept m a (countSlice l ev s) := by
  unfold countSlice
  repeat' first
    | with_reducible assumption
    | intro _
    | with_reducible apply countTap_kept
    | with_reducible apply kept_ite
    | dsimp only
    | split

theorem unstable_kept {x : Slice} {preempted : Bool} (hobs : m.leaves .obs = false) (hscr : m.leaves .scr = false) (hcol : m.leaves .col = false) (h : Kept m a s) : Kept m a (unstable x preempted s) := by
  unfold unstable
  repeat' first
    | with_reducible assumption
    | intro _
    | with_reducible apply raiseScreen_kept
    | with_reducible apply countSlice_kept
    | with_reducible apply kept_ite
    | simp only [↓kept_upd_iff, implies_true, hobs, hscr, hcol, Bool.false_eq_true, false_implies]
    | dsimp only
    | split

theorem tellOutcome_kept {x : Slice} {o : Nat} (hcmd : m.leaves .cmd = false) (hseq : m.leaves .seq = false) (h : Kept m a s) : Kept m a (tellOutcome x o s) := by
  unfold tellOutcome
  repeat' first
    | with_reducible assumption
    | intro _
    | with_reducible apply formResponse_kept
    | with_reducible apply completeCmd_kept
    | with_reducible apply kept_ite
    | dsimp only
    | split

theorem dropHold_kept {l : Loc} (hscr : m.leaves .scr = false) (h : Kept m a s) : Kept m a (dropHold l s) := by
  unfold dropHold
  repeat' first
    | with_reducible assumption
    | intro _
    | with_reducible apply kept_ite
    | simp only [↓kept_upd_iff, implies_true, hscr, Bool.false_eq_true, false_implies]
    | dsimp only
    | split

theorem spareTesting_kept {l : Loc} (hobs : m.leaves .obs = false) (hjrn : m.leaves .jrn = false) (h : Kept m a s) : Kept m a (spareTesting l s) := by
  unfold spareTesting
  repeat' first
    | with_reducible assumption
    | intro _
    | with_reducible apply setSpare_kept
    | with_reducible apply kept_ite
    | dsimp only
    | split

theorem dropSlice_kept {key : Nat} {x : Slice} (hobs : m.leaves .obs = false) (hscr : m.leaves .scr = false) (hjrn : m.leaves .jrn = false) (h : Kept m a s) : Kept m a (dropSlice key x s) := by
  unfold dropSlice
  repeat' first
    | with_reducible assumption
    | intro _
    | with_reducible apply spareTesting_kept
    | with_reducible apply kept_ite
    | simp only [↓kept_upd_iff, implies_true, hobs, hscr, hjrn, Bool.false_eq_true, false_implies]
    | dsimp only
    | split

theorem abortSlice_kept {preempt : Bool} {key : Nat} {x : Slice} (hobs : m.leaves .obs = false) (hscr : m.leaves .scr = false) (hcol : m.leaves .col = false) (hcmd : m.leaves .cmd = false) (hjrn : m.leaves .jrn = false) (hseq : m.leaves .seq = false) (h : Kept m a s) : Kept m a (abortSlice preempt key x s) := by
  unfold abortSlice
  repeat' first
    | with_reducible assumption
    | intro _
    | with_reducible apply emit_kept
    | with_reducible apply dropHold_kept
    | with_reducible apply dropSlice_kept
    | with_reducible apply tellOutcome_kept
    | with_reducible apply countSlice_kept
    | with_reducible apply unstable_kept
    | with_reducible apply kept_ite
    | simp only [↓kept_upd_iff, implies_true, hobs, hscr, hcol, hcmd, hjrn, hseq, Bool.false_eq_true, false_implies]
    | dsimp only
    | split

theorem abortSlices_kept {p : Loc → Bool} (hobs : m.leaves .obs = false) (hscr : m.leaves .scr = false) (hcol : m.leaves .col = false) (hcmd : m.leaves .cmd = false) (hjrn : m.leaves .jrn = false) (hseq : m.leaves .seq = false) (h : Kept m a s) : Kept m a (abortSlices p s) := by
  unfold abortSlices
  repeat' first
    | with_reducible assumption
    | intro _
    | with_reducible apply foldS_kept
    | with_reducible apply abortSlice_kept
    | with_reducible apply tellOutcome_kept
    | with_reducible apply unstable_kept
    | with_reducible apply dropHold_kept
    | with_reducible apply kept_ite
    | simp only [↓kept_upd_iff, implies_true, hobs, hscr, hcol, hcmd, hjrn, hseq, Bool.false_eq_true, false_implies]
    | dsimp only
    | split

theorem loseSlices_kept {p : Loc → Bool} (hobs : m.leaves .obs = false) (hscr : m.leaves .scr = false) (hcol : m.leaves .col = false) (hcmd : m.leaves .cmd = false) (hjrn : m.leaves .jrn = false) (hseq : m.leaves .seq = false) (h : Kept m a s) : Kept m a (loseSlices p s) := by
  unfold loseSlices
  repeat' first
    | with_reducible assumption
    | intro _
    | with_reducible apply foldS_kept
    | with_reducible apply abortSlice_kept
    | with_reducible apply tellOutcome_kept
    | with_reducible apply dropHold_kept
    | with_reducible apply kept_ite
    | simp only [↓kept_upd_iff, implies_true, hobs, hscr, hcol, hcmd, hjrn, hseq, Bool.false_eq_true, false_implies]
    | dsimp only
    | split

theorem fenceSlices_kept {p : Loc → Bool} (hobs : m.leaves .obs = false) (hscr : m.leaves .scr = false) (hcol : m.leaves .col = false) (hcmd : m.leaves .cmd = false) (hjrn : m.leaves .jrn = false) (hseq : m.leaves .seq = false) (h : Kept m a s) : Kept m a (fenceSlices p s) := by
  unfold fenceSlices
  repeat' first
    | with_reducible assumption
    | intro _
    | with_reducible apply foldS_kept
    | with_reducible apply abortSlice_kept
    | with_reducible apply kept_ite
    | dsimp only
    | split

/-! ### Tiles -/

theorem updTap_kept {tap : Nat} {f : Tap → Tap} (htaps : m.leaves .taps = false) (h : Kept m a s) : Kept m a (updTap tap f s) := by
  unfold updTap
  repeat' first
    | with_reducible assumption
    | intro _
    | with_reducible apply kept_ite
    | simp only [↓kept_upd_iff, implies_true, htaps, Bool.false_eq_true, false_implies]
    | dsimp only
    | split

theorem updUnit_kept {tap : Nat} {u : Nat} {f : UnitSt → UnitSt} (htaps : m.leaves .taps = false) (h : Kept m a s) : Kept m a (updUnit tap u f s) := by
  unfold updUnit
  repeat' first
    | with_reducible assumption
    | intro _
    | with_reducible apply updTap_kept
    | with_reducible apply kept_ite
    | simp only [↓kept_upd_iff, implies_true, htaps, Bool.false_eq_true, false_implies]
    | dsimp only
    | split

theorem updTile_kept {tap : Nat} {tag : Nat} {t_ : Tile} (htaps : m.leaves .taps = false) (h : Kept m a s) : Kept m a (updTile tap tag t_ s) := by
  unfold updTile
  repeat' first
    | with_reducible assumption
    | intro _
    | with_reducible apply updTap_kept
    | with_reducible apply kept_ite
    | simp only [↓kept_upd_iff, implies_true, htaps, Bool.false_eq_true, false_implies]
    | dsimp only
    | split

theorem tileOver_kept {tap : Nat} {tk : W256} {how : TileEnd} (hobs : m.leaves .obs = false) (h : Kept m a s) : Kept m a (tileOver tap tk how s) := by
  unfold tileOver
  repeat' first
    | with_reducible assumption
    | intro _
    | with_reducible apply countTap_kept
    | with_reducible apply emit_kept
    | with_reducible apply trace_kept
    | with_reducible apply kept_ite
    | dsimp only
    | split

theorem markCord_kept {tap : Nat} {tk : W256} {st : Nat} (hjrn : m.leaves .jrn = false) (h : Kept m a s) : Kept m a (markCord tap tk st s) := by
  unfold markCord
  repeat' first
    | with_reducible assumption
    | intro _
    | with_reducible apply updCord_kept
    | with_reducible apply kept_ite
    | simp only [↓kept_upd_iff, implies_true, hjrn, Bool.false_eq_true, false_implies]
    | dsimp only
    | split

theorem checkOpens_kept {tap : Nat} {tk : W256} (hjrn : m.leaves .jrn = false) (h : Kept m a s) : Kept m a (checkOpens tap tk s) := by
  unfold checkOpens
  repeat' first
    | with_reducible assumption
    | intro _
    | with_reducible apply updCord_kept
    | with_reducible apply kept_ite
    | simp only [↓kept_upd_iff, implies_true, hjrn, Bool.false_eq_true, false_implies]
    | dsimp only
    | split

theorem tileFailed_kept {tap : Nat} {tk : W256} {kind : Nat} (hdig : m.leaves .dig = false) (hobs : m.leaves .obs = false) (hcol : m.leaves .col = false) (hcmd : m.leaves .cmd = false) (hesc : m.leaves .esc = false) (hfab : m.leaves .fab = false) (h : Kept m a s) : Kept m a (tileFailed tap tk kind s) := by
  unfold tileFailed
  repeat' first
    | with_reducible assumption
    | intro _
    | with_reducible apply sweepSends_kept
    | with_reducible apply wmarkBad_kept
    | with_reducible apply kept_ite
    | dsimp only
    | split

theorem tileGood_kept {tap : Nat} {tk : W256} (hdig : m.leaves .dig = false) (hobs : m.leaves .obs = false) (hcol : m.leaves .col = false) (hcmd : m.leaves .cmd = false) (hesc : m.leaves .esc = false) (hfab : m.leaves .fab = false) (h : Kept m a s) : Kept m a (tileGood tap tk s) := by
  unfold tileGood
  repeat' first
    | with_reducible assumption
    | intro _
    | with_reducible apply sweepSends_kept
    | with_reducible apply wmarkGood_kept
    | with_reducible apply kept_ite
    | dsimp only
    | split

theorem endTicket_kept {tap : Nat} {u : Nat} {no : Nat} {how : TileEnd} {kind : Nat} (hobs : m.leaves .obs = false) (htaps : m.leaves .taps = false) (h : Kept m a s) : Kept m a (endTicket tap u no how kind s) := by
  unfold endTicket
  repeat' first
    | with_reducible assumption
    | intro _
    | with_reducible apply count_kept
    | with_reducible apply whenS_kept
    | with_reducible apply updUnit_kept
    | with_reducible apply kept_ite
    | simp only [↓kept_upd_iff, implies_true, hobs, htaps, Bool.false_eq_true, false_implies]
    | with_reducible apply foldl_kept
    | with_reducible apply foldl_kept_pair
    | dsimp only
    | split

theorem rejectTicket_kept {tap : Nat} {tk : W256} (hdig : m.leaves .dig = false) (hobs : m.leaves .obs = false) (hcol : m.leaves .col = false) (hcmd : m.leaves .cmd = false) (htaps : m.leaves .taps = false) (hjrn : m.leaves .jrn = false) (hesc : m.leaves .esc = false) (hfab : m.leaves .fab = false) (h : Kept m a s) : Kept m a (rejectTicket tap tk s) := by
  unfold rejectTicket
  repeat' first
    | with_reducible assumption
    | intro _
    | with_reducible apply whenS_kept
    | with_reducible apply updTap_kept
    | with_reducible apply tileOver_kept
    | with_reducible apply count_kept
    | with_reducible apply endTicket_kept
    | with_reducible apply updUnit_kept
    | with_reducible apply markCord_kept
    | with_reducible apply tileFailed_kept
    | with_reducible apply raiseTap_kept
    | with_reducible apply kept_ite
    | simp only [↓kept_upd_iff, implies_true, hdig, hobs, hcol, hcmd, htaps, hjrn, hesc, hfab, Bool.false_eq_true, false_implies]
    | dsimp only
    | split

theorem acceptTicket_kept {tap : Nat} {tk : W256} (hobs : m.leaves .obs = false) (hgov : m.leaves .gov = false) (htaps : m.leaves .taps = false) (hjrn : m.leaves .jrn = false) (hesc : m.leaves .esc = false) (h : Kept m a s) : Kept m a (acceptTicket tap tk s) := by
  unfold acceptTicket
  repeat' first
    | with_reducible assumption
    | intro _
    | with_reducible apply cruiseSelect_kept
    | with_reducible apply whenS_kept
    | with_reducible apply updCord_kept
    | with_reducible apply wmarkAccept_kept
    | with_reducible apply updUnit_kept
    | with_reducible apply count_kept
    | with_reducible apply updTap_kept
    | with_reducible apply emit_kept
    | with_reducible apply updTile_kept
    | with_reducible apply setCordSt_kept
    | with_reducible apply kept_ite
    | simp only [↓kept_upd_iff, implies_true, hobs, hgov, htaps, hjrn, hesc, Bool.false_eq_true, false_implies]
    | refine kept_snd (by with_reducible assumption) ?_
    | refine kept_third (by with_reducible assumption) ?_
    | dsimp only
    | split

theorem doTileTicket_kept {tap : Nat} {tk : W256} (hdig : m.leaves .dig = false) (hobs : m.leaves .obs = false) (hcol : m.leaves .col = false) (hgov : m.leaves .gov = false) (hcmd : m.leaves .cmd = false) (htaps : m.leaves .taps = false) (hjrn : m.leaves .jrn = false) (hesc : m.leaves .esc = false) (hfab : m.leaves .fab = false) (h : Kept m a s) : Kept m a (doTileTicket tap tk s) := by
  unfold doTileTicket
  repeat' first
    | with_reducible assumption
    | intro _
    | with_reducible apply rejectTicket_kept
    | with_reducible apply updTap_kept
    | with_reducible apply wmarkAccept_kept
    | with_reducible apply tileGood_kept
    | with_reducible apply tileOver_kept
    | with_reducible apply acceptTicket_kept
    | with_reducible apply kept_ite
    | simp only [↓kept_upd_iff, implies_true, hdig, hobs, hcol, hgov, hcmd, htaps, hjrn, hesc, hfab, Bool.false_eq_true, false_implies]
    | dsimp only
    | split

theorem withTile_kept {tap : Nat} {tag : Nat} {f : Tile → State → State} (hf : ∀ x0 t, Kept m a t → Kept m a (f x0 t)) (hobs : m.leaves .obs = false) (hcol : m.leaves .col = false) (h : Kept m a s) : Kept m a (withTile tap tag f s) := by
  unfold withTile
  repeat' first
    | with_reducible assumption
    | intro _
    | with_reducible apply raiseTap_kept
    | with_reducible apply hf
    | with_reducible apply kept_ite
    | dsimp only
    | split

theorem breach_kept {tap : Nat} {t_ : Tile} (hobs : m.leaves .obs = false) (hcol : m.leaves .col = false) (htaps : m.leaves .taps = false) (h : Kept m a s) : Kept m a (breach tap t_ s) := by
  unfold breach
  repeat' first
    | with_reducible assumption
    | intro _
    | with_reducible apply updTile_kept
    | with_reducible apply raiseTap_kept
    | with_reducible apply kept_ite
    | simp only [↓kept_upd_iff, implies_true, hobs, hcol, htaps, Bool.false_eq_true, false_implies]
    | dsimp only
    | split

theorem doOperandWord_kept {tap : Nat} {tag : Nat} {role : Nat} {index : Nat} {w : W256} (hobs : m.leaves .obs = false) (hcol : m.leaves .col = false) (htaps : m.leaves .taps = false) (h : Kept m a s) : Kept m a (doOperandWord tap tag role index w s) := by
  unfold doOperandWord
  repeat' first
    | with_reducible assumption
    | intro _
    | with_reducible apply withTile_kept
    | with_reducible apply countTap_kept
    | with_reducible apply breach_kept
    | with_reducible apply updTile_kept
    | with_reducible apply kept_ite
    | simp only [↓kept_upd_iff, implies_true, hobs, hcol, htaps, Bool.false_eq_true, false_implies]
    | dsimp only
    | split

theorem doEorWord_kept {tap : Nat} {tag : Nat} {index : Nat} {last : Bool} {w : W256} (hobs : m.leaves .obs = false) (hcol : m.leaves .col = false) (htaps : m.leaves .taps = false) (h : Kept m a s) : Kept m a (doEorWord tap tag index last w s) := by
  unfold doEorWord
  repeat' first
    | with_reducible assumption
    | intro _
    | with_reducible apply withTile_kept
    | with_reducible apply breach_kept
    | with_reducible apply updTile_kept
    | with_reducible apply updTap_kept
    | with_reducible apply kept_ite
    | simp only [↓kept_upd_iff, implies_true, hobs, hcol, htaps, Bool.false_eq_true, false_implies]
    | dsimp only
    | split

theorem doCaptureWord_kept {tap : Nat} {unit : Nat} {tile : Bool} {tag : Nat} {cord : Nat} {off : Nat} {w : W256} (hobs : m.leaves .obs = false) (hcol : m.leaves .col = false) (htaps : m.leaves .taps = false) (h : Kept m a s) : Kept m a (doCaptureWord tap unit tile tag cord off w s) := by
  unfold doCaptureWord
  repeat' first
    | with_reducible assumption
    | intro _
    | with_reducible apply updTap_kept
    | with_reducible apply withTile_kept
    | with_reducible apply whenS_kept
    | with_reducible apply countTap_kept
    | with_reducible apply kept_ite
    | simp only [↓kept_upd_iff, implies_true, hobs, hcol, htaps, Bool.false_eq_true, false_implies]
    | dsimp only
    | split

theorem retainErc_kept {tap : Nat} {r : ErcRec} (hobs : m.leaves .obs = false) (hcol : m.leaves .col = false) (htaps : m.leaves .taps = false) (h : Kept m a s) : Kept m a (retainErc tap r s) := by
  unfold retainErc
  repeat' first
    | with_reducible assumption
    | intro _
    | with_reducible apply updTap_kept
    | with_reducible apply raiseTap_kept
    | with_reducible apply kept_ite
    | simp only [↓kept_upd_iff, implies_true, hobs, hcol, htaps, Bool.false_eq_true, false_implies]
    | dsimp only
    | split

theorem seenEvents_kept {t_ : Tile} (hobs : m.leaves .obs = false) (hgov : m.leaves .gov = false) (hcmd : m.leaves .cmd = false) (h : Kept m a s) : Kept m a (seenEvents t_ s) := by
  unfold seenEvents
  repeat' first
    | with_reducible assumption
    | intro _
    | with_reducible apply whenS_kept
    | with_reducible apply numericEvent_kept
    | with_reducible apply kept_ite
    | dsimp only
    | split

theorem tileEvents_kept {t_ : Tile} {inexact : Bool} (hdig : m.leaves .dig = false) (hobs : m.leaves .obs = false) (hgov : m.leaves .gov = false) (hcmd : m.leaves .cmd = false) (h : Kept m a s) : Kept m a (tileEvents t_ inexact s) := by
  unfold tileEvents
  repeat' first
    | with_reducible assumption
    | intro _
    | with_reducible apply updDig_kept
    | with_reducible apply whenS_kept
    | with_reducible apply numericEvent_kept
    | with_reducible apply seenEvents_kept
    | with_reducible apply kept_ite
    | simp only [↓kept_upd_iff, implies_true, hdig, hobs, hgov, hcmd, Bool.false_eq_true, false_implies]
    | dsimp only
    | split

theorem tileSample_kept {tap : Nat} {t_ : Tile} {good : Bool} (hobs : m.leaves .obs = false) (hcol : m.leaves .col = false) (hgov : m.leaves .gov = false) (hjrn : m.leaves .jrn = false) (h : Kept m a s) : Kept m a (tileSample tap t_ good s) := by
  unfold tileSample
  repeat' first
    | with_reducible assumption
    | intro _
    | with_reducible apply queueSample_kept
    | with_reducible apply checkOver_kept
    | with_reducible apply kept_ite
    | dsimp only
    | split

theorem suspectTile_kept {tap : Nat} {t_ : Tile} {kind : Nat} {l : Loc} {d : Nat} {keep : Option ErcRec} (hdig : m.leaves .dig = false) (hobs : m.leaves .obs = false) (hcol : m.leaves .col = false) (hcmd : m.leaves .cmd = false) (htaps : m.leaves .taps = false) (hjrn : m.leaves .jrn = false) (hesc : m.leaves .esc = false) (hfab : m.leaves .fab = false) (h : Kept m a s) : Kept m a (suspectTile tap t_ kind l d keep s) := by
  unfold suspectTile
  repeat' first
    | with_reducible assumption
    | intro _
    | with_reducible apply markCord_kept
    | with_reducible apply tileFailed_kept
    | with_reducible apply raiseTap_kept
    | with_reducible apply retainErc_kept
    | with_reducible apply whenS_kept
    | with_reducible apply checkOpens_kept
    | with_reducible apply kept_ite
    | dsimp only
    | split

theorem tolAlarm_kept {tap : Nat} {reh : Bool} {t_ : Tile} {q : TolQ} (hobs : m.leaves .obs = false) (hcol : m.leaves .col = false) (htaps : m.leaves .taps = false) (h : Kept m a s) : Kept m a (tolAlarm tap reh t_ q s) := by
  unfold tolAlarm
  repeat' first
    | with_reducible assumption
    | intro _
    | with_reducible apply countTap_kept
    | with_reducible apply raiseTap_kept
    | with_reducible apply updTap_kept
    | with_reducible apply kept_ite
    | simp only [↓kept_upd_iff, implies_true, hobs, hcol, htaps, Bool.false_eq_true, false_implies]
    | dsimp only
    | split

theorem rehearseErc_kept {tap : Nat} {t_ : Tile} {inj : Inject} (hobs : m.leaves .obs = false) (hcol : m.leaves .col = false) (hgov : m.leaves .gov = false) (htaps : m.leaves .taps = false) (h : Kept m a s) : Kept m a (rehearseErc tap t_ inj s) := by
  unfold rehearseErc
  repeat' first
    | with_reducible assumption
    | intro _
    | with_reducible apply injectNow_kept
    | with_reducible apply updTap_kept
    | with_reducible apply raiseTap_kept
    | with_reducible apply whenS_kept
    | with_reducible apply kept_ite
    | simp only [↓kept_upd_iff, implies_true, hobs, hcol, hgov, htaps, Bool.false_eq_true, false_implies]
    | dsimp only
    | split

theorem rehearseTol_kept {tap : Nat} {u : UnitSt} {t_ : Tile} {inj : Inject} (hobs : m.leaves .obs = false) (hcol : m.leaves .col = false) (hgov : m.leaves .gov = false) (htaps : m.leaves .taps = false) (h : Kept m a s) : Kept m a (rehearseTol tap u t_ inj s) := by
  unfold rehearseTol
  repeat' first
    | with_reducible assumption
    | intro _
    | with_reducible apply injectNow_kept
    | with_reducible apply updTap_kept
    | with_reducible apply whenS_kept
    | with_reducible apply tolAlarm_kept
    | with_reducible apply kept_ite
    | simp only [↓kept_upd_iff, implies_true, hobs, hcol, hgov, htaps, Bool.false_eq_true, false_implies]
    | dsimp only
    | split

theorem rehearse_kept {tap : Nat} {u : UnitSt} {t_ : Tile} {v : Verdict} (hobs : m.leaves .obs = false) (hcol : m.leaves .col = false) (hgov : m.leaves .gov = false) (htaps : m.leaves .taps = false) (h : Kept m a s) : Kept m a (rehearse tap u t_ v s) := by
  unfold rehearse
  repeat' first
    | with_reducible assumption
    | intro _
    | with_reducible apply whenS_kept
    | with_reducible apply rehearseErc_kept
    | with_reducible apply tolAlarm_kept
    | with_reducible apply rehearseTol_kept
    | with_reducible apply kept_ite
    | dsimp only
    | split

theorem tileReleased_kept {tap : Nat} {t_ : Tile} (hdig : m.leaves .dig = false) (hobs : m.leaves .obs = false) (hcol : m.leaves .col = false) (hcmd : m.leaves .cmd = false) (hesc : m.leaves .esc = false) (hfab : m.leaves .fab = false) (h : Kept m a s) : Kept m a (tileReleased tap t_ s) := by
  unfold tileReleased
  repeat' first
    | with_reducible assumption
    | intro _
    | with_reducible apply tileFailed_kept
    | with_reducible apply tileGood_kept
    | with_reducible apply kept_ite
    | dsimp only
    | split

theorem applyVerdict_kept {tap : Nat} {u : UnitSt} {t_ : Tile} {v : Verdict} (hdig : m.leaves .dig = false) (hobs : m.leaves .obs = false) (hcol : m.leaves .col = false) (hcmd : m.leaves .cmd = false) (htaps : m.leaves .taps = false) (hjrn : m.leaves .jrn = false) (hesc : m.leaves .esc = false) (hfab : m.leaves .fab = false) (h : Kept m a s) : Kept m a (applyVerdict tap u t_ v s) := by
  unfold applyVerdict
  repeat' first
    | with_reducible assumption
    | intro _
    | with_reducible apply markCord_kept
    | with_reducible apply tileFailed_kept
    | with_reducible apply suspectTile_kept
    | with_reducible apply tileReleased_kept
    | with_reducible apply tolAlarm_kept
    | with_reducible apply checkOpens_kept
    | with_reducible apply kept_ite
    | dsimp only
    | split

theorem compareTile_kept {tap : Nat} {t_ : Tile} (hdig : m.leaves .dig = false) (hobs : m.leaves .obs = false) (hcol : m.leaves .col = false) (hgov : m.leaves .gov = false) (hcmd : m.leaves .cmd = false) (htaps : m.leaves .taps = false) (hjrn : m.leaves .jrn = false) (hesc : m.leaves .esc = false) (hfab : m.leaves .fab = false) (h : Kept m a s) : Kept m a (compareTile tap t_ s) := by
  unfold compareTile
  repeat' first
    | with_reducible assumption
    | intro _
    | with_reducible apply updTap_kept
    | with_reducible apply endTicket_kept
    | with_reducible apply updUnit_kept
    | with_reducible apply tileOver_kept
    | with_reducible apply tileEvents_kept
    | with_reducible apply whenS_kept
    | with_reducible apply rehearse_kept
    | with_reducible apply applyVerdict_kept
    | with_reducible apply tileSample_kept
    | with_reducible apply kept_ite
    | simp only [↓kept_upd_iff, implies_true, hdig, hobs, hcol, hgov, hcmd, htaps, hjrn, hesc, hfab, Bool.false_eq_true, false_implies]
    | dsimp only
    | split

theorem comparePin_kept {tap : Nat} {t_ : Tile} (hdig : m.leaves .dig = false) (hobs : m.leaves .obs = false) (hgov : m.leaves .gov = false) (hcmd : m.leaves .cmd = false) (htaps : m.leaves .taps = false) (h : Kept m a s) : Kept m a (comparePin tap t_ s) := by
  unfold comparePin
  repeat' first
    | with_reducible assumption
    | intro _
    | with_reducible apply updTap_kept
    | with_reducible apply tileEvents_kept
    | with_reducible apply tileOver_kept
    | with_reducible apply kept_ite
    | simp only [↓kept_upd_iff, implies_true, hdig, hobs, hgov, hcmd, htaps, Bool.false_eq_true, false_implies]
    | dsimp only
    | split

theorem doTileCompare_kept {tap : Nat} {tag : Nat} (hdig : m.leaves .dig = false) (hobs : m.leaves .obs = false) (hcol : m.leaves .col = false) (hgov : m.leaves .gov = false) (hcmd : m.leaves .cmd = false) (htaps : m.leaves .taps = false) (hjrn : m.leaves .jrn = false) (hesc : m.leaves .esc = false) (hfab : m.leaves .fab = false) (h : Kept m a s) : Kept m a (doTileCompare tap tag s) := by
  unfold doTileCompare
  repeat' first
    | with_reducible assumption
    | intro _
    | with_reducible apply comparePin_kept
    | with_reducible apply compareTile_kept
    | with_reducible apply kept_ite
    | dsimp only
    | split

theorem discardTile_kept {tap : Nat} {t_ : Tile} {how : TileEnd} {kind : Nat} (hdig : m.leaves .dig = false) (hobs : m.leaves .obs = false) (hcol : m.leaves .col = false) (hgov : m.leaves .gov = false) (hcmd : m.leaves .cmd = false) (htaps : m.leaves .taps = false) (hjrn : m.leaves .jrn = false) (hesc : m.leaves .esc = false) (hfab : m.leaves .fab = false) (h : Kept m a s) : Kept m a (discardTile tap t_ how kind s) := by
  unfold discardTile
  repeat' first
    | with_reducible assumption
    | intro _
    | with_reducible apply updTap_kept
    | with_reducible apply seenEvents_kept
    | with_reducible apply tileOver_kept
    | with_reducible apply endTicket_kept
    | with_reducible apply tileSample_kept
    | with_reducible apply markCord_kept
    | with_reducible apply tileFailed_kept
    | with_reducible apply kept_ite
    | simp only [↓kept_upd_iff, implies_true, hdig, hobs, hcol, hgov, hcmd, htaps, hjrn, hesc, hfab, Bool.false_eq_true, false_implies]
    | dsimp only
    | split

theorem fenceTiles_kept {tap : Nat} {p : W256 → Bool} {kind : Nat} (hdig : m.leaves .dig = false) (hobs : m.leaves .obs = false) (hcol : m.leaves .col = false) (hgov : m.leaves .gov = false) (hcmd : m.leaves .cmd = false) (htaps : m.leaves .taps = false) (hjrn : m.leaves .jrn = false) (hesc : m.leaves .esc = false) (hfab : m.leaves .fab = false) (h : Kept m a s) : Kept m a (fenceTiles tap p kind s) := by
  unfold fenceTiles
  repeat' first
    | with_reducible assumption
    | intro _
    | with_reducible apply foldS_kept
    | with_reducible apply discardTile_kept
    | with_reducible apply kept_ite
    | dsimp only
    | split

theorem doTicketStateError_kept {tap : Nat} {tag : Nat} {corrected : Bool} (hdig : m.leaves .dig = false) (hobs : m.leaves .obs = false) (hcol : m.leaves .col = false) (hgov : m.leaves .gov = false) (hcmd : m.leaves .cmd = false) (htaps : m.leaves .taps = false) (hjrn : m.leaves .jrn = false) (hesc : m.leaves .esc = false) (hfab : m.leaves .fab = false) (h : Kept m a s) : Kept m a (doTicketStateError tap tag corrected s) := by
  unfold doTicketStateError
  repeat' first
    | with_reducible assumption
    | intro _
    | with_reducible apply countTap_kept
    | with_reducible apply updTap_kept
    | with_reducible apply raiseTap_kept
    | with_reducible apply discardTile_kept
    | with_reducible apply kept_ite
    | simp only [↓kept_upd_iff, implies_true, hdig, hobs, hcol, hgov, hcmd, htaps, hjrn, hesc, hfab, Bool.false_eq_true, false_implies]
    | dsimp only
    | split

theorem gateSlot_kept {tap : Nat} {unit : Nat} (htaps : m.leaves .taps = false) (h : Kept m a s) : Kept m a (gateSlot tap unit s).2 := by
  unfold gateSlot
  repeat' first
    | with_reducible assumption
    | intro _
    | with_reducible apply updTap_kept
    | with_reducible apply kept_ite
    | with_reducible apply kept_ite_snd
    | simp only [↓kept_upd_iff, implies_true, htaps, Bool.false_eq_true, false_implies]
    | dsimp only
    | split

theorem cordRuns_kept {tap : Nat} {u : Nat} {cord : Nat} (hobs : m.leaves .obs = false) (hjrn : m.leaves .jrn = false) (h : Kept m a s) : Kept m a (cordRuns tap u cord s) := by
  unfold cordRuns
  repeat' first
    | with_reducible assumption
    | intro _
    | with_reducible apply whenS_kept
    | with_reducible apply setCordSt_kept
    | with_reducible apply kept_ite
    | dsimp only
    | split

theorem doDispatchSlot_kept {tap : Nat} {u : Nat} {cord : Nat} {pin : Bool} (hobs : m.leaves .obs = false) (hscr : m.leaves .scr = false) (hcol : m.leaves .col = false) (hcmd : m.leaves .cmd = false) (htaps : m.leaves .taps = false) (hjrn : m.leaves .jrn = false) (hseq : m.leaves .seq = false) (h : Kept m a s) : Kept m a (doDispatchSlot tap u cord pin s) := by
  unfold doDispatchSlot
  repeat' first
    | with_reducible assumption
    | intro _
    | with_reducible apply gateSlot_kept
    | with_reducible apply abortSlices_kept
    | with_reducible apply foldS_kept
    | with_reducible apply countTap_kept
    | with_reducible apply emit_kept
    | with_reducible apply cordRuns_kept
    | with_reducible apply kept_ite
    | simp only [↓kept_upd_iff, implies_true, hobs, hscr, hcol, hcmd, htaps, hjrn, hseq, Bool.false_eq_true, false_implies]
    | refine kept_snd (by with_reducible assumption) ?_
    | refine kept_third (by with_reducible assumption) ?_
    | dsimp only
    | split

/-! ### Skid -/

theorem takeSpare_kept {t_ : Nat} {c : Nat} (hobs : m.leaves .obs = false) (hscr : m.leaves .scr = false) (hcol : m.leaves .col = false) (hcmd : m.leaves .cmd = false) (hjrn : m.leaves .jrn = false) (hesc : m.leaves .esc = false) (hseq : m.leaves .seq = false) (h : Kept m a s) : Kept m a (takeSpare t_ c s) := by
  unfold takeSpare
  repeat' first
    | with_reducible assumption
    | intro _
    | with_reducible apply wakeSpare_kept
    | with_reducible apply setSpare_kept
    | with_reducible apply fenceTwins_kept
    | with_reducible apply abortSlices_kept
    | with_reducible apply kept_ite
    | dsimp only
    | split

theorem dropUnrunnable_kept {trigger : Nat} {slots : List Nat} (hdig : m.leaves .dig = false) (hobs : m.leaves .obs = false) (hcol : m.leaves .col = false) (hcmd : m.leaves .cmd = false) (hjrn : m.leaves .jrn = false) (hesc : m.leaves .esc = false) (hrecd : m.leaves .recd = false) (hfab : m.leaves .fab = false) (h : Kept m a s) : Kept m a (dropUnrunnable trigger slots s) := by
  unfold dropUnrunnable
  repeat' first
    | with_reducible assumption
    | intro _
    | with_reducible apply foldS_kept
    | with_reducible apply unreplayable_kept
    | with_reducible apply kept_ite
    | dsimp only
    | split

theorem skidShort_kept {c : Nat} {scope : Loc} {trigger : Nat} {fenceEt : Tick} {again : Bool} {slots : List Nat} (hobs : m.leaves .obs = false) (hcol : m.leaves .col = false) (hcmd : m.leaves .cmd = false) (hjrn : m.leaves .jrn = false) (h : Kept m a s) : Kept m a (skidShort c scope trigger fenceEt again slots s) := by
  unfold skidShort
  repeat' first
    | with_reducible assumption
    | intro _
    | with_reducible apply foldS_kept
    | with_reducible apply setCordSt_kept
    | with_reducible apply updCord_kept
    | with_reducible apply raiseJrn_kept
    | with_reducible apply postRecord_kept
    | with_reducible apply kept_id
    | with_reducible apply kept_ite
    | simp only [↓kept_upd_iff, implies_true, hobs, hcol, hcmd, hjrn, Bool.false_eq_true, false_implies]
    | dsimp only
    | split

theorem rewriteUsers_kept {x : Nat} {t_ : Nat} {users : List Nat} (hjrn : m.leaves .jrn = false) (h : Kept m a s) : Kept m a (rewriteUsers x t_ users s) := by
  unfold rewriteUsers
  repeat' first
    | with_reducible assumption
    | intro _
    | with_reducible apply foldS_kept
    | with_reducible apply updCord_kept
    | with_reducible apply kept_ite
    | simp only [↓kept_upd_iff, implies_true, hjrn, Bool.false_eq_true, false_implies]
    | dsimp only
    | split

theorem moveCords_kept {t_ : Nat} {goal : Loc} {scope : Loc} {trigger : Nat} {slots : List Nat} (hobs : m.leaves .obs = false) (hgov : m.leaves .gov = false) (htaps : m.leaves .taps = false) (hjrn : m.leaves .jrn = false) (hesc : m.leaves .esc = false) (h : Kept m a s) : Kept m a (moveCords t_ goal scope trigger slots s) := by
  unfold moveCords
  repeat' first
    | with_reducible assumption
    | intro _
    | with_reducible apply startOn_kept
    | with_reducible apply updCord_kept
    | with_reducible apply kept_ite
    | simp only [↓kept_upd_iff, implies_true, hobs, hgov, htaps, hjrn, hesc, Bool.false_eq_true, false_implies]
    | with_reducible apply foldl_kept
    | with_reducible apply foldl_kept_pair
    | dsimp only
    | split

theorem regenAll_kept {c : Nat} {first : Option Nat} {trigger : Nat} (hdig : m.leaves .dig = false) (hbnk : m.leaves .bnk = false) (hobs : m.leaves .obs = false) (hcol : m.leaves .col = false) (hgov : m.leaves .gov = false) (hcmd : m.leaves .cmd = false) (htaps : m.leaves .taps = false) (hjrn : m.leaves .jrn = false) (hesc : m.leaves .esc = false) (hrecd : m.leaves .recd = false) (hfab : m.leaves .fab = false) (hwords : m.leaves .words = false) (h : Kept m a s) : Kept m a (regenAll c first trigger s) := by
  unfold regenAll
  repeat' first
    | with_reducible assumption
    | intro _
    | with_reducible apply foldS_kept
    | with_reducible apply regen_kept
    | with_reducible apply unreplayable_kept
    | with_reducible apply kept_ite
    | refine kept_snd (by with_reducible assumption) ?_
    | refine kept_third (by with_reducible assumption) ?_
    | dsimp only
    | split

theorem skidTo_kept {t_ : Nat} {first : Option Nat} {c : Nat} {scope : Loc} {trigger : Nat} {fenceEt : Tick} {again : Bool} {slots : List Nat} {users : List Nat} (hdig : m.leaves .dig = false) (hbnk : m.leaves .bnk = false) (hobs : m.leaves .obs = false) (hscr : m.leaves .scr = false) (hcol : m.leaves .col = false) (hgov : m.leaves .gov = false) (hcmd : m.leaves .cmd = false) (htaps : m.leaves .taps = false) (hjrn : m.leaves .jrn = false) (hesc : m.leaves .esc = false) (hrecd : m.leaves .recd = false) (hseq : m.leaves .seq = false) (hfab : m.leaves .fab = false) (hwords : m.leaves .words = false) (h : Kept m a s) : Kept m a (skidTo t_ first c scope trigger fenceEt again slots users s) := by
  unfold skidTo
  repeat' first
    | with_reducible assumption
    | intro _
    | with_reducible apply takeSpare_kept
    | with_reducible apply rewriteUsers_kept
    | with_reducible apply regenAll_kept
    | with_reducible apply moveCords_kept
    | with_reducible apply kept_ite
    | simp only [↓kept_upd_iff, implies_true, hdig, hbnk, hobs, hscr, hcol, hgov, hcmd, htaps, hjrn, hesc, hrecd, hseq, hfab, hwords, Bool.false_eq_true, false_implies]
    | dsimp only
    | split

theorem skidPart_kept {scope : Loc} {fenceEt : Tick} {trigger : Nat} {first : Option Nat} {again : Bool} {c : Nat} (hdig : m.leaves .dig = false) (hbnk : m.leaves .bnk = false) (hobs : m.leaves .obs = false) (hscr : m.leaves .scr = false) (hcol : m.leaves .col = false) (hgov : m.leaves .gov = false) (hcmd : m.leaves .cmd = false) (htaps : m.leaves .taps = false) (hjrn : m.leaves .jrn = false) (hesc : m.leaves .esc = false) (hrecd : m.leaves .recd = false) (hseq : m.leaves .seq = false) (hfab : m.leaves .fab = false) (hwords : m.leaves .words = false) (h : Kept m a s) : Kept m a (skidPart scope fenceEt trigger first again c s) := by
  unfold skidPart
  repeat' first
    | with_reducible assumption
    | intro _
    | with_reducible apply dropUnrunnable_kept
    | with_reducible apply skidTo_kept
    | with_reducible apply skidShort_kept
    | with_reducible apply kept_ite
    | dsimp only
    | split

theorem startSkid_kept {scope : Loc} (hdig : m.leaves .dig = false) (hbnk : m.leaves .bnk = false) (hobs : m.leaves .obs = false) (hscr : m.leaves .scr = false) (hcol : m.leaves .col = false) (hgov : m.leaves .gov = false) (hcmd : m.leaves .cmd = false) (htaps : m.leaves .taps = false) (hjrn : m.leaves .jrn = false) (hesc : m.leaves .esc = false) (hrecd : m.leaves .recd = false) (hseq : m.leaves .seq = false) (hfab : m.leaves .fab = false) (hwords : m.leaves .words = false) (h : Kept m a s) : Kept m a (startSkid scope s) := by
  unfold startSkid
  repeat' first
    | with_reducible assumption
    | intro _
    | with_reducible apply foldS_kept
    | with_reducible apply skidPart_kept
    | with_reducible apply kept_ite
    | simp only [↓kept_upd_iff, implies_true, hdig, hbnk, hobs, hscr, hcol, hgov, hcmd, htaps, hjrn, hesc, hrecd, hseq, hfab, hwords, Bool.false_eq_true, false_implies]
    | dsimp only
    | split

theorem waitSkid_kept {scope : Loc} {pinpoint : Bool} (hjrn : m.leaves .jrn = false) (h : Kept m a s) : Kept m a (waitSkid scope pinpoint s) := by
  unfold waitSkid
  repeat' first
    | with_reducible assumption
    | intro _
    | with_reducible apply kept_ite
    | simp only [↓kept_upd_iff, implies_true, hjrn, Bool.false_eq_true, false_implies]
    | dsimp only
    | split

theorem doSkidStart_kept {scope : Loc} (hdig : m.leaves .dig = false) (hbnk : m.leaves .bnk = false) (hobs : m.leaves .obs = false) (hscr : m.leaves .scr = false) (hcol : m.leaves .col = false) (hgov : m.leaves .gov = false) (hcmd : m.leaves .cmd = false) (htaps : m.leaves .taps = false) (hjrn : m.leaves .jrn = false) (hesc : m.leaves .esc = false) (hrecd : m.leaves .recd = false) (hseq : m.leaves .seq = false) (hfab : m.leaves .fab = false) (hwords : m.leaves .words = false) (h : Kept m a s) : Kept m a (doSkidStart scope s) := by
  unfold doSkidStart
  repeat' first
    | with_reducible assumption
    | intro _
    | with_reducible apply startSkid_kept
    | with_reducible apply kept_ite
    | dsimp only
    | split

theorem updSkid_kept {q : Skid} {f : Skid → Skid} (hjrn : m.leaves .jrn = false) (h : Kept m a s) : Kept m a (updSkid q f s) := by
  unfold updSkid
  repeat' first
    | with_reducible assumption
    | intro _
    | with_reducible apply kept_ite
    | simp only [↓kept_upd_iff, implies_true, hjrn, Bool.false_eq_true, false_implies]
    | dsimp only
    | split

theorem doCordHandover_kept {scope : Loc} (hobs : m.leaves .obs = false) (hgov : m.leaves .gov = false) (htaps : m.leaves .taps = false) (hjrn : m.leaves .jrn = false) (hesc : m.leaves .esc = false) (h : Kept m a s) : Kept m a (doCordHandover scope s) := by
  unfold doCordHandover
  repeat' first
    | with_reducible assumption
    | intro _
    | with_reducible apply updSkid_kept
    | with_reducible apply handOver_kept
    | with_reducible apply kept_ite
    | simp only [↓kept_upd_iff, implies_true, hobs, hgov, htaps, hjrn, hesc, Bool.false_eq_true, false_implies]
    | dsimp only
    | split

theorem doSkid_kept {scope : Loc} (hobs : m.leaves .obs = false) (hcmd : m.leaves .cmd = false) (hjrn : m.leaves .jrn = false) (hesc : m.leaves .esc = false) (hrecd : m.leaves .recd = false) (h : Kept m a s) : Kept m a (doSkid scope s) := by
  unfold doSkid
  repeat' first
    | with_reducible assumption
    | intro _
    | with_reducible apply finishSkids_kept
    | with_reducible apply postRecord_kept
    | with_reducible apply updSkid_kept
    | with_reducible apply kept_ite
    | simp only [↓kept_upd_iff, implies_true, hobs, hcmd, hjrn, hesc, hrecd, Bool.false_eq_true, false_implies]
    | dsimp only
    | split

theorem doSpareWakeDone_kept {region : Nat} {bits : BitVec 8} (hjrn : m.leaves .jrn = false) (h : Kept m a s) : Kept m a (doSpareWakeDone region bits s) := by
  unfold doSpareWakeDone
  repeat' first
    | with_reducible assumption
    | intro _
    | with_reducible apply kept_ite
    | simp only [↓kept_upd_iff, implies_true, hjrn, Bool.false_eq_true, false_implies]
    | dsimp only
    | split

theorem doJrnSkidLate_kept {scope : Loc} (hcol : m.leaves .col = false) (hjrn : m.leaves .jrn = false) (h : Kept m a s) : Kept m a (doJrnSkidLate scope s) := by
  unfold doJrnSkidLate
  repeat' first
    | with_reducible assumption
    | intro _
    | with_reducible apply raiseJrn_kept
    | with_reducible apply updSkid_kept
    | with_reducible apply kept_id
    | with_reducible apply kept_ite
    | simp only [↓kept_upd_iff, implies_true, hcol, hjrn, Bool.false_eq_true, false_implies]
    | dsimp only
    | split

theorem adoptProducer_kept {c : Nat} {img : BitVec 1024} {n : Nat} {first : Option Nat} (hbnk : m.leaves .bnk = false) (hobs : m.leaves .obs = false) (hcol : m.leaves .col = false) (hgov : m.leaves .gov = false) (hcmd : m.leaves .cmd = false) (htaps : m.leaves .taps = false) (hjrn : m.leaves .jrn = false) (hesc : m.leaves .esc = false) (hfab : m.leaves .fab = false) (hwords : m.leaves .words = false) (h : Kept m a s) (e : adoptProducer c img n first s = some t) :
    Kept m a t := by
  unfold adoptProducer at e
  dsimp only at e
  repeat' split at e
  all_goals
    cases e
    try
      refine startOn_kept (by assumption) (by assumption) (by assumption) (by assumption) (by assumption) (regen_kept (by assumption) (by assumption) (by assumption) (by assumption) (by assumption) (by assumption) (by assumption) (by assumption) (by assumption) (by assumption) ?_)
      simp only [↓kept_upd_iff, implies_true, hbnk, hobs, hcol, hgov, hcmd, htaps, hjrn, hesc, hfab, hwords, Bool.false_eq_true, false_implies]
      exact h

theorem doRingFetch_kept {tag : Nat} {bytes : BitVec 1024} (hdig : m.leaves .dig = false) (hbnk : m.leaves .bnk = false) (hobs : m.leaves .obs = false) (hcol : m.leaves .col = false) (hgov : m.leaves .gov = false) (hcmd : m.leaves .cmd = false) (htaps : m.leaves .taps = false) (hjrn : m.leaves .jrn = false) (hesc : m.leaves .esc = false) (hrecd : m.leaves .recd = false) (hfab : m.leaves .fab = false) (hwords : m.leaves .words = false) (h : Kept m a s) : Kept m a (doRingFetch tag bytes s) := by
  unfold doRingFetch
  split
  · exact h
  · split
    · dsimp only
      refine foldS_kept ?_ (kept_getD ?_ ?_)
      · intro f t ht
        split
        · exact ht
        · split
          · exact ht
          · exact kept_ite (unreplayable_kept (by assumption) (by assumption) (by assumption) (by assumption) (by assumption) (by assumption) (by assumption) (by assumption) (updCord_kept (by assumption) ht)) (updCord_kept (by assumption) ht)
      · simp only [↓kept_upd_iff, implies_true, hdig, hbnk, hobs, hcol, hgov, hcmd, htaps, hjrn, hesc, hrecd, hfab, hwords, Bool.false_eq_true, false_implies]
        exact h
      · intro t e
        split at e
        · refine adoptProducer_kept (by assumption) (by assumption) (by assumption) (by assumption) (by assumption) (by assumption) (by assumption) (by assumption) (by assumption) (by assumption) ?_ e
          simp only [↓kept_upd_iff, implies_true, hdig, hbnk, hobs, hcol, hgov, hcmd, htaps, hjrn, hesc, hrecd, hfab, hwords, Bool.false_eq_true, false_implies]
          exact h
        · cases e
    · exact h

theorem retrySkids_kept  (hdig : m.leaves .dig = false) (hbnk : m.leaves .bnk = false) (hobs : m.leaves .obs = false) (hscr : m.leaves .scr = false) (hcol : m.leaves .col = false) (hgov : m.leaves .gov = false) (hcmd : m.leaves .cmd = false) (htaps : m.leaves .taps = false) (hjrn : m.leaves .jrn = false) (hesc : m.leaves .esc = false) (hrecd : m.leaves .recd = false) (hseq : m.leaves .seq = false) (hfab : m.leaves .fab = false) (hwords : m.leaves .words = false) (h : Kept m a s) : Kept m a (retrySkids s) := by
  unfold retrySkids
  repeat' first
    | with_reducible assumption
    | intro _
    | with_reducible apply foldS_kept
    | with_reducible apply setCordSt_kept
    | with_reducible apply skidPart_kept
    | with_reducible apply kept_ite
    | simp only [↓kept_upd_iff, implies_true, hdig, hbnk, hobs, hscr, hcol, hgov, hcmd, htaps, hjrn, hesc, hrecd, hseq, hfab, hwords, Bool.false_eq_true, false_implies]
    | dsimp only
    | split

theorem endSkids_kept {c : Nat} (hobs : m.leaves .obs = false) (hcmd : m.leaves .cmd = false) (hjrn : m.leaves .jrn = false) (hesc : m.leaves .esc = false) (h : Kept m a s) : Kept m a (endSkids c s) := by
  unfold endSkids
  repeat' first
    | with_reducible assumption
    | intro _
    | with_reducible apply foldS_kept
    | with_reducible apply endFenced_kept
    | with_reducible apply sparesIdle_kept
    | with_reducible apply kept_ite
    | simp only [↓kept_upd_iff, implies_true, hobs, hcmd, hjrn, hesc, Bool.false_eq_true, false_implies]
    | dsimp only
    | split

theorem endRedirs_kept {scope : Loc} (hobs : m.leaves .obs = false) (hjrn : m.leaves .jrn = false) (hesc : m.leaves .esc = false) (h : Kept m a s) : Kept m a (endRedirs scope s) := by
  unfold endRedirs
  repeat' first
    | with_reducible assumption
    | intro _
    | with_reducible apply sparesIdle_kept
    | with_reducible apply kept_ite
    | simp only [↓kept_upd_iff, implies_true, hobs, hjrn, hesc, Bool.false_eq_true, false_implies]
    | dsimp only
    | split

/-! ### Observe -/

theorem setSel_kept {i : Nat} {event : Nat} {core : Nat} {kind : Nat} (hobs : m.leaves .obs = false) (h : Kept m a s) : Kept m a (setSel i event core kind s) := by
  unfold setSel
  repeat' first
    | with_reducible assumption
    | intro _
    | with_reducible apply resetCtr_kept
    | with_reducible apply kept_ite
    | simp only [↓kept_upd_iff, implies_true, hobs, Bool.false_eq_true, false_implies]
    | dsimp only
    | split

theorem obsCommand_kept {sample : Bool} {reset : Bool} {setsel : Bool} (hobs : m.leaves .obs = false) (hmregs : m.leaves .mregs = false) (h : Kept m a s) : Kept m a (obsCommand sample reset setsel s) := by
  unfold obsCommand
  repeat' first
    | with_reducible assumption
    | intro _
    | with_reducible apply State.setRf_kept
    | with_reducible apply whenS_kept
    | with_reducible apply resetCtr_kept
    | with_reducible apply setSel_kept
    | with_reducible apply kept_ite
    | dsimp only
    | split

theorem doJObsSample_kept {c : Nat} {index : Nat} (hobs : m.leaves .obs = false) (hcol : m.leaves .col = false) (hrecd : m.leaves .recd = false) (hjregs : m.leaves .jregs = false) (h : Kept m a s) : Kept m a (doJObsSample c index s) := by
  unfold doJObsSample
  repeat' first
    | with_reducible assumption
    | intro _
    | with_reducible apply State.setJf_kept
    | with_reducible apply refuseCrossing_kept
    | with_reducible apply kept_ite
    | dsimp only
    | split

theorem tookTick_kept {t_ : Tick} (hobs : m.leaves .obs = false) (h : Kept m a s) : Kept m a (tookTick t_ s) := by
  unfold tookTick
  repeat' first
    | with_reducible assumption
    | intro _
    | with_reducible apply kept_ite
    | simp only [↓kept_upd_iff, implies_true, hobs, Bool.false_eq_true, false_implies]
    | dsimp only
    | split

theorem orderTally_kept {t_ : Nat} {cause : Nat} {comp : Option (Nat × Option Nat)} (hobs : m.leaves .obs = false) (h : Kept m a s) : Kept m a (orderTally t_ cause comp s).2 := by
  unfold orderTally
  repeat' first
    | with_reducible assumption
    | intro _
    | with_reducible apply kept_ite
    | with_reducible apply kept_ite_snd
    | simp only [↓kept_upd_iff, implies_true, hobs, Bool.false_eq_true, false_implies]
    | dsimp only
    | split

theorem doPeriodicTally_kept  (hobs : m.leaves .obs = false) (h : Kept m a s) : Kept m a (doPeriodicTally s) := by
  unfold doPeriodicTally
  repeat' first
    | with_reducible assumption
    | intro _
    | with_reducible apply orderTally_kept
    | with_reducible apply kept_ite
    | simp only [↓kept_upd_iff, implies_true, hobs, Bool.false_eq_true, false_implies]
    | refine kept_snd (by with_reducible assumption) ?_
    | refine kept_third (by with_reducible assumption) ?_
    | dsimp only
    | split

theorem doTallyFreeze_kept  (hobs : m.leaves .obs = false) (h : Kept m a s) : Kept m a (doTallyFreeze s) := by
  unfold doTallyFreeze
  repeat' first
    | with_reducible assumption
    | intro _
    | with_reducible apply tookTick_kept
    | with_reducible apply kept_ite
    | simp only [↓kept_upd_iff, implies_true, hobs, Bool.false_eq_true, false_implies]
    | dsimp only
    | split

theorem writeView_kept {sh : Shadow} {t_ : TallySlot} {quotaHit : Bool} {who : Nat × Option Nat} (hcmd : m.leaves .cmd = false) (hfab : m.leaves .fab = false) (h : Kept m a s) : Kept m a (writeView sh t_ quotaHit who s) := by
  unfold writeView
  repeat' first
    | with_reducible assumption
    | intro _
    | with_reducible apply completeCmd_kept
    | with_reducible apply streamWrite_kept
    | with_reducible apply kept_ite
    | dsimp only
    | split

theorem doTallyDrain_kept {late : List Nat} (hobs : m.leaves .obs = false) (hcol : m.leaves .col = false) (hcmd : m.leaves .cmd = false) (hfab : m.leaves .fab = false) (h : Kept m a s) : Kept m a (doTallyDrain late s) := by
  unfold doTallyDrain
  repeat' first
    | with_reducible assumption
    | intro _
    | with_reducible apply whenS_kept
    | with_reducible apply raiseHub_kept
    | with_reducible apply foldS_kept
    | with_reducible apply writeView_kept
    | with_reducible apply kept_ite
    | simp only [↓kept_upd_iff, implies_true, hobs, hcol, hcmd, hfab, Bool.false_eq_true, false_implies]
    | dsimp only
    | split

theorem setTrace_kept {c : Nat} {t_ : Trace} (hobs : m.leaves .obs = false) (h : Kept m a s) : Kept m a (setTrace c t_ s) := by
  unfold setTrace
  repeat' first
    | with_reducible assumption
    | intro _
    | with_reducible apply kept_ite
    | simp only [↓kept_upd_iff, implies_true, hobs, Bool.false_eq_true, false_implies]
    | dsimp only
    | split

theorem dropTrace_kept {c : Nat} (hobs : m.leaves .obs = false) (h : Kept m a s) : Kept m a (dropTrace c s) := by
  unfold dropTrace
  repeat' first
    | with_reducible assumption
    | intro _
    | with_reducible apply setTrace_kept
    | with_reducible apply kept_ite
    | simp only [↓kept_upd_iff, implies_true, hobs, Bool.false_eq_true, false_implies]
    | dsimp only
    | split

theorem doTraceDrain_kept {c : Nat} (hobs : m.leaves .obs = false) (hcmd : m.leaves .cmd = false) (hfab : m.leaves .fab = false) (h : Kept m a s) : Kept m a (doTraceDrain c s) := by
  unfold doTraceDrain
  repeat' first
    | with_reducible assumption
    | intro _
    | with_reducible apply trace_kept
    | with_reducible apply setTrace_kept
    | with_reducible apply streamWrite_kept
    | with_reducible apply kept_ite
    | simp only [↓kept_upd_iff, implies_true, hobs, hcmd, hfab, Bool.false_eq_true, false_implies]
    | dsimp only
    | split

theorem doTraceHeadWrite_kept {c : Nat} {v : BitVec 32} (hobs : m.leaves .obs = false) (h : Kept m a s) : Kept m a (doTraceHeadWrite c v s) := by
  unfold doTraceHeadWrite
  repeat' first
    | with_reducible assumption
    | intro _
    | with_reducible apply setTrace_kept
    | with_reducible apply kept_ite
    | simp only [↓kept_upd_iff, implies_true, hobs, Bool.false_eq_true, false_implies]
    | dsimp only
    | split

theorem traceSetup_kept {c : Nat} {r : W128} (hobs : m.leaves .obs = false) (h : Kept m a s) : Kept m a (traceSetup c r s).2 := by
  unfold traceSetup
  repeat' first
    | with_reducible assumption
    | intro _
    | with_reducible apply setTrace_kept
    | with_reducible apply kept_ite
    | with_reducible apply kept_ite_snd
    | simp only [↓kept_upd_iff, implies_true, hobs, Bool.false_eq_true, false_implies]
    | dsimp only
    | split

/-! ### Stop -/

theorem settleMcast_kept {c : Nat} {tag : Nat} (hcmd : m.leaves .cmd = false) (hfab : m.leaves .fab = false) (h : Kept m a s) : Kept m a (settleMcast c tag s) := by
  unfold settleMcast
  repeat' first
    | with_reducible assumption
    | intro _
    | with_reducible apply completeCmd_kept
    | with_reducible apply kept_ite
    | simp only [↓kept_upd_iff, implies_true, hcmd, hfab, Bool.false_eq_true, false_implies]
    | dsimp only
    | split

theorem updMcast_kept {c : Nat} {tag : Nat} {f : Mcast → Mcast} (hcmd : m.leaves .cmd = false) (hfab : m.leaves .fab = false) (h : Kept m a s) : Kept m a (updMcast c tag f s) := by
  unfold updMcast
  repeat' first
    | with_reducible assumption
    | intro _
    | with_reducible apply settleMcast_kept
    | with_reducible apply kept_ite
    | simp only [↓kept_upd_iff, implies_true, hcmd, hfab, Bool.false_eq_true, false_implies]
    | dsimp only
    | split

theorem stopTally_kept {c : Nat} {t_ : Tick} (hobs : m.leaves .obs = false) (h : Kept m a s) : Kept m a (stopTally c t_ s) := by
  unfold stopTally
  repeat' first
    | with_reducible assumption
    | intro _
    | with_reducible apply kept_ite
    | simp only [↓kept_upd_iff, implies_true, hobs, Bool.false_eq_true, false_implies]
    | dsimp only
    | split

theorem armStop_kept {c : Nat} {m_ : VcsMsg} (hobs : m.leaves .obs = false) (hfab : m.leaves .fab = false) (h : Kept m a s) : Kept m a (armStop c m_ s) := by
  unfold armStop
  repeat' first
    | with_reducible assumption
    | intro _
    | with_reducible apply whenS_kept
    | with_reducible apply stopTally_kept
    | with_reducible apply kept_ite
    | simp only [↓kept_upd_iff, implies_true, hobs, hfab, Bool.false_eq_true, false_implies]
    | dsimp only
    | split

theorem orderDropped_kept {c : Nat} {status : Nat} {m_ : VcsMsg} (hcmd : m.leaves .cmd = false) (hfab : m.leaves .fab = false) (h : Kept m a s) : Kept m a (orderDropped c status m_ s) := by
  unfold orderDropped
  repeat' first
    | with_reducible assumption
    | intro _
    | with_reducible apply foldS_kept
    | with_reducible apply updMcast_kept
    | with_reducible apply kept_ite
    | simp only [↓kept_upd_iff, implies_true, hcmd, hfab, Bool.false_eq_true, false_implies]
    | dsimp only
    | split

theorem doStopOrder_kept  (hobs : m.leaves .obs = false) (hcmd : m.leaves .cmd = false) (hfab : m.leaves .fab = false) (h : Kept m a s) : Kept m a (doStopOrder s) := by
  unfold doStopOrder
  repeat' first
    | with_reducible assumption
    | intro _
    | with_reducible apply withMsg_kept
    | with_reducible apply orderDropped_kept
    | with_reducible apply countHub_kept
    | with_reducible apply armStop_kept
    | with_reducible apply kept_ite
    | simp only [↓kept_upd_iff, implies_true, hobs, hcmd, hfab, Bool.false_eq_true, false_implies]
    | dsimp only
    | split

theorem doStopTick_kept {c : Nat} (hfab : m.leaves .fab = false) (h : Kept m a s) : Kept m a (doStopTick c s) := by
  unfold doStopTick
  repeat' first
    | with_reducible assumption
    | intro _
    | with_reducible apply updStop_kept
    | with_reducible apply kept_ite
    | simp only [↓kept_upd_iff, implies_true, hfab, Bool.false_eq_true, false_implies]
    | dsimp only
    | split

theorem stopArrive_kept {c : Nat} (hfab : m.leaves .fab = false) (h : Kept m a s) : Kept m a (stopArrive c s) := by
  unfold stopArrive
  repeat' first
    | with_reducible assumption
    | intro _
    | with_reducible apply sendPlain_kept
    | with_reducible apply updStop_kept
    | with_reducible apply kept_ite
    | simp only [↓kept_upd_iff, implies_true, hfab, Bool.false_eq_true, false_implies]
    | dsimp only
    | split

theorem sendMark_kept {c : Nat} {stopId : Nat} {key : Nat} {count : Nat} (hcol : m.leaves .col = false) (hfab : m.leaves .fab = false) (h : Kept m a s) : Kept m a (sendMark c stopId key count s) := by
  unfold sendMark
  repeat' first
    | with_reducible assumption
    | intro _
    | with_reducible apply count_kept
    | with_reducible apply sendMulti_kept
    | with_reducible apply updStop_kept
    | with_reducible apply issueBranch_kept
    | with_reducible apply kept_ite
    | simp only [↓kept_upd_iff, implies_true, hcol, hfab, Bool.false_eq_true, false_implies]
    | refine kept_snd (by with_reducible assumption) ?_
    | refine kept_third (by with_reducible assumption) ?_
    | dsimp only
    | split

theorem doStopQuiet_kept {c : Nat} (hcol : m.leaves .col = false) (hfab : m.leaves .fab = false) (h : Kept m a s) : Kept m a (doStopQuiet c s) := by
  unfold doStopQuiet
  repeat' first
    | with_reducible assumption
    | intro _
    | with_reducible apply updStop_kept
    | with_reducible apply foldS_kept
    | with_reducible apply sendMark_kept
    | with_reducible apply stopArrive_kept
    | with_reducible apply kept_ite
    | simp only [↓kept_upd_iff, implies_true, hcol, hfab, Bool.false_eq_true, false_implies]
    | dsimp only
    | split

theorem doStopMark_kept  (hfab : m.leaves .fab = false) (h : Kept m a s) : Kept m a (doStopMark s) := by
  unfold doStopMark
  repeat' first
    | with_reducible assumption
    | intro _
    | with_reducible apply dropMsg_kept
    | with_reducible apply kept_ite
    | simp only [↓kept_upd_iff, implies_true, hfab, Bool.false_eq_true, false_implies]
    | dsimp only
    | split

theorem finishCut_kept {c : Nat} {status : Nat} (hcmd : m.leaves .cmd = false) (hfab : m.leaves .fab = false) (h : Kept m a s) : Kept m a (finishCut c status s) := by
  unfold finishCut
  repeat' first
    | with_reducible assumption
    | intro _
    | with_reducible apply updStop_kept
    | with_reducible apply postRecord_kept
    | with_reducible apply updMcast_kept
    | with_reducible apply kept_ite
    | simp only [↓kept_upd_iff, implies_true, hcmd, hfab, Bool.false_eq_true, false_implies]
    | dsimp only
    | split

theorem writeCut_kept {c : Nat} {incomplete : Bool} {status : Nat} (hcmd : m.leaves .cmd = false) (hfab : m.leaves .fab = false) (h : Kept m a s) : Kept m a (writeCut c incomplete status s) := by
  unfold writeCut
  repeat' first
    | with_reducible assumption
    | intro _
    | with_reducible apply updStop_kept
    | with_reducible apply finishCut_kept
    | with_reducible apply streamWrite_kept
    | with_reducible apply kept_ite
    | simp only [↓kept_upd_iff, implies_true, hcmd, hfab, Bool.false_eq_true, false_implies]
    | dsimp only
    | split

theorem doCutComplete_kept {c : Nat} (hcmd : m.leaves .cmd = false) (hfab : m.leaves .fab = false) (h : Kept m a s) : Kept m a (doCutComplete c s) := by
  unfold doCutComplete
  repeat' first
    | with_reducible assumption
    | intro _
    | with_reducible apply writeCut_kept
    | with_reducible apply kept_ite
    | dsimp only
    | split

theorem doStopIncomplete_kept {c : Nat} (hcol : m.leaves .col = false) (hcmd : m.leaves .cmd = false) (hfab : m.leaves .fab = false) (h : Kept m a s) : Kept m a (doStopIncomplete c s) := by
  unfold doStopIncomplete
  repeat' first
    | with_reducible assumption
    | intro _
    | with_reducible apply raiseHub_kept
    | with_reducible apply writeCut_kept
    | with_reducible apply kept_ite
    | dsimp only
    | split

theorem captureSend_kept {c : Nat} {src : Nat} {key : Nat} {grp : Bool} {prov : Bool} {slot : Nat} {len : Nat} {sendId : Nat} {srcComp : Nat} (hfab : m.leaves .fab = false) (h : Kept m a s) : Kept m a (captureSend c src key grp prov slot len sendId srcComp s) := by
  unfold captureSend
  repeat' first
    | with_reducible assumption
    | intro _
    | with_reducible apply updStop_kept
    | with_reducible apply kept_ite
    | simp only [↓kept_upd_iff, implies_true, hfab, Bool.false_eq_true, false_implies]
    | dsimp only
    | split

theorem doResumeReceived_kept  (hcmd : m.leaves .cmd = false) (hfab : m.leaves .fab = false) (h : Kept m a s) : Kept m a (doResumeReceived s) := by
  unfold doResumeReceived
  repeat' first
    | with_reducible assumption
    | intro _
    | with_reducible apply withMsg_kept
    | with_reducible apply updStop_kept
    | with_reducible apply whenS_kept
    | with_reducible apply writeCut_kept
    | with_reducible apply kept_ite
    | simp only [↓kept_upd_iff, implies_true, hcmd, hfab, Bool.false_eq_true, false_implies]
    | dsimp only
    | split

theorem doResumeRelease_kept {c : Nat} (hdig : m.leaves .dig = false) (hobs : m.leaves .obs = false) (hcol : m.leaves .col = false) (hcmd : m.leaves .cmd = false) (hjrn : m.leaves .jrn = false) (hesc : m.leaves .esc = false) (hfab : m.leaves .fab = false) (h : Kept m a s) : Kept m a (doResumeRelease c s) := by
  unfold doResumeRelease
  repeat' first
    | with_reducible assumption
    | intro _
    | with_reducible apply foldS_kept
    | with_reducible apply grantSend_kept
    | with_reducible apply kept_ite
    | simp only [↓kept_upd_iff, implies_true, hdig, hobs, hcol, hcmd, hjrn, hesc, hfab, Bool.false_eq_true, false_implies]
    | dsimp only
    | split

/-! ### Collector -/

theorem orderFence_kept {l : Loc} {host : Bool} {kind : Nat} {cseq : Option Nat} (hcol : m.leaves .col = false) (h : Kept m a s) : Kept m a (orderFence l host kind cseq s) := by
  unfold orderFence
  repeat' first
    | with_reducible assumption
    | intro _
    | with_reducible apply whenS_kept
    | with_reducible apply pushOrder_kept
    | with_reducible apply kept_ite
    | simp only [↓kept_upd_iff, implies_true, hcol, Bool.false_eq_true, false_implies]
    | dsimp only
    | split

theorem orderLift_kept {l : Loc} {host : Bool} (hcol : m.leaves .col = false) (h : Kept m a s) : Kept m a (orderLift l host s) := by
  unfold orderLift
  repeat' first
    | with_reducible assumption
    | intro _
    | with_reducible apply whenS_kept
    | with_reducible apply pushOrder_kept
    | with_reducible apply kept_ite
    | simp only [↓kept_upd_iff, implies_true, hcol, Bool.false_eq_true, false_implies]
    | dsimp only
    | split

theorem endReqs_kept {o : Order} (hcol : m.leaves .col = false) (hcmd : m.leaves .cmd = false) (h : Kept m a s) : Kept m a (endReqs o s) := by
  unfold endReqs
  repeat' first
    | with_reducible assumption
    | intro _
    | with_reducible apply foldS_kept
    | with_reducible apply completeCmd_kept
    | with_reducible apply kept_ite
    | simp only [↓kept_upd_iff, implies_true, hcol, hcmd, Bool.false_eq_true, false_implies]
    | dsimp only
    | split

theorem wardenLost_kept {r : Nat} (hobs : m.leaves .obs = false) (hscr : m.leaves .scr = false) (hcol : m.leaves .col = false) (hcmd : m.leaves .cmd = false) (hjrn : m.leaves .jrn = false) (hseq : m.leaves .seq = false) (h : Kept m a s) : Kept m a (wardenLost r s) := by
  unfold wardenLost
  repeat' first
    | with_reducible assumption
    | intro _
    | with_reducible apply withGates_kept
    | with_reducible apply orderFence_kept
    | with_reducible apply loseSlices_kept
    | with_reducible apply kept_ite
    | simp only [↓kept_upd_iff, implies_true, hobs, hscr, hcol, hcmd, hjrn, hseq, Bool.false_eq_true, false_implies]
    | dsimp only
    | split

theorem wardenBack_kept {r : Nat} (hobs : m.leaves .obs = false) (hcol : m.leaves .col = false) (h : Kept m a s) : Kept m a (wardenBack r s) := by
  unfold wardenBack
  repeat' first
    | with_reducible assumption
    | intro _
    | with_reducible apply withGates_kept
    | with_reducible apply kept_ite
    | simp only [↓kept_upd_iff, implies_true, hobs, hcol, Bool.false_eq_true, false_implies]
    | dsimp only
    | split

theorem stopComp_kept {c : Nat} {kind : Nat} {cseq : Nat} (hcol : m.leaves .col = false) (hcmd : m.leaves .cmd = false) (hfab : m.leaves .fab = false) (h : Kept m a s) : Kept m a (stopComp c kind cseq s) := by
  unfold stopComp
  repeat' first
    | with_reducible assumption
    | intro _
    | with_reducible apply updComp_kept
    | with_reducible apply pushOrder_kept
    | with_reducible apply updStop_kept
    | with_reducible apply kept_ite
    | simp only [↓kept_upd_iff, implies_true, hcol, hcmd, hfab, Bool.false_eq_true, false_implies]
    | dsimp only
    | split

theorem raiseEsc_kept {kind : Nat} {l : Loc} (hcol : m.leaves .col = false) (h : Kept m a s) : Kept m a (raiseEsc kind l s) := by
  unfold raiseEsc
  repeat' first
    | with_reducible assumption
    | intro _
    | with_reducible apply raiseHub_kept
    | with_reducible apply kept_ite
    | dsimp only
    | split

theorem escalateCore_kept {sev : Nat} {l : Loc} (hcol : m.leaves .col = false) (h : Kept m a s) : Kept m a (escalateCore sev l s).2 := by
  unfold escalateCore
  repeat' first
    | with_reducible assumption
    | intro _
    | with_reducible apply raiseEsc_kept
    | with_reducible apply kept_ite
    | with_reducible apply kept_ite_snd
    | dsimp only
    | split

theorem escalateCluster_kept {sev : Nat} {l : Loc} (hcol : m.leaves .col = false) (h : Kept m a s) : Kept m a (escalateCluster sev l s).2 := by
  unfold escalateCluster
  repeat' first
    | with_reducible assumption
    | intro _
    | with_reducible apply raiseEsc_kept
    | with_reducible apply kept_ite
    | with_reducible apply kept_ite_snd
    | dsimp only
    | split

theorem escalate_kept {sev : Nat} {l : Loc} (hcol : m.leaves .col = false) (h : Kept m a s) : Kept m a (escalate sev l s).2 := by
  unfold escalate
  repeat' first
    | with_reducible assumption
    | intro _
    | with_reducible apply escalateCore_kept
    | with_reducible apply escalateCluster_kept
    | with_reducible apply kept_ite
    | with_reducible apply kept_ite_snd
    | refine kept_snd (by with_reducible assumption) ?_
    | refine kept_third (by with_reducible assumption) ?_
    | dsimp only
    | split

theorem stopCruise_kept {kind : Nat} {cseq : Option Nat} (hcol : m.leaves .col = false) (hgov : m.leaves .gov = false) (h : Kept m a s) : Kept m a (stopCruise kind cseq s) := by
  unfold stopCruise
  repeat' first
    | with_reducible assumption
    | intro _
    | with_reducible apply kept_ite
    | simp only [↓kept_upd_iff, implies_true, hcol, hgov, Bool.false_eq_true, false_implies]
    | dsimp only
    | split

theorem react_kept {sev : Nat} {kind : Nat} {cseq : Nat} {l : Loc} {m_ : W128} (hobs : m.leaves .obs = false) (hscr : m.leaves .scr = false) (hcol : m.leaves .col = false) (hgov : m.leaves .gov = false) (hcmd : m.leaves .cmd = false) (hjrn : m.leaves .jrn = false) (hseq : m.leaves .seq = false) (hfab : m.leaves .fab = false) (h : Kept m a s) : Kept m a (react sev kind cseq l m_ s) := by
  unfold react
  repeat' first
    | with_reducible assumption
    | intro _
    | with_reducible apply setSuspect_kept
    | with_reducible apply stopComp_kept
    | with_reducible apply stopDie_kept
    | with_reducible apply orderFence_kept
    | with_reducible apply wardenLost_kept
    | with_reducible apply stopCruise_kept
    | with_reducible apply kept_ite
    | dsimp only
    | split

theorem hostAct_kept {act : Nat} {cseq : Nat} {l : Loc} {m_ : W128} (hcol : m.leaves .col = false) (hcmd : m.leaves .cmd = false) (hfab : m.leaves .fab = false) (h : Kept m a s) : Kept m a (hostAct act cseq l m_ s) := by
  unfold hostAct
  repeat' first
    | with_reducible assumption
    | intro _
    | with_reducible apply orderFence_kept
    | with_reducible apply orderLift_kept
    | with_reducible apply stopComp_kept
    | with_reducible apply whenS_kept
    | with_reducible apply endReqs_kept
    | with_reducible apply kept_ite
    | dsimp only
    | split

theorem storeIntake_kept {e : Intake} (hobs : m.leaves .obs = false) (hcol : m.leaves .col = false) (h : Kept m a s) : Kept m a (storeIntake e s) := by
  unfold storeIntake
  repeat' first
    | with_reducible assumption
    | intro _
    | with_reducible apply countHub_kept
    | with_reducible apply kept_ite
    | simp only [↓kept_upd_iff, implies_true, hobs, hcol, Bool.false_eq_true, false_implies]
    | dsimp only
    | split

theorem floodQuiet_kept {l : Loc} (hobs : m.leaves .obs = false) (hscr : m.leaves .scr = false) (hcol : m.leaves .col = false) (hgov : m.leaves .gov = false) (hcmd : m.leaves .cmd = false) (hjrn : m.leaves .jrn = false) (hseq : m.leaves .seq = false) (h : Kept m a s) : Kept m a (floodQuiet l s).2 := by
  unfold floodQuiet
  repeat' first
    | with_reducible assumption
    | intro _
    | with_reducible apply pushOrder_kept
    | with_reducible apply wardenLost_kept
    | with_reducible apply kept_ite
    | with_reducible apply kept_ite_snd
    | simp only [↓kept_upd_iff, implies_true, hobs, hscr, hcol, hgov, hcmd, hjrn, hseq, Bool.false_eq_true, false_implies]
    | dsimp only
    | split

theorem floodLift_kept {sev : Nat} {l : Loc} (hobs : m.leaves .obs = false) (hcol : m.leaves .col = false) (hgov : m.leaves .gov = false) (h : Kept m a s) : Kept m a (floodLift sev l s) := by
  unfold floodLift
  repeat' first
    | with_reducible assumption
    | intro _
    | with_reducible apply whenS_kept
    | with_reducible apply pushOrder_kept
    | with_reducible apply wardenBack_kept
    | with_reducible apply kept_ite
    | simp only [↓kept_upd_iff, implies_true, hobs, hcol, hgov, Bool.false_eq_true, false_implies]
    | dsimp only
    | split

theorem markOrder_kept {sev : Nat} {cseq : Nat} {l : Loc} (hcol : m.leaves .col = false) (h : Kept m a s) : Kept m a (markOrder sev cseq l s) := by
  unfold markOrder
  repeat' first
    | with_reducible assumption
    | intro _
    | with_reducible apply pushOrder_kept
    | with_reducible apply kept_ite
    | dsimp only
    | split

theorem decideMsg_kept {f : Flight} (hobs : m.leaves .obs = false) (hscr : m.leaves .scr = false) (hcol : m.leaves .col = false) (hgov : m.leaves .gov = false) (hcmd : m.leaves .cmd = false) (hjrn : m.leaves .jrn = false) (hseq : m.leaves .seq = false) (hfab : m.leaves .fab = false) (h : Kept m a s) : Kept m a (decideMsg f s) := by
  unfold decideMsg
  repeat' first
    | with_reducible assumption
    | intro _
    | with_reducible apply escalate_kept
    | with_reducible apply countHub_kept
    | with_reducible apply whenS_kept
    | with_reducible apply countKind_kept
    | with_reducible apply countSilent_kept
    | with_reducible apply storeIntake_kept
    | with_reducible apply markOrder_kept
    | with_reducible apply hostAct_kept
    | with_reducible apply react_kept
    | with_reducible apply floodLift_kept
    | with_reducible apply kept_ite
    | refine kept_snd (by with_reducible assumption) ?_
    | refine kept_third (by with_reducible assumption) ?_
    | dsimp only
    | split

theorem goodWord_kept {link : Nat} {unit : Nat} (hcol : m.leaves .col = false) (h : Kept m a s) : Kept m a (goodWord link unit s) := by
  unfold goodWord
  repeat' first
    | with_reducible assumption
    | intro _
    | with_reducible apply kept_ite
    | simp only [↓kept_upd_iff, implies_true, hcol, Bool.false_eq_true, false_implies]
    | dsimp only
    | split

theorem doFaultMessage_kept {link : Nat} {unit : Nat} {msg : W128} (hobs : m.leaves .obs = false) (hscr : m.leaves .scr = false) (hcol : m.leaves .col = false) (hgov : m.leaves .gov = false) (hcmd : m.leaves .cmd = false) (hjrn : m.leaves .jrn = false) (hseq : m.leaves .seq = false) (hfab : m.leaves .fab = false) (h : Kept m a s) : Kept m a (doFaultMessage link unit msg s) := by
  unfold doFaultMessage
  repeat' first
    | with_reducible assumption
    | intro _
    | with_reducible apply goodWord_kept
    | with_reducible apply decideMsg_kept
    | with_reducible apply raiseOn_kept
    | with_reducible apply kept_ite
    | simp only [↓kept_upd_iff, implies_true, hobs, hscr, hcol, hgov, hcmd, hjrn, hseq, hfab, Bool.false_eq_true, false_implies]
    | dsimp only
    | split

theorem doFloodQuiet_kept {link : Nat} {unit : Nat} {msg : W128} (hobs : m.leaves .obs = false) (hscr : m.leaves .scr = false) (hcol : m.leaves .col = false) (hgov : m.leaves .gov = false) (hcmd : m.leaves .cmd = false) (hjrn : m.leaves .jrn = false) (hseq : m.leaves .seq = false) (h : Kept m a s) : Kept m a (doFloodQuiet link unit msg s) := by
  unfold doFloodQuiet
  repeat' first
    | with_reducible assumption
    | intro _
    | with_reducible apply floodQuiet_kept
    | with_reducible apply kept_ite
    | simp only [↓kept_upd_iff, implies_true, hobs, hscr, hcol, hgov, hcmd, hjrn, hseq, Bool.false_eq_true, false_implies]
    | refine kept_snd (by with_reducible assumption) ?_
    | refine kept_third (by with_reducible assumption) ?_
    | dsimp only
    | split

theorem fenceAll_kept {kind : Nat} {p : Nat → W256 → Bool} (hdig : m.leaves .dig = false) (hobs : m.leaves .obs = false) (hcol : m.leaves .col = false) (hgov : m.leaves .gov = false) (hcmd : m.leaves .cmd = false) (htaps : m.leaves .taps = false) (hjrn : m.leaves .jrn = false) (hesc : m.leaves .esc = false) (hfab : m.leaves .fab = false) (h : Kept m a s) : Kept m a (fenceAll kind p s) := by
  unfold fenceAll
  repeat' first
    | with_reducible assumption
    | intro _
    | with_reducible apply foldS_kept
    | with_reducible apply fenceTiles_kept
    | with_reducible apply kept_ite
    | dsimp only
    | split

theorem dropSends_kept {all : Bool} {kind : Nat} {p : EscEntry → Bool} (hdig : m.leaves .dig = false) (hobs : m.leaves .obs = false) (hcol : m.leaves .col = false) (hcmd : m.leaves .cmd = false) (hesc : m.leaves .esc = false) (hfab : m.leaves .fab = false) (h : Kept m a s) : Kept m a (dropSends all kind p s) := by
  unfold dropSends
  repeat' first
    | with_reducible assumption
    | intro _
    | with_reducible apply foldS_kept
    | with_reducible apply recantOut_kept
    | with_reducible apply dropHeld_kept
    | with_reducible apply kept_ite
    | dsimp only
    | split

theorem fenceSpare_kept {l : Loc} (hobs : m.leaves .obs = false) (hjrn : m.leaves .jrn = false) (h : Kept m a s) : Kept m a (fenceSpare l s) := by
  unfold fenceSpare
  repeat' first
    | with_reducible assumption
    | intro _
    | with_reducible apply foldS_kept
    | with_reducible apply redrawOne_kept
    | with_reducible apply setSpare_kept
    | with_reducible apply kept_ite
    | dsimp only
    | split

theorem quietLocus_kept {l : Loc} (hdig : m.leaves .dig = false) (hobs : m.leaves .obs = false) (hscr : m.leaves .scr = false) (hcol : m.leaves .col = false) (hgov : m.leaves .gov = false) (hcmd : m.leaves .cmd = false) (htaps : m.leaves .taps = false) (hjrn : m.leaves .jrn = false) (hesc : m.leaves .esc = false) (hseq : m.leaves .seq = false) (hfab : m.leaves .fab = false) (h : Kept m a s) : Kept m a (quietLocus l s) := by
  unfold quietLocus
  repeat' first
    | with_reducible assumption
    | intro _
    | with_reducible apply fenceSlices_kept
    | with_reducible apply emit_kept
    | with_reducible apply fenceAll_kept
    | with_reducible apply fenceSpare_kept
    | with_reducible apply dropSends_kept
    | with_reducible apply fenceTwins_kept
    | with_reducible apply whenS_kept
    | with_reducible apply waitSkid_kept
    | with_reducible apply kept_ite
    | simp only [↓kept_upd_iff, implies_true, hdig, hobs, hscr, hcol, hgov, hcmd, htaps, hjrn, hesc, hseq, hfab, Bool.false_eq_true, false_implies]
    | dsimp only
    | split

theorem dropHolds_kept {l : Loc} (hscr : m.leaves .scr = false) (h : Kept m a s) : Kept m a (dropHolds l s) := by
  unfold dropHolds
  repeat' first
    | with_reducible assumption
    | intro _
    | with_reducible apply kept_ite
    | simp only [↓kept_upd_iff, implies_true, hscr, Bool.false_eq_true, false_implies]
    | dsimp only
    | split

theorem wakeLocus_kept {l : Loc} (hdig : m.leaves .dig = false) (hbnk : m.leaves .bnk = false) (hobs : m.leaves .obs = false) (hscr : m.leaves .scr = false) (hcol : m.leaves .col = false) (hgov : m.leaves .gov = false) (hcmd : m.leaves .cmd = false) (htaps : m.leaves .taps = false) (hjrn : m.leaves .jrn = false) (hesc : m.leaves .esc = false) (hrecd : m.leaves .recd = false) (hseq : m.leaves .seq = false) (hfab : m.leaves .fab = false) (hthm : m.leaves .thm = false) (hwords : m.leaves .words = false) (h : Kept m a s) : Kept m a (wakeLocus l s) := by
  unfold wakeLocus
  repeat' first
    | with_reducible assumption
    | intro _
    | with_reducible apply endRedirs_kept
    | with_reducible apply emit_kept
    | with_reducible apply foldS_kept
    | with_reducible apply setSpare_kept
    | with_reducible apply dropHolds_kept
    | with_reducible apply retrySkids_kept
    | with_reducible apply leaveTrip_kept
    | with_reducible apply kept_ite
    | simp only [↓kept_upd_iff, implies_true, hdig, hbnk, hobs, hscr, hcol, hgov, hcmd, htaps, hjrn, hesc, hrecd, hseq, hfab, hthm, hwords, Bool.false_eq_true, false_implies]
    | dsimp only
    | split

theorem dropChecks_kept {c : Nat} (hgov : m.leaves .gov = false) (htaps : m.leaves .taps = false) (hjrn : m.leaves .jrn = false) (h : Kept m a s) : Kept m a (dropChecks c s) := by
  unfold dropChecks
  repeat' first
    | with_reducible assumption
    | intro _
    | with_reducible apply foldS_kept
    | with_reducible apply updCord_kept
    | with_reducible apply kept_ite
    | simp only [↓kept_upd_iff, implies_true, hgov, htaps, hjrn, Bool.false_eq_true, false_implies]
    | dsimp only
    | split

theorem dropWrites_kept {c : Nat} (hobs : m.leaves .obs = false) (hcmd : m.leaves .cmd = false) (hjrn : m.leaves .jrn = false) (h : Kept m a s) : Kept m a (dropWrites c s) := by
  unfold dropWrites
  repeat' first
    | with_reducible assumption
    | intro _
    | with_reducible apply trace_kept
    | with_reducible apply foldS_kept
    | with_reducible apply spillDone_kept
    | with_reducible apply dropTrace_kept
    | with_reducible apply kept_ite
    | simp only [↓kept_upd_iff, implies_true, hobs, hcmd, hjrn, Bool.false_eq_true, false_implies]
    | dsimp only
    | split

theorem freeInbound_kept {c : Nat} (hdig : m.leaves .dig = false) (hobs : m.leaves .obs = false) (hcol : m.leaves .col = false) (hcmd : m.leaves .cmd = false) (hesc : m.leaves .esc = false) (hfab : m.leaves .fab = false) (h : Kept m a s) : Kept m a (freeInbound c s) := by
  unfold freeInbound
  repeat' first
    | with_reducible assumption
    | intro _
    | with_reducible apply foldS_kept
    | with_reducible apply freeEntry_kept
    | with_reducible apply kept_ite
    | dsimp only
    | split

theorem quietComp_kept {c : Nat} (hdig : m.leaves .dig = false) (hobs : m.leaves .obs = false) (hcol : m.leaves .col = false) (hgov : m.leaves .gov = false) (hcmd : m.leaves .cmd = false) (htaps : m.leaves .taps = false) (hjrn : m.leaves .jrn = false) (hesc : m.leaves .esc = false) (hfab : m.leaves .fab = false) (h : Kept m a s) : Kept m a (quietComp c s) := by
  unfold quietComp
  repeat' first
    | with_reducible assumption
    | intro _
    | with_reducible apply fenceAll_kept
    | with_reducible apply emit_kept
    | with_reducible apply dropSends_kept
    | with_reducible apply dropWrites_kept
    | with_reducible apply stopDigest_kept
    | with_reducible apply dropChecks_kept
    | with_reducible apply endSkids_kept
    | with_reducible apply freeInbound_kept
    | with_reducible apply kept_ite
    | simp only [↓kept_upd_iff, implies_true, hdig, hobs, hcol, hgov, hcmd, htaps, hjrn, hesc, hfab, Bool.false_eq_true, false_implies]
    | dsimp only
    | split

theorem quietAll_kept  (hdig : m.leaves .dig = false) (hobs : m.leaves .obs = false) (hscr : m.leaves .scr = false) (hcol : m.leaves .col = false) (hgov : m.leaves .gov = false) (hcmd : m.leaves .cmd = false) (htaps : m.leaves .taps = false) (hjrn : m.leaves .jrn = false) (hesc : m.leaves .esc = false) (hseq : m.leaves .seq = false) (hfab : m.leaves .fab = false) (h : Kept m a s) : Kept m a (quietAll s) := by
  unfold quietAll
  repeat' first
    | with_reducible assumption
    | intro _
    | with_reducible apply fenceSlices_kept
    | with_reducible apply emit_kept
    | with_reducible apply dropSends_kept
    | with_reducible apply fenceAll_kept
    | with_reducible apply kept_ite
    | simp only [↓kept_upd_iff, implies_true, hdig, hobs, hscr, hcol, hgov, hcmd, htaps, hjrn, hesc, hseq, hfab, Bool.false_eq_true, false_implies]
    | dsimp only
    | split

theorem markQuiet_kept {l : Loc} {cseq : Nat} (htaps : m.leaves .taps = false) (h : Kept m a s) : Kept m a (markQuiet l cseq s) := by
  unfold markQuiet
  repeat' first
    | with_reducible assumption
    | intro _
    | with_reducible apply kept_ite
    | simp only [↓kept_upd_iff, implies_true, htaps, Bool.false_eq_true, false_implies]
    | dsimp only
    | split

theorem updLease_kept {i : Nat} {f : Lease → Lease} (hcol : m.leaves .col = false) (h : Kept m a s) : Kept m a (updLease i f s) := by
  unfold updLease
  repeat' first
    | with_reducible assumption
    | intro _
    | with_reducible apply kept_ite
    | simp only [↓kept_upd_iff, implies_true, hcol, Bool.false_eq_true, false_implies]
    | dsimp only
    | split

theorem leaseAnswer_kept {typ : Nat} {i : Nat} {nonce : Nat} (hfab : m.leaves .fab = false) (h : Kept m a s) : Kept m a (leaseAnswer typ i nonce s) := by
  unfold leaseAnswer
  repeat' first
    | with_reducible assumption
    | intro _
    | with_reducible apply sendPlain_kept
    | with_reducible apply kept_ite
    | dsimp only
    | split

theorem revokeAcks_kept  (hcol : m.leaves .col = false) (hfab : m.leaves .fab = false) (h : Kept m a s) : Kept m a (revokeAcks s) := by
  unfold revokeAcks
  repeat' first
    | with_reducible assumption
    | intro _
    | with_reducible apply foldS_kept
    | with_reducible apply leaseAnswer_kept
    | with_reducible apply kept_ite
    | simp only [↓kept_upd_iff, implies_true, hcol, hfab, Bool.false_eq_true, false_implies]
    | dsimp only
    | split

theorem applyOrder_kept {o : Order} (hdig : m.leaves .dig = false) (hbnk : m.leaves .bnk = false) (hobs : m.leaves .obs = false) (hscr : m.leaves .scr = false) (hcol : m.leaves .col = false) (hgov : m.leaves .gov = false) (hcmd : m.leaves .cmd = false) (htaps : m.leaves .taps = false) (hjrn : m.leaves .jrn = false) (hesc : m.leaves .esc = false) (hrecd : m.leaves .recd = false) (hseq : m.leaves .seq = false) (hfab : m.leaves .fab = false) (hthm : m.leaves .thm = false) (hwords : m.leaves .words = false) (h : Kept m a s) : Kept m a (applyOrder o s) := by
  unfold applyOrder
  repeat' first
    | with_reducible assumption
    | intro _
    | with_reducible apply quietLocus_kept
    | with_reducible apply quietComp_kept
    | with_reducible apply quietAll_kept
    | with_reducible apply wakeLocus_kept
    | with_reducible apply emit_kept
    | with_reducible apply markQuiet_kept
    | with_reducible apply revokeAcks_kept
    | with_reducible apply endReqs_kept
    | with_reducible apply sweepSends_kept
    | with_reducible apply kept_ite
    | simp only [↓kept_upd_iff, implies_true, hdig, hbnk, hobs, hscr, hcol, hgov, hcmd, htaps, hjrn, hesc, hrecd, hseq, hfab, hthm, hwords, Bool.false_eq_true, false_implies]
    | dsimp only
    | split

theorem nextOrder_kept {lift : Bool} (hdig : m.leaves .dig = false) (hbnk : m.leaves .bnk = false) (hobs : m.leaves .obs = false) (hscr : m.leaves .scr = false) (hcol : m.leaves .col = false) (hgov : m.leaves .gov = false) (hcmd : m.leaves .cmd = false) (htaps : m.leaves .taps = false) (hjrn : m.leaves .jrn = false) (hesc : m.leaves .esc = false) (hrecd : m.leaves .recd = false) (hseq : m.leaves .seq = false) (hfab : m.leaves .fab = false) (hthm : m.leaves .thm = false) (hwords : m.leaves .words = false) (h : Kept m a s) : Kept m a (nextOrder lift s) := by
  unfold nextOrder
  repeat' first
    | with_reducible assumption
    | intro _
    | with_reducible apply applyOrder_kept
    | with_reducible apply kept_ite
    | simp only [↓kept_upd_iff, implies_true, hdig, hbnk, hobs, hscr, hcol, hgov, hcmd, htaps, hjrn, hesc, hrecd, hseq, hfab, hthm, hwords, Bool.false_eq_true, false_implies]
    | dsimp only
    | split

/-! ### Fell -/

theorem writeFell_kept  (hcol : m.leaves .col = false) (hrecd : m.leaves .recd = false) (hcellar : m.leaves .cellar = false) (h : Kept m a s) : Kept m a (writeFell s) := by
  unfold writeFell
  repeat' first
    | with_reducible assumption
    | intro _
    | with_reducible apply raiseHub_kept
    | with_reducible apply twoCopyWrite_kept
    | with_reducible apply kept_ite
    | simp only [↓kept_upd_iff, implies_true, hcol, hrecd, hcellar, Bool.false_eq_true, false_implies]
    | dsimp only
    | split

theorem readFell_kept  (hfell : m.fell = false) (hcol : m.leaves .col = false) (h : Kept m a s) : Kept m a (readFell s) := by
  unfold readFell
  repeat' first
    | with_reducible assumption
    | intro _
    | with_reducible apply raiseHub_kept
    | with_reducible apply kept_ite
    | simp only [↓kept_upd_iff, implies_true, hfell, hcol, Bool.false_eq_true, false_implies]
    | dsimp only
    | split

theorem promoteSpares_kept {l : Loc} (hobs : m.leaves .obs = false) (hcmd : m.leaves .cmd = false) (hjrn : m.leaves .jrn = false) (h : Kept m a s) : Kept m a (promoteSpares l s) := by
  unfold promoteSpares
  repeat' first
    | with_reducible assumption
    | intro _
    | with_reducible apply foldS_kept
    | with_reducible apply placeSpare_kept
    | with_reducible apply redrawOne_kept
    | with_reducible apply kept_ite
    | simp only [↓kept_upd_iff, implies_true, hobs, hcmd, hjrn, Bool.false_eq_true, false_implies]
    | dsimp only
    | split

theorem fellOne_kept {l : Loc} (hfell : m.fell = false) (hobs : m.leaves .obs = false) (hcol : m.leaves .col = false) (hcmd : m.leaves .cmd = false) (hjrn : m.leaves .jrn = false) (hrecd : m.leaves .recd = false) (hcellar : m.leaves .cellar = false) (h : Kept m a s) : Kept m a (fellOne l s) := by
  unfold fellOne
  repeat' first
    | with_reducible assumption
    | intro _
    | with_reducible apply promoteSpares_kept
    | with_reducible apply redrawOne_kept
    | with_reducible apply placeSpare_kept
    | with_reducible apply raiseHub_kept
    | with_reducible apply writeFell_kept
    | with_reducible apply kept_ite
    | simp only [↓kept_upd_iff, implies_true, hfell, hobs, hcol, hcmd, hjrn, hrecd, hcellar, Bool.false_eq_true, false_implies]
    | dsimp only
    | split

theorem fellLocus_kept {l : Loc} (hfell : m.fell = false) (hobs : m.leaves .obs = false) (hcol : m.leaves .col = false) (hcmd : m.leaves .cmd = false) (hjrn : m.leaves .jrn = false) (hrecd : m.leaves .recd = false) (hcellar : m.leaves .cellar = false) (h : Kept m a s) : Kept m a (fellLocus l s) := by
  unfold fellLocus
  repeat' first
    | with_reducible assumption
    | intro _
    | with_reducible apply fellOne_kept
    | with_reducible apply whenS_kept
    | with_reducible apply kept_ite
    | dsimp only
    | split

theorem doFellWrite_kept {wrote : Bool} (hcol : m.leaves .col = false) (hrecd : m.leaves .recd = false) (hcellar : m.leaves .cellar = false) (h : Kept m a s) : Kept m a (doFellWrite wrote s) := by
  unfold doFellWrite
  repeat' first
    | with_reducible assumption
    | intro _
    | with_reducible apply writeFell_kept
    | with_reducible apply raiseHub_kept
    | with_reducible apply kept_ite
    | dsimp only
    | split

theorem tapTestFailed_kept {tap : Nat} (hfell : m.fell = false) (hobs : m.leaves .obs = false) (hscr : m.leaves .scr = false) (hcol : m.leaves .col = false) (hcmd : m.leaves .cmd = false) (hjrn : m.leaves .jrn = false) (hrecd : m.leaves .recd = false) (hcellar : m.leaves .cellar = false) (h : Kept m a s) : Kept m a (tapTestFailed tap s) := by
  unfold tapTestFailed
  repeat' first
    | with_reducible assumption
    | intro _
    | with_reducible apply fellLocus_kept
    | with_reducible apply kept_ite
    | simp only [↓kept_upd_iff, implies_true, hfell, hobs, hscr, hcol, hcmd, hjrn, hrecd, hcellar, Bool.false_eq_true, false_implies]
    | dsimp only
    | split

theorem doTapRetry_kept {tap : Nat} {pass : Bool} (hfell : m.fell = false) (hobs : m.leaves .obs = false) (hscr : m.leaves .scr = false) (hcol : m.leaves .col = false) (hcmd : m.leaves .cmd = false) (hjrn : m.leaves .jrn = false) (hrecd : m.leaves .recd = false) (hcellar : m.leaves .cellar = false) (h : Kept m a s) : Kept m a (doTapRetry tap pass s) := by
  unfold doTapRetry
  repeat' first
    | with_reducible assumption
    | intro _
    | with_reducible apply orderLift_kept
    | with_reducible apply tapTestFailed_kept
    | with_reducible apply kept_ite
    | simp only [↓kept_upd_iff, implies_true, hfell, hobs, hscr, hcol, hcmd, hjrn, hrecd, hcellar, Bool.false_eq_true, false_implies]
    | dsimp only
    | split

/-! ### Recorder -/

theorem ringPut_kept {r : BitVec 512} {supp : Nat} (hbnk : m.leaves .bnk = false) (hrecd : m.leaves .recd = false) (hwords : m.leaves .words = false) (h : Kept m a s) : Kept m a (ringPut r supp s) := by
  unfold ringPut
  repeat' first
    | with_reducible assumption
    | intro _
    | with_reducible apply bankStore_kept
    | with_reducible apply kept_ite
    | simp only [↓kept_upd_iff, implies_true, hbnk, hrecd, hwords, Bool.false_eq_true, false_implies]
    | dsimp only
    | split

theorem setBucket_kept {code : Nat} {b : Bucket} (hrecd : m.leaves .recd = false) (h : Kept m a s) : Kept m a (setBucket code b s) := by
  unfold setBucket
  repeat' first
    | with_reducible assumption
    | intro _
    | with_reducible apply kept_ite
    | simp only [↓kept_upd_iff, implies_true, hrecd, Bool.false_eq_true, false_implies]
    | dsimp only
    | split

theorem writeRecord_kept {r : BitVec 512} (hbnk : m.leaves .bnk = false) (hrecd : m.leaves .recd = false) (hwords : m.leaves .words = false) (h : Kept m a s) : Kept m a (writeRecord r s) := by
  unfold writeRecord
  repeat' first
    | with_reducible assumption
    | intro _
    | with_reducible apply ringPut_kept
    | with_reducible apply setBucket_kept
    | with_reducible apply kept_ite
    | simp only [↓kept_upd_iff, implies_true, hbnk, hrecd, hwords, Bool.false_eq_true, false_implies]
    | dsimp only
    | split

theorem pfLoss_kept  (hrecd : m.leaves .recd = false) (hcellar : m.leaves .cellar = false) (h : Kept m a s) : Kept m a (pfLoss s) := by
  unfold pfLoss
  repeat' first
    | with_reducible assumption
    | intro _
    | with_reducible apply whenS_kept
    | with_reducible apply cellarWrite_kept
    | with_reducible apply kept_ite
    | simp only [↓kept_upd_iff, implies_true, hrecd, hcellar, Bool.false_eq_true, false_implies]
    | dsimp only
    | split

theorem pfFlush_kept  (hbnk : m.leaves .bnk = false) (hrecd : m.leaves .recd = false) (hcellar : m.leaves .cellar = false) (hwords : m.leaves .words = false) (h : Kept m a s) : Kept m a (pfFlush s) := by
  unfold pfFlush
  repeat' first
    | with_reducible assumption
    | intro _
    | with_reducible apply foldS_kept
    | with_reducible apply writeRecord_kept
    | with_reducible apply cellarWrite_kept
    | with_reducible apply kept_ite
    | simp only [↓kept_upd_iff, implies_true, hbnk, hrecd, hcellar, hwords, Bool.false_eq_true, false_implies]
    | dsimp only
    | split

theorem doRecordWrite_kept  (hbnk : m.leaves .bnk = false) (hrecd : m.leaves .recd = false) (hcellar : m.leaves .cellar = false) (hwords : m.leaves .words = false) (h : Kept m a s) : Kept m a (doRecordWrite s) := by
  unfold doRecordWrite
  repeat' first
    | with_reducible assumption
    | intro _
    | with_reducible apply admitRec_kept
    | with_reducible apply pfLoss_kept
    | with_reducible apply writeRecord_kept
    | with_reducible apply kept_ite
    | simp only [↓kept_upd_iff, implies_true, hbnk, hrecd, hcellar, hwords, Bool.false_eq_true, false_implies]
    | dsimp only
    | split

theorem doTokenAdd_kept {code : BitVec 12} (hbnk : m.leaves .bnk = false) (hrecd : m.leaves .recd = false) (hwords : m.leaves .words = false) (h : Kept m a s) : Kept m a (doTokenAdd code s) := by
  unfold doTokenAdd
  repeat' first
    | with_reducible assumption
    | intro _
    | with_reducible apply setBucket_kept
    | with_reducible apply ringPut_kept
    | with_reducible apply kept_ite
    | simp only [↓kept_upd_iff, implies_true, hbnk, hrecd, hwords, Bool.false_eq_true, false_implies]
    | dsimp only
    | split

theorem recRefuse_kept  (hmregs : m.leaves .mregs = false) (h : Kept m a s) : Kept m a (recRefuse s) := by
  unfold recRefuse
  repeat' first
    | with_reducible assumption
    | intro _
    | with_reducible apply State.setRf_kept
    | with_reducible apply kept_ite
    | dsimp only
    | split

theorem recFreezeRecord_kept {arg : Nat} {first : Nat} {n : Nat} (hrecd : m.leaves .recd = false) (h : Kept m a s) : Kept m a (recFreezeRecord arg first n s) := by
  unfold recFreezeRecord
  repeat' first
    | with_reducible assumption
    | intro _
    | with_reducible apply recEvent_kept
    | with_reducible apply kept_ite
    | dsimp only
    | split

theorem doFreezeGo_kept {n : Nat} (hrecd : m.leaves .recd = false) (hmregs : m.leaves .mregs = false) (h : Kept m a s) : Kept m a (doFreezeGo n s) := by
  unfold doFreezeGo
  repeat' first
    | with_reducible assumption
    | intro _
    | with_reducible apply State.setRf_kept
    | with_reducible apply recRefuse_kept
    | with_reducible apply recFreezeRecord_kept
    | with_reducible apply kept_ite
    | simp only [↓kept_upd_iff, implies_true, hrecd, hmregs, Bool.false_eq_true, false_implies]
    | dsimp only
    | split

theorem endFreeze_kept {arg : Nat} (hrecd : m.leaves .recd = false) (h : Kept m a s) : Kept m a (endFreeze arg s) := by
  unfold endFreeze
  repeat' first
    | with_reducible assumption
    | intro _
    | with_reducible apply recFreezeRecord_kept
    | with_reducible apply kept_ite
    | simp only [↓kept_upd_iff, implies_true, hrecd, Bool.false_eq_true, false_implies]
    | dsimp only
    | split

theorem ringFetch_kept {k : Nat} (hbnk : m.leaves .bnk = false) (hcol : m.leaves .col = false) (hwords : m.leaves .words = false) (h : Kept m a s) : Kept m a (ringFetch k s).2.2 := by
  unfold ringFetch
  repeat' first
    | with_reducible assumption
    | intro _
    | with_reducible apply bankFetch_kept
    | with_reducible apply kept_ite
    | with_reducible apply kept_ite_third
    | refine kept_snd (by with_reducible assumption) ?_
    | refine kept_third (by with_reducible assumption) ?_
    | dsimp only
    | split

theorem doRecRead_kept {slot : Nat} (hbnk : m.leaves .bnk = false) (hcol : m.leaves .col = false) (hrecd : m.leaves .recd = false) (hmregs : m.leaves .mregs = false) (hwords : m.leaves .words = false) (h : Kept m a s) : Kept m a (doRecRead slot s) := by
  unfold doRecRead
  repeat' first
    | with_reducible assumption
    | intro _
    | with_reducible apply State.setRf_kept
    | with_reducible apply ringFetch_kept
    | with_reducible apply raiseHub_kept
    | with_reducible apply kept_ite
    | simp only [↓kept_upd_iff, implies_true, hbnk, hcol, hrecd, hmregs, hwords, Bool.false_eq_true, false_implies]
    | refine kept_snd (by with_reducible assumption) ?_
    | refine kept_third (by with_reducible assumption) ?_
    | dsimp only
    | split

theorem doRateWrite_kept {code : Nat} {rate : Nat} {burst : Nat} (hrecd : m.leaves .recd = false) (hmregs : m.leaves .mregs = false) (h : Kept m a s) : Kept m a (doRateWrite code rate burst s) := by
  unfold doRateWrite
  repeat' first
    | with_reducible assumption
    | intro _
    | with_reducible apply State.setRf_kept
    | with_reducible apply recRefuse_kept
    | with_reducible apply setBucket_kept
    | with_reducible apply kept_ite
    | simp only [↓kept_upd_iff, implies_true, hrecd, hmregs, Bool.false_eq_true, false_implies]
    | dsimp only
    | split

theorem doRateRead_kept {code : Nat} (hmregs : m.leaves .mregs = false) (h : Kept m a s) : Kept m a (doRateRead code s) := by
  unfold doRateRead
  repeat' first
    | with_reducible assumption
    | intro _
    | with_reducible apply State.setRf_kept
    | with_reducible apply kept_ite
    | dsimp only
    | split

theorem writePointer_kept  (hrecd : m.leaves .recd = false) (hcellar : m.leaves .cellar = false) (h : Kept m a s) : Kept m a (writePointer s) := by
  unfold writePointer
  repeat' first
    | with_reducible assumption
    | intro _
    | with_reducible apply twoCopyWrite_kept
    | with_reducible apply kept_ite
    | simp only [↓kept_upd_iff, implies_true, hrecd, hcellar, Bool.false_eq_true, false_implies]
    | dsimp only
    | split

theorem flushSlot_kept {n : Nat} (hbnk : m.leaves .bnk = false) (hcol : m.leaves .col = false) (hrecd : m.leaves .recd = false) (hcellar : m.leaves .cellar = false) (hwords : m.leaves .words = false) (h : Kept m a s) : Kept m a (flushSlot n s) := by
  unfold flushSlot
  repeat' first
    | with_reducible assumption
    | intro _
    | with_reducible apply cellarWrite_kept
    | with_reducible apply ringFetch_kept
    | with_reducible apply raiseHub_kept
    | with_reducible apply kept_ite
    | simp only [↓kept_upd_iff, implies_true, hbnk, hcol, hrecd, hcellar, hwords, Bool.false_eq_true, false_implies]
    | refine kept_snd (by with_reducible assumption) ?_
    | refine kept_third (by with_reducible assumption) ?_
    | dsimp only
    | split

theorem writePage_kept {page : Nat} (hbnk : m.leaves .bnk = false) (hcol : m.leaves .col = false) (hrecd : m.leaves .recd = false) (hcellar : m.leaves .cellar = false) (hwords : m.leaves .words = false) (h : Kept m a s) : Kept m a (writePage page s) := by
  unfold writePage
  repeat' first
    | with_reducible assumption
    | intro _
    | with_reducible apply foldS_kept
    | with_reducible apply flushSlot_kept
    | with_reducible apply whenS_kept
    | with_reducible apply writePointer_kept
    | with_reducible apply kept_ite
    | simp only [↓kept_upd_iff, implies_true, hbnk, hcol, hrecd, hcellar, hwords, Bool.false_eq_true, false_implies]
    | dsimp only
    | split

theorem pageEnds_kept {page : Nat} {wrote : Bool} (hbnk : m.leaves .bnk = false) (hcol : m.leaves .col = false) (hrecd : m.leaves .recd = false) (hcellar : m.leaves .cellar = false) (hwords : m.leaves .words = false) (h : Kept m a s) : Kept m a (pageEnds page wrote s) := by
  unfold pageEnds
  repeat' first
    | with_reducible assumption
    | intro _
    | with_reducible apply writePage_kept
    | with_reducible apply raiseHub_kept
    | with_reducible apply kept_ite
    | simp only [↓kept_upd_iff, implies_true, hbnk, hcol, hrecd, hcellar, hwords, Bool.false_eq_true, false_implies]
    | dsimp only
    | split

theorem doFlushPage_kept {wrote : Bool} (hbnk : m.leaves .bnk = false) (hcol : m.leaves .col = false) (hrecd : m.leaves .recd = false) (hcellar : m.leaves .cellar = false) (hwords : m.leaves .words = false) (h : Kept m a s) : Kept m a (doFlushPage wrote s) := by
  unfold doFlushPage
  repeat' first
    | with_reducible assumption
    | intro _
    | with_reducible apply pageEnds_kept
    | with_reducible apply kept_ite
    | dsimp only
    | split

theorem doCellarRead_kept {addr : Nat} (hrecd : m.leaves .recd = false) (hmregs : m.leaves .mregs = false) (h : Kept m a s) : Kept m a (doCellarRead addr s) := by
  unfold doCellarRead
  repeat' first
    | with_reducible assumption
    | intro _
    | with_reducible apply State.setRf_kept
    | with_reducible apply kept_ite
    | simp only [↓kept_upd_iff, implies_true, hrecd, hmregs, Bool.false_eq_true, false_implies]
    | dsimp only
    | split

theorem doRecKey_kept {tag : Nat} {body : BitVec 448} (hisl : m.leaves .isl = false) (hrecd : m.leaves .recd = false) (h : Kept m a s) : Kept m a (doRecKey tag body s) := by
  unfold doRecKey
  repeat' first
    | with_reducible assumption
    | intro _
    | with_reducible apply gateRespond_kept
    | with_reducible apply kept_ite
    | simp only [↓kept_upd_iff, implies_true, hisl, hrecd, Bool.false_eq_true, false_implies]
    | dsimp only
    | split

theorem clearRefused_kept {tag : Nat} {status : Nat} (hisl : m.leaves .isl = false) (hcol : m.leaves .col = false) (h : Kept m a s) : Kept m a (clearRefused tag status s) := by
  unfold clearRefused
  repeat' first
    | with_reducible assumption
    | intro _
    | with_reducible apply gateRespond_kept
    | with_reducible apply raiseHub_kept
    | with_reducible apply kept_ite
    | dsimp only
    | split

theorem zeroRecords_kept {upto : Nat} (hbnk : m.leaves .bnk = false) (hrecd : m.leaves .recd = false) (hcellar : m.leaves .cellar = false) (hwords : m.leaves .words = false) (h : Kept m a s) : Kept m a (zeroRecords upto s) := by
  unfold zeroRecords
  repeat' first
    | with_reducible assumption
    | intro _
    | with_reducible apply foldS_kept
    | with_reducible apply bankStore_kept
    | with_reducible apply cellarWrite_kept
    | with_reducible apply kept_ite
    | dsimp only
    | split

theorem finishClear_kept {slot : Nat} {aux : Nat} (hbnk : m.leaves .bnk = false) (hrecd : m.leaves .recd = false) (hcellar : m.leaves .cellar = false) (hwords : m.leaves .words = false) (h : Kept m a s) : Kept m a (finishClear slot aux s) := by
  unfold finishClear
  repeat' first
    | with_reducible assumption
    | intro _
    | with_reducible apply zeroRecords_kept
    | with_reducible apply endFreeze_kept
    | with_reducible apply writePointer_kept
    | with_reducible apply recEvent_kept
    | with_reducible apply kept_ite
    | simp only [↓kept_upd_iff, implies_true, hbnk, hrecd, hcellar, hwords, Bool.false_eq_true, false_implies]
    | dsimp only
    | split

theorem doRecClear_kept {tag : Nat} {body : BitVec 448} (hbnk : m.leaves .bnk = false) (hisl : m.leaves .isl = false) (hcol : m.leaves .col = false) (hrecd : m.leaves .recd = false) (hcellar : m.leaves .cellar = false) (hwords : m.leaves .words = false) (h : Kept m a s) : Kept m a (doRecClear tag body s) := by
  unfold doRecClear
  repeat' first
    | with_reducible assumption
    | intro _
    | with_reducible apply gateRespond_kept
    | with_reducible apply clearRefused_kept
    | with_reducible apply writePointer_kept
    | with_reducible apply recEvent_kept
    | with_reducible apply finishClear_kept
    | with_reducible apply kept_ite
    | simp only [↓kept_upd_iff, implies_true, hbnk, hisl, hcol, hrecd, hcellar, hwords, Bool.false_eq_true, false_implies]
    | dsimp only
    | split

theorem logRecover_kept  (hrecd : m.leaves .recd = false) (h : Kept m a s) : Kept m a (logRecover s) := by
  unfold logRecover
  repeat' first
    | with_reducible assumption
    | intro _
    | with_reducible apply kept_ite
    | simp only [↓kept_upd_iff, implies_true, hrecd, Bool.false_eq_true, false_implies]
    | with_reducible apply foldl_kept
    | with_reducible apply foldl_kept_pair
    | dsimp only
    | split

/-! ### Screen -/

theorem startSlice_kept {key : Nat} {kind : SliceKind} {l : Loc} {pack : Nat} {tag : Option (Nat × Nat)} (hobs : m.leaves .obs = false) (hscr : m.leaves .scr = false) (hjrn : m.leaves .jrn = false) (h : Kept m a s) : Kept m a (startSlice key kind l pack tag s) := by
  unfold startSlice
  repeat' first
    | with_reducible assumption
    | intro _
    | with_reducible apply countWarden_kept
    | with_reducible apply emit_kept
    | with_reducible apply spareTesting_kept
    | with_reducible apply kept_ite
    | simp only [↓kept_upd_iff, implies_true, hobs, hscr, hjrn, Bool.false_eq_true, false_implies]
    | dsimp only
    | split

theorem scanSegment_kept {x : Slice} (h : Kept m a s) : Kept m a (scanSegment x s) := by
  unfold scanSegment
  repeat' first
    | with_reducible assumption
    | intro _
    | with_reducible apply emit_kept
    | with_reducible apply kept_ite
    | dsimp only
    | split

theorem startConfirm_kept {key : Nat} {x : Slice} (hobs : m.leaves .obs = false) (hscr : m.leaves .scr = false) (hjrn : m.leaves .jrn = false) (h : Kept m a s) : Kept m a (startConfirm key x s) := by
  unfold startConfirm
  repeat' first
    | with_reducible assumption
    | intro _
    | with_reducible apply countWarden_kept
    | with_reducible apply emit_kept
    | with_reducible apply spareTesting_kept
    | with_reducible apply kept_ite
    | simp only [↓kept_upd_iff, implies_true, hobs, hscr, hjrn, Bool.false_eq_true, false_implies]
    | dsimp only
    | split

theorem updSlice_kept {key : Nat} {f : Slice → Slice} (hscr : m.leaves .scr = false) (h : Kept m a s) : Kept m a (updSlice key f s) := by
  unfold updSlice
  repeat' first
    | with_reducible assumption
    | intro _
    | with_reducible apply kept_ite
    | simp only [↓kept_upd_iff, implies_true, hscr, Bool.false_eq_true, false_implies]
    | dsimp only
    | split

theorem lastClear_kept {key : Nat} (hscr : m.leaves .scr = false) (h : Kept m a s) : Kept m a (lastClear key s) := by
  unfold lastClear
  repeat' first
    | with_reducible assumption
    | intro _
    | with_reducible apply emit_kept
    | with_reducible apply updSlice_kept
    | with_reducible apply kept_ite
    | simp only [↓kept_upd_iff, implies_true, hscr, Bool.false_eq_true, false_implies]
    | dsimp only
    | split

theorem advanceScreenGo_kept {n : Nat} (hscr : m.leaves .scr = false) (h : Kept m a s) : Kept m a (advanceScreen.go n s) := by
  induction n generalizing s with
  | zero => exact h
  | succ n ih =>
    unfold advanceScreen.go
    repeat' first
      | with_reducible assumption
      | with_reducible apply ih
      | with_reducible apply kept_ite
      | simp only [↓kept_upd_iff, implies_true, hscr, Bool.false_eq_true, false_implies]

theorem advanceScreen_kept (hscr : m.leaves .scr = false) (h : Kept m a s) : Kept m a (advanceScreen s) := advanceScreenGo_kept (by assumption) h

theorem screenItem_kept {key : Nat} {l : Loc} (hobs : m.leaves .obs = false) (hscr : m.leaves .scr = false) (hjrn : m.leaves .jrn = false) (h : Kept m a s) : Kept m a (screenItem key l s) := by
  unfold screenItem
  repeat' first
    | with_reducible assumption
    | intro _
    | with_reducible apply startSlice_kept
    | with_reducible apply kept_ite
    | dsimp only
    | split

theorem startScreen_kept  (hobs : m.leaves .obs = false) (hscr : m.leaves .scr = false) (hjrn : m.leaves .jrn = false) (h : Kept m a s) : Kept m a (startScreen s) := by
  unfold startScreen
  repeat' first
    | with_reducible assumption
    | intro _
    | with_reducible apply advanceScreen_kept
    | with_reducible apply foldS_kept
    | with_reducible apply screenItem_kept
    | with_reducible apply kept_ite
    | simp only [↓kept_upd_iff, implies_true, hobs, hscr, hjrn, Bool.false_eq_true, false_implies]
    | with_reducible apply foldl_kept
    | with_reducible apply foldl_kept_pair
    | dsimp only
    | split

theorem slicePass_kept {x : Slice} (hobs : m.leaves .obs = false) (hscr : m.leaves .scr = false) (hcol : m.leaves .col = false) (h : Kept m a s) : Kept m a (slicePass x s) := by
  unfold slicePass
  repeat' first
    | with_reducible assumption
    | intro _
    | with_reducible apply orderLift_kept
    | with_reducible apply countSlice_kept
    | with_reducible apply kept_ite
    | simp only [↓kept_upd_iff, implies_true, hobs, hscr, hcol, Bool.false_eq_true, false_implies]
    | dsimp only
    | split

theorem endSlice_kept {key : Nat} (hobs : m.leaves .obs = false) (hscr : m.leaves .scr = false) (hcol : m.leaves .col = false) (hcmd : m.leaves .cmd = false) (hjrn : m.leaves .jrn = false) (hseq : m.leaves .seq = false) (h : Kept m a s) : Kept m a (endSlice key s) := by
  unfold endSlice
  repeat' first
    | with_reducible assumption
    | intro _
    | with_reducible apply whenS_kept
    | with_reducible apply slicePass_kept
    | with_reducible apply emit_kept
    | with_reducible apply dropSlice_kept
    | with_reducible apply tellOutcome_kept
    | with_reducible apply dropHold_kept
    | with_reducible apply screenItem_kept
    | with_reducible apply advanceScreen_kept
    | with_reducible apply kept_ite
    | simp only [↓kept_upd_iff, implies_true, hobs, hscr, hcol, hcmd, hjrn, hseq, Bool.false_eq_true, false_implies]
    | dsimp only
    | split

theorem sliceFail_kept {x : Slice} (hobs : m.leaves .obs = false) (hscr : m.leaves .scr = false) (hcol : m.leaves .col = false) (h : Kept m a s) : Kept m a (sliceFail x s) := by
  unfold sliceFail
  repeat' first
    | with_reducible assumption
    | intro _
    | with_reducible apply raiseScreen_kept
    | with_reducible apply countSlice_kept
    | with_reducible apply kept_ite
    | simp only [↓kept_upd_iff, implies_true, hobs, hscr, hcol, Bool.false_eq_true, false_implies]
    | dsimp only
    | split

theorem doClearDone_kept {key : Nat} (hobs : m.leaves .obs = false) (hscr : m.leaves .scr = false) (hcol : m.leaves .col = false) (hcmd : m.leaves .cmd = false) (hjrn : m.leaves .jrn = false) (hseq : m.leaves .seq = false) (h : Kept m a s) : Kept m a (doClearDone key s) := by
  unfold doClearDone
  repeat' first
    | with_reducible assumption
    | intro _
    | with_reducible apply endSlice_kept
    | with_reducible apply lastClear_kept
    | with_reducible apply scanSegment_kept
    | with_reducible apply emit_kept
    | with_reducible apply updSlice_kept
    | with_reducible apply kept_ite
    | simp only [↓kept_upd_iff, implies_true, hobs, hscr, hcol, hcmd, hjrn, hseq, Bool.false_eq_true, false_implies]
    | dsimp only
    | split

theorem stopSlice_kept {key : Nat} {x : Slice} (hobs : m.leaves .obs = false) (hscr : m.leaves .scr = false) (hcmd : m.leaves .cmd = false) (hjrn : m.leaves .jrn = false) (hseq : m.leaves .seq = false) (h : Kept m a s) : Kept m a (stopSlice key x s) := by
  unfold stopSlice
  repeat' first
    | with_reducible assumption
    | intro _
    | with_reducible apply emit_kept
    | with_reducible apply dropSlice_kept
    | with_reducible apply advanceScreen_kept
    | with_reducible apply tellOutcome_kept
    | with_reducible apply kept_ite
    | simp only [↓kept_upd_iff, implies_true, hobs, hscr, hcmd, hjrn, hseq, Bool.false_eq_true, false_implies]
    | dsimp only
    | split

theorem doStClear_kept {key : Nat} (hobs : m.leaves .obs = false) (hscr : m.leaves .scr = false) (hcol : m.leaves .col = false) (hcmd : m.leaves .cmd = false) (hjrn : m.leaves .jrn = false) (hseq : m.leaves .seq = false) (h : Kept m a s) : Kept m a (doStClear key s) := by
  unfold doStClear
  repeat' first
    | with_reducible assumption
    | intro _
    | with_reducible apply raiseTap_kept
    | with_reducible apply raiseHcore_kept
    | with_reducible apply stopSlice_kept
    | with_reducible apply kept_ite
    | dsimp only
    | split

theorem doStTimeout_kept {key : Nat} (hobs : m.leaves .obs = false) (hscr : m.leaves .scr = false) (hcol : m.leaves .col = false) (hcmd : m.leaves .cmd = false) (hjrn : m.leaves .jrn = false) (hseq : m.leaves .seq = false) (h : Kept m a s) : Kept m a (doStTimeout key s) := by
  unfold doStTimeout
  repeat' first
    | with_reducible assumption
    | intro _
    | with_reducible apply raiseWarden_kept
    | with_reducible apply countWarden_kept
    | with_reducible apply raiseHcore_kept
    | with_reducible apply stopSlice_kept
    | with_reducible apply kept_ite
    | dsimp only
    | split

theorem nextSegment_kept {key : Nat} {v : Nat} {x : Slice} (hscr : m.leaves .scr = false) (h : Kept m a s) : Kept m a (nextSegment key v x s) := by
  unfold nextSegment
  repeat' first
    | with_reducible assumption
    | intro _
    | with_reducible apply scanSegment_kept
    | with_reducible apply updSlice_kept
    | with_reducible apply kept_ite
    | simp only [↓kept_upd_iff, implies_true, hscr, Bool.false_eq_true, false_implies]
    | dsimp only
    | split

theorem doSegmentEnd_kept {key : Nat} {so : List (BitVec 1024)} (hfell : m.fell = false) (hobs : m.leaves .obs = false) (hscr : m.leaves .scr = false) (hcol : m.leaves .col = false) (hcmd : m.leaves .cmd = false) (hjrn : m.leaves .jrn = false) (hrecd : m.leaves .recd = false) (hcellar : m.leaves .cellar = false) (h : Kept m a s) : Kept m a (doSegmentEnd key so s) := by
  unfold doSegmentEnd
  repeat' first
    | with_reducible assumption
    | intro _
    | with_reducible apply lastClear_kept
    | with_reducible apply updSlice_kept
    | with_reducible apply sliceFail_kept
    | with_reducible apply unstable_kept
    | with_reducible apply nextSegment_kept
    | with_reducible apply tapTestFailed_kept
    | with_reducible apply kept_ite
    | simp only [↓kept_upd_iff, implies_true, hfell, hobs, hscr, hcol, hcmd, hjrn, hrecd, hcellar, Bool.false_eq_true, false_implies]
    | dsimp only
    | split

theorem gridScreen_kept {r : Nat} {slot : Nat} {key : Nat} (hobs : m.leaves .obs = false) (hscr : m.leaves .scr = false) (hjrn : m.leaves .jrn = false) (h : Kept m a s) : Kept m a (gridScreen r slot key s) := by
  unfold gridScreen
  repeat' first
    | with_reducible assumption
    | intro _
    | with_reducible apply screenItem_kept
    | with_reducible apply startConfirm_kept
    | with_reducible apply kept_ite
    | dsimp only
    | split

theorem takeDirected_kept {key : Nat} {d : Directed} (hobs : m.leaves .obs = false) (hscr : m.leaves .scr = false) (hjrn : m.leaves .jrn = false) (h : Kept m a s) : Kept m a (takeDirected key d s) := by
  unfold takeDirected
  repeat' first
    | with_reducible assumption
    | intro _
    | with_reducible apply startSlice_kept
    | with_reducible apply kept_ite
    | simp only [↓kept_upd_iff, implies_true, hobs, hscr, hjrn, Bool.false_eq_true, false_implies]
    | dsimp only
    | split

theorem startIdle_kept {key : Nat} {l : Loc} (hobs : m.leaves .obs = false) (hscr : m.leaves .scr = false) (hjrn : m.leaves .jrn = false) (h : Kept m a s) : Kept m a (startIdle key l s) := by
  unfold startIdle
  repeat' first
    | with_reducible assumption
    | intro _
    | with_reducible apply startSlice_kept
    | with_reducible apply kept_ite
    | simp only [↓kept_upd_iff, implies_true, hobs, hscr, hjrn, Bool.false_eq_true, false_implies]
    | dsimp only
    | split

theorem gridIdle_kept {r : Nat} {key : Nat} (hobs : m.leaves .obs = false) (hscr : m.leaves .scr = false) (hjrn : m.leaves .jrn = false) (h : Kept m a s) : Kept m a (gridIdle r key s) := by
  unfold gridIdle
  repeat' first
    | with_reducible assumption
    | intro _
    | with_reducible apply startConfirm_kept
    | with_reducible apply takeDirected_kept
    | with_reducible apply startIdle_kept
    | with_reducible apply kept_ite
    | dsimp only
    | split

theorem hostSlices_kept  (hobs : m.leaves .obs = false) (hscr : m.leaves .scr = false) (hjrn : m.leaves .jrn = false) (h : Kept m a s) : Kept m a (hostSlices s) := by
  unfold hostSlices
  repeat' first
    | with_reducible assumption
    | intro _
    | with_reducible apply screenItem_kept
    | with_reducible apply startConfirm_kept
    | with_reducible apply takeDirected_kept
    | with_reducible apply startSlice_kept
    | with_reducible apply startIdle_kept
    | with_reducible apply kept_ite
    | simp only [↓kept_upd_iff, implies_true, hobs, hscr, hjrn, Bool.false_eq_true, false_implies]
    | dsimp only
    | split

theorem doSliceGridPoint_kept {r : Nat} {slot : Nat} (hobs : m.leaves .obs = false) (hscr : m.leaves .scr = false) (hjrn : m.leaves .jrn = false) (h : Kept m a s) : Kept m a (doSliceGridPoint r slot s) := by
  unfold doSliceGridPoint
  repeat' first
    | with_reducible assumption
    | intro _
    | with_reducible apply hostSlices_kept
    | with_reducible apply gridScreen_kept
    | with_reducible apply gridIdle_kept
    | with_reducible apply kept_ite
    | dsimp only
    | split

theorem doScreenDue_kept {l : Loc} (hscr : m.leaves .scr = false) (hcmd : m.leaves .cmd = false) (h : Kept m a s) : Kept m a (doScreenDue l s) := by
  unfold doScreenDue
  repeat' first
    | with_reducible assumption
    | intro _
    | with_reducible apply postRecord_kept
    | with_reducible apply kept_ite
    | simp only [↓kept_upd_iff, implies_true, hscr, hcmd, Bool.false_eq_true, false_implies]
    | dsimp only
    | split

theorem doStOverdue_kept {l : Loc} (hscr : m.leaves .scr = false) (hcol : m.leaves .col = false) (h : Kept m a s) : Kept m a (doStOverdue l s) := by
  unfold doStOverdue
  repeat' first
    | with_reducible assumption
    | intro _
    | with_reducible apply raiseScreen_kept
    | with_reducible apply kept_ite
    | simp only [↓kept_upd_iff, implies_true, hscr, hcol, Bool.false_eq_true, false_implies]
    | dsimp only
    | split

theorem recordVer_kept {id : Nat} {ver : Nat} (hscr : m.leaves .scr = false) (hrecd : m.leaves .recd = false) (hcellar : m.leaves .cellar = false) (h : Kept m a s) : Kept m a (recordVer id ver s) := by
  unfold recordVer
  repeat' first
    | with_reducible assumption
    | intro _
    | with_reducible apply cellarWrite_kept
    | with_reducible apply kept_id
    | with_reducible apply kept_ite
    | simp only [↓kept_upd_iff, implies_true, hscr, hrecd, hcellar, Bool.false_eq_true, false_implies]
    | dsimp only
    | split

theorem writeIsl_kept {mid : Nat} (hrecd : m.leaves .recd = false) (hcellar : m.leaves .cellar = false) (h : Kept m a s) : Kept m a (writeIsl mid s) := by
  unfold writeIsl
  repeat' first
    | with_reducible assumption
    | intro _
    | with_reducible apply twoCopyWrite_kept
    | with_reducible apply kept_ite
    | dsimp only
    | split

theorem notePack_kept {slot : Nat} {id : Nat} {bs : List Byte} (hrecd : m.leaves .recd = false) (hcellar : m.leaves .cellar = false) (h : Kept m a s) : Kept m a (notePack slot id bs s) := by
  unfold notePack
  repeat' first
    | with_reducible assumption
    | intro _
    | with_reducible apply writeIsl_kept
    | with_reducible apply kept_id
    | with_reducible apply kept_ite
    | dsimp only
    | split

theorem packRefused_kept {tag : Nat} {status : Nat} (hisl : m.leaves .isl = false) (hcol : m.leaves .col = false) (h : Kept m a s) : Kept m a (packRefused tag status s) := by
  unfold packRefused
  repeat' first
    | with_reducible assumption
    | intro _
    | with_reducible apply gateRespond_kept
    | with_reducible apply raiseHub_kept
    | with_reducible apply kept_ite
    | dsimp only
    | split

theorem doPackLoad_kept {tag : Nat} {body : BitVec 448} (hscr : m.leaves .scr = false) (hisl : m.leaves .isl = false) (hcol : m.leaves .col = false) (hrecd : m.leaves .recd = false) (hcellar : m.leaves .cellar = false) (h : Kept m a s) : Kept m a (doPackLoad tag body s) := by
  unfold doPackLoad
  repeat' first
    | with_reducible assumption
    | intro _
    | with_reducible apply gateRespond_kept
    | with_reducible apply packRefused_kept
    | with_reducible apply notePack_kept
    | with_reducible apply recordVer_kept
    | with_reducible apply cellarWrite_kept
    | with_reducible apply kept_ite
    | simp only [↓kept_upd_iff, implies_true, hscr, hisl, hcol, hrecd, hcellar, Bool.false_eq_true, false_implies]
    | dsimp only
    | split

theorem readPacks_kept  (hscr : m.leaves .scr = false) (hcol : m.leaves .col = false) (h : Kept m a s) : Kept m a (readPacks s) := by
  unfold readPacks
  repeat' first
    | with_reducible assumption
    | intro _
    | with_reducible apply foldS_kept
    | with_reducible apply raiseHub_kept
    | with_reducible apply kept_ite
    | simp only [↓kept_upd_iff, implies_true, hscr, hcol, Bool.false_eq_true, false_implies]
    | dsimp only
    | split

theorem doExcursion_kept  (hisl : m.leaves .isl = false) (hcol : m.leaves .col = false) (hrecd : m.leaves .recd = false) (hcellar : m.leaves .cellar = false) (h : Kept m a s) : Kept m a (doExcursion s) := by
  unfold doExcursion
  repeat' first
    | with_reducible assumption
    | intro _
    | with_reducible apply whenS_kept
    | with_reducible apply voidRecord_kept
    | with_reducible apply kept_ite
    | simp only [↓kept_upd_iff, implies_true, hisl, hcol, hrecd, hcellar, Bool.false_eq_true, false_implies]
    | dsimp only
    | split

theorem doCperPop_kept  (hrecd : m.leaves .recd = false) (h : Kept m a s) : Kept m a (doCperPop s) := by
  unfold doCperPop
  repeat' first
    | with_reducible assumption
    | intro _
    | with_reducible apply kept_ite
    | simp only [↓kept_upd_iff, implies_true, hrecd, Bool.false_eq_true, false_implies]
    | dsimp only
    | split

theorem tapLoad_kept {ir : Nat} {value : Nat} (hscr : m.leaves .scr = false) (h : Kept m a s) : Kept m a (tapLoad ir value s) := by
  unfold tapLoad
  repeat' first
    | with_reducible assumption
    | intro _
    | with_reducible apply emit_kept
    | with_reducible apply kept_ite
    | simp only [↓kept_upd_iff, implies_true, hscr, Bool.false_eq_true, false_implies]
    | dsimp only
    | split

theorem tapRefuse_kept  (hscr : m.leaves .scr = false) (hmregs : m.leaves .mregs = false) (h : Kept m a s) : Kept m a (tapRefuse s) := by
  unfold tapRefuse
  repeat' first
    | with_reducible assumption
    | intro _
    | with_reducible apply tapLoad_kept
    | with_reducible apply State.setRf_kept
    | with_reducible apply kept_ite
    | dsimp only
    | split

theorem doUnitScan_kept {l : Loc} (hscr : m.leaves .scr = false) (hcol : m.leaves .col = false) (hmregs : m.leaves .mregs = false) (h : Kept m a s) : Kept m a (doUnitScan l s) := by
  unfold doUnitScan
  repeat' first
    | with_reducible assumption
    | intro _
    | with_reducible apply tapRefuse_kept
    | with_reducible apply orderFence_kept
    | with_reducible apply tapLoad_kept
    | with_reducible apply emit_kept
    | with_reducible apply raiseIsland_kept
    | with_reducible apply kept_ite
    | simp only [↓kept_upd_iff, implies_true, hscr, hcol, hmregs, Bool.false_eq_true, false_implies]
    | dsimp only
    | split

end Sys2Proof.Machine
end

