-- ==== Sys2Proof/Laws/KeptWork.lean ====
section
/-! SUPPORT. What no command changes, operation by operation: the banks, the follow-up, the Cruise Engine, the host commands and the supplies. -/
namespace Sys2Proof.Machine

set_option linter.unusedSimpArgs false
set_option linter.unusedVariables false

variable {m : Mask} {a s t : State}

/-! ### Bank -/

theorem zeroBank_kept {b : Nat} (hbnk : m.leaves .bnk = false) (hwords : m.leaves .words = false) (h : Kept m a s) : Kept m a (zeroBank b s) :=
  ⟨h.fuse, h.pending, h.absent, h.out, h.freeCtr, h.cellar, fun w => Tbl.filter_canon s.bnk.words _ 0 (h.words w), h.st, h.fell, h.prog, h.level, h.pf, h.sev, h.et,
    fun p w => p.same_trans (h.parts p w) (by
      cases p
      case bnk => exact absurd w (by rw [hbnk]; decide)
      case words => exact absurd w (by rw [hwords]; decide)
      all_goals rfl)⟩

theorem handBank_kept {b : Nat} {owner : Nat} {keep : Bool} (hbnk : m.leaves .bnk = false) (hwords : m.leaves .words = false) (h : Kept m a s) : Kept m a (handBank b owner keep s).2 := by
  unfold handBank
  repeat' first
    | with_reducible assumption
    | intro _
    | with_reducible apply updBank_kept
    | with_reducible apply zeroBank_kept
    | with_reducible apply kept_ite
    | with_reducible apply kept_ite_snd
    | simp only [↓kept_upd_iff, implies_true, hbnk, hwords, Bool.false_eq_true, false_implies]
    | dsimp only
    | split

theorem doBankOwn_kept {b : Nat} {owner : Nat} {keep : Bool} (hbnk : m.leaves .bnk = false) (hwords : m.leaves .words = false) (h : Kept m a s) : Kept m a (doBankOwn b owner keep s) := by
  unfold doBankOwn
  repeat' first
    | with_reducible assumption
    | intro _
    | with_reducible apply handBank_kept
    | with_reducible apply updBank_kept
    | with_reducible apply kept_ite
    | simp only [↓kept_upd_iff, implies_true, hbnk, hwords, Bool.false_eq_true, false_implies]
    | refine kept_snd (by with_reducible assumption) ?_
    | refine kept_third (by with_reducible assumption) ?_
    | dsimp only
    | split

theorem ptrEnd_kept {err : Nat} (hbnk : m.leaves .bnk = false) (h : Kept m a s) : Kept m a (ptrEnd err s) := by
  unfold ptrEnd
  repeat' first
    | with_reducible assumption
    | intro _
    | with_reducible apply kept_ite
    | simp only [↓kept_upd_iff, implies_true, hbnk, Bool.false_eq_true, false_implies]
    | dsimp only
    | split

theorem doBankRead_kept  (hbnk : m.leaves .bnk = false) (hobs : m.leaves .obs = false) (hcol : m.leaves .col = false) (hwords : m.leaves .words = false) (h : Kept m a s) : Kept m a (doBankRead s) := by
  unfold doBankRead
  repeat' first
    | with_reducible assumption
    | intro _
    | with_reducible apply countHub_kept
    | with_reducible apply ptrEnd_kept
    | with_reducible apply bankFetch_kept
    | with_reducible apply kept_ite
    | simp only [↓kept_upd_iff, implies_true, hbnk, hobs, hcol, hwords, Bool.false_eq_true, false_implies]
    | refine kept_snd (by with_reducible assumption) ?_
    | refine kept_third (by with_reducible assumption) ?_
    | dsimp only
    | split

theorem doBankWrite_kept  (hbnk : m.leaves .bnk = false) (hobs : m.leaves .obs = false) (hgov : m.leaves .gov = false) (hwords : m.leaves .words = false) (h : Kept m a s) : Kept m a (doBankWrite s) := by
  unfold doBankWrite
  repeat' first
    | with_reducible assumption
    | intro _
    | with_reducible apply countHub_kept
    | with_reducible apply ptrEnd_kept
    | with_reducible apply bankWrite_kept
    | with_reducible apply kept_ite
    | dsimp only
    | split

theorem windowFails_kept {bank : Nat} {window : Nat} (hbnk : m.leaves .bnk = false) (hcol : m.leaves .col = false) (h : Kept m a s) : Kept m a (windowFails bank window s) := by
  unfold windowFails
  repeat' first
    | with_reducible assumption
    | intro _
    | with_reducible apply raiseHub_kept
    | with_reducible apply whenS_kept
    | with_reducible apply updBank_kept
    | with_reducible apply kept_ite
    | simp only [↓kept_upd_iff, implies_true, hbnk, hcol, Bool.false_eq_true, false_implies]
    | dsimp only
    | split

theorem copyWord_kept {fromBank fromWord toBank toWord : Nat} (hbnk : m.leaves .bnk = false) (hwords : m.leaves .words = false) (h : Kept m a s) : Kept m a (copyWord fromBank fromWord toBank toWord s) :=
  ⟨h.fuse, h.pending, h.absent, h.out, h.freeCtr, h.cellar, fun w => words_put (h.words w), h.st, h.fell, h.prog, h.level, h.pf, h.sev, h.et,
    fun p w => p.same_trans (h.parts p w) (by
      cases p
      case bnk => exact absurd w (by rw [hbnk]; decide)
      case words => exact absurd w (by rw [hwords]; decide)
      all_goals rfl)⟩

theorem accessWord_kept {bank : Nat} {word : Nat} {x : OwnerAccess} (hbnk : m.leaves .bnk = false) (hcol : m.leaves .col = false) (hwords : m.leaves .words = false) (h : Kept m a s) : Kept m a (accessWord bank word x s) := by
  unfold accessWord
  repeat' first
    | with_reducible assumption
    | intro _
    | with_reducible apply bankFetch_kept
    | with_reducible apply bankStore_kept
    | with_reducible apply kept_ite
    | refine kept_snd (by with_reducible assumption) ?_
    | refine kept_third (by with_reducible assumption) ?_
    | dsimp only
    | split

theorem servedAccesses_kept {bank : Nat} {l : List OwnerAccess} (hcol : m.leaves .col = false) (h : Kept m a s) : Kept m a (servedAccesses bank l s).2 := by
  unfold servedAccesses
  repeat' first
    | with_reducible assumption
    | intro _
    | with_reducible apply foldS_kept
    | with_reducible apply raiseHub_kept
    | with_reducible apply kept_ite
    | with_reducible apply kept_ite_snd
    | dsimp only
    | split

theorem testWord_kept {bank : Nat} {word : Nat} {w : Nat} {l : List OwnerAccess} (hbnk : m.leaves .bnk = false) (hcol : m.leaves .col = false) (hwords : m.leaves .words = false) (h : Kept m a s) : Kept m a (testWord bank word w l s) := by
  unfold testWord
  repeat' first
    | with_reducible assumption
    | intro _
    | with_reducible apply accessWord_kept
    | with_reducible apply whenS_kept
    | with_reducible apply copyWord_kept
    | with_reducible apply bankFetch_kept
    | with_reducible apply foldS_kept
    | with_reducible apply kept_ite
    | with_reducible apply foldl_kept
    | with_reducible apply foldl_kept_pair
    | refine kept_snd (by with_reducible assumption) ?_
    | refine kept_third (by with_reducible assumption) ?_
    | dsimp only
    | split

theorem testWindow_kept {bank : Nat} {window : Nat} {accesses : List OwnerAccess} (hbnk : m.leaves .bnk = false) (hcol : m.leaves .col = false) (hwords : m.leaves .words = false) (h : Kept m a s) : Kept m a (testWindow bank window accesses s) := by
  unfold testWindow
  repeat' first
    | with_reducible assumption
    | intro _
    | with_reducible apply servedAccesses_kept
    | with_reducible apply foldS_kept
    | with_reducible apply testWord_kept
    | with_reducible apply accessWord_kept
    | with_reducible apply kept_ite
    | refine kept_snd (by with_reducible assumption) ?_
    | refine kept_third (by with_reducible assumption) ?_
    | dsimp only
    | split

theorem doMemtestWindow_kept {bank : Nat} {window : Nat} {accesses : List OwnerAccess} {faulty : Bool} (hbnk : m.leaves .bnk = false) (hcol : m.leaves .col = false) (hwords : m.leaves .words = false) (h : Kept m a s) : Kept m a (doMemtestWindow bank window accesses faulty s) := by
  unfold doMemtestWindow
  repeat' first
    | with_reducible assumption
    | intro _
    | with_reducible apply whenS_kept
    | with_reducible apply testWindow_kept
    | with_reducible apply windowFails_kept
    | with_reducible apply kept_ite
    | simp only [↓kept_upd_iff, implies_true, hbnk, hcol, hwords, Bool.false_eq_true, false_implies]
    | dsimp only
    | split

theorem doCmemWindow_kept {tap : Nat} {window : Nat} {corrected : Nat} {lost : Nat} {faulty : Bool} (hbnk : m.leaves .bnk = false) (hobs : m.leaves .obs = false) (hcol : m.leaves .col = false) (h : Kept m a s) : Kept m a (doCmemWindow tap window corrected lost faulty s) := by
  unfold doCmemWindow
  repeat' first
    | with_reducible assumption
    | intro _
    | with_reducible apply countTap_kept
    | with_reducible apply whenS_kept
    | with_reducible apply raiseTap_kept
    | with_reducible apply kept_ite
    | simp only [↓kept_upd_iff, implies_true, hbnk, hobs, hcol, Bool.false_eq_true, false_implies]
    | dsimp only
    | split

/-! ### Census -/

theorem orderCensus_kept {t_ : Nat} {comp : Nat} {by_ : CensusBy} (hobs : m.leaves .obs = false) (h : Kept m a s) : Kept m a (orderCensus t_ comp by_ s).2 := by
  unfold orderCensus
  repeat' first
    | with_reducible assumption
    | intro _
    | with_reducible apply kept_ite
    | with_reducible apply kept_ite_snd
    | simp only [↓kept_upd_iff, implies_true, hobs, Bool.false_eq_true, false_implies]
    | dsimp only
    | split

theorem doHangWatch_kept {c : Nat} (hobs : m.leaves .obs = false) (hcol : m.leaves .col = false) (h : Kept m a s) : Kept m a (doHangWatch c s) := by
  unfold doHangWatch
  repeat' first
    | with_reducible assumption
    | intro _
    | with_reducible apply orderCensus_kept
    | with_reducible apply raiseHub_kept
    | with_reducible apply kept_ite
    | simp only [↓kept_upd_iff, implies_true, hobs, hcol, Bool.false_eq_true, false_implies]
    | refine kept_snd (by with_reducible assumption) ?_
    | refine kept_third (by with_reducible assumption) ?_
    | dsimp only
    | split

theorem writeSummary_kept {t_ : Tick} {ports : Ports} (hbnk : m.leaves .bnk = false) (hgov : m.leaves .gov = false) (hwords : m.leaves .words = false) (h : Kept m a s) : Kept m a (writeSummary t_ ports s) := by
  unfold writeSummary
  repeat' first
    | with_reducible assumption
    | intro _
    | with_reducible apply foldS_kept
    | with_reducible apply bankWrite_kept
    | with_reducible apply kept_ite
    | dsimp only
    | split

theorem writeCensus_kept {c : Nat} {tag : Nat} {addr : Nat} {len : Nat} {id : Nat} {t_ : Tick} {l : List CenEntry} (hcmd : m.leaves .cmd = false) (hfab : m.leaves .fab = false) (h : Kept m a s) : Kept m a (writeCensus c tag addr len id t_ l s) := by
  unfold writeCensus
  repeat' first
    | with_reducible assumption
    | intro _
    | with_reducible apply completeCmd_kept
    | with_reducible apply streamWrite_kept
    | with_reducible apply kept_id
    | with_reducible apply kept_ite
    | dsimp only
    | split

theorem doCensusFreeze_kept {ports : Ports} (hbnk : m.leaves .bnk = false) (hobs : m.leaves .obs = false) (hgov : m.leaves .gov = false) (hcmd : m.leaves .cmd = false) (hfab : m.leaves .fab = false) (hwords : m.leaves .words = false) (h : Kept m a s) : Kept m a (doCensusFreeze ports s) := by
  unfold doCensusFreeze
  repeat' first
    | with_reducible assumption
    | intro _
    | with_reducible apply tookTick_kept
    | with_reducible apply writeSummary_kept
    | with_reducible apply writeCensus_kept
    | with_reducible apply kept_id
    | with_reducible apply kept_ite
    | simp only [↓kept_upd_iff, implies_true, hbnk, hobs, hgov, hcmd, hfab, hwords, Bool.false_eq_true, false_implies]
    | dsimp only
    | split

/-! ### Cper -/

theorem queueCper_kept {sec : Nat} (hrecd : m.leaves .recd = false) (h : Kept m a s) : Kept m a (queueCper sec s).2 := by
  unfold queueCper
  repeat' first
    | with_reducible assumption
    | intro _
    | with_reducible apply kept_ite
    | with_reducible apply kept_ite_snd
    | simp only [↓kept_upd_iff, implies_true, hrecd, Bool.false_eq_true, false_implies]
    | dsimp only
    | split

/-! ### FollowUp -/

theorem pushReqs_kept {l : List W256} (hseq : m.leaves .seq = false) (h : Kept m a s) : Kept m a (pushReqs l s) := by
  unfold pushReqs
  repeat' first
    | with_reducible assumption
    | intro _
    | with_reducible apply kept_ite
    | simp only [↓kept_upd_iff, implies_true, hseq, Bool.false_eq_true, false_implies]
    | dsimp only
    | split

theorem takeReq_kept {r : W256} (hseq : m.leaves .seq = false) (h : Kept m a s) : Kept m a (takeReq r s) := by
  unfold takeReq
  repeat' first
    | with_reducible assumption
    | intro _
    | with_reducible apply kept_ite
    | simp only [↓kept_upd_iff, implies_true, hseq, Bool.false_eq_true, false_implies]
    | dsimp only
    | split

theorem addWork_kept {w : Work} {more : List W256} (hseq : m.leaves .seq = false) (h : Kept m a s) : Kept m a (addWork w more s) := by
  unfold addWork
  repeat' first
    | with_reducible assumption
    | intro _
    | with_reducible apply pushReqs_kept
    | with_reducible apply kept_ite
    | simp only [↓kept_upd_iff, implies_true, hseq, Bool.false_eq_true, false_implies]
    | dsimp only
    | split

theorem dropWork_kept {w : Work} (hseq : m.leaves .seq = false) (h : Kept m a s) : Kept m a (dropWork w s) := by
  unfold dropWork
  repeat' first
    | with_reducible assumption
    | intro _
    | with_reducible apply kept_ite
    | simp only [↓kept_upd_iff, implies_true, hseq, Bool.false_eq_true, false_implies]
    | dsimp only
    | split

theorem setWork_kept {w : Work} {w' : Work} (hseq : m.leaves .seq = false) (h : Kept m a s) : Kept m a (setWork w w' s) := by
  unfold setWork
  repeat' first
    | with_reducible assumption
    | intro _
    | with_reducible apply kept_ite
    | simp only [↓kept_upd_iff, implies_true, hseq, Bool.false_eq_true, false_implies]
    | dsimp only
    | split

theorem writeWords_kept {a_ : Nat} {l : List Nat} (hbnk : m.leaves .bnk = false) (hgov : m.leaves .gov = false) (hwords : m.leaves .words = false) (h : Kept m a s) : Kept m a (writeWords a_ l s) := by
  unfold writeWords
  repeat' first
    | with_reducible assumption
    | intro _
    | with_reducible apply bankWrite_kept
    | with_reducible apply kept_ite
    | with_reducible apply foldl_kept
    | with_reducible apply foldl_kept_pair
    | dsimp only
    | split

theorem tookTurn_kept {cls : Nat} {c : Nat} (hgov : m.leaves .gov = false) (h : Kept m a s) : Kept m a (tookTurn cls c s) := by
  unfold tookTurn
  repeat' first
    | with_reducible assumption
    | intro _
    | with_reducible apply kept_ite
    | simp only [↓kept_upd_iff, implies_true, hgov, Bool.false_eq_true, false_implies]
    | dsimp only
    | split

theorem serveReq_kept {cls : Nat} {r : W256} (hgov : m.leaves .gov = false) (hseq : m.leaves .seq = false) (h : Kept m a s) : Kept m a (serveReq cls r s) := by
  unfold serveReq
  repeat' first
    | with_reducible assumption
    | intro _
    | with_reducible apply takeReq_kept
    | with_reducible apply tookTurn_kept
    | with_reducible apply kept_ite
    | dsimp only
    | split

theorem engineEvent_kept  (hgov : m.leaves .gov = false) (hseq : m.leaves .seq = false) (h : Kept m a s) : Kept m a (engineEvent s) := by
  unfold engineEvent
  repeat' first
    | with_reducible assumption
    | intro _
    | with_reducible apply addWork_kept
    | with_reducible apply kept_ite
    | simp only [↓kept_upd_iff, implies_true, hgov, hseq, Bool.false_eq_true, false_implies]
    | dsimp only
    | split

theorem engineFault_kept  (hcol : m.leaves .col = false) (hgov : m.leaves .gov = false) (hseq : m.leaves .seq = false) (h : Kept m a s) : Kept m a (engineFault s) := by
  unfold engineFault
  repeat' first
    | with_reducible assumption
    | intro _
    | with_reducible apply engineEvent_kept
    | with_reducible apply raiseHub_kept
    | with_reducible apply kept_ite
    | dsimp only
    | split

theorem rehearsalEnds_kept {mech : Nat} {tap : Nat} {pass : Bool} (hobs : m.leaves .obs = false) (hcol : m.leaves .col = false) (hgov : m.leaves .gov = false) (hseq : m.leaves .seq = false) (h : Kept m a s) : Kept m a (rehearsalEnds mech tap pass s) := by
  unfold rehearsalEnds
  repeat' first
    | with_reducible assumption
    | intro _
    | with_reducible apply countHub_kept
    | with_reducible apply raiseHub_kept
    | with_reducible apply engineEvent_kept
    | with_reducible apply kept_ite
    | simp only [↓kept_upd_iff, implies_true, hobs, hcol, hgov, hseq, Bool.false_eq_true, false_implies]
    | dsimp only
    | split

theorem doNoOpportunity_kept {mech : Nat} {tap : Nat} (hobs : m.leaves .obs = false) (hcol : m.leaves .col = false) (hgov : m.leaves .gov = false) (htaps : m.leaves .taps = false) (hseq : m.leaves .seq = false) (h : Kept m a s) : Kept m a (doNoOpportunity mech tap s) := by
  unfold doNoOpportunity
  repeat' first
    | with_reducible assumption
    | intro _
    | with_reducible apply whenS_kept
    | with_reducible apply countHub_kept
    | with_reducible apply rehearsalEnds_kept
    | with_reducible apply updTap_kept
    | with_reducible apply nextPoint_kept
    | with_reducible apply kept_ite
    | simp only [↓kept_upd_iff, implies_true, hobs, hcol, hgov, htaps, hseq, Bool.false_eq_true, false_implies]
    | dsimp only
    | split

theorem replayCord_kept {c : Nat} {jsn : Nat} {attempt : Nat} {trigger : Nat} (hdig : m.leaves .dig = false) (hbnk : m.leaves .bnk = false) (hobs : m.leaves .obs = false) (hcol : m.leaves .col = false) (hgov : m.leaves .gov = false) (hcmd : m.leaves .cmd = false) (htaps : m.leaves .taps = false) (hjrn : m.leaves .jrn = false) (hesc : m.leaves .esc = false) (hrecd : m.leaves .recd = false) (hfab : m.leaves .fab = false) (hwords : m.leaves .words = false) (h : Kept m a s) : Kept m a (replayCord c jsn attempt trigger s) := by
  unfold replayCord
  repeat' first
    | with_reducible assumption
    | intro _
    | with_reducible apply replaySlot_kept
    | with_reducible apply kept_ite
    | dsimp only
    | split

theorem replaySuspects_kept {l : Loc} {trigger : Nat} (hdig : m.leaves .dig = false) (hbnk : m.leaves .bnk = false) (hobs : m.leaves .obs = false) (hcol : m.leaves .col = false) (hgov : m.leaves .gov = false) (hcmd : m.leaves .cmd = false) (htaps : m.leaves .taps = false) (hjrn : m.leaves .jrn = false) (hesc : m.leaves .esc = false) (hrecd : m.leaves .recd = false) (hfab : m.leaves .fab = false) (hwords : m.leaves .words = false) (h : Kept m a s) : Kept m a (replaySuspects l trigger s) := by
  unfold replaySuspects
  repeat' first
    | with_reducible assumption
    | intro _
    | with_reducible apply foldS_kept
    | with_reducible apply replayCord_kept
    | with_reducible apply kept_ite
    | dsimp only
    | split

theorem lateRecant_kept {c : Nat} {cord : Nat} {kind : Nat} (hdig : m.leaves .dig = false) (hcol : m.leaves .col = false) (hcmd : m.leaves .cmd = false) (hfab : m.leaves .fab = false) (h : Kept m a s) : Kept m a (lateRecant c cord kind s) := by
  unfold lateRecant
  repeat' first
    | with_reducible assumption
    | intro _
    | with_reducible apply postRecant_kept
    | with_reducible apply noteRecant_kept
    | with_reducible apply taintEpoch_kept
    | with_reducible apply multiPlain_kept
    | with_reducible apply kept_ite
    | dsimp only
    | split

theorem withdrawCord_kept {c : Nat} {jsn : Nat} {attempt : Nat} {kind : Nat} (hdig : m.leaves .dig = false) (hobs : m.leaves .obs = false) (hcol : m.leaves .col = false) (hgov : m.leaves .gov = false) (hcmd : m.leaves .cmd = false) (htaps : m.leaves .taps = false) (hjrn : m.leaves .jrn = false) (hesc : m.leaves .esc = false) (hfab : m.leaves .fab = false) (h : Kept m a s) : Kept m a (withdrawCord c jsn attempt kind s) := by
  unfold withdrawCord
  repeat' first
    | with_reducible assumption
    | intro _
    | with_reducible apply whenS_kept
    | with_reducible apply lateRecant_kept
    | with_reducible apply recantCord_kept
    | with_reducible apply kept_id
    | with_reducible apply kept_ite
    | dsimp only
    | split

theorem fellPolicy_kept {l : Loc} {finding : Nat} (hfell : m.fell = false) (hobs : m.leaves .obs = false) (hscr : m.leaves .scr = false) (hcol : m.leaves .col = false) (hcmd : m.leaves .cmd = false) (hjrn : m.leaves .jrn = false) (hrecd : m.leaves .recd = false) (hcellar : m.leaves .cellar = false) (h : Kept m a s) : Kept m a (fellPolicy l finding s) := by
  unfold fellPolicy
  repeat' first
    | with_reducible assumption
    | intro _
    | with_reducible apply fellLocus_kept
    | with_reducible apply whenS_kept
    | with_reducible apply kept_ite
    | simp only [↓kept_upd_iff, implies_true, hfell, hobs, hscr, hcol, hcmd, hjrn, hrecd, hcellar, Bool.false_eq_true, false_implies]
    | dsimp only
    | split

theorem checkPlacement_kept {e : Intake} (hcol : m.leaves .col = false) (h : Kept m a s) : Kept m a (checkPlacement e s) := by
  unfold checkPlacement
  repeat' first
    | with_reducible assumption
    | intro _
    | with_reducible apply foldS_kept
    | with_reducible apply whenS_kept
    | with_reducible apply raiseHub_kept
    | with_reducible apply kept_ite
    | dsimp only
    | split

theorem confirmSkid_kept {x : Option Loc} (hdig : m.leaves .dig = false) (hbnk : m.leaves .bnk = false) (hobs : m.leaves .obs = false) (hscr : m.leaves .scr = false) (hcol : m.leaves .col = false) (hgov : m.leaves .gov = false) (hcmd : m.leaves .cmd = false) (htaps : m.leaves .taps = false) (hjrn : m.leaves .jrn = false) (hesc : m.leaves .esc = false) (hrecd : m.leaves .recd = false) (hseq : m.leaves .seq = false) (hfab : m.leaves .fab = false) (hwords : m.leaves .words = false) (h : Kept m a s) : Kept m a (confirmSkid x s) := by
  unfold confirmSkid
  repeat' first
    | with_reducible assumption
    | intro _
    | with_reducible apply startSkid_kept
    | with_reducible apply kept_ite
    | dsimp only
    | split

theorem entryDone_kept {e : Intake} (hcmd : m.leaves .cmd = false) (h : Kept m a s) : Kept m a (entryDone e s) := by
  unfold entryDone
  repeat' first
    | with_reducible assumption
    | intro _
    | with_reducible apply foldS_kept
    | with_reducible apply updComp_kept
    | with_reducible apply kept_ite
    | simp only [↓kept_upd_iff, implies_true, hcmd, Bool.false_eq_true, false_implies]
    | dsimp only
    | split

theorem callHook_kept {e : Intake} {index : Nat} (hbnk : m.leaves .bnk = false) (hgov : m.leaves .gov = false) (hseq : m.leaves .seq = false) (hwords : m.leaves .words = false) (h : Kept m a s) : Kept m a (callHook e index s) := by
  unfold callHook
  repeat' first
    | with_reducible assumption
    | intro _
    | with_reducible apply bankWrite_kept
    | with_reducible apply updPair_kept
    | with_reducible apply kept_ite
    | simp only [↓kept_upd_iff, implies_true, hbnk, hgov, hseq, hwords, Bool.false_eq_true, false_implies]
    | dsimp only
    | split

theorem finishEntry_kept {e : Intake} {finding : Nat} (hfell : m.fell = false) (hdig : m.leaves .dig = false) (hbnk : m.leaves .bnk = false) (hobs : m.leaves .obs = false) (hscr : m.leaves .scr = false) (hcol : m.leaves .col = false) (hgov : m.leaves .gov = false) (hcmd : m.leaves .cmd = false) (htaps : m.leaves .taps = false) (hjrn : m.leaves .jrn = false) (hesc : m.leaves .esc = false) (hrecd : m.leaves .recd = false) (hseq : m.leaves .seq = false) (hfab : m.leaves .fab = false) (hcellar : m.leaves .cellar = false) (hwords : m.leaves .words = false) (h : Kept m a s) : Kept m a (finishEntry e finding s) := by
  unfold finishEntry
  repeat' first
    | with_reducible assumption
    | intro _
    | with_reducible apply whenS_kept
    | with_reducible apply checkPlacement_kept
    | with_reducible apply fellPolicy_kept
    | with_reducible apply confirmSkid_kept
    | with_reducible apply callHook_kept
    | with_reducible apply pushRec_kept
    | with_reducible apply queueCper_kept
    | with_reducible apply entryDone_kept
    | with_reducible apply kept_ite
    | refine kept_snd (by with_reducible assumption) ?_
    | refine kept_third (by with_reducible assumption) ?_
    | dsimp only
    | split

theorem releaseRecord_kept {w : Work} (htaps : m.leaves .taps = false) (h : Kept m a s) : Kept m a (releaseRecord w s) := by
  unfold releaseRecord
  repeat' first
    | with_reducible assumption
    | intro _
    | with_reducible apply updTap_kept
    | with_reducible apply kept_ite
    | simp only [↓kept_upd_iff, implies_true, htaps, Bool.false_eq_true, false_implies]
    | dsimp only
    | split

theorem postPin_kept {w : Work} {pin : Nat} (hcmd : m.leaves .cmd = false) (hjrn : m.leaves .jrn = false) (h : Kept m a s) : Kept m a (postPin w pin s) := by
  unfold postPin
  repeat' first
    | with_reducible assumption
    | intro _
    | with_reducible apply postCord_kept
    | with_reducible apply whenS_kept
    | with_reducible apply updCord_kept
    | with_reducible apply kept_ite
    | simp only [↓kept_upd_iff, implies_true, hcmd, hjrn, Bool.false_eq_true, false_implies]
    | dsimp only
    | split

theorem skidDue_kept {l : Loc} (hjrn : m.leaves .jrn = false) (h : Kept m a s) : Kept m a (skidDue l s) := by
  unfold skidDue
  repeat' first
    | with_reducible assumption
    | intro _
    | with_reducible apply kept_ite
    | simp only [↓kept_upd_iff, implies_true, hjrn, Bool.false_eq_true, false_implies]
    | dsimp only
    | split

theorem liftUnit_kept {l : Loc} (hcol : m.leaves .col = false) (hjrn : m.leaves .jrn = false) (h : Kept m a s) : Kept m a (liftUnit l s) := by
  unfold liftUnit
  repeat' first
    | with_reducible assumption
    | intro _
    | with_reducible apply orderLift_kept
    | with_reducible apply kept_ite
    | simp only [↓kept_upd_iff, implies_true, hcol, hjrn, Bool.false_eq_true, false_implies]
    | dsimp only
    | split

theorem endPin_kept {w : Work} {out : PinOut} (hfell : m.fell = false) (hdig : m.leaves .dig = false) (hbnk : m.leaves .bnk = false) (hobs : m.leaves .obs = false) (hscr : m.leaves .scr = false) (hcol : m.leaves .col = false) (hgov : m.leaves .gov = false) (hcmd : m.leaves .cmd = false) (htaps : m.leaves .taps = false) (hjrn : m.leaves .jrn = false) (hesc : m.leaves .esc = false) (hrecd : m.leaves .recd = false) (hseq : m.leaves .seq = false) (hfab : m.leaves .fab = false) (hcellar : m.leaves .cellar = false) (hwords : m.leaves .words = false) (h : Kept m a s) : Kept m a (endPin w out s) := by
  unfold endPin
  repeat' first
    | with_reducible assumption
    | intro _
    | with_reducible apply releaseRecord_kept
    | with_reducible apply takeReq_kept
    | with_reducible apply dropWork_kept
    | with_reducible apply finishEntry_kept
    | with_reducible apply postPin_kept
    | with_reducible apply checkEnds_kept
    | with_reducible apply replayCord_kept
    | with_reducible apply whenS_kept
    | with_reducible apply liftUnit_kept
    | with_reducible apply skidDue_kept
    | with_reducible apply raiseHub_kept
    | with_reducible apply engineFault_kept
    | with_reducible apply kept_ite
    | simp only [↓kept_upd_iff, implies_true, hfell, hdig, hbnk, hobs, hscr, hcol, hgov, hcmd, htaps, hjrn, hesc, hrecd, hseq, hfab, hcellar, hwords, Bool.false_eq_true, false_implies]
    | dsimp only
    | split

theorem tryPin_kept {w : Work} (hfell : m.fell = false) (hdig : m.leaves .dig = false) (hbnk : m.leaves .bnk = false) (hobs : m.leaves .obs = false) (hscr : m.leaves .scr = false) (hcol : m.leaves .col = false) (hgov : m.leaves .gov = false) (hcmd : m.leaves .cmd = false) (htaps : m.leaves .taps = false) (hjrn : m.leaves .jrn = false) (hesc : m.leaves .esc = false) (hrecd : m.leaves .recd = false) (hseq : m.leaves .seq = false) (hfab : m.leaves .fab = false) (hcellar : m.leaves .cellar = false) (hwords : m.leaves .words = false) (h : Kept m a s) : Kept m a (tryPin w s) := by
  unfold tryPin
  repeat' first
    | with_reducible assumption
    | intro _
    | with_reducible apply endPin_kept
    | with_reducible apply kept_ite
    | dsimp only
    | split

theorem beginPin_kept {w : Work} (hfell : m.fell = false) (hdig : m.leaves .dig = false) (hbnk : m.leaves .bnk = false) (hobs : m.leaves .obs = false) (hscr : m.leaves .scr = false) (hcol : m.leaves .col = false) (hgov : m.leaves .gov = false) (hcmd : m.leaves .cmd = false) (htaps : m.leaves .taps = false) (hjrn : m.leaves .jrn = false) (hesc : m.leaves .esc = false) (hrecd : m.leaves .recd = false) (hseq : m.leaves .seq = false) (hfab : m.leaves .fab = false) (hcellar : m.leaves .cellar = false) (hwords : m.leaves .words = false) (h : Kept m a s) : Kept m a (beginPin w s) := by
  unfold beginPin
  repeat' first
    | with_reducible assumption
    | intro _
    | with_reducible apply tryPin_kept
    | with_reducible apply addWork_kept
    | with_reducible apply kept_ite
    | dsimp only
    | split

theorem countAdj_kept {c : Nat} {n : Nat} (hgov : m.leaves .gov = false) (h : Kept m a s) : Kept m a (countAdj c n s) := by
  unfold countAdj
  repeat' first
    | with_reducible assumption
    | intro _
    | with_reducible apply kept_ite
    | simp only [↓kept_upd_iff, implies_true, hgov, Bool.false_eq_true, false_implies]
    | dsimp only
    | split

theorem doPinpointRecompute_kept {r : CruiseRead} {work : Nat} (hfell : m.fell = false) (hdig : m.leaves .dig = false) (hbnk : m.leaves .bnk = false) (hobs : m.leaves .obs = false) (hscr : m.leaves .scr = false) (hcol : m.leaves .col = false) (hgov : m.leaves .gov = false) (hcmd : m.leaves .cmd = false) (htaps : m.leaves .taps = false) (hjrn : m.leaves .jrn = false) (hesc : m.leaves .esc = false) (hrecd : m.leaves .recd = false) (hseq : m.leaves .seq = false) (hfab : m.leaves .fab = false) (hcellar : m.leaves .cellar = false) (hwords : m.leaves .words = false) (h : Kept m a s) : Kept m a (doPinpointRecompute r work s) := by
  unfold doPinpointRecompute
  repeat' first
    | with_reducible assumption
    | intro _
    | with_reducible apply countAdj_kept
    | with_reducible apply serveReq_kept
    | with_reducible apply tryPin_kept
    | with_reducible apply setWork_kept
    | with_reducible apply writeWords_kept
    | with_reducible apply formResponse_kept
    | with_reducible apply kept_ite
    | simp only [↓kept_upd_iff, implies_true, hfell, hdig, hbnk, hobs, hscr, hcol, hgov, hcmd, htaps, hjrn, hesc, hrecd, hseq, hfab, hcellar, hwords, Bool.false_eq_true, false_implies]
    | dsimp only
    | split

theorem doPinRerun_kept  (hseq : m.leaves .seq = false) (h : Kept m a s) : Kept m a (doPinRerun s) := by
  unfold doPinRerun
  repeat' first
    | with_reducible assumption
    | intro _
    | with_reducible apply takeReq_kept
    | with_reducible apply emit_kept
    | with_reducible apply formResponse_kept
    | with_reducible apply kept_ite
    | simp only [↓kept_upd_iff, implies_true, hseq, Bool.false_eq_true, false_implies]
    | dsimp only
    | split

theorem pinDone_kept {tap : Nat} (hfell : m.fell = false) (hdig : m.leaves .dig = false) (hbnk : m.leaves .bnk = false) (hobs : m.leaves .obs = false) (hscr : m.leaves .scr = false) (hcol : m.leaves .col = false) (hgov : m.leaves .gov = false) (hcmd : m.leaves .cmd = false) (htaps : m.leaves .taps = false) (hjrn : m.leaves .jrn = false) (hesc : m.leaves .esc = false) (hrecd : m.leaves .recd = false) (hseq : m.leaves .seq = false) (hfab : m.leaves .fab = false) (hcellar : m.leaves .cellar = false) (hwords : m.leaves .words = false) (h : Kept m a s) : Kept m a (pinDone tap s) := by
  unfold pinDone
  repeat' first
    | with_reducible assumption
    | intro _
    | with_reducible apply updTap_kept
    | with_reducible apply tryPin_kept
    | with_reducible apply setWork_kept
    | with_reducible apply writeWords_kept
    | with_reducible apply formResponse_kept
    | with_reducible apply kept_ite
    | simp only [↓kept_upd_iff, implies_true, hfell, hdig, hbnk, hobs, hscr, hcol, hgov, hcmd, htaps, hjrn, hesc, hrecd, hseq, hfab, hcellar, hwords, Bool.false_eq_true, false_implies]
    | dsimp only
    | split

theorem doPinpointTimeout_kept  (hfell : m.fell = false) (hdig : m.leaves .dig = false) (hbnk : m.leaves .bnk = false) (hobs : m.leaves .obs = false) (hscr : m.leaves .scr = false) (hcol : m.leaves .col = false) (hgov : m.leaves .gov = false) (hcmd : m.leaves .cmd = false) (htaps : m.leaves .taps = false) (hjrn : m.leaves .jrn = false) (hesc : m.leaves .esc = false) (hrecd : m.leaves .recd = false) (hseq : m.leaves .seq = false) (hfab : m.leaves .fab = false) (hcellar : m.leaves .cellar = false) (hwords : m.leaves .words = false) (h : Kept m a s) : Kept m a (doPinpointTimeout s) := by
  unfold doPinpointTimeout
  repeat' first
    | with_reducible assumption
    | intro _
    | with_reducible apply endPin_kept
    | with_reducible apply kept_ite
    | dsimp only
    | split

/-! ### Cruise -/

theorem deferTile_kept {w : Work} {tk : W256} (hdig : m.leaves .dig = false) (hobs : m.leaves .obs = false) (hcol : m.leaves .col = false) (hcmd : m.leaves .cmd = false) (hjrn : m.leaves .jrn = false) (hesc : m.leaves .esc = false) (hfab : m.leaves .fab = false) (h : Kept m a s) : Kept m a (deferTile w tk s) := by
  unfold deferTile
  repeat' first
    | with_reducible assumption
    | intro _
    | with_reducible apply markCord_kept
    | with_reducible apply tileFailed_kept
    | with_reducible apply raiseHub_kept
    | with_reducible apply checkEnds_kept
    | with_reducible apply kept_ite
    | dsimp only
    | split

theorem rehearsedAlarm_kept {w : Work} {outcome : Nat} {result : Nat} (hfell : m.fell = false) (hdig : m.leaves .dig = false) (hbnk : m.leaves .bnk = false) (hobs : m.leaves .obs = false) (hscr : m.leaves .scr = false) (hcol : m.leaves .col = false) (hgov : m.leaves .gov = false) (hcmd : m.leaves .cmd = false) (htaps : m.leaves .taps = false) (hjrn : m.leaves .jrn = false) (hesc : m.leaves .esc = false) (hrecd : m.leaves .recd = false) (hseq : m.leaves .seq = false) (hfab : m.leaves .fab = false) (hcellar : m.leaves .cellar = false) (hwords : m.leaves .words = false) (h : Kept m a s) : Kept m a (rehearsedAlarm w outcome result s) := by
  unfold rehearsedAlarm
  repeat' first
    | with_reducible assumption
    | intro _
    | with_reducible apply rehearsalEnds_kept
    | with_reducible apply releaseRecord_kept
    | with_reducible apply dropWork_kept
    | with_reducible apply finishEntry_kept
    | with_reducible apply whenS_kept
    | with_reducible apply raiseHub_kept
    | with_reducible apply kept_ite
    | dsimp only
    | split

theorem endAdjudication_kept {w : Work} {outcome : Nat} {result : Nat} (hfell : m.fell = false) (hdig : m.leaves .dig = false) (hbnk : m.leaves .bnk = false) (hobs : m.leaves .obs = false) (hscr : m.leaves .scr = false) (hcol : m.leaves .col = false) (hgov : m.leaves .gov = false) (hcmd : m.leaves .cmd = false) (htaps : m.leaves .taps = false) (hjrn : m.leaves .jrn = false) (hesc : m.leaves .esc = false) (hrecd : m.leaves .recd = false) (hseq : m.leaves .seq = false) (hfab : m.leaves .fab = false) (hcellar : m.leaves .cellar = false) (hwords : m.leaves .words = false) (h : Kept m a s) : Kept m a (endAdjudication w outcome result s) := by
  unfold endAdjudication
  repeat' first
    | with_reducible assumption
    | intro _
    | with_reducible apply rehearsedAlarm_kept
    | with_reducible apply finishEntry_kept
    | with_reducible apply releaseRecord_kept
    | with_reducible apply dropWork_kept
    | with_reducible apply whenS_kept
    | with_reducible apply markCord_kept
    | with_reducible apply tileFailed_kept
    | with_reducible apply updCord_kept
    | with_reducible apply raiseHub_kept
    | with_reducible apply setWork_kept
    | with_reducible apply numericEvent_kept
    | with_reducible apply tileGood_kept
    | with_reducible apply checkEnds_kept
    | with_reducible apply deferTile_kept
    | with_reducible apply kept_id
    | with_reducible apply kept_ite
    | simp only [↓kept_upd_iff, implies_true, hfell, hdig, hbnk, hobs, hscr, hcol, hgov, hcmd, htaps, hjrn, hesc, hrecd, hseq, hfab, hcellar, hwords, Bool.false_eq_true, false_implies]
    | dsimp only
    | split

theorem doAdjudicate_kept {r : CruiseRead} {work : Nat} (hfell : m.fell = false) (hdig : m.leaves .dig = false) (hbnk : m.leaves .bnk = false) (hobs : m.leaves .obs = false) (hscr : m.leaves .scr = false) (hcol : m.leaves .col = false) (hgov : m.leaves .gov = false) (hcmd : m.leaves .cmd = false) (htaps : m.leaves .taps = false) (hjrn : m.leaves .jrn = false) (hesc : m.leaves .esc = false) (hrecd : m.leaves .recd = false) (hseq : m.leaves .seq = false) (hfab : m.leaves .fab = false) (hcellar : m.leaves .cellar = false) (hwords : m.leaves .words = false) (h : Kept m a s) : Kept m a (doAdjudicate r work s) := by
  unfold doAdjudicate
  repeat' first
    | with_reducible assumption
    | intro _
    | with_reducible apply countAdj_kept
    | with_reducible apply serveReq_kept
    | with_reducible apply endAdjudication_kept
    | with_reducible apply formResponse_kept
    | with_reducible apply kept_ite
    | dsimp only
    | split

theorem settleTwin_kept {w : Work} {outcome : Nat} (hfell : m.fell = false) (hdig : m.leaves .dig = false) (hbnk : m.leaves .bnk = false) (hobs : m.leaves .obs = false) (hscr : m.leaves .scr = false) (hcol : m.leaves .col = false) (hgov : m.leaves .gov = false) (hcmd : m.leaves .cmd = false) (htaps : m.leaves .taps = false) (hjrn : m.leaves .jrn = false) (hesc : m.leaves .esc = false) (hrecd : m.leaves .recd = false) (hseq : m.leaves .seq = false) (hfab : m.leaves .fab = false) (hcellar : m.leaves .cellar = false) (hwords : m.leaves .words = false) (h : Kept m a s) : Kept m a (settleTwin w outcome s) := by
  unfold settleTwin
  repeat' first
    | with_reducible assumption
    | intro _
    | with_reducible apply dropWork_kept
    | with_reducible apply finishEntry_kept
    | with_reducible apply checkEnds_kept
    | with_reducible apply updCord_kept
    | with_reducible apply raiseHub_kept
    | with_reducible apply withdrawCord_kept
    | with_reducible apply kept_ite
    | simp only [↓kept_upd_iff, implies_true, hfell, hdig, hbnk, hobs, hscr, hcol, hgov, hcmd, htaps, hjrn, hesc, hrecd, hseq, hfab, hcellar, hwords, Bool.false_eq_true, false_implies]
    | dsimp only
    | split

theorem rehearsedTwin_kept {w : Work} {outcome : Nat} (hfell : m.fell = false) (hdig : m.leaves .dig = false) (hbnk : m.leaves .bnk = false) (hobs : m.leaves .obs = false) (hscr : m.leaves .scr = false) (hcol : m.leaves .col = false) (hgov : m.leaves .gov = false) (hcmd : m.leaves .cmd = false) (htaps : m.leaves .taps = false) (hjrn : m.leaves .jrn = false) (hesc : m.leaves .esc = false) (hrecd : m.leaves .recd = false) (hseq : m.leaves .seq = false) (hfab : m.leaves .fab = false) (hcellar : m.leaves .cellar = false) (hwords : m.leaves .words = false) (h : Kept m a s) : Kept m a (rehearsedTwin w outcome s) := by
  unfold rehearsedTwin
  repeat' first
    | with_reducible assumption
    | intro _
    | with_reducible apply updCord_kept
    | with_reducible apply finishEntry_kept
    | with_reducible apply rehearsalEnds_kept
    | with_reducible apply dropWork_kept
    | with_reducible apply kept_ite
    | simp only [↓kept_upd_iff, implies_true, hfell, hdig, hbnk, hobs, hscr, hcol, hgov, hcmd, htaps, hjrn, hesc, hrecd, hseq, hfab, hcellar, hwords, Bool.false_eq_true, false_implies]
    | dsimp only
    | split

theorem endTwin_kept {w : Work} {outcome : Nat} (hfell : m.fell = false) (hdig : m.leaves .dig = false) (hbnk : m.leaves .bnk = false) (hobs : m.leaves .obs = false) (hscr : m.leaves .scr = false) (hcol : m.leaves .col = false) (hgov : m.leaves .gov = false) (hcmd : m.leaves .cmd = false) (htaps : m.leaves .taps = false) (hjrn : m.leaves .jrn = false) (hesc : m.leaves .esc = false) (hrecd : m.leaves .recd = false) (hseq : m.leaves .seq = false) (hfab : m.leaves .fab = false) (hcellar : m.leaves .cellar = false) (hwords : m.leaves .words = false) (h : Kept m a s) : Kept m a (endTwin w outcome s) := by
  unfold endTwin
  repeat' first
    | with_reducible assumption
    | intro _
    | with_reducible apply rehearsedTwin_kept
    | with_reducible apply setWork_kept
    | with_reducible apply settleTwin_kept
    | with_reducible apply kept_ite
    | simp only [↓kept_upd_iff, implies_true, hfell, hdig, hbnk, hobs, hscr, hcol, hgov, hcmd, htaps, hjrn, hesc, hrecd, hseq, hfab, hcellar, hwords, Bool.false_eq_true, false_implies]
    | dsimp only
    | split

theorem settleTwins_kept  (hfell : m.fell = false) (hdig : m.leaves .dig = false) (hbnk : m.leaves .bnk = false) (hobs : m.leaves .obs = false) (hscr : m.leaves .scr = false) (hcol : m.leaves .col = false) (hgov : m.leaves .gov = false) (hcmd : m.leaves .cmd = false) (htaps : m.leaves .taps = false) (hjrn : m.leaves .jrn = false) (hesc : m.leaves .esc = false) (hrecd : m.leaves .recd = false) (hseq : m.leaves .seq = false) (hfab : m.leaves .fab = false) (hcellar : m.leaves .cellar = false) (hwords : m.leaves .words = false) (h : Kept m a s) : Kept m a (settleTwins s) := by
  unfold settleTwins
  repeat' first
    | with_reducible assumption
    | intro _
    | with_reducible apply foldS_kept
    | with_reducible apply settleTwin_kept
    | with_reducible apply kept_ite
    | dsimp only
    | split

theorem postSample_kept {x : Sample} {st : Nat} {result : Nat} (hobs : m.leaves .obs = false) (hcmd : m.leaves .cmd = false) (h : Kept m a s) : Kept m a (postSample x st result s) := by
  unfold postSample
  repeat' first
    | with_reducible assumption
    | intro _
    | with_reducible apply trace_kept
    | with_reducible apply postRecord_kept
    | with_reducible apply kept_ite
    | dsimp only
    | split

theorem sampleSkipped_kept {x : Sample} (hobs : m.leaves .obs = false) (hcol : m.leaves .col = false) (hgov : m.leaves .gov = false) (hjrn : m.leaves .jrn = false) (h : Kept m a s) : Kept m a (sampleSkipped x s) := by
  unfold sampleSkipped
  repeat' first
    | with_reducible assumption
    | intro _
    | with_reducible apply skipSample_kept
    | with_reducible apply checkEnds_kept
    | with_reducible apply updMeas_kept
    | with_reducible apply kept_ite
    | simp only [↓kept_upd_iff, implies_true, hobs, hcol, hgov, hjrn, Bool.false_eq_true, false_implies]
    | dsimp only
    | split

theorem sampleDiffers_kept {x : Sample} (hcol : m.leaves .col = false) (hgov : m.leaves .gov = false) (h : Kept m a s) : Kept m a (sampleDiffers x s) := by
  unfold sampleDiffers
  repeat' first
    | with_reducible assumption
    | intro _
    | with_reducible apply raiseOn_kept
    | with_reducible apply kept_ite
    | simp only [↓kept_upd_iff, implies_true, hcol, hgov, Bool.false_eq_true, false_implies]
    | dsimp only
    | split

theorem doSampleComplete_kept {r : CruiseRead} {work : Nat} (hobs : m.leaves .obs = false) (hcol : m.leaves .col = false) (hgov : m.leaves .gov = false) (hcmd : m.leaves .cmd = false) (htaps : m.leaves .taps = false) (hjrn : m.leaves .jrn = false) (h : Kept m a s) : Kept m a (doSampleComplete r work s) := by
  unfold doSampleComplete
  repeat' first
    | with_reducible assumption
    | intro _
    | with_reducible apply tookTurn_kept
    | with_reducible apply updMeas_kept
    | with_reducible apply sampleSkipped_kept
    | with_reducible apply whenS_kept
    | with_reducible apply numericEvent_kept
    | with_reducible apply sampleDiffers_kept
    | with_reducible apply rehearse_kept
    | with_reducible apply injectNow_kept
    | with_reducible apply checkEnds_kept
    | with_reducible apply postSample_kept
    | with_reducible apply kept_ite
    | simp only [↓kept_upd_iff, implies_true, hobs, hcol, hgov, hcmd, htaps, hjrn, Bool.false_eq_true, false_implies]
    | dsimp only
    | split

theorem doSampleTimeout_kept  (hobs : m.leaves .obs = false) (hcol : m.leaves .col = false) (hgov : m.leaves .gov = false) (hjrn : m.leaves .jrn = false) (h : Kept m a s) : Kept m a (doSampleTimeout s) := by
  unfold doSampleTimeout
  repeat' first
    | with_reducible assumption
    | intro _
    | with_reducible apply sampleSkipped_kept
    | with_reducible apply kept_ite
    | simp only [↓kept_upd_iff, implies_true, hobs, hcol, hgov, hjrn, Bool.false_eq_true, false_implies]
    | dsimp only
    | split

theorem endSecond_kept {w : Work} {x : Sample} {outcome : Nat} (hfell : m.fell = false) (hdig : m.leaves .dig = false) (hbnk : m.leaves .bnk = false) (hobs : m.leaves .obs = false) (hscr : m.leaves .scr = false) (hcol : m.leaves .col = false) (hgov : m.leaves .gov = false) (hcmd : m.leaves .cmd = false) (htaps : m.leaves .taps = false) (hjrn : m.leaves .jrn = false) (hesc : m.leaves .esc = false) (hrecd : m.leaves .recd = false) (hseq : m.leaves .seq = false) (hfab : m.leaves .fab = false) (hcellar : m.leaves .cellar = false) (hwords : m.leaves .words = false) (h : Kept m a s) : Kept m a (endSecond w x outcome s) := by
  unfold endSecond
  repeat' first
    | with_reducible assumption
    | intro _
    | with_reducible apply dropWork_kept
    | with_reducible apply finishEntry_kept
    | with_reducible apply rehearsalEnds_kept
    | with_reducible apply settleTwins_kept
    | with_reducible apply raiseHub_kept
    | with_reducible apply postSample_kept
    | with_reducible apply withdrawCord_kept
    | with_reducible apply checkEnds_kept
    | with_reducible apply withdrawCert_kept
    | with_reducible apply engineFault_kept
    | with_reducible apply kept_ite
    | simp only [↓kept_upd_iff, implies_true, hfell, hdig, hbnk, hobs, hscr, hcol, hgov, hcmd, htaps, hjrn, hesc, hrecd, hseq, hfab, hcellar, hwords, Bool.false_eq_true, false_implies]
    | dsimp only
    | split

theorem secondUnread_kept {w : Work} {x : Sample} (hfell : m.fell = false) (hdig : m.leaves .dig = false) (hbnk : m.leaves .bnk = false) (hobs : m.leaves .obs = false) (hscr : m.leaves .scr = false) (hcol : m.leaves .col = false) (hgov : m.leaves .gov = false) (hcmd : m.leaves .cmd = false) (htaps : m.leaves .taps = false) (hjrn : m.leaves .jrn = false) (hesc : m.leaves .esc = false) (hrecd : m.leaves .recd = false) (hseq : m.leaves .seq = false) (hfab : m.leaves .fab = false) (hcellar : m.leaves .cellar = false) (hwords : m.leaves .words = false) (h : Kept m a s) : Kept m a (secondUnread w x s) := by
  unfold secondUnread
  repeat' first
    | with_reducible assumption
    | intro _
    | with_reducible apply finishEntry_kept
    | with_reducible apply settleTwins_kept
    | with_reducible apply rehearsalEnds_kept
    | with_reducible apply sampleSkipped_kept
    | with_reducible apply dropWork_kept
    | with_reducible apply kept_ite
    | dsimp only
    | split

theorem doSecondRecompute_kept {r : CruiseRead} (hfell : m.fell = false) (hdig : m.leaves .dig = false) (hbnk : m.leaves .bnk = false) (hobs : m.leaves .obs = false) (hscr : m.leaves .scr = false) (hcol : m.leaves .col = false) (hgov : m.leaves .gov = false) (hcmd : m.leaves .cmd = false) (htaps : m.leaves .taps = false) (hjrn : m.leaves .jrn = false) (hesc : m.leaves .esc = false) (hrecd : m.leaves .recd = false) (hseq : m.leaves .seq = false) (hfab : m.leaves .fab = false) (hcellar : m.leaves .cellar = false) (hwords : m.leaves .words = false) (h : Kept m a s) : Kept m a (doSecondRecompute r s) := by
  unfold doSecondRecompute
  repeat' first
    | with_reducible assumption
    | intro _
    | with_reducible apply serveReq_kept
    | with_reducible apply endSecond_kept
    | with_reducible apply secondUnread_kept
    | with_reducible apply formResponse_kept
    | with_reducible apply kept_ite
    | dsimp only
    | split

theorem doCruiseSelfTest_kept {fail : Bool} (hobs : m.leaves .obs = false) (hscr : m.leaves .scr = false) (hcol : m.leaves .col = false) (hgov : m.leaves .gov = false) (hcmd : m.leaves .cmd = false) (hjrn : m.leaves .jrn = false) (hseq : m.leaves .seq = false) (hfab : m.leaves .fab = false) (h : Kept m a s) : Kept m a (doCruiseSelfTest fail s) := by
  unfold doCruiseSelfTest
  repeat' first
    | with_reducible assumption
    | intro _
    | with_reducible apply takeReq_kept
    | with_reducible apply react_kept
    | with_reducible apply raiseOn_kept
    | with_reducible apply dropWork_kept
    | with_reducible apply formResponse_kept
    | with_reducible apply kept_ite
    | dsimp only
    | split

theorem doTwinThirdOpinion_kept {r : CruiseRead} (hfell : m.fell = false) (hdig : m.leaves .dig = false) (hbnk : m.leaves .bnk = false) (hobs : m.leaves .obs = false) (hscr : m.leaves .scr = false) (hcol : m.leaves .col = false) (hgov : m.leaves .gov = false) (hcmd : m.leaves .cmd = false) (htaps : m.leaves .taps = false) (hjrn : m.leaves .jrn = false) (hesc : m.leaves .esc = false) (hrecd : m.leaves .recd = false) (hseq : m.leaves .seq = false) (hfab : m.leaves .fab = false) (hcellar : m.leaves .cellar = false) (hwords : m.leaves .words = false) (h : Kept m a s) : Kept m a (doTwinThirdOpinion r s) := by
  unfold doTwinThirdOpinion
  repeat' first
    | with_reducible assumption
    | intro _
    | with_reducible apply serveReq_kept
    | with_reducible apply endTwin_kept
    | with_reducible apply formResponse_kept
    | with_reducible apply kept_ite
    | dsimp only
    | split

theorem doThirdRun_kept  (hfell : m.fell = false) (hdig : m.leaves .dig = false) (hbnk : m.leaves .bnk = false) (hobs : m.leaves .obs = false) (hscr : m.leaves .scr = false) (hcol : m.leaves .col = false) (hgov : m.leaves .gov = false) (hcmd : m.leaves .cmd = false) (htaps : m.leaves .taps = false) (hjrn : m.leaves .jrn = false) (hesc : m.leaves .esc = false) (hrecd : m.leaves .recd = false) (hseq : m.leaves .seq = false) (hfab : m.leaves .fab = false) (hcellar : m.leaves .cellar = false) (hwords : m.leaves .words = false) (h : Kept m a s) : Kept m a (doThirdRun s) := by
  unfold doThirdRun
  repeat' first
    | with_reducible assumption
    | intro _
    | with_reducible apply takeReq_kept
    | with_reducible apply answer_kept
    | with_reducible apply endTwin_kept
    | with_reducible apply formResponse_kept
    | with_reducible apply startRun_kept
    | with_reducible apply updCord_kept
    | with_reducible apply kept_ite
    | simp only [↓kept_upd_iff, implies_true, hfell, hdig, hbnk, hobs, hscr, hcol, hgov, hcmd, htaps, hjrn, hesc, hrecd, hseq, hfab, hcellar, hwords, Bool.false_eq_true, false_implies]
    | dsimp only
    | split

theorem thirdsDone_kept  (hfell : m.fell = false) (hdig : m.leaves .dig = false) (hbnk : m.leaves .bnk = false) (hobs : m.leaves .obs = false) (hscr : m.leaves .scr = false) (hcol : m.leaves .col = false) (hgov : m.leaves .gov = false) (hcmd : m.leaves .cmd = false) (htaps : m.leaves .taps = false) (hjrn : m.leaves .jrn = false) (hesc : m.leaves .esc = false) (hrecd : m.leaves .recd = false) (hseq : m.leaves .seq = false) (hfab : m.leaves .fab = false) (hcellar : m.leaves .cellar = false) (hwords : m.leaves .words = false) (h : Kept m a s) : Kept m a (thirdsDone s) := by
  unfold thirdsDone
  repeat' first
    | with_reducible assumption
    | intro _
    | with_reducible apply foldS_kept
    | with_reducible apply endTwin_kept
    | with_reducible apply formResponse_kept
    | with_reducible apply finishEntry_kept
    | with_reducible apply dropWork_kept
    | with_reducible apply kept_ite
    | simp only [↓kept_upd_iff, implies_true, hfell, hdig, hbnk, hobs, hscr, hcol, hgov, hcmd, htaps, hjrn, hesc, hrecd, hseq, hfab, hcellar, hwords, Bool.false_eq_true, false_implies]
    | dsimp only
    | split

theorem doStartSkidNow_kept  (hdig : m.leaves .dig = false) (hbnk : m.leaves .bnk = false) (hobs : m.leaves .obs = false) (hscr : m.leaves .scr = false) (hcol : m.leaves .col = false) (hgov : m.leaves .gov = false) (hcmd : m.leaves .cmd = false) (htaps : m.leaves .taps = false) (hjrn : m.leaves .jrn = false) (hesc : m.leaves .esc = false) (hrecd : m.leaves .recd = false) (hseq : m.leaves .seq = false) (hfab : m.leaves .fab = false) (hwords : m.leaves .words = false) (h : Kept m a s) : Kept m a (doStartSkidNow s) := by
  unfold doStartSkidNow
  repeat' first
    | with_reducible assumption
    | intro _
    | with_reducible apply startSkid_kept
    | with_reducible apply takeReq_kept
    | with_reducible apply formResponse_kept
    | with_reducible apply kept_ite
    | dsimp only
    | split

theorem doReplay_kept  (hdig : m.leaves .dig = false) (hbnk : m.leaves .bnk = false) (hobs : m.leaves .obs = false) (hcol : m.leaves .col = false) (hgov : m.leaves .gov = false) (hcmd : m.leaves .cmd = false) (htaps : m.leaves .taps = false) (hjrn : m.leaves .jrn = false) (hesc : m.leaves .esc = false) (hrecd : m.leaves .recd = false) (hseq : m.leaves .seq = false) (hfab : m.leaves .fab = false) (hwords : m.leaves .words = false) (h : Kept m a s) : Kept m a (doReplay s) := by
  unfold doReplay
  repeat' first
    | with_reducible assumption
    | intro _
    | with_reducible apply takeReq_kept
    | with_reducible apply formResponse_kept
    | with_reducible apply replaySlot_kept
    | with_reducible apply kept_ite
    | dsimp only
    | split

theorem doUnreplayable_kept  (hdig : m.leaves .dig = false) (hobs : m.leaves .obs = false) (hcol : m.leaves .col = false) (hcmd : m.leaves .cmd = false) (hjrn : m.leaves .jrn = false) (hesc : m.leaves .esc = false) (hrecd : m.leaves .recd = false) (hseq : m.leaves .seq = false) (hfab : m.leaves .fab = false) (h : Kept m a s) : Kept m a (doUnreplayable s) := by
  unfold doUnreplayable
  repeat' first
    | with_reducible assumption
    | intro _
    | with_reducible apply takeReq_kept
    | with_reducible apply formResponse_kept
    | with_reducible apply unreplayable_kept
    | with_reducible apply kept_ite
    | dsimp only
    | split

theorem doWithdrawCert_kept  (hdig : m.leaves .dig = false) (hcol : m.leaves .col = false) (hcmd : m.leaves .cmd = false) (hseq : m.leaves .seq = false) (hfab : m.leaves .fab = false) (h : Kept m a s) : Kept m a (doWithdrawCert s) := by
  unfold doWithdrawCert
  repeat' first
    | with_reducible assumption
    | intro _
    | with_reducible apply takeReq_kept
    | with_reducible apply formResponse_kept
    | with_reducible apply withdrawCert_kept
    | with_reducible apply kept_ite
    | dsimp only
    | split

theorem replayNamed_kept {e : Intake} (hdig : m.leaves .dig = false) (hbnk : m.leaves .bnk = false) (hobs : m.leaves .obs = false) (hcol : m.leaves .col = false) (hgov : m.leaves .gov = false) (hcmd : m.leaves .cmd = false) (htaps : m.leaves .taps = false) (hjrn : m.leaves .jrn = false) (hesc : m.leaves .esc = false) (hrecd : m.leaves .recd = false) (hfab : m.leaves .fab = false) (hwords : m.leaves .words = false) (h : Kept m a s) : Kept m a (replayNamed e s) := by
  unfold replayNamed
  repeat' first
    | with_reducible assumption
    | intro _
    | with_reducible apply replayCord_kept
    | with_reducible apply kept_ite
    | dsimp only
    | split

theorem takeAlarm_kept {e : Intake} (hfell : m.fell = false) (hdig : m.leaves .dig = false) (hbnk : m.leaves .bnk = false) (hobs : m.leaves .obs = false) (hscr : m.leaves .scr = false) (hcol : m.leaves .col = false) (hgov : m.leaves .gov = false) (hcmd : m.leaves .cmd = false) (htaps : m.leaves .taps = false) (hjrn : m.leaves .jrn = false) (hesc : m.leaves .esc = false) (hrecd : m.leaves .recd = false) (hseq : m.leaves .seq = false) (hfab : m.leaves .fab = false) (hcellar : m.leaves .cellar = false) (hwords : m.leaves .words = false) (h : Kept m a s) : Kept m a (takeAlarm e s) := by
  unfold takeAlarm
  repeat' first
    | with_reducible assumption
    | intro _
    | with_reducible apply finishEntry_kept
    | with_reducible apply whenS_kept
    | with_reducible apply rehearsalEnds_kept
    | with_reducible apply addWork_kept
    | with_reducible apply rehearsedAlarm_kept
    | with_reducible apply releaseRecord_kept
    | with_reducible apply deferTile_kept
    | with_reducible apply kept_ite
    | simp only [↓kept_upd_iff, implies_true, hfell, hdig, hbnk, hobs, hscr, hcol, hgov, hcmd, htaps, hjrn, hesc, hrecd, hseq, hfab, hcellar, hwords, Bool.false_eq_true, false_implies]
    | dsimp only
    | split

theorem takeErc_kept {e : Intake} (hfell : m.fell = false) (hdig : m.leaves .dig = false) (hbnk : m.leaves .bnk = false) (hobs : m.leaves .obs = false) (hscr : m.leaves .scr = false) (hcol : m.leaves .col = false) (hgov : m.leaves .gov = false) (hcmd : m.leaves .cmd = false) (htaps : m.leaves .taps = false) (hjrn : m.leaves .jrn = false) (hesc : m.leaves .esc = false) (hrecd : m.leaves .recd = false) (hseq : m.leaves .seq = false) (hfab : m.leaves .fab = false) (hcellar : m.leaves .cellar = false) (hwords : m.leaves .words = false) (h : Kept m a s) : Kept m a (takeErc e s) := by
  unfold takeErc
  repeat' first
    | with_reducible assumption
    | intro _
    | with_reducible apply finishEntry_kept
    | with_reducible apply beginPin_kept
    | with_reducible apply replaySuspects_kept
    | with_reducible apply kept_ite
    | dsimp only
    | split

theorem takeConfirmed_kept {e : Intake} (hfell : m.fell = false) (hdig : m.leaves .dig = false) (hbnk : m.leaves .bnk = false) (hobs : m.leaves .obs = false) (hscr : m.leaves .scr = false) (hcol : m.leaves .col = false) (hgov : m.leaves .gov = false) (hcmd : m.leaves .cmd = false) (htaps : m.leaves .taps = false) (hjrn : m.leaves .jrn = false) (hesc : m.leaves .esc = false) (hrecd : m.leaves .recd = false) (hseq : m.leaves .seq = false) (hfab : m.leaves .fab = false) (hcellar : m.leaves .cellar = false) (hwords : m.leaves .words = false) (h : Kept m a s) : Kept m a (takeConfirmed e s) := by
  unfold takeConfirmed
  repeat' first
    | with_reducible assumption
    | intro _
    | with_reducible apply beginPin_kept
    | with_reducible apply dropWork_kept
    | with_reducible apply finishEntry_kept
    | with_reducible apply replayNamed_kept
    | with_reducible apply kept_ite
    | simp only [↓kept_upd_iff, implies_true, hfell, hdig, hbnk, hobs, hscr, hcol, hgov, hcmd, htaps, hjrn, hesc, hrecd, hseq, hfab, hcellar, hwords, Bool.false_eq_true, false_implies]
    | dsimp only
    | split

theorem takeMismatch_kept {e : Intake} (hfell : m.fell = false) (hdig : m.leaves .dig = false) (hbnk : m.leaves .bnk = false) (hobs : m.leaves .obs = false) (hscr : m.leaves .scr = false) (hcol : m.leaves .col = false) (hgov : m.leaves .gov = false) (hcmd : m.leaves .cmd = false) (htaps : m.leaves .taps = false) (hjrn : m.leaves .jrn = false) (hesc : m.leaves .esc = false) (hrecd : m.leaves .recd = false) (hseq : m.leaves .seq = false) (hfab : m.leaves .fab = false) (hcellar : m.leaves .cellar = false) (hwords : m.leaves .words = false) (h : Kept m a s) : Kept m a (takeMismatch e s) := by
  unfold takeMismatch
  repeat' first
    | with_reducible assumption
    | intro _
    | with_reducible apply addWork_kept
    | with_reducible apply finishEntry_kept
    | with_reducible apply kept_ite
    | simp only [↓kept_upd_iff, implies_true, hfell, hdig, hbnk, hobs, hscr, hcol, hgov, hcmd, htaps, hjrn, hesc, hrecd, hseq, hfab, hcellar, hwords, Bool.false_eq_true, false_implies]
    | dsimp only
    | split

theorem takeTwin_kept {e : Intake} (hfell : m.fell = false) (hdig : m.leaves .dig = false) (hbnk : m.leaves .bnk = false) (hobs : m.leaves .obs = false) (hscr : m.leaves .scr = false) (hcol : m.leaves .col = false) (hgov : m.leaves .gov = false) (hcmd : m.leaves .cmd = false) (htaps : m.leaves .taps = false) (hjrn : m.leaves .jrn = false) (hesc : m.leaves .esc = false) (hrecd : m.leaves .recd = false) (hseq : m.leaves .seq = false) (hfab : m.leaves .fab = false) (hcellar : m.leaves .cellar = false) (hwords : m.leaves .words = false) (h : Kept m a s) : Kept m a (takeTwin e s) := by
  unfold takeTwin
  repeat' first
    | with_reducible assumption
    | intro _
    | with_reducible apply finishEntry_kept
    | with_reducible apply whenS_kept
    | with_reducible apply rehearsalEnds_kept
    | with_reducible apply addWork_kept
    | with_reducible apply endTwin_kept
    | with_reducible apply kept_ite
    | dsimp only
    | split

theorem takeRehearsedErc_kept {e : Intake} (hfell : m.fell = false) (hdig : m.leaves .dig = false) (hbnk : m.leaves .bnk = false) (hobs : m.leaves .obs = false) (hscr : m.leaves .scr = false) (hcol : m.leaves .col = false) (hgov : m.leaves .gov = false) (hcmd : m.leaves .cmd = false) (htaps : m.leaves .taps = false) (hjrn : m.leaves .jrn = false) (hesc : m.leaves .esc = false) (hrecd : m.leaves .recd = false) (hseq : m.leaves .seq = false) (hfab : m.leaves .fab = false) (hcellar : m.leaves .cellar = false) (hwords : m.leaves .words = false) (h : Kept m a s) : Kept m a (takeRehearsedErc e s) := by
  unfold takeRehearsedErc
  repeat' first
    | with_reducible assumption
    | intro _
    | with_reducible apply finishEntry_kept
    | with_reducible apply updTap_kept
    | with_reducible apply rehearsalEnds_kept
    | with_reducible apply kept_ite
    | simp only [↓kept_upd_iff, implies_true, hfell, hdig, hbnk, hobs, hscr, hcol, hgov, hcmd, htaps, hjrn, hesc, hrecd, hseq, hfab, hcellar, hwords, Bool.false_eq_true, false_implies]
    | dsimp only
    | split

theorem marginSuspects_kept {e : Intake} (hcol : m.leaves .col = false) (h : Kept m a s) : Kept m a (marginSuspects e s) := by
  unfold marginSuspects
  repeat' first
    | with_reducible assumption
    | intro _
    | with_reducible apply whenS_kept
    | with_reducible apply foldS_kept
    | with_reducible apply setSuspect_kept
    | with_reducible apply kept_ite
    | dsimp only
    | split

theorem followKind_kept {e : Intake} (hfell : m.fell = false) (hdig : m.leaves .dig = false) (hbnk : m.leaves .bnk = false) (hobs : m.leaves .obs = false) (hscr : m.leaves .scr = false) (hcol : m.leaves .col = false) (hgov : m.leaves .gov = false) (hcmd : m.leaves .cmd = false) (htaps : m.leaves .taps = false) (hjrn : m.leaves .jrn = false) (hesc : m.leaves .esc = false) (hrecd : m.leaves .recd = false) (hseq : m.leaves .seq = false) (hfab : m.leaves .fab = false) (hcellar : m.leaves .cellar = false) (hwords : m.leaves .words = false) (h : Kept m a s) : Kept m a (followKind e s) := by
  unfold followKind
  repeat' first
    | with_reducible assumption
    | intro _
    | with_reducible apply takeAlarm_kept
    | with_reducible apply takeMismatch_kept
    | with_reducible apply takeTwin_kept
    | with_reducible apply takeRehearsedErc_kept
    | with_reducible apply finishEntry_kept
    | with_reducible apply takeErc_kept
    | with_reducible apply takeConfirmed_kept
    | with_reducible apply replayNamed_kept
    | with_reducible apply whenS_kept
    | with_reducible apply replaySuspects_kept
    | with_reducible apply marginSuspects_kept
    | with_reducible apply kept_ite
    | dsimp only
    | split

theorem takeOverflow_kept {e : Intake} (hfell : m.fell = false) (hdig : m.leaves .dig = false) (hbnk : m.leaves .bnk = false) (hobs : m.leaves .obs = false) (hscr : m.leaves .scr = false) (hcol : m.leaves .col = false) (hgov : m.leaves .gov = false) (hcmd : m.leaves .cmd = false) (htaps : m.leaves .taps = false) (hjrn : m.leaves .jrn = false) (hesc : m.leaves .esc = false) (hrecd : m.leaves .recd = false) (hseq : m.leaves .seq = false) (hfab : m.leaves .fab = false) (hcellar : m.leaves .cellar = false) (hwords : m.leaves .words = false) (h : Kept m a s) : Kept m a (takeOverflow e s) := by
  unfold takeOverflow
  repeat' first
    | with_reducible assumption
    | intro _
    | with_reducible apply finishEntry_kept
    | with_reducible apply foldS_kept
    | with_reducible apply followKind_kept
    | with_reducible apply kept_ite
    | simp only [↓kept_upd_iff, implies_true, hfell, hdig, hbnk, hobs, hscr, hcol, hgov, hcmd, htaps, hjrn, hesc, hrecd, hseq, hfab, hcellar, hwords, Bool.false_eq_true, false_implies]
    | dsimp only
    | split

theorem followUp_kept {e : Intake} (hfell : m.fell = false) (hdig : m.leaves .dig = false) (hbnk : m.leaves .bnk = false) (hobs : m.leaves .obs = false) (hscr : m.leaves .scr = false) (hcol : m.leaves .col = false) (hgov : m.leaves .gov = false) (hcmd : m.leaves .cmd = false) (htaps : m.leaves .taps = false) (hjrn : m.leaves .jrn = false) (hesc : m.leaves .esc = false) (hrecd : m.leaves .recd = false) (hseq : m.leaves .seq = false) (hfab : m.leaves .fab = false) (hcellar : m.leaves .cellar = false) (hwords : m.leaves .words = false) (h : Kept m a s) : Kept m a (followUp e s) := by
  unfold followUp
  repeat' first
    | with_reducible assumption
    | intro _
    | with_reducible apply takeOverflow_kept
    | with_reducible apply followKind_kept
    | with_reducible apply kept_ite
    | dsimp only
    | split

theorem doIntakeEntry_kept  (hfell : m.fell = false) (hdig : m.leaves .dig = false) (hbnk : m.leaves .bnk = false) (hobs : m.leaves .obs = false) (hscr : m.leaves .scr = false) (hcol : m.leaves .col = false) (hgov : m.leaves .gov = false) (hcmd : m.leaves .cmd = false) (htaps : m.leaves .taps = false) (hjrn : m.leaves .jrn = false) (hesc : m.leaves .esc = false) (hrecd : m.leaves .recd = false) (hseq : m.leaves .seq = false) (hfab : m.leaves .fab = false) (hcellar : m.leaves .cellar = false) (hwords : m.leaves .words = false) (h : Kept m a s) : Kept m a (doIntakeEntry s) := by
  unfold doIntakeEntry
  repeat' first
    | with_reducible assumption
    | intro _
    | with_reducible apply followUp_kept
    | with_reducible apply popIntake_kept
    | with_reducible apply kept_ite
    | dsimp only
    | split

/-! ### Deliver -/

theorem recallFailed_kept {i : Nat} {reuse : Nat} (hdig : m.leaves .dig = false) (hobs : m.leaves .obs = false) (hcol : m.leaves .col = false) (hgov : m.leaves .gov = false) (hcmd : m.leaves .cmd = false) (htaps : m.leaves .taps = false) (hjrn : m.leaves .jrn = false) (hesc : m.leaves .esc = false) (hfab : m.leaves .fab = false) (h : Kept m a s) : Kept m a (recallFailed i reuse s) := by
  unfold recallFailed
  repeat' first
    | with_reducible assumption
    | intro _
    | with_reducible apply sweepSends_kept
    | with_reducible apply freeEntry_kept
    | with_reducible apply emit_kept
    | with_reducible apply applyRecant_kept
    | with_reducible apply kept_ite
    | dsimp only
    | split

theorem branchDone_kept {good : Bool} {b : Branch} (hdig : m.leaves .dig = false) (hobs : m.leaves .obs = false) (hcol : m.leaves .col = false) (hgov : m.leaves .gov = false) (hcmd : m.leaves .cmd = false) (htaps : m.leaves .taps = false) (hjrn : m.leaves .jrn = false) (hesc : m.leaves .esc = false) (hfab : m.leaves .fab = false) (h : Kept m a s) : Kept m a (branchDone good b s) := by
  unfold branchDone
  repeat' first
    | with_reducible assumption
    | intro _
    | with_reducible apply whenS_kept
    | with_reducible apply raiseFabric_kept
    | with_reducible apply escBranchFailed_kept
    | with_reducible apply recallFailed_kept
    | with_reducible apply stopArrive_kept
    | with_reducible apply updStop_kept
    | with_reducible apply updMcast_kept
    | with_reducible apply kept_ite
    | simp only [↓kept_upd_iff, implies_true, hdig, hobs, hcol, hgov, hcmd, htaps, hjrn, hesc, hfab, Bool.false_eq_true, false_implies]
    | dsimp only
    | split

theorem updBranch_kept {mseq : Nat} {dst : Nat} {f : Branch → Branch} (hfab : m.leaves .fab = false) (h : Kept m a s) : Kept m a (updBranch mseq dst f s) := by
  unfold updBranch
  repeat' first
    | with_reducible assumption
    | intro _
    | with_reducible apply kept_ite
    | simp only [↓kept_upd_iff, implies_true, hfab, Bool.false_eq_true, false_implies]
    | dsimp only
    | split

theorem doBranchRetry_kept {mseq : Nat} {dst : Nat} (hfab : m.leaves .fab = false) (h : Kept m a s) : Kept m a (doBranchRetry mseq dst s) := by
  unfold doBranchRetry
  repeat' first
    | with_reducible assumption
    | intro _
    | with_reducible apply emit_kept
    | with_reducible apply updBranch_kept
    | with_reducible apply kept_ite
    | simp only [↓kept_upd_iff, implies_true, hfab, Bool.false_eq_true, false_implies]
    | dsimp only
    | split

theorem doRateWindow_kept  (hobs : m.leaves .obs = false) (hgov : m.leaves .gov = false) (hcmd : m.leaves .cmd = false) (hfab : m.leaves .fab = false) (h : Kept m a s) : Kept m a (doRateWindow s) := by
  unfold doRateWindow
  repeat' first
    | with_reducible assumption
    | intro _
    | with_reducible apply releaseXfers_kept
    | with_reducible apply releaseVcs_kept
    | with_reducible apply kept_ite
    | simp only [↓kept_upd_iff, implies_true, hobs, hgov, hcmd, hfab, Bool.false_eq_true, false_implies]
    | dsimp only
    | split

theorem countLanded_kept {c : Nat} {x : W128} {slot : Nat} {len : Nat} (hcol : m.leaves .col = false) (hfab : m.leaves .fab = false) (h : Kept m a s) : Kept m a (countLanded c x slot len s) := by
  unfold countLanded
  repeat' first
    | with_reducible assumption
    | intro _
    | with_reducible apply acctLost_kept
    | with_reducible apply captureSend_kept
    | with_reducible apply kept_ite
    | simp only [↓kept_upd_iff, implies_true, hcol, hfab, Bool.false_eq_true, false_implies]
    | dsimp only
    | split

theorem doArrivalReport_kept {x : W128} {slot : Nat} {len : Nat} (hdig : m.leaves .dig = false) (hbnk : m.leaves .bnk = false) (hobs : m.leaves .obs = false) (hcol : m.leaves .col = false) (hgov : m.leaves .gov = false) (hcmd : m.leaves .cmd = false) (htaps : m.leaves .taps = false) (hjrn : m.leaves .jrn = false) (hesc : m.leaves .esc = false) (hrecd : m.leaves .recd = false) (hfab : m.leaves .fab = false) (hwords : m.leaves .words = false) (h : Kept m a s) : Kept m a (doArrivalReport x slot len s) := by
  unfold doArrivalReport
  repeat' first
    | with_reducible assumption
    | intro _
    | with_reducible apply slotResent_kept
    | with_reducible apply countLanded_kept
    | with_reducible apply freeEntry_kept
    | with_reducible apply spreadTaint_kept
    | with_reducible apply putEntry_kept
    | with_reducible apply kept_ite
    | simp only [↓kept_upd_iff, implies_true, hdig, hbnk, hobs, hcol, hgov, hcmd, htaps, hjrn, hesc, hrecd, hfab, hwords, Bool.false_eq_true, false_implies]
    | dsimp only
    | split

theorem onLateRecant_kept {m_ : VcsMsg} (hdig : m.leaves .dig = false) (hcol : m.leaves .col = false) (hcmd : m.leaves .cmd = false) (hesc : m.leaves .esc = false) (hfab : m.leaves .fab = false) (h : Kept m a s) : Kept m a (onLateRecant m_ s) := by
  unfold onLateRecant
  repeat' first
    | with_reducible assumption
    | intro _
    | with_reducible apply escUnmatched_kept
    | with_reducible apply postRecant_kept
    | with_reducible apply noteRecant_kept
    | with_reducible apply taintEpoch_kept
    | with_reducible apply kept_ite
    | dsimp only
    | split

theorem sendRecall_kept {i : Nat} (hdig : m.leaves .dig = false) (hobs : m.leaves .obs = false) (hcol : m.leaves .col = false) (hgov : m.leaves .gov = false) (hcmd : m.leaves .cmd = false) (htaps : m.leaves .taps = false) (hjrn : m.leaves .jrn = false) (hesc : m.leaves .esc = false) (hfab : m.leaves .fab = false) (h : Kept m a s) : Kept m a (sendRecall i s) := by
  unfold sendRecall
  repeat' first
    | with_reducible assumption
    | intro _
    | with_reducible apply issueBranch_kept
    | with_reducible apply putEntry_kept
    | with_reducible apply whenS_kept
    | with_reducible apply recallFailed_kept
    | with_reducible apply kept_ite
    | simp only [↓kept_upd_iff, implies_true, hdig, hobs, hcol, hgov, hcmd, htaps, hjrn, hesc, hfab, Bool.false_eq_true, false_implies]
    | refine kept_snd (by with_reducible assumption) ?_
    | refine kept_third (by with_reducible assumption) ?_
    | dsimp only
    | split

theorem doInboundTimeout_kept {i : Nat} (hdig : m.leaves .dig = false) (hobs : m.leaves .obs = false) (hcol : m.leaves .col = false) (hgov : m.leaves .gov = false) (hcmd : m.leaves .cmd = false) (htaps : m.leaves .taps = false) (hjrn : m.leaves .jrn = false) (hesc : m.leaves .esc = false) (hfab : m.leaves .fab = false) (h : Kept m a s) : Kept m a (doInboundTimeout i s) := by
  unfold doInboundTimeout
  repeat' first
    | with_reducible assumption
    | intro _
    | with_reducible apply sendRecall_kept
    | with_reducible apply kept_ite
    | dsimp only
    | split

theorem entryError_kept {i : Nat} (hdig : m.leaves .dig = false) (hobs : m.leaves .obs = false) (hcol : m.leaves .col = false) (hgov : m.leaves .gov = false) (hcmd : m.leaves .cmd = false) (htaps : m.leaves .taps = false) (hjrn : m.leaves .jrn = false) (hesc : m.leaves .esc = false) (hfab : m.leaves .fab = false) (h : Kept m a s) : Kept m a (entryError i s) := by
  unfold entryError
  repeat' first
    | with_reducible assumption
    | intro _
    | with_reducible apply sendRecall_kept
    | with_reducible apply dropHeld_kept
    | with_reducible apply countDrop_kept
    | with_reducible apply sendRecant_kept
    | with_reducible apply raiseHub_kept
    | with_reducible apply kept_ite
    | dsimp only
    | split

theorem doEscExpired_kept {i : Nat} (hdig : m.leaves .dig = false) (hobs : m.leaves .obs = false) (hcol : m.leaves .col = false) (hcmd : m.leaves .cmd = false) (hesc : m.leaves .esc = false) (hfab : m.leaves .fab = false) (h : Kept m a s) : Kept m a (doEscExpired i s) := by
  unfold doEscExpired
  repeat' first
    | with_reducible assumption
    | intro _
    | with_reducible apply freeEntry_kept
    | with_reducible apply raiseHub_kept
    | with_reducible apply kept_ite
    | simp only [↓kept_upd_iff, implies_true, hdig, hobs, hcol, hcmd, hesc, hfab, Bool.false_eq_true, false_implies]
    | dsimp only
    | split

theorem doBranchFailedExpiry_kept {i : Nat} (hdig : m.leaves .dig = false) (hobs : m.leaves .obs = false) (hcol : m.leaves .col = false) (hcmd : m.leaves .cmd = false) (hesc : m.leaves .esc = false) (hfab : m.leaves .fab = false) (h : Kept m a s) : Kept m a (doBranchFailedExpiry i s) := by
  unfold doBranchFailedExpiry
  repeat' first
    | with_reducible assumption
    | intro _
    | with_reducible apply freeEntry_kept
    | with_reducible apply kept_ite
    | dsimp only
    | split

/-! ### Rings -/

theorem skipBad_kept {n c : Nat} (hcmd : m.leaves .cmd = false) (h : Kept m a s) : Kept m a (skipBad n c s) := by
  induction n generalizing s with
  | zero => exact h
  | succ n ih =>
    unfold skipBad
    split
    · split
      · exact h
      · exact ih (completeCmd_kept (by assumption) (startHeld_kept (by assumption) h))
    · exact h

theorem fetchMore_kept {c : Nat} (hcmd : m.leaves .cmd = false) (hfab : m.leaves .fab = false) (h : Kept m a s) : Kept m a (fetchMore c s) := by
  unfold fetchMore
  repeat' first
    | with_reducible assumption
    | intro _
    | with_reducible apply foldS_kept
    | with_reducible apply streamRead_kept
    | with_reducible apply updComp_kept
    | with_reducible apply kept_ite
    | simp only [↓kept_upd_iff, implies_true, hcmd, hfab, Bool.false_eq_true, false_implies]
    | dsimp only
    | split

theorem doCmdqTailWrite_kept {c : Nat} {v : Nat} (hcmd : m.leaves .cmd = false) (hfab : m.leaves .fab = false) (h : Kept m a s) : Kept m a (doCmdqTailWrite c v s) := by
  unfold doCmdqTailWrite
  repeat' first
    | with_reducible assumption
    | intro _
    | with_reducible apply updComp_kept
    | with_reducible apply fetchMore_kept
    | with_reducible apply kept_ite
    | simp only [↓kept_upd_iff, implies_true, hcmd, hfab, Bool.false_eq_true, false_implies]
    | dsimp only
    | split

theorem dropXfers_kept {p : XferFor → Bool} (hcmd : m.leaves .cmd = false) (h : Kept m a s) : Kept m a (dropXfers p s) := by
  unfold dropXfers
  repeat' first
    | with_reducible assumption
    | intro _
    | with_reducible apply kept_ite
    | simp only [↓kept_upd_iff, implies_true, hcmd, Bool.false_eq_true, false_implies]
    | dsimp only
    | split

theorem doCmdqEnable_kept {c : Nat} {v : Nat} (hcmd : m.leaves .cmd = false) (hjregs : m.leaves .jregs = false) (h : Kept m a s) : Kept m a (doCmdqEnable c v s) := by
  unfold doCmdqEnable
  repeat' first
    | with_reducible assumption
    | intro _
    | with_reducible apply updComp_kept
    | with_reducible apply State.setJf_kept
    | with_reducible apply dropXfers_kept
    | with_reducible apply kept_ite
    | simp only [↓kept_upd_iff, implies_true, hcmd, hjregs, Bool.false_eq_true, false_implies]
    | dsimp only
    | split

theorem doCplqEnable_kept {c : Nat} {v : Nat} (hcmd : m.leaves .cmd = false) (hjregs : m.leaves .jregs = false) (h : Kept m a s) : Kept m a (doCplqEnable c v s) := by
  unfold doCplqEnable
  repeat' first
    | with_reducible assumption
    | intro _
    | with_reducible apply updComp_kept
    | with_reducible apply State.setJf_kept
    | with_reducible apply dropXfers_kept
    | with_reducible apply kept_ite
    | simp only [↓kept_upd_iff, implies_true, hcmd, hjregs, Bool.false_eq_true, false_implies]
    | dsimp only
    | split

theorem doCplqHeadWrite_kept {c : Nat} {v : Nat} (hcmd : m.leaves .cmd = false) (h : Kept m a s) : Kept m a (doCplqHeadWrite c v s) := by
  unfold doCplqHeadWrite
  repeat' first
    | with_reducible assumption
    | intro _
    | with_reducible apply updComp_kept
    | with_reducible apply kept_ite
    | simp only [↓kept_upd_iff, implies_true, hcmd, Bool.false_eq_true, false_implies]
    | dsimp only
    | split

theorem takePackets_kept {c : Nat} {ps : List (BitVec 512)} (hcmd : m.leaves .cmd = false) (h : Kept m a s) : Kept m a (takePackets c ps s) := by
  unfold takePackets
  repeat' first
    | with_reducible assumption
    | intro _
    | with_reducible apply skipBad_kept
    | with_reducible apply updComp_kept
    | with_reducible apply kept_ite
    | simp only [↓kept_upd_iff, implies_true, hcmd, Bool.false_eq_true, false_implies]
    | dsimp only
    | split

theorem doCommandFetch_kept {c : Nat} {packets : List (BitVec 512)} (hcmd : m.leaves .cmd = false) (h : Kept m a s) : Kept m a (doCommandFetch c packets s) := by
  unfold doCommandFetch
  repeat' first
    | with_reducible assumption
    | intro _
    | with_reducible apply takePackets_kept
    | with_reducible apply kept_ite
    | simp only [↓kept_upd_iff, implies_true, hcmd, Bool.false_eq_true, false_implies]
    | dsimp only
    | split

theorem doCompletionWrite_kept {c : Nat} (hcmd : m.leaves .cmd = false) (hfab : m.leaves .fab = false) (h : Kept m a s) : Kept m a (doCompletionWrite c s) := by
  unfold doCompletionWrite
  repeat' first
    | with_reducible assumption
    | intro _
    | with_reducible apply updComp_kept
    | with_reducible apply streamWrite_kept
    | with_reducible apply kept_ite
    | simp only [↓kept_upd_iff, implies_true, hcmd, hfab, Bool.false_eq_true, false_implies]
    | dsimp only
    | split

theorem recordOver_kept {c : Nat} {r : W256} (hcmd : m.leaves .cmd = false) (hfab : m.leaves .fab = false) (h : Kept m a s) : Kept m a (recordOver c r s) := by
  unfold recordOver
  repeat' first
    | with_reducible assumption
    | intro _
    | with_reducible apply fetchMore_kept
    | with_reducible apply skipBad_kept
    | with_reducible apply updComp_kept
    | with_reducible apply kept_ite
    | simp only [↓kept_upd_iff, implies_true, hcmd, hfab, Bool.false_eq_true, false_implies]
    | dsimp only
    | split

theorem writeEnds_kept {good : Bool} {u : XferFor} (hbnk : m.leaves .bnk = false) (hobs : m.leaves .obs = false) (hcol : m.leaves .col = false) (hcmd : m.leaves .cmd = false) (hjrn : m.leaves .jrn = false) (hfab : m.leaves .fab = false) (hwords : m.leaves .words = false) (h : Kept m a s) : Kept m a (writeEnds good u s) := by
  unfold writeEnds
  repeat' first
    | with_reducible assumption
    | intro _
    | with_reducible apply dropXfers_kept
    | with_reducible apply recordOver_kept
    | with_reducible apply updComp_kept
    | with_reducible apply dropRecord_kept
    | with_reducible apply trace_kept
    | with_reducible apply setTrace_kept
    | with_reducible apply whenS_kept
    | with_reducible apply spillDone_kept
    | with_reducible apply completeCmd_kept
    | with_reducible apply finishCut_kept
    | with_reducible apply ringFetch_kept
    | with_reducible apply kept_ite
    | simp only [↓kept_upd_iff, implies_true, hbnk, hobs, hcol, hcmd, hjrn, hfab, hwords, Bool.false_eq_true, false_implies]
    | refine kept_snd (by with_reducible assumption) ?_
    | refine kept_third (by with_reducible assumption) ?_
    | dsimp only
    | split

theorem readFails_kept {x : Xfer} (hdig : m.leaves .dig = false) (hbnk : m.leaves .bnk = false) (hobs : m.leaves .obs = false) (hcol : m.leaves .col = false) (hgov : m.leaves .gov = false) (hcmd : m.leaves .cmd = false) (htaps : m.leaves .taps = false) (hjrn : m.leaves .jrn = false) (hesc : m.leaves .esc = false) (hrecd : m.leaves .recd = false) (hfab : m.leaves .fab = false) (hwords : m.leaves .words = false) (h : Kept m a s) : Kept m a (readFails x s) := by
  unfold readFails
  repeat' first
    | with_reducible assumption
    | intro _
    | with_reducible apply fetchMore_kept
    | with_reducible apply postRecord_kept
    | with_reducible apply updComp_kept
    | with_reducible apply ringFetch_kept
    | with_reducible apply doRingFetch_kept
    | with_reducible apply completeCmd_kept
    | with_reducible apply dropXfers_kept
    | with_reducible apply kept_ite
    | simp only [↓kept_upd_iff, implies_true, hdig, hbnk, hobs, hcol, hgov, hcmd, htaps, hjrn, hesc, hrecd, hfab, hwords, Bool.false_eq_true, false_implies]
    | refine kept_snd (by with_reducible assumption) ?_
    | refine kept_third (by with_reducible assumption) ?_
    | dsimp only
    | split

theorem voteArrives_kept {c : Nat} {tag : Nat} {ws : List W256} (hdig : m.leaves .dig = false) (hcmd : m.leaves .cmd = false) (h : Kept m a s) : Kept m a (voteArrives c tag ws s) := by
  unfold voteArrives
  repeat' first
    | with_reducible assumption
    | intro _
    | with_reducible apply completeCmd_kept
    | with_reducible apply voteSet_kept
    | with_reducible apply kept_ite
    | simp only [↓kept_upd_iff, implies_true, hdig, hcmd, Bool.false_eq_true, false_implies]
    | dsimp only
    | split

theorem readGood_kept {x : Xfer} {blazed : Bool} {ws : List W256} (hdig : m.leaves .dig = false) (hbnk : m.leaves .bnk = false) (hobs : m.leaves .obs = false) (hcol : m.leaves .col = false) (hgov : m.leaves .gov = false) (hcmd : m.leaves .cmd = false) (htaps : m.leaves .taps = false) (hjrn : m.leaves .jrn = false) (hesc : m.leaves .esc = false) (hrecd : m.leaves .recd = false) (hfab : m.leaves .fab = false) (hwords : m.leaves .words = false) (h : Kept m a s) : Kept m a (readGood x blazed ws s) := by
  unfold readGood
  repeat' first
    | with_reducible assumption
    | intro _
    | with_reducible apply readFails_kept
    | with_reducible apply takePackets_kept
    | with_reducible apply ringFetch_kept
    | with_reducible apply doRingFetch_kept
    | with_reducible apply voteArrives_kept
    | with_reducible apply kept_ite
    | simp only [↓kept_upd_iff, implies_true, hdig, hbnk, hobs, hcol, hgov, hcmd, htaps, hjrn, hesc, hrecd, hfab, hwords, Bool.false_eq_true, false_implies]
    | refine kept_snd (by with_reducible assumption) ?_
    | refine kept_third (by with_reducible assumption) ?_
    | dsimp only
    | split

theorem doReadData_kept {tag : Nat} {status : Nat} {data : List (BitVec 288)} (hdig : m.leaves .dig = false) (hbnk : m.leaves .bnk = false) (hobs : m.leaves .obs = false) (hcol : m.leaves .col = false) (hgov : m.leaves .gov = false) (hcmd : m.leaves .cmd = false) (htaps : m.leaves .taps = false) (hjrn : m.leaves .jrn = false) (hesc : m.leaves .esc = false) (hrecd : m.leaves .recd = false) (hfab : m.leaves .fab = false) (hwords : m.leaves .words = false) (h : Kept m a s) : Kept m a (doReadData tag status data s) := by
  unfold doReadData
  repeat' first
    | with_reducible assumption
    | intro _
    | with_reducible apply readFails_kept
    | with_reducible apply raiseHub_kept
    | with_reducible apply issueXfer_kept
    | with_reducible apply readGood_kept
    | with_reducible apply kept_ite
    | simp only [↓kept_upd_iff, implies_true, hdig, hbnk, hobs, hcol, hgov, hcmd, htaps, hjrn, hesc, hrecd, hfab, hwords, Bool.false_eq_true, false_implies]
    | dsimp only
    | split

theorem doWack_kept {tag : Nat} {status : Nat} (hbnk : m.leaves .bnk = false) (hobs : m.leaves .obs = false) (hcol : m.leaves .col = false) (hcmd : m.leaves .cmd = false) (hjrn : m.leaves .jrn = false) (hfab : m.leaves .fab = false) (hwords : m.leaves .words = false) (h : Kept m a s) : Kept m a (doWack tag status s) := by
  unfold doWack
  repeat' first
    | with_reducible assumption
    | intro _
    | with_reducible apply writeEnds_kept
    | with_reducible apply kept_ite
    | simp only [↓kept_upd_iff, implies_true, hbnk, hobs, hcol, hcmd, hjrn, hfab, hwords, Bool.false_eq_true, false_implies]
    | dsimp only
    | split

theorem doStreamTimeout_kept {tag : Nat} (hdig : m.leaves .dig = false) (hbnk : m.leaves .bnk = false) (hobs : m.leaves .obs = false) (hcol : m.leaves .col = false) (hgov : m.leaves .gov = false) (hcmd : m.leaves .cmd = false) (htaps : m.leaves .taps = false) (hjrn : m.leaves .jrn = false) (hesc : m.leaves .esc = false) (hrecd : m.leaves .recd = false) (hfab : m.leaves .fab = false) (hwords : m.leaves .words = false) (h : Kept m a s) : Kept m a (doStreamTimeout tag s) := by
  unfold doStreamTimeout
  repeat' first
    | with_reducible assumption
    | intro _
    | with_reducible apply writeEnds_kept
    | with_reducible apply readFails_kept
    | with_reducible apply kept_ite
    | simp only [↓kept_upd_iff, implies_true, hdig, hbnk, hobs, hcol, hgov, hcmd, htaps, hjrn, hesc, hrecd, hfab, hwords, Bool.false_eq_true, false_implies]
    | dsimp only
    | split

/-! ### HostCmd -/

theorem runCmd_kept {op : Nat} {used : List (Nat × Nat)} {f : Nat → State → State} {c : Nat} {pkt : BitVec 512} (hf : ∀ x0 t, Kept m a t → Kept m a (f x0 t)) (hcmd : m.leaves .cmd = false) (h : Kept m a s) : Kept m a (runCmd op used f c pkt s) := by
  unfold runCmd
  repeat' first
    | with_reducible assumption
    | intro _
    | with_reducible apply startHeld_kept
    | with_reducible apply skipBad_kept
    | with_reducible apply completeCmd_kept
    | with_reducible apply hf
    | with_reducible apply kept_ite
    | dsimp only
    | split

theorem statusCmd_kept {op : Nat} {used : List (Nat × Nat)} {f : State → Nat × Nat × State} {c : Nat} {pkt : BitVec 512} (hf : ∀  t, Kept m a t → Kept m a (f  t).2.2) (hcmd : m.leaves .cmd = false) (h : Kept m a s) : Kept m a (statusCmd op used f c pkt s) := by
  unfold statusCmd
  repeat' first
    | with_reducible assumption
    | intro _
    | with_reducible apply runCmd_kept
    | with_reducible apply completeCmd_kept
    | with_reducible apply hf
    | with_reducible apply kept_ite
    | dsimp only
    | split

theorem plainCmd_kept {op : Nat} {used : List (Nat × Nat)} {f : State → Nat × State} {c : Nat} {pkt : BitVec 512} (hf : ∀  t, Kept m a t → Kept m a (f  t).2) (hcmd : m.leaves .cmd = false) (h : Kept m a s) : Kept m a (plainCmd op used f c pkt s) := by
  unfold plainCmd
  repeat' first
    | with_reducible assumption
    | intro _
    | with_reducible apply statusCmd_kept
    | with_reducible apply hf
    | with_reducible apply kept_ite
    | dsimp only
    | split

theorem doReopen_kept {c : Nat} {mode : Nat} {e : Nat} (hdig : m.leaves .dig = false) (hcol : m.leaves .col = false) (hcmd : m.leaves .cmd = false) (h : Kept m a s) : Kept m a (doReopen c mode e s).2 := by
  unfold doReopen
  repeat' first
    | with_reducible assumption
    | intro _
    | with_reducible apply whenS_kept
    | with_reducible apply applyVote_kept
    | with_reducible apply liftStop_kept
    | with_reducible apply openCheck_kept
    | with_reducible apply updComp_kept
    | with_reducible apply kept_ite
    | with_reducible apply kept_ite_snd
    | simp only [↓kept_upd_iff, implies_true, hdig, hcol, hcmd, Bool.false_eq_true, false_implies]
    | dsimp only
    | split

theorem doFenceReq_kept {c : Nat} {l : Loc} {act : Nat} {tag : Nat} (hcol : m.leaves .col = false) (hcmd : m.leaves .cmd = false) (h : Kept m a s) : Kept m a (doFenceReq c l act tag s) := by
  unfold doFenceReq
  repeat' first
    | with_reducible assumption
    | intro _
    | with_reducible apply completeCmd_kept
    | with_reducible apply raiseHub_kept
    | with_reducible apply kept_ite
    | simp only [↓kept_upd_iff, implies_true, hcol, hcmd, Bool.false_eq_true, false_implies]
    | dsimp only
    | split

theorem doLatchCmd_kept {c : Nat} {o : W128} {tag : Nat} (hdig : m.leaves .dig = false) (hobs : m.leaves .obs = false) (hcol : m.leaves .col = false) (hcmd : m.leaves .cmd = false) (hfab : m.leaves .fab = false) (h : Kept m a s) : Kept m a (doLatchCmd c o tag s) := by
  unfold doLatchCmd
  repeat' first
    | with_reducible assumption
    | intro _
    | with_reducible apply completeCmd_kept
    | with_reducible apply digestArrival_kept
    | with_reducible apply releaseArrivals_kept
    | with_reducible apply updDig_kept
    | with_reducible apply startLatch_kept
    | with_reducible apply kept_ite
    | simp only [↓kept_upd_iff, implies_true, hdig, hobs, hcol, hcmd, hfab, Bool.false_eq_true, false_implies]
    | dsimp only
    | split

theorem doTensorRead_kept {c : Nat} {slot : Nat} (h : Kept m a s) : Kept m a (doTensorRead c slot s).2.2 := by
  unfold doTensorRead
  repeat' first
    | with_reducible assumption
    | intro _
    | with_reducible apply kept_ite
    | with_reducible apply kept_ite_third
    | dsimp only
    | split

theorem doVoteSet_kept {c : Nat} {addr : Nat} {tag : Nat} (hcmd : m.leaves .cmd = false) (hfab : m.leaves .fab = false) (h : Kept m a s) : Kept m a (doVoteSet c addr tag s) := by
  unfold doVoteSet
  repeat' first
    | with_reducible assumption
    | intro _
    | with_reducible apply completeCmd_kept
    | with_reducible apply streamRead_kept
    | with_reducible apply kept_ite
    | dsimp only
    | split

theorem doCertify_kept {c : Nat} {e : Nat} {tag : Nat} (hdig : m.leaves .dig = false) (hcol : m.leaves .col = false) (hcmd : m.leaves .cmd = false) (h : Kept m a s) : Kept m a (doCertify c e tag s) := by
  unfold doCertify
  repeat' first
    | with_reducible assumption
    | intro _
    | with_reducible apply certify_kept
    | with_reducible apply completeCmd_kept
    | with_reducible apply kept_ite
    | refine kept_snd (by with_reducible assumption) ?_
    | refine kept_third (by with_reducible assumption) ?_
    | dsimp only
    | split

theorem doRingSet_kept {c : Nat} {base : Nat} {log2 : Nat} (hjrn : m.leaves .jrn = false) (h : Kept m a s) : Kept m a (doRingSet c base log2 s).2 := by
  unfold doRingSet
  repeat' first
    | with_reducible assumption
    | intro _
    | with_reducible apply kept_ite
    | with_reducible apply kept_ite_snd
    | simp only [↓kept_upd_iff, implies_true, hjrn, Bool.false_eq_true, false_implies]
    | with_reducible apply foldl_kept
    | with_reducible apply foldl_kept_pair
    | dsimp only
    | split

theorem moveWork_kept {c : Nat} {a_ : Loc} {b : Loc} (hobs : m.leaves .obs = false) (hgov : m.leaves .gov = false) (htaps : m.leaves .taps = false) (hjrn : m.leaves .jrn = false) (hesc : m.leaves .esc = false) (h : Kept m a s) : Kept m a (moveWork c a_ b s).2 := by
  unfold moveWork
  repeat' first
    | with_reducible assumption
    | intro _
    | with_reducible apply foldS_kept
    | with_reducible apply handOver_kept
    | with_reducible apply kept_ite
    | with_reducible apply kept_ite_snd
    | simp only [↓kept_upd_iff, implies_true, hobs, hgov, htaps, hjrn, hesc, Bool.false_eq_true, false_implies]
    | dsimp only
    | split

theorem doRetarget_kept {c : Nat} {a_ : Loc} {b : Loc} (hobs : m.leaves .obs = false) (hgov : m.leaves .gov = false) (htaps : m.leaves .taps = false) (hjrn : m.leaves .jrn = false) (hesc : m.leaves .esc = false) (h : Kept m a s) : Kept m a (doRetarget c a_ b s).2.2 := by
  unfold doRetarget
  repeat' first
    | with_reducible assumption
    | intro _
    | with_reducible apply moveWork_kept
    | with_reducible apply kept_ite
    | with_reducible apply kept_ite_third
    | refine kept_snd (by with_reducible assumption) ?_
    | refine kept_third (by with_reducible assumption) ?_
    | dsimp only
    | split

theorem castCmd_kept {c : Nat} {tag : Nat} {op : Nat} {group : Nat} {plen : Nat} {payload : Nat} (hcol : m.leaves .col = false) (hcmd : m.leaves .cmd = false) (hfab : m.leaves .fab = false) (h : Kept m a s) : Kept m a (castCmd c tag op group plen payload s) := by
  unfold castCmd
  repeat' first
    | with_reducible assumption
    | intro _
    | with_reducible apply completeCmd_kept
    | with_reducible apply sendMulti_kept
    | with_reducible apply settleMcast_kept
    | with_reducible apply kept_ite
    | simp only [↓kept_upd_iff, implies_true, hcol, hcmd, hfab, Bool.false_eq_true, false_implies]
    | refine kept_snd (by with_reducible assumption) ?_
    | refine kept_third (by with_reducible assumption) ?_
    | dsimp only
    | split

theorem doStop_kept {c : Nat} {pkt : BitVec 512} {tag : Nat} (hcol : m.leaves .col = false) (hcmd : m.leaves .cmd = false) (hfab : m.leaves .fab = false) (h : Kept m a s) : Kept m a (doStop c pkt tag s) := by
  unfold doStop
  repeat' first
    | with_reducible assumption
    | intro _
    | with_reducible apply completeCmd_kept
    | with_reducible apply castCmd_kept
    | with_reducible apply kept_ite
    | dsimp only
    | split

theorem doResume_kept {c : Nat} {pkt : BitVec 512} {tag : Nat} (hcol : m.leaves .col = false) (hcmd : m.leaves .cmd = false) (hfab : m.leaves .fab = false) (h : Kept m a s) : Kept m a (doResume c pkt tag s) := by
  unfold doResume
  repeat' first
    | with_reducible assumption
    | intro _
    | with_reducible apply completeCmd_kept
    | with_reducible apply castCmd_kept
    | with_reducible apply kept_ite
    | dsimp only
    | split

theorem doTally_kept {c : Nat} {t_ : Nat} {tag : Nat} (hobs : m.leaves .obs = false) (hcmd : m.leaves .cmd = false) (h : Kept m a s) : Kept m a (doTally c t_ tag s) := by
  unfold doTally
  repeat' first
    | with_reducible assumption
    | intro _
    | with_reducible apply orderTally_kept
    | with_reducible apply completeCmd_kept
    | with_reducible apply kept_ite
    | refine kept_snd (by with_reducible assumption) ?_
    | refine kept_third (by with_reducible assumption) ?_
    | dsimp only
    | split

theorem doCensus_kept {c : Nat} {t_ : Nat} {addr : Nat} {len : Nat} {tag : Nat} (hobs : m.leaves .obs = false) (hcmd : m.leaves .cmd = false) (h : Kept m a s) : Kept m a (doCensus c t_ addr len tag s) := by
  unfold doCensus
  repeat' first
    | with_reducible assumption
    | intro _
    | with_reducible apply completeCmd_kept
    | with_reducible apply orderCensus_kept
    | with_reducible apply kept_ite
    | refine kept_snd (by with_reducible assumption) ?_
    | refine kept_third (by with_reducible assumption) ?_
    | dsimp only
    | split

theorem doTraceMark_kept {c : Nat} {payload : Nat} (hobs : m.leaves .obs = false) (h : Kept m a s) : Kept m a (doTraceMark c payload s).2 := by
  unfold doTraceMark
  repeat' first
    | with_reducible assumption
    | intro _
    | with_reducible apply trace_kept
    | with_reducible apply kept_ite
    | with_reducible apply kept_ite_snd
    | dsimp only
    | split

theorem doTimeQuery_kept {peer : Nat} (h : Kept m a s) : Kept m a (doTimeQuery peer s).2.2 := by
  unfold doTimeQuery
  repeat' first
    | with_reducible assumption
    | intro _
    | with_reducible apply takeFree_kept
    | with_reducible apply kept_ite
    | with_reducible apply kept_ite_third
    | refine kept_snd (by with_reducible assumption) ?_
    | refine kept_third (by with_reducible assumption) ?_
    | dsimp only
    | split

theorem doScreenOffer_kept {c : Nat} {core : Nat} {tag : Nat} (hscr : m.leaves .scr = false) (hcmd : m.leaves .cmd = false) (h : Kept m a s) : Kept m a (doScreenOffer c core tag s) := by
  unfold doScreenOffer
  repeat' first
    | with_reducible assumption
    | intro _
    | with_reducible apply completeCmd_kept
    | with_reducible apply kept_ite
    | simp only [↓kept_upd_iff, implies_true, hscr, hcmd, Bool.false_eq_true, false_implies]
    | dsimp only
    | split

/-! ### Policy -/

theorem putRecord_kept {n : Nat} {c : Nat} {v : Nat} (hobs : m.leaves .obs = false) (hcol : m.leaves .col = false) (hgov : m.leaves .gov = false) (hjrn : m.leaves .jrn = false) (h : Kept m a s) : Kept m a (putRecord n c v s).2 := by
  unfold putRecord
  repeat' first
    | with_reducible assumption
    | intro _
    | with_reducible apply redrawSpares_kept
    | with_reducible apply setPolicy_kept
    | with_reducible apply kept_ite
    | with_reducible apply kept_ite_snd
    | simp only [↓kept_upd_iff, implies_true, hobs, hcol, hgov, hjrn, Bool.false_eq_true, false_implies]
    | dsimp only
    | split

theorem polBytes_kept {o : Nat} {bs : List Byte} (hbnk : m.leaves .bnk = false) (hgov : m.leaves .gov = false) (hwords : m.leaves .words = false) (h : Kept m a s) : Kept m a (polBytes o bs s) := by
  unfold polBytes
  repeat' first
    | with_reducible assumption
    | intro _
    | with_reducible apply foldS_kept
    | with_reducible apply polWrite_kept
    | with_reducible apply kept_ite
    | dsimp only
    | split

theorem policyWrite_kept {o : Nat} {len : Nat} {data : Nat} (hbnk : m.leaves .bnk = false) (hgov : m.leaves .gov = false) (hwords : m.leaves .words = false) (h : Kept m a s) : Kept m a (policyWrite o len data s).2 := by
  unfold policyWrite
  repeat' first
    | with_reducible assumption
    | intro _
    | with_reducible apply polBytes_kept
    | with_reducible apply kept_id
    | with_reducible apply kept_ite
    | with_reducible apply kept_ite_snd
    | dsimp only
    | split

theorem gateIn_kept {msg : BitVec 512} (hbnk : m.leaves .bnk = false) (hisl : m.leaves .isl = false) (hgov : m.leaves .gov = false) (hwords : m.leaves .words = false) (h : Kept m a s) : Kept m a (gateIn msg s) := by
  unfold gateIn
  repeat' first
    | with_reducible assumption
    | intro _
    | with_reducible apply policyWrite_kept
    | with_reducible apply gateRespond_kept
    | with_reducible apply kept_ite
    | refine kept_snd (by with_reducible assumption) ?_
    | refine kept_third (by with_reducible assumption) ?_
    | dsimp only
    | split

theorem toGateIn_kept  (hbnk : m.leaves .bnk = false) (hisl : m.leaves .isl = false) (hgov : m.leaves .gov = false) (hseq : m.leaves .seq = false) (hwords : m.leaves .words = false) (h : Kept m a s) : Kept m a (toGateIn s) := by
  unfold toGateIn
  repeat' first
    | with_reducible assumption
    | intro _
    | with_reducible apply gateIn_kept
    | with_reducible apply kept_ite
    | simp only [↓kept_upd_iff, implies_true, hbnk, hisl, hgov, hseq, hwords, Bool.false_eq_true, false_implies]
    | dsimp only
    | split

theorem serveGateIn_kept  (hbnk : m.leaves .bnk = false) (hisl : m.leaves .isl = false) (hgov : m.leaves .gov = false) (hseq : m.leaves .seq = false) (hwords : m.leaves .words = false) (h : Kept m a s) : Kept m a (serveGateIn s) := by
  unfold serveGateIn
  repeat' first
    | with_reducible assumption
    | intro _
    | with_reducible apply foldS_kept
    | with_reducible apply gateIn_kept
    | with_reducible apply kept_ite
    | simp only [↓kept_upd_iff, implies_true, hbnk, hisl, hgov, hseq, hwords, Bool.false_eq_true, false_implies]
    | dsimp only
    | split

theorem doRootKey_kept {tag : Nat} {body : BitVec 448} (hdig : m.leaves .dig = false) (hisl : m.leaves .isl = false) (h : Kept m a s) : Kept m a (doRootKey tag body s) := by
  unfold doRootKey
  repeat' first
    | with_reducible assumption
    | intro _
    | with_reducible apply gateRespond_kept
    | with_reducible apply updDig_kept
    | with_reducible apply kept_ite
    | simp only [↓kept_upd_iff, implies_true, hdig, hisl, Bool.false_eq_true, false_implies]
    | dsimp only
    | split

theorem doCaptureKey_kept {tag : Nat} {body : BitVec 448} (hisl : m.leaves .isl = false) (hcapKeys : m.leaves .capKeys = false) (h : Kept m a s) : Kept m a (doCaptureKey tag body s) := by
  unfold doCaptureKey
  repeat' first
    | with_reducible assumption
    | intro _
    | with_reducible apply gateRespond_kept
    | with_reducible apply kept_ite
    | simp only [↓kept_upd_iff, implies_true, hisl, hcapKeys, Bool.false_eq_true, false_implies]
    | dsimp only
    | split

theorem doFellUndo_kept {tag : Nat} {body : BitVec 448} (hisl : m.leaves .isl = false) (hcol : m.leaves .col = false) (hrecd : m.leaves .recd = false) (hcellar : m.leaves .cellar = false) (h : Kept m a s) : Kept m a (doFellUndo tag body s) := by
  unfold doFellUndo
  repeat' first
    | with_reducible assumption
    | intro _
    | with_reducible apply gateRespond_kept
    | with_reducible apply raiseHub_kept
    | with_reducible apply writeFell_kept
    | with_reducible apply kept_ite
    | simp only [↓kept_upd_iff, implies_true, hisl, hcol, hrecd, hcellar, Bool.false_eq_true, false_implies]
    | dsimp only
    | split

/-! ### Live -/

theorem pairStops_kept {b : Bool} (hcol : m.leaves .col = false) (hseq : m.leaves .seq = false) (h : Kept m a s) : Kept m a (pairStops b s) := by
  unfold pairStops
  repeat' first
    | with_reducible assumption
    | intro _
    | with_reducible apply updPair_kept
    | with_reducible apply raiseHub_kept
    | with_reducible apply sysPush_kept
    | with_reducible apply kept_ite
    | simp only [↓kept_upd_iff, implies_true, hcol, hseq, Bool.false_eq_true, false_implies]
    | dsimp only
    | split

theorem doTurnOverrun_kept  (hcol : m.leaves .col = false) (hseq : m.leaves .seq = false) (h : Kept m a s) : Kept m a (doTurnOverrun s) := by
  unfold doTurnOverrun
  repeat' first
    | with_reducible assumption
    | intro _
    | with_reducible apply pairStops_kept
    | with_reducible apply kept_ite
    | dsimp only
    | split

theorem loadRom_kept {bank : Bool} (hseq : m.leaves .seq = false) (h : Kept m a s) : Kept m a (loadRom bank s) := by
  unfold loadRom
  repeat' first
    | with_reducible assumption
    | intro _
    | with_reducible apply kept_ite
    | simp only [↓kept_upd_iff, implies_true, hseq, Bool.false_eq_true, false_implies]
    | dsimp only
    | split

theorem doTakeover_kept  (hbnk : m.leaves .bnk = false) (hisl : m.leaves .isl = false) (hcol : m.leaves .col = false) (hgov : m.leaves .gov = false) (hseq : m.leaves .seq = false) (hwords : m.leaves .words = false) (h : Kept m a s) : Kept m a (doTakeover s) := by
  unfold doTakeover
  repeat' first
    | with_reducible assumption
    | intro _
    | with_reducible apply serveGateIn_kept
    | with_reducible apply swapRoles_kept
    | with_reducible apply raiseHub_kept
    | with_reducible apply loadRom_kept
    | with_reducible apply kept_ite
    | dsimp only
    | split

theorem installImage_kept {bank : Bool} {img : List Byte} (hprog : m.prog = false) (hseq : m.leaves .seq = false) (h : Kept m a s) : Kept m a (installImage bank img s) := by
  unfold installImage
  repeat' first
    | with_reducible assumption
    | intro _
    | with_reducible apply updPair_kept
    | with_reducible apply kept_ite
    | simp only [↓kept_upd_iff, implies_true, hprog, hseq, Bool.false_eq_true, false_implies]
    | dsimp only
    | split

theorem doImageLoad_kept {tag : Nat} {body : BitVec 448} (hprog : m.prog = false) (hisl : m.leaves .isl = false) (hcol : m.leaves .col = false) (hseq : m.leaves .seq = false) (h : Kept m a s) : Kept m a (doImageLoad tag body s) := by
  unfold doImageLoad
  repeat' first
    | with_reducible assumption
    | intro _
    | with_reducible apply gateRespond_kept
    | with_reducible apply raiseHub_kept
    | with_reducible apply installImage_kept
    | with_reducible apply kept_ite
    | dsimp only
    | split

theorem doHandover_kept {tag : Nat} (hisl : m.leaves .isl = false) (hseq : m.leaves .seq = false) (h : Kept m a s) : Kept m a (doHandover tag s) := by
  unfold doHandover
  repeat' first
    | with_reducible assumption
    | intro _
    | with_reducible apply gateRespond_kept
    | with_reducible apply tryHandover_kept
    | with_reducible apply kept_ite
    | simp only [↓kept_upd_iff, implies_true, hisl, hseq, Bool.false_eq_true, false_implies]
    | dsimp only
    | split

/-! ### Power -/

theorem changeState_kept {new : BlockState} (hst : m.st = false) (hisl : m.leaves .isl = false) (hrecd : m.leaves .recd = false) (hseq : m.leaves .seq = false) (h : Kept m a s) : Kept m a (changeState new s) := by
  unfold changeState
  repeat' first
    | with_reducible assumption
    | intro _
    | with_reducible apply whenS_kept
    | with_reducible apply sysBoth_kept
    | with_reducible apply recEvent_kept
    | with_reducible apply kept_ite
    | simp only [↓kept_upd_iff, implies_true, hst, hisl, hrecd, hseq, Bool.false_eq_true, false_implies]
    | dsimp only
    | split

theorem coreClear_kept (hfell : m.fell = false) (hprog : m.prog = false) (hsev : m.sev = false) (het : m.et = false) (hdig : m.leaves .dig = false) (hbnk : m.leaves .bnk = false) (hobs : m.leaves .obs = false) (hscr : m.leaves .scr = false) (hcol : m.leaves .col = false) (hgov : m.leaves .gov = false) (hcmd : m.leaves .cmd = false) (htaps : m.leaves .taps = false) (hjrn : m.leaves .jrn = false) (hesc : m.leaves .esc = false) (hrecd : m.leaves .recd = false) (hseq : m.leaves .seq = false) (hfab : m.leaves .fab = false) (htim : m.leaves .tim = false) (hmregs : m.leaves .mregs = false) (hjregs : m.leaves .jregs = false) (hcapKeys : m.leaves .capKeys = false) (hthm : m.leaves .thm = false) (hwords : m.leaves .words = false) (h : Kept m a s) :
    Kept m a (coreClear s) :=
  ⟨h.fuse, h.pending, h.absent, h.out, h.freeCtr, h.cellar, fun _ => rfl, h.st, fun w => absurd w (by rw [hfell]; decide),
    fun w => absurd w (by rw [hprog]; decide), h.level, h.pf, fun w => absurd w (by rw [hsev]; decide),
    fun w => absurd w (by rw [het]; decide), fun p w => by
      cases p
      case isl => exact h.parts _ w
      case cellar => exact h.parts .cellar w
      all_goals simp only [htim, hcol, htaps, hgov, hesc, hdig, hjrn, hfab, hscr, hthm, hbnk, hobs, hrecd, hseq, hcmd, hmregs, hjregs, hcapKeys, hwords, Bool.false_eq_true] at w⟩

theorem islClear_kept (hst : m.st = false) (hfell : m.fell = false) (hprog : m.prog = false) (hlevel : m.level = false) (hpf : m.pf = false) (hsev : m.sev = false) (het : m.et = false) (hdig : m.leaves .dig = false) (hbnk : m.leaves .bnk = false) (hobs : m.leaves .obs = false) (hscr : m.leaves .scr = false) (hisl : m.leaves .isl = false) (hcol : m.leaves .col = false) (hgov : m.leaves .gov = false) (hcmd : m.leaves .cmd = false) (htaps : m.leaves .taps = false) (hjrn : m.leaves .jrn = false) (hesc : m.leaves .esc = false) (hrecd : m.leaves .recd = false) (hseq : m.leaves .seq = false) (hfab : m.leaves .fab = false) (htim : m.leaves .tim = false) (hmregs : m.leaves .mregs = false) (hjregs : m.leaves .jregs = false) (hcapKeys : m.leaves .capKeys = false) (hthm : m.leaves .thm = false) (hwords : m.leaves .words = false) (h : Kept m a s) : Kept m a (islClear s) :=
  ⟨h.fuse, h.pending, h.absent, h.out, h.freeCtr, h.cellar, fun _ => rfl, fun w => absurd w (by rw [hst]; decide), fun w => absurd w (by rw [hfell]; decide),
    fun w => absurd w (by rw [hprog]; decide), fun w => absurd w (by rw [hlevel]; decide), fun w => absurd w (by rw [hpf]; decide),
    fun w => absurd w (by rw [hsev]; decide), fun w => absurd w (by rw [het]; decide), fun p w => by
      cases p
      case cellar => exact h.parts .cellar w
      all_goals simp only [hisl, htim, hcol, htaps, hgov, hesc, hdig, hjrn, hfab, hscr, hthm, hbnk, hobs, hrecd, hseq, hcmd, hmregs, hjregs, hcapKeys, hwords, Bool.false_eq_true] at w⟩

theorem doVddIslUp_kept  (hst : m.st = false) (hfell : m.fell = false) (hprog : m.prog = false) (hlevel : m.level = false) (hpf : m.pf = false) (hsev : m.sev = false) (het : m.et = false) (hdig : m.leaves .dig = false) (hbnk : m.leaves .bnk = false) (hobs : m.leaves .obs = false) (hscr : m.leaves .scr = false) (hisl : m.leaves .isl = false) (hcol : m.leaves .col = false) (hgov : m.leaves .gov = false) (hcmd : m.leaves .cmd = false) (htaps : m.leaves .taps = false) (hjrn : m.leaves .jrn = false) (hesc : m.leaves .esc = false) (hrecd : m.leaves .recd = false) (hseq : m.leaves .seq = false) (hfab : m.leaves .fab = false) (htim : m.leaves .tim = false) (hmregs : m.leaves .mregs = false) (hjregs : m.leaves .jregs = false) (hcapKeys : m.leaves .capKeys = false) (hthm : m.leaves .thm = false) (hwords : m.leaves .words = false) (h : Kept m a s) : Kept m a (doVddIslUp s) := by
  unfold doVddIslUp
  repeat' first
    | with_reducible assumption
    | intro _
    | with_reducible apply islClear_kept
    | with_reducible apply changeState_kept
    | with_reducible apply logRecover_kept
    | with_reducible apply kept_ite
    | simp only [↓kept_upd_iff, implies_true, hst, hfell, hprog, hlevel, hpf, hsev, het, hdig, hbnk, hobs, hscr, hisl, hcol, hgov, hcmd, htaps, hjrn, hesc, hrecd, hseq, hfab, htim, hmregs, hjregs, hcapKeys, hthm, hwords, Bool.false_eq_true, false_implies]
    | dsimp only
    | split

theorem checkPf_kept  (hcol : m.leaves .col = false) (h : Kept m a s) : Kept m a (checkPf s) := by
  unfold checkPf
  repeat' first
    | with_reducible assumption
    | intro _
    | with_reducible apply whenS_kept
    | with_reducible apply raiseHub_kept
    | with_reducible apply kept_ite
    | dsimp only
    | split

theorem resumeClear_kept  (hbnk : m.leaves .bnk = false) (hrecd : m.leaves .recd = false) (hcellar : m.leaves .cellar = false) (hwords : m.leaves .words = false) (h : Kept m a s) : Kept m a (resumeClear s) := by
  unfold resumeClear
  repeat' first
    | with_reducible assumption
    | intro _
    | with_reducible apply takeFree_kept
    | with_reducible apply finishClear_kept
    | with_reducible apply kept_ite
    | refine kept_snd (by with_reducible assumption) ?_
    | refine kept_third (by with_reducible assumption) ?_
    | dsimp only
    | split

theorem startHub_kept  (hst : m.st = false) (hfell : m.fell = false) (hprog : m.prog = false) (hsev : m.sev = false) (het : m.et = false) (hdig : m.leaves .dig = false) (hbnk : m.leaves .bnk = false) (hobs : m.leaves .obs = false) (hscr : m.leaves .scr = false) (hisl : m.leaves .isl = false) (hcol : m.leaves .col = false) (hgov : m.leaves .gov = false) (hcmd : m.leaves .cmd = false) (htaps : m.leaves .taps = false) (hjrn : m.leaves .jrn = false) (hesc : m.leaves .esc = false) (hrecd : m.leaves .recd = false) (hseq : m.leaves .seq = false) (hfab : m.leaves .fab = false) (htim : m.leaves .tim = false) (hmregs : m.leaves .mregs = false) (hjregs : m.leaves .jregs = false) (hcapKeys : m.leaves .capKeys = false) (hthm : m.leaves .thm = false) (hwords : m.leaves .words = false) (h : Kept m a s) : Kept m a (startHub s) := by
  unfold startHub
  repeat' first
    | with_reducible assumption
    | intro _
    | with_reducible apply coreClear_kept
    | with_reducible apply changeState_kept
    | with_reducible apply State.setRf_kept
    | with_reducible apply whenS_kept
    | with_reducible apply raiseHub_kept
    | with_reducible apply foldS_kept
    | with_reducible apply raiseIsland_kept
    | with_reducible apply kept_ite
    | simp only [↓kept_upd_iff, implies_true, hst, hfell, hprog, hsev, het, hdig, hbnk, hobs, hscr, hisl, hcol, hgov, hcmd, htaps, hjrn, hesc, hrecd, hseq, hfab, htim, hmregs, hjregs, hcapKeys, hthm, hwords, Bool.false_eq_true, false_implies]
    | dsimp only
    | split

theorem startReads_kept  (hfell : m.fell = false) (hbnk : m.leaves .bnk = false) (hscr : m.leaves .scr = false) (hcol : m.leaves .col = false) (hrecd : m.leaves .recd = false) (hcellar : m.leaves .cellar = false) (hwords : m.leaves .words = false) (h : Kept m a s) : Kept m a (startReads s) := by
  unfold startReads
  repeat' first
    | with_reducible assumption
    | intro _
    | with_reducible apply resumeClear_kept
    | with_reducible apply checkPf_kept
    | with_reducible apply readFell_kept
    | with_reducible apply readPacks_kept
    | with_reducible apply writeIsl_kept
    | with_reducible apply kept_ite
    | dsimp only
    | split

theorem startTrust_kept  (hobs : m.leaves .obs = false) (hscr : m.leaves .scr = false) (hisl : m.leaves .isl = false) (hcol : m.leaves .col = false) (hjrn : m.leaves .jrn = false) (hrecd : m.leaves .recd = false) (hcellar : m.leaves .cellar = false) (h : Kept m a s) : Kept m a (startTrust s) := by
  unfold startTrust
  repeat' first
    | with_reducible assumption
    | intro _
    | with_reducible apply voidRecord_kept
    | with_reducible apply startScreen_kept
    | with_reducible apply kept_ite
    | simp only [↓kept_upd_iff, implies_true, hobs, hscr, hisl, hcol, hjrn, hrecd, hcellar, Bool.false_eq_true, false_implies]
    | dsimp only
    | split

theorem marchBanks_kept {faulty : List (Nat × Nat)} (hbnk : m.leaves .bnk = false) (hcol : m.leaves .col = false) (h : Kept m a s) : Kept m a (marchBanks faulty s) := by
  unfold marchBanks
  repeat' first
    | with_reducible assumption
    | intro _
    | with_reducible apply foldS_kept
    | with_reducible apply windowFails_kept
    | with_reducible apply kept_ite
    | dsimp only
    | split

theorem doCorePowerGood_kept {faulty : List (Nat × Nat)} (hst : m.st = false) (hfell : m.fell = false) (hprog : m.prog = false) (hsev : m.sev = false) (het : m.et = false) (hdig : m.leaves .dig = false) (hbnk : m.leaves .bnk = false) (hobs : m.leaves .obs = false) (hscr : m.leaves .scr = false) (hisl : m.leaves .isl = false) (hcol : m.leaves .col = false) (hgov : m.leaves .gov = false) (hcmd : m.leaves .cmd = false) (htaps : m.leaves .taps = false) (hjrn : m.leaves .jrn = false) (hesc : m.leaves .esc = false) (hrecd : m.leaves .recd = false) (hseq : m.leaves .seq = false) (hfab : m.leaves .fab = false) (htim : m.leaves .tim = false) (hmregs : m.leaves .mregs = false) (hjregs : m.leaves .jregs = false) (hcapKeys : m.leaves .capKeys = false) (hthm : m.leaves .thm = false) (hcellar : m.leaves .cellar = false) (hwords : m.leaves .words = false) (h : Kept m a s) : Kept m a (doCorePowerGood faulty s) := by
  unfold doCorePowerGood
  repeat' first
    | with_reducible assumption
    | intro _
    | with_reducible apply startTrust_kept
    | with_reducible apply startReads_kept
    | with_reducible apply marchBanks_kept
    | with_reducible apply startHub_kept
    | with_reducible apply kept_ite
    | dsimp only
    | split

theorem polFill_kept {off : Nat} {bs : List Byte} (hbnk : m.leaves .bnk = false) (hwords : m.leaves .words = false) (h : Kept m a s) : Kept m a (polFill off bs s) := by
  unfold polFill
  repeat' first
    | with_reducible assumption
    | intro _
    | with_reducible apply foldS_kept
    | with_reducible apply bankStore_kept
    | with_reducible apply kept_ite
    | dsimp only
    | split

theorem policyTables_kept {seed : Nat} (hbnk : m.leaves .bnk = false) (hwords : m.leaves .words = false) (h : Kept m a s) : Kept m a (policyTables seed s) := by
  unfold policyTables
  repeat' first
    | with_reducible assumption
    | intro _
    | with_reducible apply polFill_kept
    | with_reducible apply kept_ite
    | dsimp only
    | split

theorem takeSeed_kept  (hcol : m.leaves .col = false) (h : Kept m a s) : Kept m a (takeSeed s).2 := by
  unfold takeSeed
  repeat' first
    | with_reducible assumption
    | intro _
    | with_reducible apply raiseIsland_kept
    | with_reducible apply kept_ite
    | with_reducible apply kept_ite_snd
    | dsimp only
    | split

theorem startPairs_kept  (hcol : m.leaves .col = false) (hseq : m.leaves .seq = false) (h : Kept m a s) : Kept m a (startPairs s) := by
  unfold startPairs
  repeat' first
    | with_reducible assumption
    | intro _
    | with_reducible apply loadRom_kept
    | with_reducible apply updPair_kept
    | with_reducible apply raiseHub_kept
    | with_reducible apply kept_ite
    | simp only [↓kept_upd_iff, implies_true, hcol, hseq, Bool.false_eq_true, false_implies]
    | dsimp only
    | split

theorem loadedValues_kept {ft : List W256} (hsev : m.sev = false) (hbnk : m.leaves .bnk = false) (hobs : m.leaves .obs = false) (hscr : m.leaves .scr = false) (hcol : m.leaves .col = false) (hgov : m.leaves .gov = false) (hrecd : m.leaves .recd = false) (h : Kept m a s) : Kept m a (loadedValues ft s) := by
  unfold loadedValues
  repeat' first
    | with_reducible assumption
    | intro _
    | with_reducible apply foldS_kept
    | with_reducible apply updBank_kept
    | with_reducible apply kept_ite
    | simp only [↓kept_upd_iff, implies_true, hsev, hbnk, hobs, hscr, hcol, hgov, hrecd, Bool.false_eq_true, false_implies]
    | dsimp only
    | split

theorem doStartComplete_kept {ft : List W256} (hst : m.st = false) (hsev : m.sev = false) (hbnk : m.leaves .bnk = false) (hobs : m.leaves .obs = false) (hscr : m.leaves .scr = false) (hisl : m.leaves .isl = false) (hcol : m.leaves .col = false) (hgov : m.leaves .gov = false) (hjrn : m.leaves .jrn = false) (hrecd : m.leaves .recd = false) (hseq : m.leaves .seq = false) (hwords : m.leaves .words = false) (h : Kept m a s) : Kept m a (doStartComplete ft s) := by
  unfold doStartComplete
  repeat' first
    | with_reducible assumption
    | intro _
    | with_reducible apply takeSeed_kept
    | with_reducible apply serveGateIn_kept
    | with_reducible apply startPairs_kept
    | with_reducible apply redrawSpares_kept
    | with_reducible apply loadedValues_kept
    | with_reducible apply emit_kept
    | with_reducible apply changeState_kept
    | with_reducible apply policyTables_kept
    | with_reducible apply kept_ite
    | refine kept_snd (by with_reducible assumption) ?_
    | refine kept_third (by with_reducible assumption) ?_
    | dsimp only
    | split

theorem coreFalls_kept  (hst : m.st = false) (hfell : m.fell = false) (hprog : m.prog = false) (hpf : m.pf = false) (hsev : m.sev = false) (het : m.et = false) (hdig : m.leaves .dig = false) (hbnk : m.leaves .bnk = false) (hobs : m.leaves .obs = false) (hscr : m.leaves .scr = false) (hisl : m.leaves .isl = false) (hcol : m.leaves .col = false) (hgov : m.leaves .gov = false) (hcmd : m.leaves .cmd = false) (htaps : m.leaves .taps = false) (hjrn : m.leaves .jrn = false) (hesc : m.leaves .esc = false) (hrecd : m.leaves .recd = false) (hseq : m.leaves .seq = false) (hfab : m.leaves .fab = false) (htim : m.leaves .tim = false) (hmregs : m.leaves .mregs = false) (hjregs : m.leaves .jregs = false) (hcapKeys : m.leaves .capKeys = false) (hthm : m.leaves .thm = false) (hwords : m.leaves .words = false) (h : Kept m a s) : Kept m a (coreFalls s) := by
  unfold coreFalls
  repeat' first
    | with_reducible assumption
    | intro _
    | with_reducible apply coreClear_kept
    | with_reducible apply whenS_kept
    | with_reducible apply gateRespond_kept
    | with_reducible apply changeState_kept
    | with_reducible apply logRecover_kept
    | with_reducible apply kept_ite
    | simp only [↓kept_upd_iff, implies_true, hst, hfell, hprog, hpf, hsev, het, hdig, hbnk, hobs, hscr, hisl, hcol, hgov, hcmd, htaps, hjrn, hesc, hrecd, hseq, hfab, htim, hmregs, hjregs, hcapKeys, hthm, hwords, Bool.false_eq_true, false_implies]
    | dsimp only
    | split

theorem doCorePgFall_kept {bits : BitVec 16} (hst : m.st = false) (hfell : m.fell = false) (hprog : m.prog = false) (hpf : m.pf = false) (hsev : m.sev = false) (het : m.et = false) (hdig : m.leaves .dig = false) (hbnk : m.leaves .bnk = false) (hobs : m.leaves .obs = false) (hscr : m.leaves .scr = false) (hisl : m.leaves .isl = false) (hcol : m.leaves .col = false) (hgov : m.leaves .gov = false) (hcmd : m.leaves .cmd = false) (htaps : m.leaves .taps = false) (hjrn : m.leaves .jrn = false) (hesc : m.leaves .esc = false) (hrecd : m.leaves .recd = false) (hseq : m.leaves .seq = false) (hfab : m.leaves .fab = false) (htim : m.leaves .tim = false) (hmregs : m.leaves .mregs = false) (hjregs : m.leaves .jregs = false) (hcapKeys : m.leaves .capKeys = false) (hthm : m.leaves .thm = false) (hwords : m.leaves .words = false) (h : Kept m a s) : Kept m a (doCorePgFall bits s) := by
  unfold doCorePgFall
  repeat' first
    | with_reducible assumption
    | intro _
    | with_reducible apply coreFalls_kept
    | with_reducible apply foldS_kept
    | with_reducible apply raiseIsland_kept
    | with_reducible apply kept_ite
    | simp only [↓kept_upd_iff, implies_true, hst, hfell, hprog, hpf, hsev, het, hdig, hbnk, hobs, hscr, hisl, hcol, hgov, hcmd, htaps, hjrn, hesc, hrecd, hseq, hfab, htim, hmregs, hjregs, hcapKeys, hthm, hwords, Bool.false_eq_true, false_implies]
    | dsimp only
    | split

theorem abandonStops_kept  (hcmd : m.leaves .cmd = false) (hfab : m.leaves .fab = false) (h : Kept m a s) : Kept m a (abandonStops s) := by
  unfold abandonStops
  repeat' first
    | with_reducible assumption
    | intro _
    | with_reducible apply foldS_kept
    | with_reducible apply updMcast_kept
    | with_reducible apply kept_ite
    | simp only [↓kept_upd_iff, implies_true, hcmd, hfab, Bool.false_eq_true, false_implies]
    | dsimp only
    | split

theorem stopScreen_kept  (hobs : m.leaves .obs = false) (hscr : m.leaves .scr = false) (hcol : m.leaves .col = false) (hcmd : m.leaves .cmd = false) (hjrn : m.leaves .jrn = false) (hseq : m.leaves .seq = false) (h : Kept m a s) : Kept m a (stopScreen s) := by
  unfold stopScreen
  repeat' first
    | with_reducible assumption
    | intro _
    | with_reducible apply abortSlices_kept
    | with_reducible apply kept_ite
    | simp only [↓kept_upd_iff, implies_true, hobs, hscr, hcol, hcmd, hjrn, hseq, Bool.false_eq_true, false_implies]
    | dsimp only
    | split

theorem doPfWarn_kept  (hpf : m.pf = false) (hdig : m.leaves .dig = false) (hbnk : m.leaves .bnk = false) (hobs : m.leaves .obs = false) (hscr : m.leaves .scr = false) (hisl : m.leaves .isl = false) (hcol : m.leaves .col = false) (hcmd : m.leaves .cmd = false) (hjrn : m.leaves .jrn = false) (hesc : m.leaves .esc = false) (hrecd : m.leaves .recd = false) (hseq : m.leaves .seq = false) (hfab : m.leaves .fab = false) (htim : m.leaves .tim = false) (hmregs : m.leaves .mregs = false) (hcellar : m.leaves .cellar = false) (hwords : m.leaves .words = false) (h : Kept m a s) : Kept m a (doPfWarn s) := by
  unfold doPfWarn
  repeat' first
    | with_reducible assumption
    | intro _
    | with_reducible apply sysBoth_kept
    | with_reducible apply abandonStops_kept
    | with_reducible apply foldS_kept
    | with_reducible apply abandonEpoch_kept
    | with_reducible apply dropSends_kept
    | with_reducible apply pfFlush_kept
    | with_reducible apply stopScreen_kept
    | with_reducible apply abandonAlign_kept
    | with_reducible apply kept_ite
    | simp only [↓kept_upd_iff, implies_true, hpf, hdig, hbnk, hobs, hscr, hisl, hcol, hcmd, hjrn, hesc, hrecd, hseq, hfab, htim, hmregs, hcellar, hwords, Bool.false_eq_true, false_implies]
    | dsimp only
    | split

theorem doPfWarnRelease_kept  (hpf : m.pf = false) (hobs : m.leaves .obs = false) (hscr : m.leaves .scr = false) (hisl : m.leaves .isl = false) (hjrn : m.leaves .jrn = false) (hrecd : m.leaves .recd = false) (hseq : m.leaves .seq = false) (h : Kept m a s) : Kept m a (doPfWarnRelease s) := by
  unfold doPfWarnRelease
  repeat' first
    | with_reducible assumption
    | intro _
    | with_reducible apply sysBoth_kept
    | with_reducible apply startScreen_kept
    | with_reducible apply kept_ite
    | simp only [↓kept_upd_iff, implies_true, hpf, hobs, hscr, hisl, hjrn, hrecd, hseq, Bool.false_eq_true, false_implies]
    | dsimp only
    | split

theorem compRefuse_kept {c : Nat} (hmregs : m.leaves .mregs = false) (h : Kept m a s) : Kept m a (compRefuse c s) := by
  unfold compRefuse
  repeat' first
    | with_reducible assumption
    | intro _
    | with_reducible apply State.setRf_kept
    | with_reducible apply kept_ite
    | dsimp only
    | split

theorem doCompOpen_kept {c : Nat} (hst : m.st = false) (hisl : m.leaves .isl = false) (hcol : m.leaves .col = false) (hgov : m.leaves .gov = false) (hcmd : m.leaves .cmd = false) (hjrn : m.leaves .jrn = false) (hesc : m.leaves .esc = false) (hrecd : m.leaves .recd = false) (hseq : m.leaves .seq = false) (hmregs : m.leaves .mregs = false) (h : Kept m a s) : Kept m a (doCompOpen c s) := by
  unfold doCompOpen
  repeat' first
    | with_reducible assumption
    | intro _
    | with_reducible apply compRefuse_kept
    | with_reducible apply raiseHub_kept
    | with_reducible apply updComp_kept
    | with_reducible apply whenS_kept
    | with_reducible apply pushOrder_kept
    | with_reducible apply changeState_kept
    | with_reducible apply foldS_kept
    | with_reducible apply serveTap_kept
    | with_reducible apply kept_ite
    | simp only [↓kept_upd_iff, implies_true, hst, hisl, hcol, hgov, hcmd, hjrn, hesc, hrecd, hseq, hmregs, Bool.false_eq_true, false_implies]
    | dsimp only
    | split

theorem fenceCommands_kept {c : Nat} (hcmd : m.leaves .cmd = false) (h : Kept m a s) : Kept m a (fenceCommands c s) := by
  unfold fenceCommands
  repeat' first
    | with_reducible assumption
    | intro _
    | with_reducible apply updComp_kept
    | with_reducible apply foldS_kept
    | with_reducible apply completeCmd_kept
    | with_reducible apply kept_ite
    | simp only [↓kept_upd_iff, implies_true, hcmd, Bool.false_eq_true, false_implies]
    | dsimp only
    | split

theorem freeTensors_kept {c : Nat} (hdig : m.leaves .dig = false) (h : Kept m a s) : Kept m a (freeTensors c s) := by
  unfold freeTensors
  repeat' first
    | with_reducible assumption
    | intro _
    | with_reducible apply kept_ite
    | simp only [↓kept_upd_iff, implies_true, hdig, Bool.false_eq_true, false_implies]
    | dsimp only
    | split

theorem freeComp_kept {c : Nat} (hdig : m.leaves .dig = false) (hobs : m.leaves .obs = false) (hcol : m.leaves .col = false) (htaps : m.leaves .taps = false) (hjrn : m.leaves .jrn = false) (hesc : m.leaves .esc = false) (hfab : m.leaves .fab = false) (hjregs : m.leaves .jregs = false) (hcapKeys : m.leaves .capKeys = false) (h : Kept m a s) : Kept m a (freeComp c s) := by
  unfold freeComp
  repeat' first
    | with_reducible assumption
    | intro _
    | with_reducible apply acctLost_kept
    | with_reducible apply foldS_kept
    | with_reducible apply unserveTap_kept
    | with_reducible apply sparesIdle_kept
    | with_reducible apply freeTensors_kept
    | with_reducible apply State.setJf_kept
    | with_reducible apply kept_ite
    | simp only [↓kept_upd_iff, implies_true, hdig, hobs, hcol, htaps, hjrn, hesc, hfab, hjregs, hcapKeys, Bool.false_eq_true, false_implies]
    | dsimp only
    | split

theorem closeComp_kept {c : Nat} (hdig : m.leaves .dig = false) (hobs : m.leaves .obs = false) (hcol : m.leaves .col = false) (hgov : m.leaves .gov = false) (hcmd : m.leaves .cmd = false) (htaps : m.leaves .taps = false) (hjrn : m.leaves .jrn = false) (hesc : m.leaves .esc = false) (hfab : m.leaves .fab = false) (hjregs : m.leaves .jregs = false) (hcapKeys : m.leaves .capKeys = false) (h : Kept m a s) : Kept m a (closeComp c s) := by
  unfold closeComp
  repeat' first
    | with_reducible assumption
    | intro _
    | with_reducible apply dropSends_kept
    | with_reducible apply fenceCommands_kept
    | with_reducible apply stopDigest_kept
    | with_reducible apply dropChecks_kept
    | with_reducible apply endSkids_kept
    | with_reducible apply freeInbound_kept
    | with_reducible apply freeComp_kept
    | with_reducible apply dropWrites_kept
    | with_reducible apply updComp_kept
    | with_reducible apply kept_ite
    | simp only [↓kept_upd_iff, implies_true, hdig, hobs, hcol, hgov, hcmd, htaps, hjrn, hesc, hfab, hjregs, hcapKeys, Bool.false_eq_true, false_implies]
    | dsimp only
    | split

theorem doCompClose_kept {c : Nat} (hdig : m.leaves .dig = false) (hobs : m.leaves .obs = false) (hcol : m.leaves .col = false) (hgov : m.leaves .gov = false) (hcmd : m.leaves .cmd = false) (htaps : m.leaves .taps = false) (hjrn : m.leaves .jrn = false) (hesc : m.leaves .esc = false) (hfab : m.leaves .fab = false) (hmregs : m.leaves .mregs = false) (hjregs : m.leaves .jregs = false) (hcapKeys : m.leaves .capKeys = false) (h : Kept m a s) : Kept m a (doCompClose c s) := by
  unfold doCompClose
  repeat' first
    | with_reducible assumption
    | intro _
    | with_reducible apply compRefuse_kept
    | with_reducible apply closeComp_kept
    | with_reducible apply kept_ite
    | dsimp only
    | split

theorem doRecantWaitExpiry_kept {c : Nat} (hdig : m.leaves .dig = false) (hobs : m.leaves .obs = false) (hcol : m.leaves .col = false) (hcmd : m.leaves .cmd = false) (hesc : m.leaves .esc = false) (hfab : m.leaves .fab = false) (h : Kept m a s) : Kept m a (doRecantWaitExpiry c s) := by
  unfold doRecantWaitExpiry
  repeat' first
    | with_reducible assumption
    | intro _
    | with_reducible apply foldS_kept
    | with_reducible apply freeEntry_kept
    | with_reducible apply updComp_kept
    | with_reducible apply kept_ite
    | simp only [↓kept_upd_iff, implies_true, hdig, hobs, hcol, hcmd, hesc, hfab, Bool.false_eq_true, false_implies]
    | dsimp only
    | split

theorem doSealRequest_kept {c : Nat} (hst : m.st = false) (hdig : m.leaves .dig = false) (hobs : m.leaves .obs = false) (hisl : m.leaves .isl = false) (hcol : m.leaves .col = false) (hgov : m.leaves .gov = false) (hcmd : m.leaves .cmd = false) (htaps : m.leaves .taps = false) (hjrn : m.leaves .jrn = false) (hesc : m.leaves .esc = false) (hrecd : m.leaves .recd = false) (hseq : m.leaves .seq = false) (hfab : m.leaves .fab = false) (hmregs : m.leaves .mregs = false) (hjregs : m.leaves .jregs = false) (hcapKeys : m.leaves .capKeys = false) (h : Kept m a s) : Kept m a (doSealRequest c s) := by
  unfold doSealRequest
  repeat' first
    | with_reducible assumption
    | intro _
    | with_reducible apply compRefuse_kept
    | with_reducible apply changeState_kept
    | with_reducible apply foldS_kept
    | with_reducible apply closeComp_kept
    | with_reducible apply kept_ite
    | simp only [↓kept_upd_iff, implies_true, hst, hdig, hobs, hisl, hcol, hgov, hcmd, htaps, hjrn, hesc, hrecd, hseq, hfab, hmregs, hjregs, hcapKeys, Bool.false_eq_true, false_implies]
    | dsimp only
    | split

theorem enterClosing_kept  (hst : m.st = false) (hobs : m.leaves .obs = false) (hscr : m.leaves .scr = false) (hisl : m.leaves .isl = false) (hcol : m.leaves .col = false) (hcmd : m.leaves .cmd = false) (hjrn : m.leaves .jrn = false) (hrecd : m.leaves .recd = false) (hseq : m.leaves .seq = false) (h : Kept m a s) : Kept m a (enterClosing s) := by
  unfold enterClosing
  repeat' first
    | with_reducible assumption
    | intro _
    | with_reducible apply startScreen_kept
    | with_reducible apply changeState_kept
    | with_reducible apply kept_ite
    | simp only [↓kept_upd_iff, implies_true, hst, hobs, hscr, hisl, hcol, hcmd, hjrn, hrecd, hseq, Bool.false_eq_true, false_implies]
    | dsimp only
    | split

theorem doDrainTimeout_kept  (hst : m.st = false) (hobs : m.leaves .obs = false) (hscr : m.leaves .scr = false) (hisl : m.leaves .isl = false) (hcol : m.leaves .col = false) (hgov : m.leaves .gov = false) (hcmd : m.leaves .cmd = false) (hjrn : m.leaves .jrn = false) (hrecd : m.leaves .recd = false) (hseq : m.leaves .seq = false) (h : Kept m a s) : Kept m a (doDrainTimeout s) := by
  unfold doDrainTimeout
  repeat' first
    | with_reducible assumption
    | intro _
    | with_reducible apply enterClosing_kept
    | with_reducible apply raiseHub_kept
    | with_reducible apply kept_ite
    | simp only [↓kept_upd_iff, implies_true, hst, hobs, hscr, hisl, hcol, hgov, hcmd, hjrn, hrecd, hseq, Bool.false_eq_true, false_implies]
    | dsimp only
    | split

theorem zeroKeys_kept  (hdig : m.leaves .dig = false) (hrecd : m.leaves .recd = false) (hcapKeys : m.leaves .capKeys = false) (h : Kept m a s) : Kept m a (zeroKeys s) := by
  unfold zeroKeys
  repeat' first
    | with_reducible assumption
    | intro _
    | with_reducible apply kept_ite
    | simp only [↓kept_upd_iff, implies_true, hdig, hrecd, hcapKeys, Bool.false_eq_true, false_implies]
    | dsimp only
    | split

theorem doClosingComplete_kept {wrote : Bool} (hst : m.st = false) (hdig : m.leaves .dig = false) (hscr : m.leaves .scr = false) (hisl : m.leaves .isl = false) (hcol : m.leaves .col = false) (hrecd : m.leaves .recd = false) (hseq : m.leaves .seq = false) (hcapKeys : m.leaves .capKeys = false) (hcellar : m.leaves .cellar = false) (h : Kept m a s) : Kept m a (doClosingComplete wrote s) := by
  unfold doClosingComplete
  repeat' first
    | with_reducible assumption
    | intro _
    | with_reducible apply whenS_kept
    | with_reducible apply writeFell_kept
    | with_reducible apply writeClosing_kept
    | with_reducible apply recordFailed_kept
    | with_reducible apply changeState_kept
    | with_reducible apply writePointer_kept
    | with_reducible apply zeroKeys_kept
    | with_reducible apply kept_ite
    | simp only [↓kept_upd_iff, implies_true, hst, hdig, hscr, hisl, hcol, hrecd, hseq, hcapKeys, hcellar, Bool.false_eq_true, false_implies]
    | dsimp only
    | split

end Sys2Proof.Machine
end

