-- ==== Sys2Proof/Laws/KeptSurface.lean ====
section
/-! SUPPORT. What no command changes, operation by operation: the registers, the island, the links, the units that a sequencer commands, and the clock. -/
namespace Sys2Proof.Machine

set_option linter.unusedSimpArgs false
set_option linter.unusedVariables false

variable {m : Mask} {a s t : State}

/-! ### MPage -/

theorem mReadFx_kept {o : Nat} {h_ : Nat} (hbnk : m.leaves .bnk = false) (hscr : m.leaves .scr = false) (hisl : m.leaves .isl = false) (hrecd : m.leaves .recd = false) (hseq : m.leaves .seq = false) (htim : m.leaves .tim = false) (hmregs : m.leaves .mregs = false) (hthm : m.leaves .thm = false) (h : Kept m a s) : Kept m a (mReadFx o h_ s) := by
  unfold mReadFx
  repeat' first
    | with_reducible assumption
    | intro _
    | with_reducible apply foldS_kept
    | with_reducible apply State.setRf_kept
    | with_reducible apply whenS_kept
    | with_reducible apply latchEt_kept
    | with_reducible apply updCanary_kept
    | with_reducible apply updBank_kept
    | with_reducible apply kept_ite
    | simp only [↓kept_upd_iff, implies_true, hbnk, hscr, hisl, hrecd, hseq, htim, hmregs, hthm, Bool.false_eq_true, false_implies]
    | dsimp only
    | split

theorem storedWrite_kept {o : Nat} {mask : Nat} {v : Nat} (hmregs : m.leaves .mregs = false) (h : Kept m a s) : Kept m a (storedWrite o mask v s) := by
  unfold storedWrite
  repeat' first
    | with_reducible assumption
    | intro _
    | with_reducible apply foldS_kept
    | with_reducible apply State.setRf_kept
    | with_reducible apply kept_ite
    | dsimp only
    | split

theorem writeFields_kept {o : Nat} {mask : Nat} {v : Nat} (hmregs : m.leaves .mregs = false) (h : Kept m a s) : Kept m a (writeFields o mask v s).2 := by
  unfold writeFields
  repeat' first
    | with_reducible assumption
    | intro _
    | with_reducible apply storedWrite_kept
    | with_reducible apply State.setRf_kept
    | with_reducible apply kept_ite
    | with_reducible apply kept_ite_snd
    | dsimp only
    | split

theorem doAssign_kept {u : Nat} {v : Nat} (hobs : m.leaves .obs = false) (hcmd : m.leaves .cmd = false) (hesc : m.leaves .esc = false) (hmregs : m.leaves .mregs = false) (h : Kept m a s) : Kept m a (doAssign u v s) := by
  unfold doAssign
  repeat' first
    | with_reducible assumption
    | intro _
    | with_reducible apply State.setRf_kept
    | with_reducible apply resetScope_kept
    | with_reducible apply whenS_kept
    | with_reducible apply unserveTap_kept
    | with_reducible apply serveTap_kept
    | with_reducible apply kept_ite
    | simp only [↓kept_upd_iff, implies_true, hobs, hcmd, hesc, hmregs, Bool.false_eq_true, false_implies]
    | dsimp only
    | split

theorem doPrec_kept {write : Bool} (hobs : m.leaves .obs = false) (hcol : m.leaves .col = false) (hgov : m.leaves .gov = false) (hjrn : m.leaves .jrn = false) (hmregs : m.leaves .mregs = false) (h : Kept m a s) : Kept m a (doPrec write s) := by
  unfold doPrec
  repeat' first
    | with_reducible assumption
    | intro _
    | with_reducible apply putRecord_kept
    | with_reducible apply foldS_kept
    | with_reducible apply State.setRf_kept
    | with_reducible apply kept_ite
    | refine kept_snd (by with_reducible assumption) ?_
    | refine kept_third (by with_reducible assumption) ?_
    | dsimp only
    | split

theorem doSev_kept {write : Bool} (hsev : m.sev = false) (hcol : m.leaves .col = false) (hmregs : m.leaves .mregs = false) (h : Kept m a s) : Kept m a (doSev write s) := by
  unfold doSev
  repeat' first
    | with_reducible assumption
    | intro _
    | with_reducible apply State.setRf_kept
    | with_reducible apply writeSev_kept
    | with_reducible apply whenS_kept
    | with_reducible apply kept_ite
    | refine kept_snd (by with_reducible assumption) ?_
    | refine kept_third (by with_reducible assumption) ?_
    | dsimp only
    | split

theorem doGroup_kept {what : Nat} (hfab : m.leaves .fab = false) (hmregs : m.leaves .mregs = false) (h : Kept m a s) : Kept m a (doGroup what s) := by
  unfold doGroup
  repeat' first
    | with_reducible assumption
    | intro _
    | with_reducible apply State.setRf_kept
    | with_reducible apply kept_ite
    | simp only [↓kept_upd_iff, implies_true, hfab, hmregs, Bool.false_eq_true, false_implies]
    | dsimp only
    | split

theorem doMatch_kept {write : Bool} (htim : m.leaves .tim = false) (hmregs : m.leaves .mregs = false) (h : Kept m a s) : Kept m a (doMatch write s) := by
  unfold doMatch
  repeat' first
    | with_reducible assumption
    | intro _
    | with_reducible apply State.setRf_kept
    | with_reducible apply kept_ite
    | simp only [↓kept_upd_iff, implies_true, htim, hmregs, Bool.false_eq_true, false_implies]
    | dsimp only
    | split

theorem modeChange_kept {old : Nat} (hmregs : m.leaves .mregs = false) (h : Kept m a s) : Kept m a (modeChange old s) := by
  unfold modeChange
  repeat' first
    | with_reducible assumption
    | intro _
    | with_reducible apply State.setRf_kept
    | with_reducible apply kept_ite
    | dsimp only
    | split

theorem gateSend_kept  (hprog : m.prog = false) (hdig : m.leaves .dig = false) (hbnk : m.leaves .bnk = false) (hobs : m.leaves .obs = false) (hscr : m.leaves .scr = false) (hisl : m.leaves .isl = false) (hcol : m.leaves .col = false) (hgov : m.leaves .gov = false) (hrecd : m.leaves .recd = false) (hseq : m.leaves .seq = false) (hcapKeys : m.leaves .capKeys = false) (hcellar : m.leaves .cellar = false) (hwords : m.leaves .words = false) (h : Kept m a s) : Kept m a (gateSend s) := by
  unfold gateSend
  repeat' first
    | with_reducible assumption
    | intro _
    | with_reducible apply atGate_kept
    | with_reducible apply toGateIn_kept
    | with_reducible apply doRootKey_kept
    | with_reducible apply doCaptureKey_kept
    | with_reducible apply doPackLoad_kept
    | with_reducible apply doRecKey_kept
    | with_reducible apply doRecClear_kept
    | with_reducible apply doFellUndo_kept
    | with_reducible apply doImageLoad_kept
    | with_reducible apply doHandover_kept
    | with_reducible apply gateRespond_kept
    | with_reducible apply refuseCrossing_kept
    | with_reducible apply kept_ite
    | dsimp only
    | split

theorem gatePop_kept  (hisl : m.leaves .isl = false) (h : Kept m a s) : Kept m a (gatePop s) := by
  unfold gatePop
  repeat' first
    | with_reducible assumption
    | intro _
    | with_reducible apply kept_ite
    | simp only [↓kept_upd_iff, implies_true, hisl, Bool.false_eq_true, false_implies]
    | dsimp only
    | split

theorem writeSensor_kept {i : Nat} {v : Nat} (hthm : m.leaves .thm = false) (h : Kept m a s) : Kept m a (writeSensor i v s) := by
  unfold writeSensor
  repeat' first
    | with_reducible assumption
    | intro _
    | with_reducible apply whenS_kept
    | with_reducible apply doReinstate_kept
    | with_reducible apply updRo_kept
    | with_reducible apply kept_ite
    | simp only [↓kept_upd_iff, implies_true, hthm, Bool.false_eq_true, false_implies]
    | dsimp only
    | split

theorem writeOwner_kept {b : Nat} {v : Nat} (hbnk : m.leaves .bnk = false) (hwords : m.leaves .words = false) (h : Kept m a s) : Kept m a (writeOwner b v s) := by
  unfold writeOwner
  repeat' first
    | with_reducible assumption
    | intro _
    | with_reducible apply doBankOwn_kept
    | with_reducible apply whenS_kept
    | with_reducible apply updBank_kept
    | with_reducible apply kept_ite
    | simp only [↓kept_upd_iff, implies_true, hbnk, hwords, Bool.false_eq_true, false_implies]
    | dsimp only
    | split

theorem writeRail_kept {n : Nat} {v : Nat} (hthm : m.leaves .thm = false) (h : Kept m a s) : Kept m a (writeRail n v s) := by
  unfold writeRail
  repeat' first
    | with_reducible assumption
    | intro _
    | with_reducible apply updRail_kept
    | with_reducible apply kept_ite
    | simp only [↓kept_upd_iff, implies_true, hthm, Bool.false_eq_true, false_implies]
    | dsimp only
    | split

theorem mAct_kept {o : Nat} {h_ : Nat} {v : Nat} {old : State} (hst : m.st = false) (hprog : m.prog = false) (hsev : m.sev = false) (hdig : m.leaves .dig = false) (hbnk : m.leaves .bnk = false) (hobs : m.leaves .obs = false) (hscr : m.leaves .scr = false) (hisl : m.leaves .isl = false) (hcol : m.leaves .col = false) (hgov : m.leaves .gov = false) (hcmd : m.leaves .cmd = false) (htaps : m.leaves .taps = false) (hjrn : m.leaves .jrn = false) (hesc : m.leaves .esc = false) (hrecd : m.leaves .recd = false) (hseq : m.leaves .seq = false) (hfab : m.leaves .fab = false) (htim : m.leaves .tim = false) (hmregs : m.leaves .mregs = false) (hjregs : m.leaves .jregs = false) (hcapKeys : m.leaves .capKeys = false) (hthm : m.leaves .thm = false) (hcellar : m.leaves .cellar = false) (hwords : m.leaves .words = false) (h : Kept m a s) : Kept m a (mAct o h_ v old s) := by
  unfold mAct
  repeat' first
    | with_reducible assumption
    | intro _
    | with_reducible apply whenS_kept
    | with_reducible apply doSealRequest_kept
    | with_reducible apply doCompClose_kept
    | with_reducible apply doCompOpen_kept
    | with_reducible apply doAssign_kept
    | with_reducible apply writeSensor_kept
    | with_reducible apply writeRail_kept
    | with_reducible apply writeOwner_kept
    | with_reducible apply doPrec_kept
    | with_reducible apply doSev_kept
    | with_reducible apply doGroup_kept
    | with_reducible apply doMatch_kept
    | with_reducible apply writeRatio_kept
    | with_reducible apply doAlign_kept
    | with_reducible apply modeChange_kept
    | with_reducible apply doEtSlew_kept
    | with_reducible apply doExcursion_kept
    | with_reducible apply doCperPop_kept
    | with_reducible apply doBankWrite_kept
    | with_reducible apply doBankRead_kept
    | with_reducible apply obsCommand_kept
    | with_reducible apply endFreeze_kept
    | with_reducible apply doFreezeGo_kept
    | with_reducible apply doRecRead_kept
    | with_reducible apply doRateRead_kept
    | with_reducible apply doRateWrite_kept
    | with_reducible apply doCellarRead_kept
    | with_reducible apply gateSend_kept
    | with_reducible apply gatePop_kept
    | with_reducible apply kept_ite
    | simp only [↓kept_upd_iff, implies_true, hst, hprog, hsev, hdig, hbnk, hobs, hscr, hisl, hcol, hgov, hcmd, htaps, hjrn, hesc, hrecd, hseq, hfab, htim, hmregs, hjregs, hcapKeys, hthm, hcellar, hwords, Bool.false_eq_true, false_implies]
    | dsimp only
    | split

theorem mWrite_kept {o : Nat} {h_ : Nat} {v : Nat} (hst : m.st = false) (hprog : m.prog = false) (hsev : m.sev = false) (hdig : m.leaves .dig = false) (hbnk : m.leaves .bnk = false) (hobs : m.leaves .obs = false) (hscr : m.leaves .scr = false) (hisl : m.leaves .isl = false) (hcol : m.leaves .col = false) (hgov : m.leaves .gov = false) (hcmd : m.leaves .cmd = false) (htaps : m.leaves .taps = false) (hjrn : m.leaves .jrn = false) (hesc : m.leaves .esc = false) (hrecd : m.leaves .recd = false) (hseq : m.leaves .seq = false) (hfab : m.leaves .fab = false) (htim : m.leaves .tim = false) (hmregs : m.leaves .mregs = false) (hjregs : m.leaves .jregs = false) (hcapKeys : m.leaves .capKeys = false) (hthm : m.leaves .thm = false) (hcellar : m.leaves .cellar = false) (hwords : m.leaves .words = false) (h : Kept m a s) : Kept m a (mWrite o h_ v s) := by
  unfold mWrite
  repeat' first
    | with_reducible assumption
    | intro _
    | with_reducible apply withGates_kept
    | with_reducible apply storedWrite_kept
    | with_reducible apply writeFields_kept
    | with_reducible apply mAct_kept
    | with_reducible apply kept_ite
    | refine kept_snd (by with_reducible assumption) ?_
    | refine kept_third (by with_reducible assumption) ?_
    | dsimp only
    | split

theorem mAccess_kept {offset : Nat} {wide : Bool} {write : Bool} {v : Nat} (hst : m.st = false) (hprog : m.prog = false) (hsev : m.sev = false) (hdig : m.leaves .dig = false) (hbnk : m.leaves .bnk = false) (hobs : m.leaves .obs = false) (hscr : m.leaves .scr = false) (hisl : m.leaves .isl = false) (hcol : m.leaves .col = false) (hgov : m.leaves .gov = false) (hcmd : m.leaves .cmd = false) (htaps : m.leaves .taps = false) (hjrn : m.leaves .jrn = false) (hesc : m.leaves .esc = false) (hrecd : m.leaves .recd = false) (hseq : m.leaves .seq = false) (hfab : m.leaves .fab = false) (htim : m.leaves .tim = false) (hmregs : m.leaves .mregs = false) (hjregs : m.leaves .jregs = false) (hcapKeys : m.leaves .capKeys = false) (hthm : m.leaves .thm = false) (hcellar : m.leaves .cellar = false) (hwords : m.leaves .words = false) (h : Kept m a s) : Kept m a (mAccess offset wide write v s).2.2 := by
  unfold mAccess
  repeat' first
    | with_reducible assumption
    | intro _
    | with_reducible apply mWrite_kept
    | with_reducible apply mReadFx_kept
    | with_reducible apply kept_ite
    | with_reducible apply kept_ite_third
    | simp only [↓kept_upd_iff, implies_true, hst, hprog, hsev, hdig, hbnk, hobs, hscr, hisl, hcol, hgov, hcmd, htaps, hjrn, hesc, hrecd, hseq, hfab, htim, hmregs, hjregs, hcapKeys, hthm, hcellar, hwords, Bool.false_eq_true, false_implies]
    | dsimp only
    | split

theorem mPut_kept {offset : Nat} {wide : Bool} {v : Nat} (hst : m.st = false) (hprog : m.prog = false) (hsev : m.sev = false) (hdig : m.leaves .dig = false) (hbnk : m.leaves .bnk = false) (hobs : m.leaves .obs = false) (hscr : m.leaves .scr = false) (hisl : m.leaves .isl = false) (hcol : m.leaves .col = false) (hgov : m.leaves .gov = false) (hcmd : m.leaves .cmd = false) (htaps : m.leaves .taps = false) (hjrn : m.leaves .jrn = false) (hesc : m.leaves .esc = false) (hrecd : m.leaves .recd = false) (hseq : m.leaves .seq = false) (hfab : m.leaves .fab = false) (htim : m.leaves .tim = false) (hmregs : m.leaves .mregs = false) (hjregs : m.leaves .jregs = false) (hcapKeys : m.leaves .capKeys = false) (hthm : m.leaves .thm = false) (hcellar : m.leaves .cellar = false) (hwords : m.leaves .words = false) (h : Kept m a s) : Kept m a (mPut offset wide v s) := by
  unfold mPut
  repeat' first
    | with_reducible assumption
    | intro _
    | with_reducible apply mAccess_kept
    | with_reducible apply kept_ite
    | refine kept_snd (by with_reducible assumption) ?_
    | refine kept_third (by with_reducible assumption) ?_
    | dsimp only
    | split

/-! ### Registers -/

theorem jReadFx_kept {c : Nat} {o : Nat} {h_ : Nat} (hcmd : m.leaves .cmd = false) (htim : m.leaves .tim = false) (hmregs : m.leaves .mregs = false) (hjregs : m.leaves .jregs = false) (h : Kept m a s) : Kept m a (jReadFx c o h_ s) := by
  unfold jReadFx
  repeat' first
    | with_reducible assumption
    | intro _
    | with_reducible apply whenS_kept
    | with_reducible apply latchEt_kept
    | with_reducible apply updComp_kept
    | with_reducible apply State.setJf_kept
    | with_reducible apply kept_ite
    | simp only [↓kept_upd_iff, implies_true, hcmd, htim, hmregs, hjregs, Bool.false_eq_true, false_implies]
    | dsimp only
    | split

theorem writeBase_kept {c : Nat} {base : RF} {enable : RF} {refuse : Comp → Comp} {mask : Nat} {v : Nat} (hcmd : m.leaves .cmd = false) (hjregs : m.leaves .jregs = false) (h : Kept m a s) : Kept m a (writeBase c base enable refuse mask v s) := by
  unfold writeBase
  repeat' first
    | with_reducible assumption
    | intro _
    | with_reducible apply updComp_kept
    | with_reducible apply State.setJf_kept
    | with_reducible apply kept_ite
    | dsimp only
    | split

theorem jWrite_kept {c : Nat} {o : Nat} {h_ : Nat} {v : Nat} (hobs : m.leaves .obs = false) (hcol : m.leaves .col = false) (hcmd : m.leaves .cmd = false) (hrecd : m.leaves .recd = false) (hfab : m.leaves .fab = false) (hjregs : m.leaves .jregs = false) (h : Kept m a s) : Kept m a (jWrite c o h_ v s) := by
  unfold jWrite
  repeat' first
    | with_reducible assumption
    | intro _
    | with_reducible apply writeBase_kept
    | with_reducible apply whenS_kept
    | with_reducible apply doCmdqEnable_kept
    | with_reducible apply doCmdqTailWrite_kept
    | with_reducible apply doCplqEnable_kept
    | with_reducible apply doCplqHeadWrite_kept
    | with_reducible apply doJObsSample_kept
    | with_reducible apply State.setJf_kept
    | with_reducible apply doTraceHeadWrite_kept
    | with_reducible apply kept_ite
    | simp only [↓kept_upd_iff, implies_true, hobs, hcol, hcmd, hrecd, hfab, hjregs, Bool.false_eq_true, false_implies]
    | dsimp only
    | split

theorem jAccess_kept {c : Nat} {offset : Nat} {wide : Bool} {write : Bool} {v : Nat} (hobs : m.leaves .obs = false) (hcol : m.leaves .col = false) (hcmd : m.leaves .cmd = false) (hrecd : m.leaves .recd = false) (hfab : m.leaves .fab = false) (htim : m.leaves .tim = false) (hmregs : m.leaves .mregs = false) (hjregs : m.leaves .jregs = false) (h : Kept m a s) : Kept m a (jAccess c offset wide write v s).2 := by
  unfold jAccess
  repeat' first
    | with_reducible assumption
    | intro _
    | with_reducible apply jWrite_kept
    | with_reducible apply jReadFx_kept
    | with_reducible apply kept_ite
    | with_reducible apply kept_ite_snd
    | dsimp only
    | split

theorem doJPageAccess_kept {core : Nat} {offset : Nat} {wide : Bool} {write : Bool} {data : Nat} (hobs : m.leaves .obs = false) (hcol : m.leaves .col = false) (hcmd : m.leaves .cmd = false) (hrecd : m.leaves .recd = false) (hfab : m.leaves .fab = false) (htim : m.leaves .tim = false) (hmregs : m.leaves .mregs = false) (hjregs : m.leaves .jregs = false) (h : Kept m a s) : Kept m a (doJPageAccess core offset wide write data s) := by
  unfold doJPageAccess
  repeat' first
    | with_reducible assumption
    | intro _
    | with_reducible apply refuseCrossing_kept
    | with_reducible apply emit_kept
    | with_reducible apply jAccess_kept
    | with_reducible apply kept_ite
    | refine kept_snd (by with_reducible assumption) ?_
    | refine kept_third (by with_reducible assumption) ?_
    | dsimp only
    | split

theorem doMreg_kept {offset : Nat} {wide : Bool} {write : Bool} {data : Nat} (hst : m.st = false) (hprog : m.prog = false) (hsev : m.sev = false) (hdig : m.leaves .dig = false) (hbnk : m.leaves .bnk = false) (hobs : m.leaves .obs = false) (hscr : m.leaves .scr = false) (hisl : m.leaves .isl = false) (hcol : m.leaves .col = false) (hgov : m.leaves .gov = false) (hcmd : m.leaves .cmd = false) (htaps : m.leaves .taps = false) (hjrn : m.leaves .jrn = false) (hesc : m.leaves .esc = false) (hrecd : m.leaves .recd = false) (hseq : m.leaves .seq = false) (hfab : m.leaves .fab = false) (htim : m.leaves .tim = false) (hmregs : m.leaves .mregs = false) (hjregs : m.leaves .jregs = false) (hcapKeys : m.leaves .capKeys = false) (hthm : m.leaves .thm = false) (hcellar : m.leaves .cellar = false) (hwords : m.leaves .words = false) (h : Kept m a s) : Kept m a (doMreg offset wide write data s) := by
  unfold doMreg
  repeat' first
    | with_reducible assumption
    | intro _
    | with_reducible apply mAccess_kept
    | with_reducible apply emit_kept
    | with_reducible apply kept_ite
    | refine kept_snd (by with_reducible assumption) ?_
    | refine kept_third (by with_reducible assumption) ?_
    | dsimp only
    | split

theorem doRegisterWrite_kept {job : Bool} {wide : Bool} {c : Nat} {offset : Nat} {v : Nat} (hst : m.st = false) (hprog : m.prog = false) (hsev : m.sev = false) (hdig : m.leaves .dig = false) (hbnk : m.leaves .bnk = false) (hobs : m.leaves .obs = false) (hscr : m.leaves .scr = false) (hisl : m.leaves .isl = false) (hcol : m.leaves .col = false) (hgov : m.leaves .gov = false) (hcmd : m.leaves .cmd = false) (htaps : m.leaves .taps = false) (hjrn : m.leaves .jrn = false) (hesc : m.leaves .esc = false) (hrecd : m.leaves .recd = false) (hseq : m.leaves .seq = false) (hfab : m.leaves .fab = false) (htim : m.leaves .tim = false) (hmregs : m.leaves .mregs = false) (hjregs : m.leaves .jregs = false) (hcapKeys : m.leaves .capKeys = false) (hthm : m.leaves .thm = false) (hcellar : m.leaves .cellar = false) (hwords : m.leaves .words = false) (h : Kept m a s) : Kept m a (doRegisterWrite job wide c offset v s) := by
  unfold doRegisterWrite
  repeat' first
    | with_reducible assumption
    | intro _
    | with_reducible apply mPut_kept
    | with_reducible apply jAccess_kept
    | with_reducible apply kept_ite
    | refine kept_snd (by with_reducible assumption) ?_
    | refine kept_third (by with_reducible assumption) ?_
    | dsimp only
    | split

/-! ### Island -/

theorem i3cSay_kept {bs : List Byte} (h : Kept m a s) : Kept m a (i3cSay bs s) := by
  unfold i3cSay
  repeat' first
    | with_reducible assumption
    | intro _
    | with_reducible apply whenS_kept
    | with_reducible apply emit_kept
    | with_reducible apply kept_ite
    | dsimp only
    | split

theorem doI3cWrite_kept {bytes : List Byte} (hst : m.st = false) (hprog : m.prog = false) (hsev : m.sev = false) (hdig : m.leaves .dig = false) (hbnk : m.leaves .bnk = false) (hobs : m.leaves .obs = false) (hscr : m.leaves .scr = false) (hisl : m.leaves .isl = false) (hcol : m.leaves .col = false) (hgov : m.leaves .gov = false) (hcmd : m.leaves .cmd = false) (htaps : m.leaves .taps = false) (hjrn : m.leaves .jrn = false) (hesc : m.leaves .esc = false) (hrecd : m.leaves .recd = false) (hseq : m.leaves .seq = false) (hfab : m.leaves .fab = false) (htim : m.leaves .tim = false) (hmregs : m.leaves .mregs = false) (hjregs : m.leaves .jregs = false) (hcapKeys : m.leaves .capKeys = false) (hthm : m.leaves .thm = false) (hcellar : m.leaves .cellar = false) (hwords : m.leaves .words = false) (h : Kept m a s) : Kept m a (doI3cWrite bytes s) := by
  unfold doI3cWrite
  repeat' first
    | with_reducible assumption
    | intro _
    | with_reducible apply mAccess_kept
    | with_reducible apply mPut_kept
    | with_reducible apply kept_ite
    | simp only [↓kept_upd_iff, implies_true, hst, hprog, hsev, hdig, hbnk, hobs, hscr, hisl, hcol, hgov, hcmd, htaps, hjrn, hesc, hrecd, hseq, hfab, htim, hmregs, hjregs, hcapKeys, hthm, hcellar, hwords, Bool.false_eq_true, false_implies]
    | refine kept_snd (by with_reducible assumption) ?_
    | refine kept_third (by with_reducible assumption) ?_
    | dsimp only
    | split

theorem doI3cRead_kept  (hisl : m.leaves .isl = false) (h : Kept m a s) : Kept m a (doI3cRead s) := by
  unfold doI3cRead
  repeat' first
    | with_reducible assumption
    | intro _
    | with_reducible apply emit_kept
    | with_reducible apply kept_ite
    | simp only [↓kept_upd_iff, implies_true, hisl, Bool.false_eq_true, false_implies]
    | dsimp only
    | split

theorem takeAddr_kept {has : Bool} {addr : BitVec 7} (hisl : m.leaves .isl = false) (h : Kept m a s) : Kept m a (takeAddr has addr s) := by
  unfold takeAddr
  repeat' first
    | with_reducible assumption
    | intro _
    | with_reducible apply kept_ite
    | simp only [↓kept_upd_iff, implies_true, hisl, Bool.false_eq_true, false_implies]
    | dsimp only
    | split

theorem doEntdaa_kept {addr : BitVec 7} (hisl : m.leaves .isl = false) (h : Kept m a s) : Kept m a (doEntdaa addr s) := by
  unfold doEntdaa
  repeat' first
    | with_reducible assumption
    | intro _
    | with_reducible apply takeAddr_kept
    | with_reducible apply i3cSay_kept
    | with_reducible apply kept_ite
    | dsimp only
    | split

theorem camLine_kept {level : CamLevel} {f : State → Nat × List Nat × State} (hf : ∀  t, Kept m a t → Kept m a (f  t).2.2) (hisl : m.leaves .isl = false) (h : Kept m a s) : Kept m a (camLine level f s) := by
  unfold camLine
  repeat' first
    | with_reducible assumption
    | intro _
    | with_reducible apply emit_kept
    | with_reducible apply hf
    | with_reducible apply kept_ite
    | simp only [↓kept_upd_iff, implies_true, hisl, Bool.false_eq_true, false_implies]
    | dsimp only
    | split

theorem camHub_kept {f : State → Nat × List Nat × State} (hf : ∀  t, Kept m a t → Kept m a (f  t).2.2) (hisl : m.leaves .isl = false) (h : Kept m a s) : Kept m a (camHub f s).2.2 := by
  unfold camHub
  repeat' first
    | with_reducible assumption
    | intro _
    | with_reducible apply hf
    | with_reducible apply kept_ite
    | with_reducible apply kept_ite_third
    | simp only [↓kept_upd_iff, implies_true, hisl, Bool.false_eq_true, false_implies]
    | dsimp only
    | split

theorem camRd_kept {offset : Nat} {wide : Bool} (hst : m.st = false) (hprog : m.prog = false) (hsev : m.sev = false) (hdig : m.leaves .dig = false) (hbnk : m.leaves .bnk = false) (hobs : m.leaves .obs = false) (hscr : m.leaves .scr = false) (hisl : m.leaves .isl = false) (hcol : m.leaves .col = false) (hgov : m.leaves .gov = false) (hcmd : m.leaves .cmd = false) (htaps : m.leaves .taps = false) (hjrn : m.leaves .jrn = false) (hesc : m.leaves .esc = false) (hrecd : m.leaves .recd = false) (hseq : m.leaves .seq = false) (hfab : m.leaves .fab = false) (htim : m.leaves .tim = false) (hmregs : m.leaves .mregs = false) (hjregs : m.leaves .jregs = false) (hcapKeys : m.leaves .capKeys = false) (hthm : m.leaves .thm = false) (hcellar : m.leaves .cellar = false) (hwords : m.leaves .words = false) (h : Kept m a s) : Kept m a (camRd offset wide s).2.2 := by
  unfold camRd
  repeat' first
    | with_reducible assumption
    | intro _
    | with_reducible apply mAccess_kept
    | with_reducible apply kept_ite
    | with_reducible apply kept_ite_third
    | refine kept_snd (by with_reducible assumption) ?_
    | refine kept_third (by with_reducible assumption) ?_
    | dsimp only
    | split

theorem camCellar_kept {addr : Nat} {count : Nat} (hrecd : m.leaves .recd = false) (hmregs : m.leaves .mregs = false) (h : Kept m a s) : Kept m a (camCellar addr count s).2.2 := by
  unfold camCellar
  repeat' first
    | with_reducible assumption
    | intro _
    | with_reducible apply count_kept
    | with_reducible apply foldS_kept
    | with_reducible apply doCellarRead_kept
    | with_reducible apply kept_ite
    | with_reducible apply kept_ite_third
    | dsimp only
    | split

theorem camRec_kept {n : Nat} (h : Kept m a s) : Kept m a (camRec n s).2.2 := by
  unfold camRec
  repeat' first
    | with_reducible assumption
    | intro _
    | with_reducible apply kept_ite
    | with_reducible apply kept_ite_third
    | dsimp only
    | split

theorem denyToken_kept  (hisl : m.leaves .isl = false) (hcol : m.leaves .col = false) (h : Kept m a s) : Kept m a (denyToken s) := by
  unfold denyToken
  repeat' first
    | with_reducible assumption
    | intro _
    | with_reducible apply raiseIsland_kept
    | with_reducible apply kept_ite
    | simp only [↓kept_upd_iff, implies_true, hisl, hcol, Bool.false_eq_true, false_implies]
    | dsimp only
    | split

theorem tryToken_kept {tok : BitVec 2048} (hlevel : m.level = false) (hisl : m.leaves .isl = false) (hcol : m.leaves .col = false) (h : Kept m a s) : Kept m a (tryToken tok s).2.2 := by
  unfold tryToken
  repeat' first
    | with_reducible assumption
    | intro _
    | with_reducible apply denyToken_kept
    | with_reducible apply kept_ite
    | with_reducible apply kept_ite_third
    | simp only [↓kept_upd_iff, implies_true, hlevel, hisl, hcol, Bool.false_eq_true, false_implies]
    | dsimp only
    | split

theorem camUnlock_kept {token : Option (BitVec 2048)} (hlevel : m.level = false) (hisl : m.leaves .isl = false) (hcol : m.leaves .col = false) (h : Kept m a s) : Kept m a (camUnlock token s).2.2 := by
  unfold camUnlock
  repeat' first
    | with_reducible assumption
    | intro _
    | with_reducible apply takeFree_kept
    | with_reducible apply tryToken_kept
    | with_reducible apply kept_ite
    | with_reducible apply kept_ite_third
    | simp only [↓kept_upd_iff, implies_true, hlevel, hisl, hcol, Bool.false_eq_true, false_implies]
    | refine kept_snd (by with_reducible assumption) ?_
    | refine kept_third (by with_reducible assumption) ?_
    | dsimp only
    | split

theorem camSev_kept {cls : Nat} {kind : Nat} {entry : Option (BitVec 8)} (hsev : m.sev = false) (hcol : m.leaves .col = false) (hmregs : m.leaves .mregs = false) (h : Kept m a s) : Kept m a (camSev cls kind entry s).2.2 := by
  unfold camSev
  repeat' first
    | with_reducible assumption
    | intro _
    | with_reducible apply State.setRf_kept
    | with_reducible apply doSev_kept
    | with_reducible apply writeSev_kept
    | with_reducible apply kept_ite
    | with_reducible apply kept_ite_third
    | refine kept_snd (by with_reducible assumption) ?_
    | refine kept_third (by with_reducible assumption) ?_
    | dsimp only
    | split

theorem camComp_kept {c : Nat} {close : Bool} (hst : m.st = false) (hdig : m.leaves .dig = false) (hobs : m.leaves .obs = false) (hisl : m.leaves .isl = false) (hcol : m.leaves .col = false) (hgov : m.leaves .gov = false) (hcmd : m.leaves .cmd = false) (htaps : m.leaves .taps = false) (hjrn : m.leaves .jrn = false) (hesc : m.leaves .esc = false) (hrecd : m.leaves .recd = false) (hseq : m.leaves .seq = false) (hfab : m.leaves .fab = false) (hmregs : m.leaves .mregs = false) (hjregs : m.leaves .jregs = false) (hcapKeys : m.leaves .capKeys = false) (h : Kept m a s) : Kept m a (camComp c close s).2.2 := by
  unfold camComp
  repeat' first
    | with_reducible assumption
    | intro _
    | with_reducible apply doCompClose_kept
    | with_reducible apply doCompOpen_kept
    | with_reducible apply kept_ite
    | with_reducible apply kept_ite_third
    | dsimp only
    | split

theorem camGate_kept {code : Nat} {body : Nat} (hprog : m.prog = false) (hdig : m.leaves .dig = false) (hbnk : m.leaves .bnk = false) (hobs : m.leaves .obs = false) (hscr : m.leaves .scr = false) (hisl : m.leaves .isl = false) (hcol : m.leaves .col = false) (hgov : m.leaves .gov = false) (hrecd : m.leaves .recd = false) (hseq : m.leaves .seq = false) (hcapKeys : m.leaves .capKeys = false) (hcellar : m.leaves .cellar = false) (hwords : m.leaves .words = false) (h : Kept m a s) : Kept m a (camGate code body s).2.2 := by
  unfold camGate
  repeat' first
    | with_reducible assumption
    | intro _
    | with_reducible apply gateSend_kept
    | with_reducible apply gatePop_kept
    | with_reducible apply kept_ite
    | with_reducible apply kept_ite_third
    | simp only [↓kept_upd_iff, implies_true, hprog, hdig, hbnk, hobs, hscr, hisl, hcol, hgov, hrecd, hseq, hcapKeys, hcellar, hwords, Bool.false_eq_true, false_implies]
    | dsimp only
    | split

theorem camPut_kept {bank : Nat} {offset : Nat} {words : List W256} (hbnk : m.leaves .bnk = false) (hobs : m.leaves .obs = false) (hgov : m.leaves .gov = false) (hwords : m.leaves .words = false) (h : Kept m a s) : Kept m a (camPut bank offset words s).2.2 := by
  unfold camPut
  repeat' first
    | with_reducible assumption
    | intro _
    | with_reducible apply foldS_kept
    | with_reducible apply doBankWrite_kept
    | with_reducible apply kept_ite
    | with_reducible apply kept_ite_third
    | simp only [↓kept_upd_iff, implies_true, hbnk, hobs, hgov, hwords, Bool.false_eq_true, false_implies]
    | dsimp only
    | split

/-! ### Parts -/

theorem raiseLink_kept {link : Nat} {kind : Nat} (hobs : m.leaves .obs = false) (hcol : m.leaves .col = false) (h : Kept m a s) : Kept m a (raiseLink link kind s) := by
  unfold raiseLink
  repeat' first
    | with_reducible assumption
    | intro _
    | with_reducible apply raiseHub_kept
    | with_reducible apply raiseSense_kept
    | with_reducible apply raiseWarden_kept
    | with_reducible apply raiseMem_kept
    | with_reducible apply raiseHcore_kept
    | with_reducible apply raiseTap_kept
    | with_reducible apply kept_ite
    | dsimp only
    | split

theorem countRetry_kept {link : Nat} (hobs : m.leaves .obs = false) (h : Kept m a s) : Kept m a (countRetry link s) := by
  unfold countRetry
  repeat' first
    | with_reducible assumption
    | intro _
    | with_reducible apply countWarden_kept
    | with_reducible apply countMem_kept
    | with_reducible apply countTap_kept
    | with_reducible apply kept_ite
    | dsimp only
    | split

theorem linkFails_kept {link : Nat} (hdig : m.leaves .dig = false) (hscr : m.leaves .scr = false) (hcol : m.leaves .col = false) (hcmd : m.leaves .cmd = false) (h : Kept m a s) : Kept m a (linkFails link s) := by
  unfold linkFails
  repeat' first
    | with_reducible assumption
    | intro _
    | with_reducible apply memTapFailed_kept
    | with_reducible apply stopDie_kept
    | with_reducible apply kept_ite
    | simp only [↓kept_upd_iff, implies_true, hdig, hscr, hcol, hcmd, Bool.false_eq_true, false_implies]
    | dsimp only
    | split

theorem doLinkParity_kept {link : Nat} (hdig : m.leaves .dig = false) (hobs : m.leaves .obs = false) (hscr : m.leaves .scr = false) (hcol : m.leaves .col = false) (hcmd : m.leaves .cmd = false) (h : Kept m a s) : Kept m a (doLinkParity link s) := by
  unfold doLinkParity
  repeat' first
    | with_reducible assumption
    | intro _
    | with_reducible apply raiseLink_kept
    | with_reducible apply linkFails_kept
    | with_reducible apply countRetry_kept
    | with_reducible apply kept_ite
    | simp only [↓kept_upd_iff, implies_true, hdig, hobs, hscr, hcol, hcmd, Bool.false_eq_true, false_implies]
    | dsimp only
    | split

theorem raisePort_kept {l : Loc} {kind : Nat} (hobs : m.leaves .obs = false) (hcol : m.leaves .col = false) (h : Kept m a s) : Kept m a (raisePort l kind s) := by
  unfold raisePort
  repeat' first
    | with_reducible assumption
    | intro _
    | with_reducible apply raiseTap_kept
    | with_reducible apply raiseMem_kept
    | with_reducible apply raiseHcore_kept
    | with_reducible apply raiseHub_kept
    | with_reducible apply kept_ite
    | dsimp only
    | split

theorem doPortParityError_kept {l : Loc} (hobs : m.leaves .obs = false) (hcol : m.leaves .col = false) (h : Kept m a s) : Kept m a (doPortParityError l s) := by
  unfold doPortParityError
  repeat' first
    | with_reducible assumption
    | intro _
    | with_reducible apply raisePort_kept
    | with_reducible apply kept_ite
    | simp only [↓kept_upd_iff, implies_true, hobs, hcol, Bool.false_eq_true, false_implies]
    | dsimp only
    | split

theorem doHeartbeat_kept {part : Nat} (hobs : m.leaves .obs = false) (hcol : m.leaves .col = false) (h : Kept m a s) : Kept m a (doHeartbeat part s) := by
  unfold doHeartbeat
  repeat' first
    | with_reducible assumption
    | intro _
    | with_reducible apply wardenBack_kept
    | with_reducible apply kept_ite
    | simp only [↓kept_upd_iff, implies_true, hobs, hcol, Bool.false_eq_true, false_implies]
    | dsimp only
    | split

theorem doTapMissing_kept {tap : Nat} (hobs : m.leaves .obs = false) (hscr : m.leaves .scr = false) (hcol : m.leaves .col = false) (h : Kept m a s) : Kept m a (doTapMissing tap s) := by
  unfold doTapMissing
  repeat' first
    | with_reducible assumption
    | intro _
    | with_reducible apply raiseSense_kept
    | with_reducible apply count_kept
    | with_reducible apply kept_ite
    | simp only [↓kept_upd_iff, implies_true, hobs, hscr, hcol, Bool.false_eq_true, false_implies]
    | dsimp only
    | split

theorem doWardenMissing_kept {r : Nat} (hobs : m.leaves .obs = false) (hscr : m.leaves .scr = false) (hcol : m.leaves .col = false) (hcmd : m.leaves .cmd = false) (hjrn : m.leaves .jrn = false) (hseq : m.leaves .seq = false) (h : Kept m a s) : Kept m a (doWardenMissing r s) := by
  unfold doWardenMissing
  repeat' first
    | with_reducible assumption
    | intro _
    | with_reducible apply raiseHub_kept
    | with_reducible apply wardenLost_kept
    | with_reducible apply kept_ite
    | dsimp only
    | split

theorem countUe_kept {m_ : Nat} {h_ : Nat} (hcol : m.leaves .col = false) (h : Kept m a s) : Kept m a (countUe m_ h_ s) := by
  unfold countUe
  repeat' first
    | with_reducible assumption
    | intro _
    | with_reducible apply whenS_kept
    | with_reducible apply raiseMem_kept
    | with_reducible apply kept_ite
    | simp only [↓kept_upd_iff, implies_true, hcol, Bool.false_eq_true, false_implies]
    | dsimp only
    | split

theorem askWriteBack_kept {m_ : Nat} {h_ : Nat} {waddr : Nat} {pay : W256} (hcol : m.leaves .col = false) (h : Kept m a s) : Kept m a (askWriteBack m_ h_ waddr pay s) := by
  unfold askWriteBack
  repeat' first
    | with_reducible assumption
    | intro _
    | with_reducible apply emit_kept
    | with_reducible apply kept_ite
    | simp only [↓kept_upd_iff, implies_true, hcol, Bool.false_eq_true, false_implies]
    | dsimp only
    | split

theorem doEccEvent_kept {m_ : Nat} {ue : Bool} {h_ : Nat} {waddr : Nat} {pay : W256} (hobs : m.leaves .obs = false) (hcol : m.leaves .col = false) (h : Kept m a s) : Kept m a (doEccEvent m_ ue h_ waddr pay s) := by
  unfold doEccEvent
  repeat' first
    | with_reducible assumption
    | intro _
    | with_reducible apply raiseMem_kept
    | with_reducible apply countMem_kept
    | with_reducible apply whenS_kept
    | with_reducible apply askWriteBack_kept
    | with_reducible apply countUe_kept
    | with_reducible apply kept_ite
    | dsimp only
    | split

theorem doBwbDone_kept {m_ : Nat} (hobs : m.leaves .obs = false) (hcol : m.leaves .col = false) (h : Kept m a s) : Kept m a (doBwbDone m_ s) := by
  unfold doBwbDone
  repeat' first
    | with_reducible assumption
    | intro _
    | with_reducible apply countMem_kept
    | with_reducible apply kept_ite
    | simp only [↓kept_upd_iff, implies_true, hobs, hcol, Bool.false_eq_true, false_implies]
    | dsimp only
    | split

theorem doBwbTimeout_kept {m_ : Nat} (hcol : m.leaves .col = false) (h : Kept m a s) : Kept m a (doBwbTimeout m_ s) := by
  unfold doBwbTimeout
  repeat' first
    | with_reducible assumption
    | intro _
    | with_reducible apply raiseMem_kept
    | with_reducible apply emit_kept
    | with_reducible apply kept_ite
    | simp only [↓kept_upd_iff, implies_true, hcol, Bool.false_eq_true, false_implies]
    | dsimp only
    | split

theorem doBlazeConsumed_kept {tap : Nat} {unit : Nat} {cord : Nat} {pay : W64} (hobs : m.leaves .obs = false) (hcol : m.leaves .col = false) (h : Kept m a s) : Kept m a (doBlazeConsumed tap unit cord pay s) := by
  unfold doBlazeConsumed
  repeat' first
    | with_reducible assumption
    | intro _
    | with_reducible apply raiseTap_kept
    | with_reducible apply countTap_kept
    | with_reducible apply kept_ite
    | dsimp only
    | split

theorem doHostCoreEvent_kept {core : Nat} {typ : Nat} {cord : Nat} {pay : W64} (hcol : m.leaves .col = false) (h : Kept m a s) : Kept m a (doHostCoreEvent core typ cord pay s) := by
  unfold doHostCoreEvent
  repeat' first
    | with_reducible assumption
    | intro _
    | with_reducible apply raiseHcore_kept
    | with_reducible apply kept_ite
    | dsimp only
    | split

theorem onPing_kept {m_ : VcsMsg} (hobs : m.leaves .obs = false) (hcol : m.leaves .col = false) (hfab : m.leaves .fab = false) (h : Kept m a s) : Kept m a (onPing m_ s) := by
  unfold onPing
  repeat' first
    | with_reducible assumption
    | intro _
    | with_reducible apply countHub_kept
    | with_reducible apply leaseAnswer_kept
    | with_reducible apply updLease_kept
    | with_reducible apply kept_ite
    | simp only [↓kept_upd_iff, implies_true, hobs, hcol, hfab, Bool.false_eq_true, false_implies]
    | dsimp only
    | split

theorem doLeaseExpired_kept {i : Nat} (hcol : m.leaves .col = false) (h : Kept m a s) : Kept m a (doLeaseExpired i s) := by
  unfold doLeaseExpired
  repeat' first
    | with_reducible assumption
    | intro _
    | with_reducible apply raiseHub_kept
    | with_reducible apply updLease_kept
    | with_reducible apply kept_ite
    | simp only [↓kept_upd_iff, implies_true, hcol, Bool.false_eq_true, false_implies]
    | dsimp only
    | split

theorem onRevoke_kept {m_ : VcsMsg} (hcol : m.leaves .col = false) (hfab : m.leaves .fab = false) (h : Kept m a s) : Kept m a (onRevoke m_ s) := by
  unfold onRevoke
  repeat' first
    | with_reducible assumption
    | intro _
    | with_reducible apply updLease_kept
    | with_reducible apply revokeAcks_kept
    | with_reducible apply raiseHub_kept
    | with_reducible apply kept_ite
    | simp only [↓kept_upd_iff, implies_true, hcol, hfab, Bool.false_eq_true, false_implies]
    | dsimp only
    | split

/-! ### QuoperUnits -/

theorem withOperand_kept {b : Bool} {a_ : Nat} {n : Nat} {f : Nat → State → Nat × State} (hf : ∀ x0 t, Kept m a t → Kept m a (f x0 t).2) (hbnk : m.leaves .bnk = false) (hobs : m.leaves .obs = false) (hcol : m.leaves .col = false) (hwords : m.leaves .words = false) (h : Kept m a s) : Kept m a (withOperand b a_ n f s).2 := by
  unfold withOperand
  repeat' first
    | with_reducible assumption
    | intro _
    | with_reducible apply bankRefused_kept
    | with_reducible apply opRead_kept
    | with_reducible apply hf
    | with_reducible apply kept_ite
    | with_reducible apply kept_ite_snd
    | refine kept_snd (by with_reducible assumption) ?_
    | refine kept_third (by with_reducible assumption) ?_
    | dsimp only
    | split

theorem doOwn_kept {b : Bool} {q : BitVec 56} (hbnk : m.leaves .bnk = false) (hwords : m.leaves .words = false) (h : Kept m a s) : Kept m a (doOwn b q s).2 := by
  unfold doOwn
  repeat' first
    | with_reducible assumption
    | intro _
    | with_reducible apply handBank_kept
    | with_reducible apply kept_ite
    | with_reducible apply kept_ite_snd
    | refine kept_snd (by with_reducible assumption) ?_
    | refine kept_third (by with_reducible assumption) ?_
    | dsimp only
    | split

theorem doMp_kept {q : BitVec 56} {write : Bool} {v : Nat} (hst : m.st = false) (hprog : m.prog = false) (hsev : m.sev = false) (hdig : m.leaves .dig = false) (hbnk : m.leaves .bnk = false) (hobs : m.leaves .obs = false) (hscr : m.leaves .scr = false) (hisl : m.leaves .isl = false) (hcol : m.leaves .col = false) (hgov : m.leaves .gov = false) (hcmd : m.leaves .cmd = false) (htaps : m.leaves .taps = false) (hjrn : m.leaves .jrn = false) (hesc : m.leaves .esc = false) (hrecd : m.leaves .recd = false) (hseq : m.leaves .seq = false) (hfab : m.leaves .fab = false) (htim : m.leaves .tim = false) (hmregs : m.leaves .mregs = false) (hjregs : m.leaves .jregs = false) (hcapKeys : m.leaves .capKeys = false) (hthm : m.leaves .thm = false) (hcellar : m.leaves .cellar = false) (hwords : m.leaves .words = false) (h : Kept m a s) : Kept m a (doMp q write v s).2.2 := by
  unfold doMp
  repeat' first
    | with_reducible assumption
    | intro _
    | with_reducible apply mAccess_kept
    | with_reducible apply kept_ite
    | with_reducible apply kept_ite_third
    | refine kept_snd (by with_reducible assumption) ?_
    | refine kept_third (by with_reducible assumption) ?_
    | dsimp only
    | split

theorem doLop_kept {b : Bool} {q : BitVec 56} (hbnk : m.leaves .bnk = false) (hobs : m.leaves .obs = false) (hcol : m.leaves .col = false) (hgov : m.leaves .gov = false) (hcmd : m.leaves .cmd = false) (hfab : m.leaves .fab = false) (hwords : m.leaves .words = false) (h : Kept m a s) : Kept m a (doLop b q s).2 := by
  unfold doLop
  repeat' first
    | with_reducible assumption
    | intro _
    | with_reducible apply withOperand_kept
    | with_reducible apply latchApply_kept
    | with_reducible apply whenS_kept
    | with_reducible apply opWrite_kept
    | with_reducible apply sendLatch_kept
    | with_reducible apply kept_ite
    | with_reducible apply kept_ite_snd
    | refine kept_snd (by with_reducible assumption) ?_
    | refine kept_third (by with_reducible assumption) ?_
    | dsimp only
    | split

theorem doLread_kept {b : Bool} {q : BitVec 56} (h : Kept m a s) : Kept m a (doLread b q s).2.2 := by
  unfold doLread
  repeat' first
    | with_reducible assumption
    | intro _
    | with_reducible apply kept_ite
    | with_reducible apply kept_ite_third
    | dsimp only
    | split

theorem doSevw_kept {b : Bool} {q : BitVec 56} (hsev : m.sev = false) (hcol : m.leaves .col = false) (h : Kept m a s) : Kept m a (doSevw b q s).2 := by
  unfold doSevw
  repeat' first
    | with_reducible assumption
    | intro _
    | with_reducible apply writeSev_kept
    | with_reducible apply kept_ite
    | with_reducible apply kept_ite_snd
    | refine kept_snd (by with_reducible assumption) ?_
    | refine kept_third (by with_reducible assumption) ?_
    | dsimp only
    | split

theorem doPwrite_kept {b : Bool} {q : BitVec 56} (hbnk : m.leaves .bnk = false) (hobs : m.leaves .obs = false) (hcol : m.leaves .col = false) (hgov : m.leaves .gov = false) (hjrn : m.leaves .jrn = false) (hwords : m.leaves .words = false) (h : Kept m a s) : Kept m a (doPwrite b q s).2 := by
  unfold doPwrite
  repeat' first
    | with_reducible assumption
    | intro _
    | with_reducible apply withOperand_kept
    | with_reducible apply putRecord_kept
    | with_reducible apply kept_ite
    | with_reducible apply kept_ite_snd
    | refine kept_snd (by with_reducible assumption) ?_
    | refine kept_third (by with_reducible assumption) ?_
    | dsimp only
    | split

theorem doPread_kept {b : Bool} {q : BitVec 56} (hbnk : m.leaves .bnk = false) (hobs : m.leaves .obs = false) (hgov : m.leaves .gov = false) (hwords : m.leaves .words = false) (h : Kept m a s) : Kept m a (doPread b q s).2 := by
  unfold doPread
  repeat' first
    | with_reducible assumption
    | intro _
    | with_reducible apply bankRefused_kept
    | with_reducible apply opWrite_kept
    | with_reducible apply kept_ite
    | with_reducible apply kept_ite_snd
    | dsimp only
    | split

theorem orderReaction_kept {sev : Nat} {kind : Nat} {comp : Option Nat} {l : Loc} (hobs : m.leaves .obs = false) (hscr : m.leaves .scr = false) (hcol : m.leaves .col = false) (hgov : m.leaves .gov = false) (hcmd : m.leaves .cmd = false) (hjrn : m.leaves .jrn = false) (hseq : m.leaves .seq = false) (hfab : m.leaves .fab = false) (h : Kept m a s) : Kept m a (orderReaction sev kind comp l s) := by
  unfold orderReaction
  repeat' first
    | with_reducible assumption
    | intro _
    | with_reducible apply react_kept
    | with_reducible apply kept_ite
    | simp only [↓kept_upd_iff, implies_true, hobs, hscr, hcol, hgov, hcmd, hjrn, hseq, hfab, Bool.false_eq_true, false_implies]
    | dsimp only
    | split

theorem orderUnfence_kept {sev : Nat} {l : Loc} (hcol : m.leaves .col = false) (hgov : m.leaves .gov = false) (h : Kept m a s) : Kept m a (orderUnfence sev l s).2 := by
  unfold orderUnfence
  repeat' first
    | with_reducible assumption
    | intro _
    | with_reducible apply orderLift_kept
    | with_reducible apply kept_ite
    | with_reducible apply kept_ite_snd
    | simp only [↓kept_upd_iff, implies_true, hcol, hgov, Bool.false_eq_true, false_implies]
    | dsimp only
    | split

theorem doFence_kept {b : Bool} {q : BitVec 56} (hobs : m.leaves .obs = false) (hscr : m.leaves .scr = false) (hcol : m.leaves .col = false) (hgov : m.leaves .gov = false) (hcmd : m.leaves .cmd = false) (hjrn : m.leaves .jrn = false) (hseq : m.leaves .seq = false) (hfab : m.leaves .fab = false) (h : Kept m a s) : Kept m a (doFence b q s).2 := by
  unfold doFence
  repeat' first
    | with_reducible assumption
    | intro _
    | with_reducible apply orderReaction_kept
    | with_reducible apply orderUnfence_kept
    | with_reducible apply setSuspect_kept
    | with_reducible apply kept_ite
    | with_reducible apply kept_ite_snd
    | simp only [↓kept_upd_iff, implies_true, hobs, hscr, hcol, hgov, hcmd, hjrn, hseq, hfab, Bool.false_eq_true, false_implies]
    | refine kept_snd (by with_reducible assumption) ?_
    | refine kept_third (by with_reducible assumption) ?_
    | dsimp only
    | split

theorem doFell_kept {b : Bool} {q : BitVec 56} (hfell : m.fell = false) (hobs : m.leaves .obs = false) (hcol : m.leaves .col = false) (hcmd : m.leaves .cmd = false) (hjrn : m.leaves .jrn = false) (hrecd : m.leaves .recd = false) (hcellar : m.leaves .cellar = false) (h : Kept m a s) : Kept m a (doFell b q s).2 := by
  unfold doFell
  repeat' first
    | with_reducible assumption
    | intro _
    | with_reducible apply fellLocus_kept
    | with_reducible apply kept_ite
    | with_reducible apply kept_ite_snd
    | dsimp only
    | split

theorem doRaise_kept {b : Bool} {q : BitVec 56} (hbnk : m.leaves .bnk = false) (hobs : m.leaves .obs = false) (hcol : m.leaves .col = false) (hwords : m.leaves .words = false) (h : Kept m a s) : Kept m a (doRaise b q s).2 := by
  unfold doRaise
  repeat' first
    | with_reducible assumption
    | intro _
    | with_reducible apply withOperand_kept
    | with_reducible apply raiseOn_kept
    | with_reducible apply kept_ite
    | with_reducible apply kept_ite_snd
    | refine kept_snd (by with_reducible assumption) ?_
    | refine kept_third (by with_reducible assumption) ?_
    | dsimp only
    | split

theorem doSliceOrder_kept {b : Bool} {q : BitVec 56} (hscr : m.leaves .scr = false) (h : Kept m a s) : Kept m a (doSliceOrder b q s).2 := by
  unfold doSliceOrder
  repeat' first
    | with_reducible assumption
    | intro _
    | with_reducible apply kept_ite
    | with_reducible apply kept_ite_snd
    | simp only [↓kept_upd_iff, implies_true, hscr, Bool.false_eq_true, false_implies]
    | dsimp only
    | split

theorem doSage_kept {b : Bool} {q : BitVec 56} (h : Kept m a s) : Kept m a (doSage b q s).2.2 := by
  unfold doSage
  repeat' first
    | with_reducible assumption
    | intro _
    | with_reducible apply kept_ite
    | with_reducible apply kept_ite_third
    | dsimp only
    | split

theorem doSense_kept {b : Bool} {q : BitVec 56} (h : Kept m a s) : Kept m a (doSense b q s).2.2 := by
  unfold doSense
  repeat' first
    | with_reducible assumption
    | intro _
    | with_reducible apply kept_ite
    | with_reducible apply kept_ite_third
    | dsimp only
    | split

theorem doPause_kept {b : Bool} {q : BitVec 56} (hobs : m.leaves .obs = false) (hmregs : m.leaves .mregs = false) (h : Kept m a s) : Kept m a (doPause b q s).2 := by
  unfold doPause
  repeat' first
    | with_reducible assumption
    | intro _
    | with_reducible apply withGates_kept
    | with_reducible apply State.setRf_kept
    | with_reducible apply kept_ite
    | with_reducible apply kept_ite_snd
    | dsimp only
    | split

theorem doRec_kept {b : Bool} {q : BitVec 56} (hbnk : m.leaves .bnk = false) (hobs : m.leaves .obs = false) (hcol : m.leaves .col = false) (hrecd : m.leaves .recd = false) (hwords : m.leaves .words = false) (h : Kept m a s) : Kept m a (doRec b q s).2 := by
  unfold doRec
  repeat' first
    | with_reducible assumption
    | intro _
    | with_reducible apply withOperand_kept
    | with_reducible apply setBucket_kept
    | with_reducible apply pushRec_kept
    | with_reducible apply kept_ite
    | with_reducible apply kept_ite_snd
    | simp only [↓kept_upd_iff, implies_true, hbnk, hobs, hcol, hrecd, hwords, Bool.false_eq_true, false_implies]
    | refine kept_snd (by with_reducible assumption) ?_
    | refine kept_third (by with_reducible assumption) ?_
    | dsimp only
    | split

theorem doCper_kept {b : Bool} {q : BitVec 56} (hbnk : m.leaves .bnk = false) (hobs : m.leaves .obs = false) (hcol : m.leaves .col = false) (hrecd : m.leaves .recd = false) (hwords : m.leaves .words = false) (h : Kept m a s) : Kept m a (doCper b q s).2 := by
  unfold doCper
  repeat' first
    | with_reducible assumption
    | intro _
    | with_reducible apply withOperand_kept
    | with_reducible apply queueCper_kept
    | with_reducible apply kept_ite
    | with_reducible apply kept_ite_snd
    | refine kept_snd (by with_reducible assumption) ?_
    | refine kept_third (by with_reducible assumption) ?_
    | dsimp only
    | split

theorem doCsel_kept {b : Bool} {q : BitVec 56} (hobs : m.leaves .obs = false) (h : Kept m a s) : Kept m a (doCsel b q s).2 := by
  unfold doCsel
  repeat' first
    | with_reducible assumption
    | intro _
    | with_reducible apply setSel_kept
    | with_reducible apply kept_ite
    | with_reducible apply kept_ite_snd
    | dsimp only
    | split

theorem doQTally_kept {b : Bool} {q : BitVec 56} (hobs : m.leaves .obs = false) (h : Kept m a s) : Kept m a (doQTally b q s).2 := by
  unfold doQTally
  repeat' first
    | with_reducible assumption
    | intro _
    | with_reducible apply orderTally_kept
    | with_reducible apply kept_ite
    | with_reducible apply kept_ite_snd
    | refine kept_snd (by with_reducible assumption) ?_
    | refine kept_third (by with_reducible assumption) ?_
    | dsimp only
    | split

theorem doQCensus_kept {b : Bool} {q : BitVec 56} (hobs : m.leaves .obs = false) (h : Kept m a s) : Kept m a (doQCensus b q s).2 := by
  unfold doQCensus
  repeat' first
    | with_reducible assumption
    | intro _
    | with_reducible apply orderCensus_kept
    | with_reducible apply kept_ite
    | with_reducible apply kept_ite_snd
    | refine kept_snd (by with_reducible assumption) ?_
    | refine kept_third (by with_reducible assumption) ?_
    | dsimp only
    | split

/-! ### Receive -/

theorem takeFault_kept {p : BitVec 384} (hcol : m.leaves .col = false) (h : Kept m a s) : Kept m a (takeFault p s) := by
  unfold takeFault
  repeat' first
    | with_reducible assumption
    | intro _
    | with_reducible apply raiseOn_kept
    | with_reducible apply kept_ite
    | dsimp only
    | split

theorem takeControl_kept {src : Nat} {p : BitVec 384} (hdig : m.leaves .dig = false) (hobs : m.leaves .obs = false) (hcol : m.leaves .col = false) (hgov : m.leaves .gov = false) (hcmd : m.leaves .cmd = false) (htaps : m.leaves .taps = false) (hjrn : m.leaves .jrn = false) (hesc : m.leaves .esc = false) (hfab : m.leaves .fab = false) (h : Kept m a s) : Kept m a (takeControl src p s) := by
  unfold takeControl
  repeat' first
    | with_reducible assumption
    | intro _
    | with_reducible apply updBranch_kept
    | with_reducible apply branchDone_kept
    | with_reducible apply kept_ite
    | simp only [↓kept_upd_iff, implies_true, hdig, hobs, hcol, hgov, hcmd, htaps, hjrn, hesc, hfab, Bool.false_eq_true, false_implies]
    | dsimp only
    | split

theorem doVcsReceive_kept {h_ : W128} {p : BitVec 384} (hdig : m.leaves .dig = false) (hobs : m.leaves .obs = false) (hcol : m.leaves .col = false) (hgov : m.leaves .gov = false) (hcmd : m.leaves .cmd = false) (htaps : m.leaves .taps = false) (hjrn : m.leaves .jrn = false) (hesc : m.leaves .esc = false) (hfab : m.leaves .fab = false) (h : Kept m a s) : Kept m a (doVcsReceive h_ p s) := by
  unfold doVcsReceive
  repeat' first
    | with_reducible assumption
    | intro _
    | with_reducible apply answer_kept
    | with_reducible apply vcsBad_kept
    | with_reducible apply takeControl_kept
    | with_reducible apply takeFault_kept
    | with_reducible apply takeMsg_kept
    | with_reducible apply kept_ite
    | dsimp only
    | split

/-! ### Vote -/

theorem updArb_kept {c : Nat} {f : Arb → Arb} (hdig : m.leaves .dig = false) (h : Kept m a s) : Kept m a (updArb c f s) := by
  unfold updArb
  repeat' first
    | with_reducible assumption
    | intro _
    | with_reducible apply kept_ite
    | simp only [↓kept_upd_iff, implies_true, hdig, Bool.false_eq_true, false_implies]
    | dsimp only
    | split

theorem sendVerdict_kept {c : Nat} {p : Nat} (hcol : m.leaves .col = false) (hfab : m.leaves .fab = false) (h : Kept m a s) : Kept m a (sendVerdict c p s) := by
  unfold sendVerdict
  repeat' first
    | with_reducible assumption
    | intro _
    | with_reducible apply multiPlain_kept
    | with_reducible apply kept_ite
    | dsimp only
    | split

theorem settleCheck_kept {c : Nat} {k : RepCheck} (hdig : m.leaves .dig = false) (hcol : m.leaves .col = false) (hfab : m.leaves .fab = false) (h : Kept m a s) : Kept m a (settleCheck c k s) := by
  unfold settleCheck
  repeat' first
    | with_reducible assumption
    | intro _
    | with_reducible apply updArb_kept
    | with_reducible apply sendVerdict_kept
    | with_reducible apply whenS_kept
    | with_reducible apply raiseHub_kept
    | with_reducible apply kept_ite
    | simp only [↓kept_upd_iff, implies_true, hdig, hcol, hfab, Bool.false_eq_true, false_implies]
    | dsimp only
    | split

theorem settleChecks_kept {c : Nat} (hdig : m.leaves .dig = false) (hcol : m.leaves .col = false) (hfab : m.leaves .fab = false) (h : Kept m a s) : Kept m a (settleChecks c s) := by
  unfold settleChecks
  repeat' first
    | with_reducible assumption
    | intro _
    | with_reducible apply foldS_kept
    | with_reducible apply whenS_kept
    | with_reducible apply settleCheck_kept
    | with_reducible apply kept_ite
    | dsimp only
    | split

theorem shadowVote_kept {c : Nat} {replicas : Nat} {limit : Nat} {cast : List (Nat × W128 × Bool)} {late : Bool} (hfell : m.fell = false) (hdig : m.leaves .dig = false) (hbnk : m.leaves .bnk = false) (hobs : m.leaves .obs = false) (hscr : m.leaves .scr = false) (hcol : m.leaves .col = false) (hgov : m.leaves .gov = false) (hcmd : m.leaves .cmd = false) (htaps : m.leaves .taps = false) (hjrn : m.leaves .jrn = false) (hesc : m.leaves .esc = false) (hrecd : m.leaves .recd = false) (hseq : m.leaves .seq = false) (hfab : m.leaves .fab = false) (hcellar : m.leaves .cellar = false) (hwords : m.leaves .words = false) (h : Kept m a s) : Kept m a (shadowVote c replicas limit cast late s) := by
  unfold shadowVote
  repeat' first
    | with_reducible assumption
    | intro _
    | with_reducible apply stepLfsr_kept
    | with_reducible apply followUp_kept
    | with_reducible apply rehearsalEnds_kept
    | with_reducible apply injectNow_kept
    | with_reducible apply kept_ite
    | refine kept_snd (by with_reducible assumption) ?_
    | refine kept_third (by with_reducible assumption) ?_
    | dsimp only
    | split

theorem endVote_kept {c : Nat} {v : OpenVote} (hfell : m.fell = false) (hdig : m.leaves .dig = false) (hbnk : m.leaves .bnk = false) (hobs : m.leaves .obs = false) (hscr : m.leaves .scr = false) (hcol : m.leaves .col = false) (hgov : m.leaves .gov = false) (hcmd : m.leaves .cmd = false) (htaps : m.leaves .taps = false) (hjrn : m.leaves .jrn = false) (hesc : m.leaves .esc = false) (hrecd : m.leaves .recd = false) (hseq : m.leaves .seq = false) (hfab : m.leaves .fab = false) (hcellar : m.leaves .cellar = false) (hwords : m.leaves .words = false) (h : Kept m a s) : Kept m a (endVote c v s) := by
  unfold endVote
  repeat' first
    | with_reducible assumption
    | intro _
    | with_reducible apply updArb_kept
    | with_reducible apply whenS_kept
    | with_reducible apply foldS_kept
    | with_reducible apply raiseFabric_kept
    | with_reducible apply shadowVote_kept
    | with_reducible apply settleChecks_kept
    | with_reducible apply sendVerdict_kept
    | with_reducible apply kept_ite
    | simp only [↓kept_upd_iff, implies_true, hfell, hdig, hbnk, hobs, hscr, hcol, hgov, hcmd, htaps, hjrn, hesc, hrecd, hseq, hfab, hcellar, hwords, Bool.false_eq_true, false_implies]
    | dsimp only
    | split

theorem takeCheck_kept {c : Nat} {what : Nat} {e : Nat} {rep : Nat} {add : RepPart → RepPart} (hdig : m.leaves .dig = false) (hcol : m.leaves .col = false) (hfab : m.leaves .fab = false) (h : Kept m a s) : Kept m a (takeCheck c what e rep add s) := by
  unfold takeCheck
  repeat' first
    | with_reducible assumption
    | intro _
    | with_reducible apply whenS_kept
    | with_reducible apply updArb_kept
    | with_reducible apply settleChecks_kept
    | with_reducible apply kept_ite
    | simp only [↓kept_upd_iff, implies_true, hdig, hcol, hfab, Bool.false_eq_true, false_implies]
    | dsimp only
    | split

theorem takeVote_kept {c : Nat} {e : Nat} {rep : Nat} {add : RepPart → RepPart} (hfell : m.fell = false) (hdig : m.leaves .dig = false) (hbnk : m.leaves .bnk = false) (hobs : m.leaves .obs = false) (hscr : m.leaves .scr = false) (hcol : m.leaves .col = false) (hgov : m.leaves .gov = false) (hcmd : m.leaves .cmd = false) (htaps : m.leaves .taps = false) (hjrn : m.leaves .jrn = false) (hesc : m.leaves .esc = false) (hrecd : m.leaves .recd = false) (hseq : m.leaves .seq = false) (hfab : m.leaves .fab = false) (hcellar : m.leaves .cellar = false) (hwords : m.leaves .words = false) (h : Kept m a s) : Kept m a (takeVote c e rep add s) := by
  unfold takeVote
  repeat' first
    | with_reducible assumption
    | intro _
    | with_reducible apply whenS_kept
    | with_reducible apply endVote_kept
    | with_reducible apply updArb_kept
    | with_reducible apply kept_ite
    | simp only [↓kept_upd_iff, implies_true, hfell, hdig, hbnk, hobs, hscr, hcol, hgov, hcmd, htaps, hjrn, hesc, hrecd, hseq, hfab, hcellar, hwords, Bool.false_eq_true, false_implies]
    | dsimp only
    | split

theorem onDigestPart_kept {m_ : VcsMsg} (hfell : m.fell = false) (hdig : m.leaves .dig = false) (hbnk : m.leaves .bnk = false) (hobs : m.leaves .obs = false) (hscr : m.leaves .scr = false) (hcol : m.leaves .col = false) (hgov : m.leaves .gov = false) (hcmd : m.leaves .cmd = false) (htaps : m.leaves .taps = false) (hjrn : m.leaves .jrn = false) (hesc : m.leaves .esc = false) (hrecd : m.leaves .recd = false) (hseq : m.leaves .seq = false) (hfab : m.leaves .fab = false) (hcellar : m.leaves .cellar = false) (hwords : m.leaves .words = false) (h : Kept m a s) : Kept m a (onDigestPart m_ s) := by
  unfold onDigestPart
  repeat' first
    | with_reducible assumption
    | intro _
    | with_reducible apply vcsBad_kept
    | with_reducible apply takeCheck_kept
    | with_reducible apply takeVote_kept
    | with_reducible apply kept_ite
    | dsimp only
    | split

theorem doVoteWaitExpiry_kept {c : Nat} {epoch : Nat} (hfell : m.fell = false) (hdig : m.leaves .dig = false) (hbnk : m.leaves .bnk = false) (hobs : m.leaves .obs = false) (hscr : m.leaves .scr = false) (hcol : m.leaves .col = false) (hgov : m.leaves .gov = false) (hcmd : m.leaves .cmd = false) (htaps : m.leaves .taps = false) (hjrn : m.leaves .jrn = false) (hesc : m.leaves .esc = false) (hrecd : m.leaves .recd = false) (hseq : m.leaves .seq = false) (hfab : m.leaves .fab = false) (hcellar : m.leaves .cellar = false) (hwords : m.leaves .words = false) (h : Kept m a s) : Kept m a (doVoteWaitExpiry c epoch s) := by
  unfold doVoteWaitExpiry
  repeat' first
    | with_reducible assumption
    | intro _
    | with_reducible apply whenS_kept
    | with_reducible apply endVote_kept
    | with_reducible apply foldS_kept
    | with_reducible apply settleCheck_kept
    | with_reducible apply kept_ite
    | dsimp only
    | split

theorem sendTensorParts_kept {c : Nat} {epoch : Nat} (hfab : m.leaves .fab = false) (h : Kept m a s) : Kept m a (sendTensorParts c epoch s) := by
  unfold sendTensorParts
  repeat' first
    | with_reducible assumption
    | intro _
    | with_reducible apply sendPlain_kept
    | with_reducible apply foldS_kept
    | with_reducible apply kept_ite
    | dsimp only
    | split

theorem storeCert_kept {c : Nat} {rep : Nat} {agree : Nat} {e : Nat} {lanes : W128} {et : Tick} (hdig : m.leaves .dig = false) (h : Kept m a s) : Kept m a (storeCert c rep agree e lanes et s) := by
  unfold storeCert
  repeat' first
    | with_reducible assumption
    | intro _
    | with_reducible apply takeFree_kept
    | with_reducible apply updDig_kept
    | with_reducible apply kept_ite
    | simp only [↓kept_upd_iff, implies_true, hdig, Bool.false_eq_true, false_implies]
    | refine kept_snd (by with_reducible assumption) ?_
    | refine kept_third (by with_reducible assumption) ?_
    | dsimp only
    | split

theorem endWaits_kept {c : Nat} {opcode : Nat} {e : Nat} {code : Nat} {status : Nat} {mine : Bool} (hdig : m.leaves .dig = false) (hcmd : m.leaves .cmd = false) (h : Kept m a s) : Kept m a (endWaits c opcode e code status mine s) := by
  unfold endWaits
  repeat' first
    | with_reducible assumption
    | intro _
    | with_reducible apply foldS_kept
    | with_reducible apply completeCmd_kept
    | with_reducible apply updDig_kept
    | with_reducible apply kept_ite
    | simp only [↓kept_upd_iff, implies_true, hdig, hcmd, Bool.false_eq_true, false_implies]
    | dsimp only
    | split

theorem verdictEffect_kept {c : Nat} {code : Nat} {agree : Nat} {expel : Nat} {rep : Nat} {e : Nat} {taint : Bool} {lanes : W128} {et : Tick} (hdig : m.leaves .dig = false) (hcol : m.leaves .col = false) (hgov : m.leaves .gov = false) (hcmd : m.leaves .cmd = false) (hfab : m.leaves .fab = false) (h : Kept m a s) : Kept m a (verdictEffect c code agree expel rep e taint lanes et s) := by
  unfold verdictEffect
  repeat' first
    | with_reducible assumption
    | intro _
    | with_reducible apply updDig_kept
    | with_reducible apply whenS_kept
    | with_reducible apply sendTensorParts_kept
    | with_reducible apply raiseHub_kept
    | with_reducible apply countSilent_kept
    | with_reducible apply endWaits_kept
    | with_reducible apply storeCert_kept
    | with_reducible apply liftStop_kept
    | with_reducible apply updComp_kept
    | with_reducible apply kept_ite
    | simp only [↓kept_upd_iff, implies_true, hdig, hcol, hgov, hcmd, hfab, Bool.false_eq_true, false_implies]
    | dsimp only
    | split

theorem applyVerdictMsg_kept {m_ : VcsMsg} (hdig : m.leaves .dig = false) (hcol : m.leaves .col = false) (hgov : m.leaves .gov = false) (hcmd : m.leaves .cmd = false) (hfab : m.leaves .fab = false) (h : Kept m a s) : Kept m a (applyVerdictMsg m_ s) := by
  unfold applyVerdictMsg
  repeat' first
    | with_reducible assumption
    | intro _
    | with_reducible apply verdictEffect_kept
    | with_reducible apply updDig_kept
    | with_reducible apply postRecord_kept
    | with_reducible apply kept_ite
    | simp only [↓kept_upd_iff, implies_true, hdig, hcol, hgov, hcmd, hfab, Bool.false_eq_true, false_implies]
    | dsimp only
    | split

theorem doVerdict_kept  (hdig : m.leaves .dig = false) (hcol : m.leaves .col = false) (hgov : m.leaves .gov = false) (hcmd : m.leaves .cmd = false) (hfab : m.leaves .fab = false) (h : Kept m a s) : Kept m a (doVerdict s) := by
  unfold doVerdict
  repeat' first
    | with_reducible assumption
    | intro _
    | with_reducible apply applyVerdictMsg_kept
    | with_reducible apply dropMsg_kept
    | with_reducible apply kept_ite
    | dsimp only
    | split

theorem doDigNoVerdict_kept {c : Nat} (hdig : m.leaves .dig = false) (hcol : m.leaves .col = false) (h : Kept m a s) : Kept m a (doDigNoVerdict c s) := by
  unfold doDigNoVerdict
  repeat' first
    | with_reducible assumption
    | intro _
    | with_reducible apply raiseHub_kept
    | with_reducible apply updDig_kept
    | with_reducible apply kept_ite
    | simp only [↓kept_upd_iff, implies_true, hdig, hcol, Bool.false_eq_true, false_implies]
    | dsimp only
    | split

theorem doRetentionExpiry_kept {c : Nat} {epoch : Nat} (hdig : m.leaves .dig = false) (h : Kept m a s) : Kept m a (doRetentionExpiry c epoch s) := by
  unfold doRetentionExpiry
  repeat' first
    | with_reducible assumption
    | intro _
    | with_reducible apply updDig_kept
    | with_reducible apply kept_ite
    | simp only [↓kept_upd_iff, implies_true, hdig, Bool.false_eq_true, false_implies]
    | dsimp only
    | split

theorem sendDiffs_kept {c : Nat} {g : TensorGather} (hdig : m.leaves .dig = false) (hcol : m.leaves .col = false) (hfab : m.leaves .fab = false) (h : Kept m a s) : Kept m a (sendDiffs c g s) := by
  unfold sendDiffs
  repeat' first
    | with_reducible assumption
    | intro _
    | with_reducible apply multiPlain_kept
    | with_reducible apply updArb_kept
    | with_reducible apply foldS_kept
    | with_reducible apply kept_ite
    | simp only [↓kept_upd_iff, implies_true, hdig, hcol, hfab, Bool.false_eq_true, false_implies]
    | dsimp only
    | split

theorem onTensorPart_kept {m_ : VcsMsg} (hdig : m.leaves .dig = false) (hcol : m.leaves .col = false) (hfab : m.leaves .fab = false) (h : Kept m a s) : Kept m a (onTensorPart m_ s) := by
  unfold onTensorPart
  repeat' first
    | with_reducible assumption
    | intro _
    | with_reducible apply updArb_kept
    | with_reducible apply whenS_kept
    | with_reducible apply sendDiffs_kept
    | with_reducible apply kept_ite
    | simp only [↓kept_upd_iff, implies_true, hdig, hcol, hfab, Bool.false_eq_true, false_implies]
    | dsimp only
    | split

theorem doTensorWaitExpiry_kept {c : Nat} (hdig : m.leaves .dig = false) (hcol : m.leaves .col = false) (hfab : m.leaves .fab = false) (h : Kept m a s) : Kept m a (doTensorWaitExpiry c s) := by
  unfold doTensorWaitExpiry
  repeat' first
    | with_reducible assumption
    | intro _
    | with_reducible apply foldS_kept
    | with_reducible apply sendDiffs_kept
    | with_reducible apply kept_ite
    | dsimp only
    | split

theorem onTensorDiff_kept {m_ : VcsMsg} (hdig : m.leaves .dig = false) (hcol : m.leaves .col = false) (h : Kept m a s) : Kept m a (onTensorDiff m_ s) := by
  unfold onTensorDiff
  repeat' first
    | with_reducible assumption
    | intro _
    | with_reducible apply raiseHub_kept
    | with_reducible apply updDig_kept
    | with_reducible apply kept_ite
    | simp only [↓kept_upd_iff, implies_true, hdig, hcol, Bool.false_eq_true, false_implies]
    | dsimp only
    | split

/-! ### Tick -/

theorem busyFor_kept {n : Nat} {k : Nat} (hgov : m.leaves .gov = false) (h : Kept m a s) : Kept m a (busyFor n k s) := by
  unfold busyFor
  repeat' first
    | with_reducible assumption
    | intro _
    | with_reducible apply kept_ite
    | simp only [↓kept_upd_iff, implies_true, hgov, Bool.false_eq_true, false_implies]
    | dsimp only
    | split

theorem tickCords_kept  (hgov : m.leaves .gov = false) (h : Kept m a s) : Kept m a (tickCords s) := by
  unfold tickCords
  repeat' first
    | with_reducible assumption
    | intro _
    | with_reducible apply foldS_kept
    | with_reducible apply busyFor_kept
    | with_reducible apply kept_ite
    | dsimp only
    | split

theorem tickTap_kept {tap : Nat} {p : Tap} (hobs : m.leaves .obs = false) (hgov : m.leaves .gov = false) (h : Kept m a s) : Kept m a (tickTap tap p s) := by
  unfold tickTap
  repeat' first
    | with_reducible assumption
    | intro _
    | with_reducible apply foldS_kept
    | with_reducible apply busyFor_kept
    | with_reducible apply count_kept
    | with_reducible apply kept_ite
    | dsimp only
    | split

theorem tickPool_kept {tap : Nat} {p : Pool} (hobs : m.leaves .obs = false) (h : Kept m a s) : Kept m a (tickPool tap p s) := by
  unfold tickPool
  repeat' first
    | with_reducible assumption
    | intro _
    | with_reducible apply whenS_kept
    | with_reducible apply countTap_kept
    | with_reducible apply kept_ite
    | dsimp only
    | split

theorem tickRegion_kept {r : Nat} (hobs : m.leaves .obs = false) (h : Kept m a s) : Kept m a (tickRegion r s) := by
  unfold tickRegion
  repeat' first
    | with_reducible assumption
    | intro _
    | with_reducible apply whenS_kept
    | with_reducible apply countWarden_kept
    | with_reducible apply kept_ite
    | dsimp only
    | split

theorem clockTick_kept  (het : m.et = false) (hbnk : m.leaves .bnk = false) (hobs : m.leaves .obs = false) (hgov : m.leaves .gov = false) (htim : m.leaves .tim = false) (hthm : m.leaves .thm = false) (hwords : m.leaves .words = false) (h : Kept m a s) : Kept m a (clockTick s) := by
  unfold clockTick
  repeat' first
    | with_reducible assumption
    | intro _
    | with_reducible apply whenS_kept
    | with_reducible apply copyRails_kept
    | with_reducible apply writeBackLfsrs_kept
    | with_reducible apply foldS_kept
    | with_reducible apply tickPool_kept
    | with_reducible apply tickRegion_kept
    | with_reducible apply tickCords_kept
    | with_reducible apply tickTap_kept
    | with_reducible apply kept_ite
    | simp only [↓kept_upd_iff, implies_true, het, hbnk, hobs, hgov, htim, hthm, hwords, Bool.false_eq_true, false_implies]
    | dsimp only
    | split

end Sys2Proof.Machine
end

