-- ==== Sys2Proof/Laws/KeptMeaning.lean ====
section
/-! SUPPORT. What no command changes, meaning by meaning. -/
namespace Sys2Proof.Machine

set_option linter.unusedSimpArgs false

/-- An outcome is a next state that follows `a` and leaves alone what `m` names. -/
def Follows (m : Mask) (a : State) (o : Host.Outcome State Fault Refusal) : Prop := ∃ t, o = .next t ∧ Kept m a t

variable {m : Mask} {s : State}

theorem execBankOwn_kept {bank : Nat} {owner : Nat} {keep : Bool} (hbnk : m.leaves .bnk = false) (hisl : m.leaves .isl = false) (hwords : m.leaves .words = false) : Follows m s (execBankOwn bank owner keep s) := by
  have h := Kept.refl m s
  refine ⟨_, rfl, ?_⟩
  repeat' first
    | with_reducible assumption
    | intro _
    | with_reducible apply hubReg_kept
    | with_reducible apply doBankOwn_kept
    | dsimp only
    | split

theorem execBankRead_kept (hbnk : m.leaves .bnk = false) (hobs : m.leaves .obs = false) (hisl : m.leaves .isl = false) (hcol : m.leaves .col = false) (hwords : m.leaves .words = false) : Follows m s (execBankRead s) := by
  have h := Kept.refl m s
  refine ⟨_, rfl, ?_⟩
  repeat' first
    | with_reducible assumption
    | intro _
    | with_reducible apply hubReg_kept
    | with_reducible apply doBankRead_kept
    | dsimp only
    | split

theorem execBankWrite_kept (hbnk : m.leaves .bnk = false) (hobs : m.leaves .obs = false) (hisl : m.leaves .isl = false) (hgov : m.leaves .gov = false) (hwords : m.leaves .words = false) : Follows m s (execBankWrite s) := by
  have h := Kept.refl m s
  refine ⟨_, rfl, ?_⟩
  repeat' first
    | with_reducible assumption
    | intro _
    | with_reducible apply hubReg_kept
    | with_reducible apply doBankWrite_kept
    | dsimp only
    | split

theorem execMemtestWindow_kept {bank : Nat} {window : Nat} {accesses : List OwnerAccess} {faulty : Bool} (hbnk : m.leaves .bnk = false) (hcol : m.leaves .col = false) (hwords : m.leaves .words = false) : Follows m s (execMemtestWindow bank window faulty s accesses) := by
  have h := Kept.refl m s
  refine ⟨_, rfl, ?_⟩
  repeat' first
    | with_reducible assumption
    | intro _
    | with_reducible apply atHub_kept
    | with_reducible apply doMemtestWindow_kept
    | dsimp only
    | split

theorem execCmemWindow_kept {tap : Nat} {window : Nat} {corrected : Nat} {lost : Nat} {faulty : Bool} (hbnk : m.leaves .bnk = false) (hobs : m.leaves .obs = false) (hcol : m.leaves .col = false) : Follows m s (execCmemWindow tap window corrected lost faulty s) := by
  have h := Kept.refl m s
  refine ⟨_, rfl, ?_⟩
  repeat' first
    | with_reducible assumption
    | intro _
    | with_reducible apply atHub_kept
    | with_reducible apply doCmemWindow_kept
    | dsimp only
    | split

theorem execHangWatch_kept {c : Nat} (hobs : m.leaves .obs = false) (hcol : m.leaves .col = false) : Follows m s (execHangWatch c s) := by
  have h := Kept.refl m s
  refine ⟨_, rfl, ?_⟩
  repeat' first
    | with_reducible assumption
    | intro _
    | with_reducible apply atHub_kept
    | with_reducible apply doHangWatch_kept
    | dsimp only
    | split

theorem execCensusFreeze_kept {ports : List (Nat × Nat × Nat × Nat)} (hbnk : m.leaves .bnk = false) (hobs : m.leaves .obs = false) (hgov : m.leaves .gov = false) (hcmd : m.leaves .cmd = false) (hfab : m.leaves .fab = false) (hwords : m.leaves .words = false) : Follows m s (execCensusFreeze ports s) := by
  have h := Kept.refl m s
  refine ⟨_, rfl, ?_⟩
  repeat' first
    | with_reducible assumption
    | intro _
    | with_reducible apply atHub_kept
    | with_reducible apply doCensusFreeze_kept
    | dsimp only
    | split

theorem execFaultMessage_kept {link : Nat} {unit : Nat} {msg : W128} (hobs : m.leaves .obs = false) (hscr : m.leaves .scr = false) (hcol : m.leaves .col = false) (hgov : m.leaves .gov = false) (hcmd : m.leaves .cmd = false) (hjrn : m.leaves .jrn = false) (hseq : m.leaves .seq = false) (hfab : m.leaves .fab = false) : Follows m s (execFaultMessage link unit msg s) := by
  have h := Kept.refl m s
  refine ⟨_, rfl, ?_⟩
  repeat' first
    | with_reducible assumption
    | intro _
    | with_reducible apply atHub_kept
    | with_reducible apply doFaultMessage_kept
    | dsimp only
    | split

theorem execFloodQuiet_kept {link : Nat} {unit : Nat} {msg : W128} (hobs : m.leaves .obs = false) (hscr : m.leaves .scr = false) (hcol : m.leaves .col = false) (hgov : m.leaves .gov = false) (hcmd : m.leaves .cmd = false) (hjrn : m.leaves .jrn = false) (hseq : m.leaves .seq = false) : Follows m s (execFloodQuiet link unit msg s) := by
  have h := Kept.refl m s
  refine ⟨_, rfl, ?_⟩
  repeat' first
    | with_reducible assumption
    | intro _
    | with_reducible apply atHub_kept
    | with_reducible apply doFloodQuiet_kept
    | dsimp only
    | split

theorem execAdjudicate_kept {r : CruiseRead} {work : Nat} (hfell : m.fell = false) (hdig : m.leaves .dig = false) (hbnk : m.leaves .bnk = false) (hobs : m.leaves .obs = false) (hscr : m.leaves .scr = false) (hcol : m.leaves .col = false) (hgov : m.leaves .gov = false) (hcmd : m.leaves .cmd = false) (htaps : m.leaves .taps = false) (hjrn : m.leaves .jrn = false) (hesc : m.leaves .esc = false) (hrecd : m.leaves .recd = false) (hseq : m.leaves .seq = false) (hfab : m.leaves .fab = false) (hcellar : m.leaves .cellar = false) (hwords : m.leaves .words = false) : Follows m s (execAdjudicate r work s) := by
  have h := Kept.refl m s
  refine ⟨_, rfl, ?_⟩
  repeat' first
    | with_reducible assumption
    | intro _
    | with_reducible apply atHub_kept
    | with_reducible apply doAdjudicate_kept
    | dsimp only
    | split

theorem execSampleComplete_kept {buf0 buf1 buf2 : List W256} {bad : Bool} {work : Nat} (hobs : m.leaves .obs = false) (hcol : m.leaves .col = false) (hgov : m.leaves .gov = false) (hcmd : m.leaves .cmd = false) (htaps : m.leaves .taps = false) (hjrn : m.leaves .jrn = false) : Follows m s (execSampleComplete buf0 buf1 buf2 bad work s) := by
  have h := Kept.refl m s
  refine ⟨_, rfl, ?_⟩
  repeat' first
    | with_reducible assumption
    | intro _
    | with_reducible apply atHub_kept
    | with_reducible apply doSampleComplete_kept
    | dsimp only
    | split

theorem execSampleTimeout_kept (hobs : m.leaves .obs = false) (hcol : m.leaves .col = false) (hgov : m.leaves .gov = false) (hjrn : m.leaves .jrn = false) : Follows m s (execSampleTimeout s) := by
  have h := Kept.refl m s
  refine ⟨_, rfl, ?_⟩
  repeat' first
    | with_reducible assumption
    | intro _
    | with_reducible apply atHub_kept
    | with_reducible apply doSampleTimeout_kept
    | dsimp only
    | split

theorem execSecondRecompute_kept {r : CruiseRead} (hfell : m.fell = false) (hdig : m.leaves .dig = false) (hbnk : m.leaves .bnk = false) (hobs : m.leaves .obs = false) (hscr : m.leaves .scr = false) (hcol : m.leaves .col = false) (hgov : m.leaves .gov = false) (hcmd : m.leaves .cmd = false) (htaps : m.leaves .taps = false) (hjrn : m.leaves .jrn = false) (hesc : m.leaves .esc = false) (hrecd : m.leaves .recd = false) (hseq : m.leaves .seq = false) (hfab : m.leaves .fab = false) (hcellar : m.leaves .cellar = false) (hwords : m.leaves .words = false) : Follows m s (execSecondRecompute r s) := by
  have h := Kept.refl m s
  refine ⟨_, rfl, ?_⟩
  repeat' first
    | with_reducible assumption
    | intro _
    | with_reducible apply atHub_kept
    | with_reducible apply doSecondRecompute_kept
    | dsimp only
    | split

theorem execCruiseSelfTest_kept {fail : Bool} (hobs : m.leaves .obs = false) (hscr : m.leaves .scr = false) (hcol : m.leaves .col = false) (hgov : m.leaves .gov = false) (hcmd : m.leaves .cmd = false) (hjrn : m.leaves .jrn = false) (hseq : m.leaves .seq = false) (hfab : m.leaves .fab = false) : Follows m s (execCruiseSelfTest fail s) := by
  have h := Kept.refl m s
  refine ⟨_, rfl, ?_⟩
  repeat' first
    | with_reducible assumption
    | intro _
    | with_reducible apply atHub_kept
    | with_reducible apply doCruiseSelfTest_kept
    | dsimp only
    | split

theorem execTwinThirdOpinion_kept {r : CruiseRead} (hfell : m.fell = false) (hdig : m.leaves .dig = false) (hbnk : m.leaves .bnk = false) (hobs : m.leaves .obs = false) (hscr : m.leaves .scr = false) (hcol : m.leaves .col = false) (hgov : m.leaves .gov = false) (hcmd : m.leaves .cmd = false) (htaps : m.leaves .taps = false) (hjrn : m.leaves .jrn = false) (hesc : m.leaves .esc = false) (hrecd : m.leaves .recd = false) (hseq : m.leaves .seq = false) (hfab : m.leaves .fab = false) (hcellar : m.leaves .cellar = false) (hwords : m.leaves .words = false) : Follows m s (execTwinThirdOpinion r s) := by
  have h := Kept.refl m s
  refine ⟨_, rfl, ?_⟩
  repeat' first
    | with_reducible assumption
    | intro _
    | with_reducible apply atHub_kept
    | with_reducible apply doTwinThirdOpinion_kept
    | dsimp only
    | split

theorem execThirdRun_kept (hfell : m.fell = false) (hdig : m.leaves .dig = false) (hbnk : m.leaves .bnk = false) (hobs : m.leaves .obs = false) (hscr : m.leaves .scr = false) (hcol : m.leaves .col = false) (hgov : m.leaves .gov = false) (hcmd : m.leaves .cmd = false) (htaps : m.leaves .taps = false) (hjrn : m.leaves .jrn = false) (hesc : m.leaves .esc = false) (hrecd : m.leaves .recd = false) (hseq : m.leaves .seq = false) (hfab : m.leaves .fab = false) (hcellar : m.leaves .cellar = false) (hwords : m.leaves .words = false) : Follows m s (execThirdRun s) := by
  have h := Kept.refl m s
  refine ⟨_, rfl, ?_⟩
  repeat' first
    | with_reducible assumption
    | intro _
    | with_reducible apply atHub_kept
    | with_reducible apply doThirdRun_kept
    | dsimp only
    | split

theorem execCordRetire_kept {region : Nat} {jt : BitVec 96} (hfell : m.fell = false) (hdig : m.leaves .dig = false) (hbnk : m.leaves .bnk = false) (hobs : m.leaves .obs = false) (hscr : m.leaves .scr = false) (hcol : m.leaves .col = false) (hgov : m.leaves .gov = false) (hcmd : m.leaves .cmd = false) (htaps : m.leaves .taps = false) (hjrn : m.leaves .jrn = false) (hesc : m.leaves .esc = false) (hrecd : m.leaves .recd = false) (hseq : m.leaves .seq = false) (hfab : m.leaves .fab = false) (hcellar : m.leaves .cellar = false) (hwords : m.leaves .words = false) : Follows m s (execCordRetire region jt s) := by
  have h := Kept.refl m s
  refine ⟨_, rfl, ?_⟩
  repeat' first
    | with_reducible assumption
    | intro _
    | with_reducible apply atRegion_kept
    | with_reducible apply retrySkids_kept
    | with_reducible apply sparesIdle_kept
    | with_reducible apply thirdsDone_kept
    | with_reducible apply doCordRetire_kept
    | dsimp only
    | split

theorem execReactionOrder_kept (hfell : m.fell = false) (hdig : m.leaves .dig = false) (hbnk : m.leaves .bnk = false) (hobs : m.leaves .obs = false) (hscr : m.leaves .scr = false) (hcol : m.leaves .col = false) (hgov : m.leaves .gov = false) (hcmd : m.leaves .cmd = false) (htaps : m.leaves .taps = false) (hjrn : m.leaves .jrn = false) (hesc : m.leaves .esc = false) (hrecd : m.leaves .recd = false) (hseq : m.leaves .seq = false) (hfab : m.leaves .fab = false) (hthm : m.leaves .thm = false) (hcellar : m.leaves .cellar = false) (hwords : m.leaves .words = false) : Follows m s (execReactionOrder s) := by
  have h := Kept.refl m s
  refine ⟨_, rfl, ?_⟩
  repeat' first
    | with_reducible assumption
    | intro _
    | with_reducible apply atHub_kept
    | with_reducible apply whenS_kept
    | with_reducible apply thirdsDone_kept
    | with_reducible apply nextOrder_kept
    | dsimp only
    | split

theorem execUnfenceOrder_kept (hdig : m.leaves .dig = false) (hbnk : m.leaves .bnk = false) (hobs : m.leaves .obs = false) (hscr : m.leaves .scr = false) (hcol : m.leaves .col = false) (hgov : m.leaves .gov = false) (hcmd : m.leaves .cmd = false) (htaps : m.leaves .taps = false) (hjrn : m.leaves .jrn = false) (hesc : m.leaves .esc = false) (hrecd : m.leaves .recd = false) (hseq : m.leaves .seq = false) (hfab : m.leaves .fab = false) (hthm : m.leaves .thm = false) (hwords : m.leaves .words = false) : Follows m s (execUnfenceOrder s) := by
  have h := Kept.refl m s
  refine ⟨_, rfl, ?_⟩
  repeat' first
    | with_reducible assumption
    | intro _
    | with_reducible apply atHub_kept
    | with_reducible apply nextOrder_kept
    | dsimp only
    | split

theorem execStartSkidNow_kept (hdig : m.leaves .dig = false) (hbnk : m.leaves .bnk = false) (hobs : m.leaves .obs = false) (hscr : m.leaves .scr = false) (hcol : m.leaves .col = false) (hgov : m.leaves .gov = false) (hcmd : m.leaves .cmd = false) (htaps : m.leaves .taps = false) (hjrn : m.leaves .jrn = false) (hesc : m.leaves .esc = false) (hrecd : m.leaves .recd = false) (hseq : m.leaves .seq = false) (hfab : m.leaves .fab = false) (hwords : m.leaves .words = false) : Follows m s (execStartSkidNow s) := by
  have h := Kept.refl m s
  refine ⟨_, rfl, ?_⟩
  repeat' first
    | with_reducible assumption
    | intro _
    | with_reducible apply atHub_kept
    | with_reducible apply doStartSkidNow_kept
    | dsimp only
    | split

theorem execReplay_kept (hdig : m.leaves .dig = false) (hbnk : m.leaves .bnk = false) (hobs : m.leaves .obs = false) (hcol : m.leaves .col = false) (hgov : m.leaves .gov = false) (hcmd : m.leaves .cmd = false) (htaps : m.leaves .taps = false) (hjrn : m.leaves .jrn = false) (hesc : m.leaves .esc = false) (hrecd : m.leaves .recd = false) (hseq : m.leaves .seq = false) (hfab : m.leaves .fab = false) (hwords : m.leaves .words = false) : Follows m s (execReplay s) := by
  have h := Kept.refl m s
  refine ⟨_, rfl, ?_⟩
  repeat' first
    | with_reducible assumption
    | intro _
    | with_reducible apply atHub_kept
    | with_reducible apply doReplay_kept
    | dsimp only
    | split

theorem execUnreplayable_kept (hdig : m.leaves .dig = false) (hobs : m.leaves .obs = false) (hcol : m.leaves .col = false) (hcmd : m.leaves .cmd = false) (hjrn : m.leaves .jrn = false) (hesc : m.leaves .esc = false) (hrecd : m.leaves .recd = false) (hseq : m.leaves .seq = false) (hfab : m.leaves .fab = false) : Follows m s (execUnreplayable s) := by
  have h := Kept.refl m s
  refine ⟨_, rfl, ?_⟩
  repeat' first
    | with_reducible assumption
    | intro _
    | with_reducible apply atHub_kept
    | with_reducible apply doUnreplayable_kept
    | dsimp only
    | split

theorem execWithdrawCert_kept (hdig : m.leaves .dig = false) (hcol : m.leaves .col = false) (hcmd : m.leaves .cmd = false) (hseq : m.leaves .seq = false) (hfab : m.leaves .fab = false) : Follows m s (execWithdrawCert s) := by
  have h := Kept.refl m s
  refine ⟨_, rfl, ?_⟩
  repeat' first
    | with_reducible assumption
    | intro _
    | with_reducible apply atHub_kept
    | with_reducible apply doWithdrawCert_kept
    | dsimp only
    | split

theorem execIntakeEntry_kept (hfell : m.fell = false) (hdig : m.leaves .dig = false) (hbnk : m.leaves .bnk = false) (hobs : m.leaves .obs = false) (hscr : m.leaves .scr = false) (hcol : m.leaves .col = false) (hgov : m.leaves .gov = false) (hcmd : m.leaves .cmd = false) (htaps : m.leaves .taps = false) (hjrn : m.leaves .jrn = false) (hesc : m.leaves .esc = false) (hrecd : m.leaves .recd = false) (hseq : m.leaves .seq = false) (hfab : m.leaves .fab = false) (hcellar : m.leaves .cellar = false) (hwords : m.leaves .words = false) : Follows m s (execIntakeEntry s) := by
  have h := Kept.refl m s
  refine ⟨_, rfl, ?_⟩
  repeat' first
    | with_reducible assumption
    | intro _
    | with_reducible apply atHub_kept
    | with_reducible apply doIntakeEntry_kept
    | dsimp only
    | split

theorem execDack_kept {mseq : Nat} {src : Nat} (hdig : m.leaves .dig = false) (hobs : m.leaves .obs = false) (hcol : m.leaves .col = false) (hgov : m.leaves .gov = false) (hcmd : m.leaves .cmd = false) (htaps : m.leaves .taps = false) (hjrn : m.leaves .jrn = false) (hesc : m.leaves .esc = false) (hfab : m.leaves .fab = false) : Follows m s (execDack mseq src s) := by
  have h := Kept.refl m s
  refine ⟨_, rfl, ?_⟩
  repeat' first
    | with_reducible assumption
    | intro _
    | with_reducible apply atHub_kept
    | with_reducible apply branchDone_kept
    | dsimp only
    | split

theorem execNack_kept {mseq : Nat} {src : Nat} (hfab : m.leaves .fab = false) : Follows m s (execNack mseq src s) := by
  have h := Kept.refl m s
  refine ⟨_, rfl, ?_⟩
  repeat' first
    | with_reducible assumption
    | intro _
    | with_reducible apply atHub_kept
    | with_reducible apply updBranch_kept
    | simp only [↓kept_upd_iff, implies_true, hfab, Bool.false_eq_true, false_implies]
    | dsimp only
    | split

theorem execBranchRetry_kept {mseq : Nat} {dst : Nat} (hfab : m.leaves .fab = false) : Follows m s (execBranchRetry mseq dst s) := by
  have h := Kept.refl m s
  refine ⟨_, rfl, ?_⟩
  repeat' first
    | with_reducible assumption
    | intro _
    | with_reducible apply atHub_kept
    | with_reducible apply doBranchRetry_kept
    | dsimp only
    | split

theorem execVcsBranchFail_kept {mseq : Nat} {dst : Nat} (hdig : m.leaves .dig = false) (hobs : m.leaves .obs = false) (hcol : m.leaves .col = false) (hgov : m.leaves .gov = false) (hcmd : m.leaves .cmd = false) (htaps : m.leaves .taps = false) (hjrn : m.leaves .jrn = false) (hesc : m.leaves .esc = false) (hfab : m.leaves .fab = false) : Follows m s (execVcsBranchFail mseq dst s) := by
  have h := Kept.refl m s
  refine ⟨_, rfl, ?_⟩
  repeat' first
    | with_reducible assumption
    | intro _
    | with_reducible apply atHub_kept
    | with_reducible apply branchDone_kept
    | with_reducible apply kept_ite
    | dsimp only
    | split

theorem execRateWindow_kept (hobs : m.leaves .obs = false) (hgov : m.leaves .gov = false) (hcmd : m.leaves .cmd = false) (hfab : m.leaves .fab = false) : Follows m s (execRateWindow s) := by
  have h := Kept.refl m s
  refine ⟨_, rfl, ?_⟩
  repeat' first
    | with_reducible assumption
    | intro _
    | with_reducible apply atHub_kept
    | with_reducible apply doRateWindow_kept
    | dsimp only
    | split

theorem execArrivalReport_kept {ext : W128} {slot : Nat} {len : Nat} (hdig : m.leaves .dig = false) (hbnk : m.leaves .bnk = false) (hobs : m.leaves .obs = false) (hcol : m.leaves .col = false) (hgov : m.leaves .gov = false) (hcmd : m.leaves .cmd = false) (htaps : m.leaves .taps = false) (hjrn : m.leaves .jrn = false) (hesc : m.leaves .esc = false) (hrecd : m.leaves .recd = false) (hfab : m.leaves .fab = false) (hwords : m.leaves .words = false) : Follows m s (execArrivalReport ext slot len s) := by
  have h := Kept.refl m s
  refine ⟨_, rfl, ?_⟩
  repeat' first
    | with_reducible assumption
    | intro _
    | with_reducible apply atHub_kept
    | with_reducible apply doArrivalReport_kept
    | dsimp only
    | split

theorem execClear_kept (hdig : m.leaves .dig = false) (hobs : m.leaves .obs = false) (hcol : m.leaves .col = false) (hcmd : m.leaves .cmd = false) (hesc : m.leaves .esc = false) (hfab : m.leaves .fab = false) : Follows m s (execClear s) := by
  have h := Kept.refl m s
  refine ⟨_, rfl, ?_⟩
  repeat' first
    | with_reducible assumption
    | intro _
    | with_reducible apply atHub_kept
    | with_reducible apply withMsg_kept
    | with_reducible apply onClear_kept
    | dsimp only
    | split

theorem execRecant_kept (hdig : m.leaves .dig = false) (hobs : m.leaves .obs = false) (hcol : m.leaves .col = false) (hgov : m.leaves .gov = false) (hcmd : m.leaves .cmd = false) (htaps : m.leaves .taps = false) (hjrn : m.leaves .jrn = false) (hesc : m.leaves .esc = false) (hfab : m.leaves .fab = false) : Follows m s (execRecant s) := by
  have h := Kept.refl m s
  refine ⟨_, rfl, ?_⟩
  repeat' first
    | with_reducible assumption
    | intro _
    | with_reducible apply atHub_kept
    | with_reducible apply withMsg_kept
    | with_reducible apply onRecant_kept
    | dsimp only
    | split

theorem execRecantAck_kept (hdig : m.leaves .dig = false) (hobs : m.leaves .obs = false) (hcol : m.leaves .col = false) (hcmd : m.leaves .cmd = false) (hesc : m.leaves .esc = false) (hfab : m.leaves .fab = false) : Follows m s (execRecantAck s) := by
  have h := Kept.refl m s
  refine ⟨_, rfl, ?_⟩
  repeat' first
    | with_reducible assumption
    | intro _
    | with_reducible apply atHub_kept
    | with_reducible apply withMsg_kept
    | with_reducible apply onRecantAck_kept
    | dsimp only
    | split

theorem execRecall_kept (hdig : m.leaves .dig = false) (hobs : m.leaves .obs = false) (hcol : m.leaves .col = false) (hesc : m.leaves .esc = false) (hfab : m.leaves .fab = false) : Follows m s (execRecall s) := by
  have h := Kept.refl m s
  refine ⟨_, rfl, ?_⟩
  repeat' first
    | with_reducible assumption
    | intro _
    | with_reducible apply atHub_kept
    | with_reducible apply withMsg_kept
    | with_reducible apply onRecall_kept
    | dsimp only
    | split

theorem execLateRecant_kept (hdig : m.leaves .dig = false) (hcol : m.leaves .col = false) (hcmd : m.leaves .cmd = false) (hesc : m.leaves .esc = false) (hfab : m.leaves .fab = false) : Follows m s (execLateRecant s) := by
  have h := Kept.refl m s
  refine ⟨_, rfl, ?_⟩
  repeat' first
    | with_reducible assumption
    | intro _
    | with_reducible apply atHub_kept
    | with_reducible apply withMsg_kept
    | with_reducible apply onLateRecant_kept
    | dsimp only
    | split

theorem execInboundTimeout_kept {index : Nat} (hdig : m.leaves .dig = false) (hobs : m.leaves .obs = false) (hcol : m.leaves .col = false) (hgov : m.leaves .gov = false) (hcmd : m.leaves .cmd = false) (htaps : m.leaves .taps = false) (hjrn : m.leaves .jrn = false) (hesc : m.leaves .esc = false) (hfab : m.leaves .fab = false) : Follows m s (execInboundTimeout index s) := by
  have h := Kept.refl m s
  refine ⟨_, rfl, ?_⟩
  repeat' first
    | with_reducible assumption
    | intro _
    | with_reducible apply atHub_kept
    | with_reducible apply doInboundTimeout_kept
    | dsimp only
    | split

theorem execProofReport_kept {bad : List Nat} (hdig : m.leaves .dig = false) (hobs : m.leaves .obs = false) (hcol : m.leaves .col = false) (hgov : m.leaves .gov = false) (hcmd : m.leaves .cmd = false) (htaps : m.leaves .taps = false) (hjrn : m.leaves .jrn = false) (hesc : m.leaves .esc = false) (hfab : m.leaves .fab = false) : Follows m s (execProofReport s bad) := by
  have h := Kept.refl m s
  refine ⟨_, rfl, ?_⟩
  repeat' first
    | with_reducible assumption
    | intro _
    | with_reducible apply atHub_kept
    | with_reducible apply foldS_kept
    | with_reducible apply entryError_kept
    | with_reducible apply doProofReport_kept
    | dsimp only
    | split

theorem execEscExpired_kept {index : Nat} (hdig : m.leaves .dig = false) (hobs : m.leaves .obs = false) (hcol : m.leaves .col = false) (hcmd : m.leaves .cmd = false) (hesc : m.leaves .esc = false) (hfab : m.leaves .fab = false) : Follows m s (execEscExpired index s) := by
  have h := Kept.refl m s
  refine ⟨_, rfl, ?_⟩
  repeat' first
    | with_reducible assumption
    | intro _
    | with_reducible apply atHub_kept
    | with_reducible apply doEscExpired_kept
    | dsimp only
    | split

theorem execBranchFailedExpiry_kept {index : Nat} (hdig : m.leaves .dig = false) (hobs : m.leaves .obs = false) (hcol : m.leaves .col = false) (hcmd : m.leaves .cmd = false) (hesc : m.leaves .esc = false) (hfab : m.leaves .fab = false) : Follows m s (execBranchFailedExpiry index s) := by
  have h := Kept.refl m s
  refine ⟨_, rfl, ?_⟩
  repeat' first
    | with_reducible assumption
    | intro _
    | with_reducible apply atHub_kept
    | with_reducible apply doBranchFailedExpiry_kept
    | dsimp only
    | split

theorem execCloseTick_kept {c : Nat} (hdig : m.leaves .dig = false) (hobs : m.leaves .obs = false) (hcol : m.leaves .col = false) (hcmd : m.leaves .cmd = false) (hfab : m.leaves .fab = false) : Follows m s (execCloseTick c s) := by
  have h := Kept.refl m s
  refine ⟨_, rfl, ?_⟩
  repeat' first
    | with_reducible assumption
    | intro _
    | with_reducible apply atHub_kept
    | with_reducible apply doCloseTick_kept
    | dsimp only
    | split

theorem execTaggedWrite_kept {ctrl : Nat} {word : BitVec 288} {masked : Bool} {drop : Bool} {dg : Bool} {comp : Nat} {slot : Nat} {woff : Nat} {ch : Nat} {acc : Option WordUpset} (hdig : m.leaves .dig = false) (hobs : m.leaves .obs = false) (hcol : m.leaves .col = false) (hcmd : m.leaves .cmd = false) (hfab : m.leaves .fab = false) : Follows m s (execTaggedWrite ctrl word masked drop dg comp slot woff ch s acc) := by
  have h := Kept.refl m s
  refine ⟨_, rfl, ?_⟩
  repeat' first
    | with_reducible assumption
    | intro _
    | with_reducible apply doTaggedWrite_kept
    | with_reducible apply kept_ite
    | dsimp only
    | split

theorem execShardScanDone_kept {c : Nat} {slot : Nat} {words : List (BitVec 288)} (hdig : m.leaves .dig = false) (hobs : m.leaves .obs = false) : Follows m s (execShardScanDone c slot words s) := by
  have h := Kept.refl m s
  refine ⟨_, rfl, ?_⟩
  repeat' first
    | with_reducible assumption
    | intro _
    | with_reducible apply atHub_kept
    | with_reducible apply doShardScanDone_kept
    | dsimp only
    | split

theorem execDigestPartSend_kept {c : Nat} (hdig : m.leaves .dig = false) (hobs : m.leaves .obs = false) (hcol : m.leaves .col = false) (hcmd : m.leaves .cmd = false) (hfab : m.leaves .fab = false) : Follows m s (execDigestPartSend c s) := by
  have h := Kept.refl m s
  refine ⟨_, rfl, ?_⟩
  repeat' first
    | with_reducible assumption
    | intro _
    | with_reducible apply atHub_kept
    | with_reducible apply doDigestPartSend_kept
    | dsimp only
    | split

theorem execRevoke_kept (hdig : m.leaves .dig = false) (hcol : m.leaves .col = false) (hcmd : m.leaves .cmd = false) (hfab : m.leaves .fab = false) : Follows m s (execRevoke s) := by
  have h := Kept.refl m s
  refine ⟨_, rfl, ?_⟩
  repeat' first
    | with_reducible assumption
    | intro _
    | with_reducible apply atHub_kept
    | with_reducible apply withMsg_kept
    | with_reducible apply applyRevoke_kept
    | dsimp only
    | split

theorem execSendRequest_kept {tap : Nat} {req : W128} (hdig : m.leaves .dig = false) (hobs : m.leaves .obs = false) (hcol : m.leaves .col = false) (hcmd : m.leaves .cmd = false) (hjrn : m.leaves .jrn = false) (hesc : m.leaves .esc = false) (hfab : m.leaves .fab = false) : Follows m s (execSendRequest tap req s) := by
  have h := Kept.refl m s
  refine ⟨_, rfl, ?_⟩
  repeat' first
    | with_reducible assumption
    | intro _
    | with_reducible apply atTapPort_kept
    | with_reducible apply doSendRequest_kept
    | dsimp only
    | split

theorem execSendGrant_kept {tap : Nat} {handle : Nat} (hdig : m.leaves .dig = false) (hobs : m.leaves .obs = false) (hcol : m.leaves .col = false) (hcmd : m.leaves .cmd = false) (hjrn : m.leaves .jrn = false) (hesc : m.leaves .esc = false) (hfab : m.leaves .fab = false) : Follows m s (execSendGrant tap handle s) := by
  have h := Kept.refl m s
  refine ⟨_, rfl, ?_⟩
  repeat' first
    | with_reducible assumption
    | intro _
    | with_reducible apply atTapPort_kept
    | with_reducible apply grantSend_kept
    | dsimp only
    | split

theorem execSendLeft_kept {tap : Nat} {handle : Nat} (hobs : m.leaves .obs = false) (hcol : m.leaves .col = false) (hesc : m.leaves .esc = false) : Follows m s (execSendLeft tap handle s) := by
  have h := Kept.refl m s
  refine ⟨_, rfl, ?_⟩
  repeat' first
    | with_reducible assumption
    | intro _
    | with_reducible apply atTapPort_kept
    | with_reducible apply sendPortFailed_kept
    | with_reducible apply kept_ite
    | simp only [↓kept_upd_iff, implies_true, hobs, hcol, hesc, Bool.false_eq_true, false_implies]
    | dsimp only
    | split

theorem execCreditRefill_kept {tap : Nat} (hesc : m.leaves .esc = false) : Follows m s (execCreditRefill tap s) := by
  have h := Kept.refl m s
  refine ⟨_, rfl, ?_⟩
  repeat' first
    | with_reducible assumption
    | intro _
    | with_reducible apply atTapPort_kept
    | with_reducible apply doCreditRefill_kept
    | dsimp only
    | split

theorem execFellWrite_kept {wrote : Bool} (hcol : m.leaves .col = false) (hrecd : m.leaves .recd = false) (hcellar : m.leaves .cellar = false) : Follows m s (execFellWrite wrote s) := by
  have h := Kept.refl m s
  refine ⟨_, rfl, ?_⟩
  repeat' first
    | with_reducible assumption
    | intro _
    | with_reducible apply atHub_kept
    | with_reducible apply doFellWrite_kept
    | dsimp only
    | split

theorem execTapRetry_kept {tap : Nat} {pass : Bool} (hfell : m.fell = false) (hobs : m.leaves .obs = false) (hscr : m.leaves .scr = false) (hcol : m.leaves .col = false) (hcmd : m.leaves .cmd = false) (hjrn : m.leaves .jrn = false) (hrecd : m.leaves .recd = false) (hcellar : m.leaves .cellar = false) : Follows m s (execTapRetry tap pass s) := by
  have h := Kept.refl m s
  refine ⟨_, rfl, ?_⟩
  repeat' first
    | with_reducible assumption
    | intro _
    | with_reducible apply atHub_kept
    | with_reducible apply doTapRetry_kept
    | dsimp only
    | split

theorem execNoOpportunity_kept {mech : Nat} {tap : Nat} (hobs : m.leaves .obs = false) (hcol : m.leaves .col = false) (hgov : m.leaves .gov = false) (htaps : m.leaves .taps = false) (hseq : m.leaves .seq = false) : Follows m s (execNoOpportunity mech tap s) := by
  have h := Kept.refl m s
  refine ⟨_, rfl, ?_⟩
  repeat' first
    | with_reducible assumption
    | intro _
    | with_reducible apply atHub_kept
    | with_reducible apply doNoOpportunity_kept
    | dsimp only
    | split

theorem execPinpointRecompute_kept {buf0 buf1 buf2 : List W256} {bad : Bool} {work : Nat} (hfell : m.fell = false) (hdig : m.leaves .dig = false) (hbnk : m.leaves .bnk = false) (hobs : m.leaves .obs = false) (hscr : m.leaves .scr = false) (hcol : m.leaves .col = false) (hgov : m.leaves .gov = false) (hcmd : m.leaves .cmd = false) (htaps : m.leaves .taps = false) (hjrn : m.leaves .jrn = false) (hesc : m.leaves .esc = false) (hrecd : m.leaves .recd = false) (hseq : m.leaves .seq = false) (hfab : m.leaves .fab = false) (hcellar : m.leaves .cellar = false) (hwords : m.leaves .words = false) : Follows m s (execPinpointRecompute buf0 buf1 buf2 bad s work) := by
  have h := Kept.refl m s
  refine ⟨_, rfl, ?_⟩
  repeat' first
    | with_reducible assumption
    | intro _
    | with_reducible apply atHub_kept
    | with_reducible apply doPinpointRecompute_kept
    | dsimp only
    | split

theorem execPinRerun_kept (hseq : m.leaves .seq = false) : Follows m s (execPinRerun s) := by
  have h := Kept.refl m s
  refine ⟨_, rfl, ?_⟩
  repeat' first
    | with_reducible assumption
    | intro _
    | with_reducible apply atHub_kept
    | with_reducible apply doPinRerun_kept
    | dsimp only
    | split

theorem execTileCompare_kept {tap : Nat} {tag : Nat} (hfell : m.fell = false) (hdig : m.leaves .dig = false) (hbnk : m.leaves .bnk = false) (hobs : m.leaves .obs = false) (hscr : m.leaves .scr = false) (hcol : m.leaves .col = false) (hgov : m.leaves .gov = false) (hcmd : m.leaves .cmd = false) (htaps : m.leaves .taps = false) (hjrn : m.leaves .jrn = false) (hesc : m.leaves .esc = false) (hrecd : m.leaves .recd = false) (hseq : m.leaves .seq = false) (hfab : m.leaves .fab = false) (hcellar : m.leaves .cellar = false) (hwords : m.leaves .words = false) : Follows m s (execTileCompare tap tag s) := by
  have h := Kept.refl m s
  refine ⟨_, rfl, ?_⟩
  repeat' first
    | with_reducible assumption
    | intro _
    | with_reducible apply atTapPort_kept
    | with_reducible apply pinDone_kept
    | with_reducible apply doTileCompare_kept
    | dsimp only
    | split

theorem execPinpointTimeout_kept (hfell : m.fell = false) (hdig : m.leaves .dig = false) (hbnk : m.leaves .bnk = false) (hobs : m.leaves .obs = false) (hscr : m.leaves .scr = false) (hcol : m.leaves .col = false) (hgov : m.leaves .gov = false) (hcmd : m.leaves .cmd = false) (htaps : m.leaves .taps = false) (hjrn : m.leaves .jrn = false) (hesc : m.leaves .esc = false) (hrecd : m.leaves .recd = false) (hseq : m.leaves .seq = false) (hfab : m.leaves .fab = false) (hcellar : m.leaves .cellar = false) (hwords : m.leaves .words = false) : Follows m s (execPinpointTimeout s) := by
  have h := Kept.refl m s
  refine ⟨_, rfl, ?_⟩
  repeat' first
    | with_reducible assumption
    | intro _
    | with_reducible apply atHub_kept
    | with_reducible apply doPinpointTimeout_kept
    | dsimp only
    | split

theorem execGovernorPeriod_kept {c : Nat} (hdig : m.leaves .dig = false) (hbnk : m.leaves .bnk = false) (hcol : m.leaves .col = false) (hgov : m.leaves .gov = false) (hwords : m.leaves .words = false) : Follows m s (execGovernorPeriod c s) := by
  have h := Kept.refl m s
  refine ⟨_, rfl, ?_⟩
  repeat' first
    | with_reducible assumption
    | intro _
    | with_reducible apply atHub_kept
    | with_reducible apply doGovernorPeriod_kept
    | dsimp only
    | split

theorem execRehearsalPoint_kept {mech : Nat} {tap : Nat} (hgov : m.leaves .gov = false) (htaps : m.leaves .taps = false) : Follows m s (execRehearsalPoint mech tap s) := by
  have h := Kept.refl m s
  refine ⟨_, rfl, ?_⟩
  repeat' first
    | with_reducible assumption
    | intro _
    | with_reducible apply atHub_kept
    | with_reducible apply doRehearsalPoint_kept
    | dsimp only
    | split

theorem execCmdNop_kept {c : Nat} {pkt : BitVec 512} (hcmd : m.leaves .cmd = false) : Follows m s (execCmdNop c pkt s) := by
  have h := Kept.refl m s
  refine ⟨_, rfl, ?_⟩
  repeat' first
    | with_reducible assumption
    | intro _
    | with_reducible apply plainCmd_kept
    | dsimp only
    | split

theorem execStatus_kept {c : Nat} {pkt : BitVec 512} (hcmd : m.leaves .cmd = false) : Follows m s (execStatus c pkt s) := by
  have h := Kept.refl m s
  refine ⟨_, rfl, ?_⟩
  repeat' first
    | with_reducible assumption
    | intro _
    | with_reducible apply statusCmd_kept
    | dsimp only
    | split

theorem execReopen_kept {c : Nat} {pkt : BitVec 512} (hdig : m.leaves .dig = false) (hcol : m.leaves .col = false) (hcmd : m.leaves .cmd = false) : Follows m s (execReopen c pkt s) := by
  have h := Kept.refl m s
  refine ⟨_, rfl, ?_⟩
  repeat' first
    | with_reducible assumption
    | intro _
    | with_reducible apply plainCmd_kept
    | with_reducible apply doReopen_kept
    | dsimp only
    | split

theorem execFenceReq_kept {c : Nat} {pkt : BitVec 512} (hcol : m.leaves .col = false) (hcmd : m.leaves .cmd = false) : Follows m s (execFenceReq c pkt s) := by
  have h := Kept.refl m s
  refine ⟨_, rfl, ?_⟩
  repeat' first
    | with_reducible assumption
    | intro _
    | with_reducible apply runCmd_kept
    | with_reducible apply doFenceReq_kept
    | dsimp only
    | split

theorem execLatch_kept {c : Nat} {pkt : BitVec 512} (hdig : m.leaves .dig = false) (hobs : m.leaves .obs = false) (hcol : m.leaves .col = false) (hcmd : m.leaves .cmd = false) (hfab : m.leaves .fab = false) : Follows m s (execLatch c pkt s) := by
  have h := Kept.refl m s
  refine ⟨_, rfl, ?_⟩
  repeat' first
    | with_reducible assumption
    | intro _
    | with_reducible apply runCmd_kept
    | with_reducible apply doLatchCmd_kept
    | dsimp only
    | split

theorem execTensorSet_kept {c : Nat} {pkt : BitVec 512} (hdig : m.leaves .dig = false) (hobs : m.leaves .obs = false) (hcmd : m.leaves .cmd = false) : Follows m s (execTensorSet c pkt s) := by
  have h := Kept.refl m s
  refine ⟨_, rfl, ?_⟩
  repeat' first
    | with_reducible assumption
    | intro _
    | with_reducible apply plainCmd_kept
    | with_reducible apply tensorSet_kept
    | dsimp only
    | split

theorem execExtentSet_kept {c : Nat} {pkt : BitVec 512} (hdig : m.leaves .dig = false) (hcmd : m.leaves .cmd = false) : Follows m s (execExtentSet c pkt s) := by
  have h := Kept.refl m s
  refine ⟨_, rfl, ?_⟩
  repeat' first
    | with_reducible assumption
    | intro _
    | with_reducible apply plainCmd_kept
    | with_reducible apply extentSet_kept
    | dsimp only
    | split

theorem execTensorRead_kept {c : Nat} {pkt : BitVec 512} (hcmd : m.leaves .cmd = false) : Follows m s (execTensorRead c pkt s) := by
  have h := Kept.refl m s
  refine ⟨_, rfl, ?_⟩
  repeat' first
    | with_reducible assumption
    | intro _
    | with_reducible apply statusCmd_kept
    | with_reducible apply doTensorRead_kept
    | dsimp only
    | split

theorem execVoteSet_kept {c : Nat} {pkt : BitVec 512} (hcmd : m.leaves .cmd = false) (hfab : m.leaves .fab = false) : Follows m s (execVoteSet c pkt s) := by
  have h := Kept.refl m s
  refine ⟨_, rfl, ?_⟩
  repeat' first
    | with_reducible assumption
    | intro _
    | with_reducible apply runCmd_kept
    | with_reducible apply doVoteSet_kept
    | dsimp only
    | split

theorem execCertify_kept {c : Nat} {pkt : BitVec 512} (hdig : m.leaves .dig = false) (hcol : m.leaves .col = false) (hcmd : m.leaves .cmd = false) : Follows m s (execCertify c pkt s) := by
  have h := Kept.refl m s
  refine ⟨_, rfl, ?_⟩
  repeat' first
    | with_reducible assumption
    | intro _
    | with_reducible apply runCmd_kept
    | with_reducible apply doCertify_kept
    | dsimp only
    | split

theorem execRestore_kept {c : Nat} {pkt : BitVec 512} (hdig : m.leaves .dig = false) (hcmd : m.leaves .cmd = false) : Follows m s (execRestore c pkt s) := by
  have h := Kept.refl m s
  refine ⟨_, rfl, ?_⟩
  repeat' first
    | with_reducible assumption
    | intro _
    | with_reducible apply runCmd_kept
    | with_reducible apply restore_kept
    | dsimp only
    | split

theorem execRingSet_kept {c : Nat} {pkt : BitVec 512} (hcmd : m.leaves .cmd = false) (hjrn : m.leaves .jrn = false) : Follows m s (execRingSet c pkt s) := by
  have h := Kept.refl m s
  refine ⟨_, rfl, ?_⟩
  repeat' first
    | with_reducible assumption
    | intro _
    | with_reducible apply plainCmd_kept
    | with_reducible apply doRingSet_kept
    | dsimp only
    | split

theorem execRetarget_kept {c : Nat} {pkt : BitVec 512} (hobs : m.leaves .obs = false) (hgov : m.leaves .gov = false) (hcmd : m.leaves .cmd = false) (htaps : m.leaves .taps = false) (hjrn : m.leaves .jrn = false) (hesc : m.leaves .esc = false) : Follows m s (execRetarget c pkt s) := by
  have h := Kept.refl m s
  refine ⟨_, rfl, ?_⟩
  repeat' first
    | with_reducible assumption
    | intro _
    | with_reducible apply statusCmd_kept
    | with_reducible apply doRetarget_kept
    | dsimp only
    | split

theorem execStopSetup_kept {c : Nat} {pkt : BitVec 512} (hcmd : m.leaves .cmd = false) (hfab : m.leaves .fab = false) : Follows m s (execStopSetup c pkt s) := by
  have h := Kept.refl m s
  refine ⟨_, rfl, ?_⟩
  repeat' first
    | with_reducible assumption
    | intro _
    | with_reducible apply plainCmd_kept
    | with_reducible apply kept_ite
    | simp only [↓kept_upd_iff, implies_true, hcmd, hfab, Bool.false_eq_true, false_implies]
    | dsimp only
    | split

theorem execStop_kept {c : Nat} {pkt : BitVec 512} (hcol : m.leaves .col = false) (hcmd : m.leaves .cmd = false) (hfab : m.leaves .fab = false) : Follows m s (execStop c pkt s) := by
  have h := Kept.refl m s
  refine ⟨_, rfl, ?_⟩
  repeat' first
    | with_reducible assumption
    | intro _
    | with_reducible apply runCmd_kept
    | with_reducible apply doStop_kept
    | dsimp only
    | split

theorem execResume_kept {c : Nat} {pkt : BitVec 512} (hcol : m.leaves .col = false) (hcmd : m.leaves .cmd = false) (hfab : m.leaves .fab = false) : Follows m s (execResume c pkt s) := by
  have h := Kept.refl m s
  refine ⟨_, rfl, ?_⟩
  repeat' first
    | with_reducible assumption
    | intro _
    | with_reducible apply runCmd_kept
    | with_reducible apply doResume_kept
    | dsimp only
    | split

theorem execTallySetup_kept {c : Nat} {pkt : BitVec 512} (hcmd : m.leaves .cmd = false) (hobs : m.leaves .obs = false) : Follows m s (execTallySetup c pkt s) := by
  have h := Kept.refl m s
  refine ⟨_, rfl, ?_⟩
  repeat' first
    | with_reducible assumption
    | intro _
    | with_reducible apply plainCmd_kept
    | with_reducible apply kept_ite
    | simp only [↓kept_upd_iff, implies_true, hcmd, hobs, Bool.false_eq_true, false_implies]
    | dsimp only
    | split

theorem execTally_kept {c : Nat} {pkt : BitVec 512} (hobs : m.leaves .obs = false) (hcmd : m.leaves .cmd = false) : Follows m s (execTally c pkt s) := by
  have h := Kept.refl m s
  refine ⟨_, rfl, ?_⟩
  repeat' first
    | with_reducible assumption
    | intro _
    | with_reducible apply runCmd_kept
    | with_reducible apply doTally_kept
    | dsimp only
    | split

theorem execCensus_kept {c : Nat} {pkt : BitVec 512} (hobs : m.leaves .obs = false) (hcmd : m.leaves .cmd = false) : Follows m s (execCensus c pkt s) := by
  have h := Kept.refl m s
  refine ⟨_, rfl, ?_⟩
  repeat' first
    | with_reducible assumption
    | intro _
    | with_reducible apply runCmd_kept
    | with_reducible apply doCensus_kept
    | dsimp only
    | split

theorem execTraceSetup_kept {c : Nat} {pkt : BitVec 512} (hobs : m.leaves .obs = false) (hcmd : m.leaves .cmd = false) : Follows m s (execTraceSetup c pkt s) := by
  have h := Kept.refl m s
  refine ⟨_, rfl, ?_⟩
  repeat' first
    | with_reducible assumption
    | intro _
    | with_reducible apply plainCmd_kept
    | with_reducible apply traceSetup_kept
    | dsimp only
    | split

theorem execTraceMark_kept {c : Nat} {pkt : BitVec 512} (hobs : m.leaves .obs = false) (hcmd : m.leaves .cmd = false) : Follows m s (execTraceMark c pkt s) := by
  have h := Kept.refl m s
  refine ⟨_, rfl, ?_⟩
  repeat' first
    | with_reducible assumption
    | intro _
    | with_reducible apply plainCmd_kept
    | with_reducible apply doTraceMark_kept
    | dsimp only
    | split

theorem execTimeQuery_kept {c : Nat} {pkt : BitVec 512} (hcmd : m.leaves .cmd = false) : Follows m s (execTimeQuery c pkt s) := by
  have h := Kept.refl m s
  refine ⟨_, rfl, ?_⟩
  repeat' first
    | with_reducible assumption
    | intro _
    | with_reducible apply statusCmd_kept
    | with_reducible apply doTimeQuery_kept
    | dsimp only
    | split

theorem execScreenOffer_kept {c : Nat} {pkt : BitVec 512} (hscr : m.leaves .scr = false) (hcmd : m.leaves .cmd = false) : Follows m s (execScreenOffer c pkt s) := by
  have h := Kept.refl m s
  refine ⟨_, rfl, ?_⟩
  repeat' first
    | with_reducible assumption
    | intro _
    | with_reducible apply runCmd_kept
    | with_reducible apply doScreenOffer_kept
    | dsimp only
    | split

theorem execI3cPrivateWrite_kept {bytes : List Byte} (hst : m.st = false) (hprog : m.prog = false) (hsev : m.sev = false) (hdig : m.leaves .dig = false) (hbnk : m.leaves .bnk = false) (hobs : m.leaves .obs = false) (hscr : m.leaves .scr = false) (hisl : m.leaves .isl = false) (hcol : m.leaves .col = false) (hgov : m.leaves .gov = false) (hcmd : m.leaves .cmd = false) (htaps : m.leaves .taps = false) (hjrn : m.leaves .jrn = false) (hesc : m.leaves .esc = false) (hrecd : m.leaves .recd = false) (hseq : m.leaves .seq = false) (hfab : m.leaves .fab = false) (htim : m.leaves .tim = false) (hmregs : m.leaves .mregs = false) (hjregs : m.leaves .jregs = false) (hcapKeys : m.leaves .capKeys = false) (hthm : m.leaves .thm = false) (hcellar : m.leaves .cellar = false) (hwords : m.leaves .words = false) : Follows m s (execI3cPrivateWrite bytes s) := by
  have h := Kept.refl m s
  refine ⟨_, rfl, ?_⟩
  repeat' first
    | with_reducible assumption
    | intro _
    | with_reducible apply whenS_kept
    | with_reducible apply doI3cWrite_kept
    | dsimp only
    | split

theorem execI3cPrivateRead_kept (hisl : m.leaves .isl = false) : Follows m s (execI3cPrivateRead s) := by
  have h := Kept.refl m s
  refine ⟨_, rfl, ?_⟩
  repeat' first
    | with_reducible assumption
    | intro _
    | with_reducible apply whenS_kept
    | with_reducible apply doI3cRead_kept
    | dsimp only
    | split

theorem execEntdaa_kept {addr : BitVec 7} (hisl : m.leaves .isl = false) : Follows m s (execEntdaa addr s) := by
  have h := Kept.refl m s
  refine ⟨_, rfl, ?_⟩
  repeat' first
    | with_reducible assumption
    | intro _
    | with_reducible apply doEntdaa_kept
    | dsimp only
    | split

theorem execSetdasa_kept {addr : BitVec 7} (hisl : m.leaves .isl = false) : Follows m s (execSetdasa addr s) := by
  have h := Kept.refl m s
  refine ⟨_, rfl, ?_⟩
  repeat' first
    | with_reducible assumption
    | intro _
    | with_reducible apply takeAddr_kept
    | dsimp only
    | split

theorem execSetnewda_kept {addr : BitVec 7} (hisl : m.leaves .isl = false) : Follows m s (execSetnewda addr s) := by
  have h := Kept.refl m s
  refine ⟨_, rfl, ?_⟩
  repeat' first
    | with_reducible assumption
    | intro _
    | with_reducible apply takeAddr_kept
    | dsimp only
    | split

theorem execRstdaa_kept (hisl : m.leaves .isl = false) : Follows m s (execRstdaa s) := by
  have h := Kept.refl m s
  refine ⟨_, rfl, ?_⟩
  repeat' first
    | with_reducible assumption
    | intro _
    | simp only [↓kept_upd_iff, implies_true, hisl, Bool.false_eq_true, false_implies]
    | dsimp only
    | split

theorem execGetpid_kept : Follows m s (execGetpid s) := by
  have h := Kept.refl m s
  refine ⟨_, rfl, ?_⟩
  repeat' first
    | with_reducible assumption
    | intro _
    | with_reducible apply i3cSay_kept
    | dsimp only
    | split

theorem execGetbcr_kept : Follows m s (execGetbcr s) := by
  have h := Kept.refl m s
  refine ⟨_, rfl, ?_⟩
  repeat' first
    | with_reducible assumption
    | intro _
    | with_reducible apply i3cSay_kept
    | dsimp only
    | split

theorem execGetdcr_kept : Follows m s (execGetdcr s) := by
  have h := Kept.refl m s
  refine ⟨_, rfl, ?_⟩
  repeat' first
    | with_reducible assumption
    | intro _
    | with_reducible apply i3cSay_kept
    | dsimp only
    | split

theorem execGetstatus_kept : Follows m s (execGetstatus s) := by
  have h := Kept.refl m s
  refine ⟨_, rfl, ?_⟩
  repeat' first
    | with_reducible assumption
    | intro _
    | with_reducible apply i3cSay_kept
    | dsimp only
    | split

theorem execGetmwl_kept : Follows m s (execGetmwl s) := by
  have h := Kept.refl m s
  refine ⟨_, rfl, ?_⟩
  repeat' first
    | with_reducible assumption
    | intro _
    | with_reducible apply i3cSay_kept
    | dsimp only
    | split

theorem execGetmrl_kept : Follows m s (execGetmrl s) := by
  have h := Kept.refl m s
  refine ⟨_, rfl, ?_⟩
  repeat' first
    | with_reducible assumption
    | intro _
    | with_reducible apply i3cSay_kept
    | dsimp only
    | split

theorem execEnec_kept : Follows m s (execEnec s) := by
  have h := Kept.refl m s
  refine ⟨_, rfl, ?_⟩
  repeat' first
    | with_reducible assumption
    | intro _
    | dsimp only
    | split

theorem execDisec_kept : Follows m s (execDisec s) := by
  have h := Kept.refl m s
  refine ⟨_, rfl, ?_⟩
  repeat' first
    | with_reducible assumption
    | intro _
    | dsimp only
    | split

theorem execCamRd_kept {offset : Nat} {wide : Bool} (hst : m.st = false) (hprog : m.prog = false) (hsev : m.sev = false) (hdig : m.leaves .dig = false) (hbnk : m.leaves .bnk = false) (hobs : m.leaves .obs = false) (hscr : m.leaves .scr = false) (hisl : m.leaves .isl = false) (hcol : m.leaves .col = false) (hgov : m.leaves .gov = false) (hcmd : m.leaves .cmd = false) (htaps : m.leaves .taps = false) (hjrn : m.leaves .jrn = false) (hesc : m.leaves .esc = false) (hrecd : m.leaves .recd = false) (hseq : m.leaves .seq = false) (hfab : m.leaves .fab = false) (htim : m.leaves .tim = false) (hmregs : m.leaves .mregs = false) (hjregs : m.leaves .jregs = false) (hcapKeys : m.leaves .capKeys = false) (hthm : m.leaves .thm = false) (hcellar : m.leaves .cellar = false) (hwords : m.leaves .words = false) : Follows m s (execCamRd offset wide s) := by
  have h := Kept.refl m s
  refine ⟨_, rfl, ?_⟩
  repeat' first
    | with_reducible assumption
    | intro _
    | with_reducible apply camLine_kept
    | with_reducible apply camRd_kept
    | with_reducible apply kept_ite
    | dsimp only
    | split

theorem execCamWr_kept {offset : Nat} {wide : Bool} {value : W64} (hst : m.st = false) (hprog : m.prog = false) (hsev : m.sev = false) (hdig : m.leaves .dig = false) (hbnk : m.leaves .bnk = false) (hobs : m.leaves .obs = false) (hscr : m.leaves .scr = false) (hisl : m.leaves .isl = false) (hcol : m.leaves .col = false) (hgov : m.leaves .gov = false) (hcmd : m.leaves .cmd = false) (htaps : m.leaves .taps = false) (hjrn : m.leaves .jrn = false) (hesc : m.leaves .esc = false) (hrecd : m.leaves .recd = false) (hseq : m.leaves .seq = false) (hfab : m.leaves .fab = false) (htim : m.leaves .tim = false) (hmregs : m.leaves .mregs = false) (hjregs : m.leaves .jregs = false) (hcapKeys : m.leaves .capKeys = false) (hthm : m.leaves .thm = false) (hcellar : m.leaves .cellar = false) (hwords : m.leaves .words = false) : Follows m s (execCamWr offset wide value s) := by
  have h := Kept.refl m s
  refine ⟨_, rfl, ?_⟩
  repeat' first
    | with_reducible assumption
    | intro _
    | with_reducible apply camLine_kept
    | with_reducible apply mAccess_kept
    | refine kept_snd (by with_reducible assumption) ?_
    | dsimp only
    | split

theorem execCamHelp_kept (hisl : m.leaves .isl = false) : Follows m s (execCamHelp s) := by
  have h := Kept.refl m s
  refine ⟨_, rfl, ?_⟩
  repeat' first
    | with_reducible assumption
    | intro _
    | with_reducible apply camLine_kept
    | dsimp only
    | split

theorem execCamState_kept (hisl : m.leaves .isl = false) : Follows m s (execCamState s) := by
  have h := Kept.refl m s
  refine ⟨_, rfl, ?_⟩
  repeat' first
    | with_reducible assumption
    | intro _
    | with_reducible apply camLine_kept
    | with_reducible apply kept_ite
    | simp only [↓kept_upd_iff, implies_true, hisl, Bool.false_eq_true, false_implies]
    | dsimp only
    | split

theorem execCamBaud_kept {rate : Nat} (hisl : m.leaves .isl = false) : Follows m s (execCamBaud rate s) := by
  have h := Kept.refl m s
  refine ⟨_, rfl, ?_⟩
  repeat' first
    | with_reducible assumption
    | intro _
    | with_reducible apply camLine_kept
    | with_reducible apply kept_ite
    | simp only [↓kept_upd_iff, implies_true, hisl, Bool.false_eq_true, false_implies]
    | dsimp only
    | split

theorem execCamCellar_kept {addr : Nat} {count : Nat} (hisl : m.leaves .isl = false) (hrecd : m.leaves .recd = false) (hmregs : m.leaves .mregs = false) : Follows m s (execCamCellar addr count s) := by
  have h := Kept.refl m s
  refine ⟨_, rfl, ?_⟩
  repeat' first
    | with_reducible assumption
    | intro _
    | with_reducible apply camLine_kept
    | with_reducible apply camCellar_kept
    | dsimp only
    | split

theorem execCamRec_kept {n : Nat} (hisl : m.leaves .isl = false) : Follows m s (execCamRec n s) := by
  have h := Kept.refl m s
  refine ⟨_, rfl, ?_⟩
  repeat' first
    | with_reducible assumption
    | intro _
    | with_reducible apply camLine_kept
    | with_reducible apply camRec_kept
    | dsimp only
    | split

theorem execCamUnlock_kept {token : Option (BitVec 2048)} (hlevel : m.level = false) (hisl : m.leaves .isl = false) (hcol : m.leaves .col = false) : Follows m s (execCamUnlock token s) := by
  have h := Kept.refl m s
  refine ⟨_, rfl, ?_⟩
  repeat' first
    | with_reducible assumption
    | intro _
    | with_reducible apply camLine_kept
    | with_reducible apply camUnlock_kept
    | dsimp only
    | split

theorem execCamLock_kept (hisl : m.leaves .isl = false) (hlevel : m.level = false) : Follows m s (execCamLock s) := by
  have h := Kept.refl m s
  refine ⟨_, rfl, ?_⟩
  repeat' first
    | with_reducible assumption
    | intro _
    | with_reducible apply camLine_kept
    | simp only [↓kept_upd_iff, implies_true, hisl, hlevel, Bool.false_eq_true, false_implies]
    | dsimp only
    | split

theorem execCamSev_kept {cls : Nat} {kind : Nat} {entry : Option (BitVec 8)} (hsev : m.sev = false) (hisl : m.leaves .isl = false) (hcol : m.leaves .col = false) (hmregs : m.leaves .mregs = false) : Follows m s (execCamSev cls kind entry s) := by
  have h := Kept.refl m s
  refine ⟨_, rfl, ?_⟩
  repeat' first
    | with_reducible assumption
    | intro _
    | with_reducible apply camLine_kept
    | with_reducible apply camHub_kept
    | with_reducible apply camSev_kept
    | dsimp only
    | split

theorem execCamComp_kept {c : Nat} {close : Bool} (hst : m.st = false) (hdig : m.leaves .dig = false) (hobs : m.leaves .obs = false) (hisl : m.leaves .isl = false) (hcol : m.leaves .col = false) (hgov : m.leaves .gov = false) (hcmd : m.leaves .cmd = false) (htaps : m.leaves .taps = false) (hjrn : m.leaves .jrn = false) (hesc : m.leaves .esc = false) (hrecd : m.leaves .recd = false) (hseq : m.leaves .seq = false) (hfab : m.leaves .fab = false) (hmregs : m.leaves .mregs = false) (hjregs : m.leaves .jregs = false) (hcapKeys : m.leaves .capKeys = false) : Follows m s (execCamComp c close s) := by
  have h := Kept.refl m s
  refine ⟨_, rfl, ?_⟩
  repeat' first
    | with_reducible assumption
    | intro _
    | with_reducible apply camLine_kept
    | with_reducible apply camHub_kept
    | with_reducible apply camComp_kept
    | dsimp only
    | split

theorem execCamSeal_kept (hst : m.st = false) (hdig : m.leaves .dig = false) (hobs : m.leaves .obs = false) (hisl : m.leaves .isl = false) (hcol : m.leaves .col = false) (hgov : m.leaves .gov = false) (hcmd : m.leaves .cmd = false) (htaps : m.leaves .taps = false) (hjrn : m.leaves .jrn = false) (hesc : m.leaves .esc = false) (hrecd : m.leaves .recd = false) (hseq : m.leaves .seq = false) (hfab : m.leaves .fab = false) (hmregs : m.leaves .mregs = false) (hjregs : m.leaves .jregs = false) (hcapKeys : m.leaves .capKeys = false) : Follows m s (execCamSeal s) := by
  have h := Kept.refl m s
  refine ⟨_, rfl, ?_⟩
  repeat' first
    | with_reducible assumption
    | intro _
    | with_reducible apply camLine_kept
    | with_reducible apply camHub_kept
    | with_reducible apply doSealRequest_kept
    | with_reducible apply kept_ite
    | dsimp only
    | split

theorem execCamCper_kept (hisl : m.leaves .isl = false) (hrecd : m.leaves .recd = false) : Follows m s (execCamCper s) := by
  have h := Kept.refl m s
  refine ⟨_, rfl, ?_⟩
  repeat' first
    | with_reducible assumption
    | intro _
    | with_reducible apply camLine_kept
    | with_reducible apply camHub_kept
    | with_reducible apply doCperPop_kept
    | dsimp only
    | split

theorem execCamPolicy_kept {offset : Nat} {data : Option (List Byte)} (hprog : m.prog = false) (hdig : m.leaves .dig = false) (hbnk : m.leaves .bnk = false) (hobs : m.leaves .obs = false) (hscr : m.leaves .scr = false) (hisl : m.leaves .isl = false) (hcol : m.leaves .col = false) (hgov : m.leaves .gov = false) (hrecd : m.leaves .recd = false) (hseq : m.leaves .seq = false) (hcapKeys : m.leaves .capKeys = false) (hcellar : m.leaves .cellar = false) (hwords : m.leaves .words = false) : Follows m s (execCamPolicy offset data s) := by
  have h := Kept.refl m s
  refine ⟨_, rfl, ?_⟩
  repeat' first
    | with_reducible assumption
    | intro _
    | with_reducible apply camLine_kept
    | with_reducible apply camHub_kept
    | with_reducible apply camGate_kept
    | dsimp only
    | split

theorem execCamHandover_kept (hprog : m.prog = false) (hdig : m.leaves .dig = false) (hbnk : m.leaves .bnk = false) (hobs : m.leaves .obs = false) (hscr : m.leaves .scr = false) (hisl : m.leaves .isl = false) (hcol : m.leaves .col = false) (hgov : m.leaves .gov = false) (hrecd : m.leaves .recd = false) (hseq : m.leaves .seq = false) (hcapKeys : m.leaves .capKeys = false) (hcellar : m.leaves .cellar = false) (hwords : m.leaves .words = false) : Follows m s (execCamHandover s) := by
  have h := Kept.refl m s
  refine ⟨_, rfl, ?_⟩
  repeat' first
    | with_reducible assumption
    | intro _
    | with_reducible apply camLine_kept
    | with_reducible apply camHub_kept
    | with_reducible apply camGate_kept
    | dsimp only
    | split

theorem execCamGate_kept {code : Nat} {body : BitVec 448} (hprog : m.prog = false) (hdig : m.leaves .dig = false) (hbnk : m.leaves .bnk = false) (hobs : m.leaves .obs = false) (hscr : m.leaves .scr = false) (hisl : m.leaves .isl = false) (hcol : m.leaves .col = false) (hgov : m.leaves .gov = false) (hrecd : m.leaves .recd = false) (hseq : m.leaves .seq = false) (hcapKeys : m.leaves .capKeys = false) (hcellar : m.leaves .cellar = false) (hwords : m.leaves .words = false) : Follows m s (execCamGate code body s) := by
  have h := Kept.refl m s
  refine ⟨_, rfl, ?_⟩
  repeat' first
    | with_reducible assumption
    | intro _
    | with_reducible apply camLine_kept
    | with_reducible apply camHub_kept
    | with_reducible apply camGate_kept
    | with_reducible apply kept_ite
    | dsimp only
    | split

theorem execCamPut_kept {bank : Nat} {offset : Nat} {words : List W256} (hbnk : m.leaves .bnk = false) (hobs : m.leaves .obs = false) (hisl : m.leaves .isl = false) (hgov : m.leaves .gov = false) (hwords : m.leaves .words = false) : Follows m s (execCamPut bank offset words s) := by
  have h := Kept.refl m s
  refine ⟨_, rfl, ?_⟩
  repeat' first
    | with_reducible assumption
    | intro _
    | with_reducible apply camLine_kept
    | with_reducible apply camHub_kept
    | with_reducible apply camPut_kept
    | dsimp only
    | split

theorem execCamTappriv_kept {on : Bool} (hisl : m.leaves .isl = false) : Follows m s (execCamTappriv on s) := by
  have h := Kept.refl m s
  refine ⟨_, rfl, ?_⟩
  repeat' first
    | with_reducible assumption
    | intro _
    | with_reducible apply camLine_kept
    | simp only [↓kept_upd_iff, implies_true, hisl, Bool.false_eq_true, false_implies]
    | dsimp only
    | split

theorem execCamIdleTimeout_kept (hlevel : m.level = false) (hisl : m.leaves .isl = false) : Follows m s (execCamIdleTimeout s) := by
  have h := Kept.refl m s
  refine ⟨_, rfl, ?_⟩
  repeat' first
    | with_reducible assumption
    | intro _
    | with_reducible apply kept_ite
    | simp only [↓kept_upd_iff, implies_true, hlevel, hisl, Bool.false_eq_true, false_implies]
    | dsimp only
    | split

theorem execSerialBreak_kept (hisl : m.leaves .isl = false) : Follows m s (execSerialBreak s) := by
  have h := Kept.refl m s
  refine ⟨_, rfl, ?_⟩
  repeat' first
    | with_reducible assumption
    | intro _
    | simp only [↓kept_upd_iff, implies_true, hisl, Bool.false_eq_true, false_implies]
    | dsimp only
    | split

theorem execIslSecond_kept (hisl : m.leaves .isl = false) : Follows m s (execIslSecond s) := by
  have h := Kept.refl m s
  refine ⟨_, rfl, ?_⟩
  repeat' first
    | with_reducible assumption
    | intro _
    | with_reducible apply kept_ite
    | simp only [↓kept_upd_iff, implies_true, hisl, Bool.false_eq_true, false_implies]
    | dsimp only
    | split

theorem execJrnSpill_kept {slot : Nat} (hcol : m.leaves .col = false) (hjrn : m.leaves .jrn = false) : Follows m s (execJrnSpill slot s) := by
  have h := Kept.refl m s
  refine ⟨_, rfl, ?_⟩
  repeat' first
    | with_reducible assumption
    | intro _
    | with_reducible apply atHub_kept
    | with_reducible apply doJrnSpill_kept
    | dsimp only
    | split

theorem execDepRelease_kept {slot : Nat} (hjrn : m.leaves .jrn = false) : Follows m s (execDepRelease slot s) := by
  have h := Kept.refl m s
  refine ⟨_, rfl, ?_⟩
  repeat' first
    | with_reducible assumption
    | intro _
    | with_reducible apply atHub_kept
    | with_reducible apply releaseDeps_kept
    | dsimp only
    | split

theorem execCordRegister_kept {region : Nat} {desc : BitVec 768} {upsets : List (Nat × Bool)} (hdig : m.leaves .dig = false) (hobs : m.leaves .obs = false) (hcol : m.leaves .col = false) (hgov : m.leaves .gov = false) (hcmd : m.leaves .cmd = false) (htaps : m.leaves .taps = false) (hjrn : m.leaves .jrn = false) (hesc : m.leaves .esc = false) (hrecd : m.leaves .recd = false) (hfab : m.leaves .fab = false) : Follows m s (execCordRegister region desc s upsets) := by
  have h := Kept.refl m s
  refine ⟨_, rfl, ?_⟩
  repeat' first
    | with_reducible assumption
    | intro _
    | with_reducible apply atRegion_kept
    | with_reducible apply doCordRegister_kept
    | with_reducible apply foldS_kept
    | with_reducible apply cacheError_kept
    | refine kept_snd (by with_reducible assumption) ?_
    | dsimp only
    | split

theorem execAlloc_kept {src : Nat} {op : W128} (hobs : m.leaves .obs = false) (hcol : m.leaves .col = false) (hcmd : m.leaves .cmd = false) (hfab : m.leaves .fab = false) : Follows m s (execAlloc src op s) := by
  have h := Kept.refl m s
  refine ⟨_, rfl, ?_⟩
  repeat' first
    | with_reducible assumption
    | intro _
    | with_reducible apply atHub_kept
    | with_reducible apply latchRowOf_kept
    | dsimp only
    | split

theorem execFree_kept {src : Nat} {op : W128} (hobs : m.leaves .obs = false) (hcol : m.leaves .col = false) (hcmd : m.leaves .cmd = false) (hfab : m.leaves .fab = false) : Follows m s (execFree src op s) := by
  have h := Kept.refl m s
  refine ⟨_, rfl, ?_⟩
  repeat' first
    | with_reducible assumption
    | intro _
    | with_reducible apply atHub_kept
    | with_reducible apply latchRowOf_kept
    | dsimp only
    | split

theorem execArm_kept {src : Nat} {op : W128} (hobs : m.leaves .obs = false) (hcol : m.leaves .col = false) (hcmd : m.leaves .cmd = false) (hfab : m.leaves .fab = false) : Follows m s (execArm src op s) := by
  have h := Kept.refl m s
  refine ⟨_, rfl, ?_⟩
  repeat' first
    | with_reducible assumption
    | intro _
    | with_reducible apply atHub_kept
    | with_reducible apply latchRowOf_kept
    | dsimp only
    | split

theorem execArrive_kept {src : Nat} {op : W128} {upset : Option EntryUpset} (hobs : m.leaves .obs = false) (hcol : m.leaves .col = false) (hcmd : m.leaves .cmd = false) (hfab : m.leaves .fab = false) : Follows m s (execArrive src op s upset) := by
  have h := Kept.refl m s
  refine ⟨_, rfl, ?_⟩
  repeat' first
    | with_reducible assumption
    | intro _
    | with_reducible apply atHub_kept
    | with_reducible apply doArrive_kept
    | dsimp only
    | split

theorem execLatchRead_kept {src : Nat} {op : W128} (hobs : m.leaves .obs = false) (hcol : m.leaves .col = false) (hcmd : m.leaves .cmd = false) (hfab : m.leaves .fab = false) : Follows m s (execLatchRead src op s) := by
  have h := Kept.refl m s
  refine ⟨_, rfl, ?_⟩
  repeat' first
    | with_reducible assumption
    | intro _
    | with_reducible apply atHub_kept
    | with_reducible apply latchRowOf_kept
    | dsimp only
    | split

theorem execSetfwd_kept {src : Nat} {op : W128} (hobs : m.leaves .obs = false) (hcol : m.leaves .col = false) (hcmd : m.leaves .cmd = false) (hfab : m.leaves .fab = false) : Follows m s (execSetfwd src op s) := by
  have h := Kept.refl m s
  refine ⟨_, rfl, ?_⟩
  repeat' first
    | with_reducible assumption
    | intro _
    | with_reducible apply atHub_kept
    | with_reducible apply latchRowOf_kept
    | dsimp only
    | split

theorem execResult_kept (hcmd : m.leaves .cmd = false) (hseq : m.leaves .seq = false) (hfab : m.leaves .fab = false) : Follows m s (execResult s) := by
  have h := Kept.refl m s
  refine ⟨_, rfl, ?_⟩
  repeat' first
    | with_reducible assumption
    | intro _
    | with_reducible apply atHub_kept
    | with_reducible apply withMsg_kept
    | with_reducible apply answerOp_kept
    | dsimp only
    | split

theorem execDone_kept (hcmd : m.leaves .cmd = false) (hfab : m.leaves .fab = false) : Follows m s (execDone s) := by
  have h := Kept.refl m s
  refine ⟨_, rfl, ?_⟩
  repeat' first
    | with_reducible assumption
    | intro _
    | with_reducible apply atHub_kept
    | with_reducible apply doDone_kept
    | dsimp only
    | split

theorem execLockstepMismatch_kept {b : Bool} (hcol : m.leaves .col = false) (hseq : m.leaves .seq = false) : Follows m s (execLockstepMismatch b s) := by
  have h := Kept.refl m s
  refine ⟨_, rfl, ?_⟩
  repeat' first
    | with_reducible assumption
    | intro _
    | with_reducible apply atHub_kept
    | with_reducible apply pairStops_kept
    | dsimp only
    | split

theorem execFetchFault_kept {b : Bool} (hcol : m.leaves .col = false) (hseq : m.leaves .seq = false) : Follows m s (execFetchFault b s) := by
  have h := Kept.refl m s
  refine ⟨_, rfl, ?_⟩
  repeat' first
    | with_reducible assumption
    | intro _
    | with_reducible apply atHub_kept
    | with_reducible apply pairStops_kept
    | dsimp only
    | split

theorem execTurnOverrun_kept (hcol : m.leaves .col = false) (hseq : m.leaves .seq = false) : Follows m s (execTurnOverrun s) := by
  have h := Kept.refl m s
  refine ⟨_, rfl, ?_⟩
  repeat' first
    | with_reducible assumption
    | intro _
    | with_reducible apply atHub_kept
    | with_reducible apply doTurnOverrun_kept
    | dsimp only
    | split

theorem execTakeover_kept (hbnk : m.leaves .bnk = false) (hisl : m.leaves .isl = false) (hcol : m.leaves .col = false) (hgov : m.leaves .gov = false) (hseq : m.leaves .seq = false) (hwords : m.leaves .words = false) : Follows m s (execTakeover s) := by
  have h := Kept.refl m s
  refine ⟨_, rfl, ?_⟩
  repeat' first
    | with_reducible assumption
    | intro _
    | with_reducible apply atHub_kept
    | with_reducible apply doTakeover_kept
    | dsimp only
    | split

theorem execImageLoad_kept {tag : Nat} {body : BitVec 448} (hprog : m.prog = false) (hisl : m.leaves .isl = false) (hcol : m.leaves .col = false) (hseq : m.leaves .seq = false) : Follows m s (execImageLoad tag body s) := by
  have h := Kept.refl m s
  refine ⟨_, rfl, ?_⟩
  repeat' first
    | with_reducible assumption
    | intro _
    | with_reducible apply atGate_kept
    | with_reducible apply doImageLoad_kept
    | dsimp only
    | split

theorem execHandover_kept {tag : Nat} (hisl : m.leaves .isl = false) (hseq : m.leaves .seq = false) : Follows m s (execHandover tag s) := by
  have h := Kept.refl m s
  refine ⟨_, rfl, ?_⟩
  repeat' first
    | with_reducible assumption
    | intro _
    | with_reducible apply atGate_kept
    | with_reducible apply doHandover_kept
    | dsimp only
    | split

theorem execHandoverTimeout_kept (hisl : m.leaves .isl = false) (hseq : m.leaves .seq = false) : Follows m s (execHandoverTimeout s) := by
  have h := Kept.refl m s
  refine ⟨_, rfl, ?_⟩
  repeat' first
    | with_reducible assumption
    | intro _
    | with_reducible apply atHub_kept
    | with_reducible apply gateRespond_kept
    | with_reducible apply kept_ite
    | simp only [↓kept_upd_iff, implies_true, hisl, hseq, Bool.false_eq_true, false_implies]
    | dsimp only
    | split

theorem execGateRefused_kept {side : Bool} {code : Nat} {tag : Nat} {locus : Loc} (hobs : m.leaves .obs = false) (hisl : m.leaves .isl = false) (hcol : m.leaves .col = false) (hrecd : m.leaves .recd = false) : Follows m s (execGateRefused side code tag locus s) := by
  have h := Kept.refl m s
  refine ⟨_, rfl, ?_⟩
  repeat' first
    | with_reducible assumption
    | intro _
    | with_reducible apply atGate_kept
    | with_reducible apply gateRespond_kept
    | with_reducible apply refuseCrossing_kept
    | with_reducible apply whenS_kept
    | with_reducible apply kept_ite
    | dsimp only
    | split

theorem execResponse_kept (hisl : m.leaves .isl = false) (hseq : m.leaves .seq = false) : Follows m s (execResponse s) := by
  have h := Kept.refl m s
  refine ⟨_, rfl, ?_⟩
  repeat' first
    | with_reducible assumption
    | intro _
    | with_reducible apply atHub_kept
    | simp only [↓kept_upd_iff, implies_true, hisl, hseq, Bool.false_eq_true, false_implies]
    | dsimp only
    | split

theorem execRxPop_kept (hisl : m.leaves .isl = false) : Follows m s (execRxPop s) := by
  have h := Kept.refl m s
  refine ⟨_, rfl, ?_⟩
  repeat' first
    | with_reducible assumption
    | intro _
    | simp only [↓kept_upd_iff, implies_true, hisl, Bool.false_eq_true, false_implies]
    | dsimp only
    | split

theorem execUnitResponse_kept (hseq : m.leaves .seq = false) : Follows m s (execUnitResponse s) := by
  have h := Kept.refl m s
  refine ⟨_, rfl, ?_⟩
  repeat' first
    | with_reducible assumption
    | intro _
    | with_reducible apply atHub_kept
    | with_reducible apply kept_ite
    | simp only [↓kept_upd_iff, implies_true, hseq, Bool.false_eq_true, false_implies]
    | dsimp only
    | split

theorem execObsSample_kept (hobs : m.leaves .obs = false) (hisl : m.leaves .isl = false) (hmregs : m.leaves .mregs = false) : Follows m s (execObsSample s) := by
  have h := Kept.refl m s
  refine ⟨_, rfl, ?_⟩
  repeat' first
    | with_reducible assumption
    | intro _
    | with_reducible apply hubReg_kept
    | with_reducible apply obsCommand_kept
    | dsimp only
    | split

theorem execObsReset_kept (hobs : m.leaves .obs = false) (hisl : m.leaves .isl = false) (hmregs : m.leaves .mregs = false) : Follows m s (execObsReset s) := by
  have h := Kept.refl m s
  refine ⟨_, rfl, ?_⟩
  repeat' first
    | with_reducible assumption
    | intro _
    | with_reducible apply hubReg_kept
    | with_reducible apply obsCommand_kept
    | dsimp only
    | split

theorem execObsSetsel_kept (hobs : m.leaves .obs = false) (hisl : m.leaves .isl = false) (hmregs : m.leaves .mregs = false) : Follows m s (execObsSetsel s) := by
  have h := Kept.refl m s
  refine ⟨_, rfl, ?_⟩
  repeat' first
    | with_reducible assumption
    | intro _
    | with_reducible apply hubReg_kept
    | with_reducible apply obsCommand_kept
    | dsimp only
    | split

theorem execJObsSample_kept {c : Nat} {index : Nat} (hobs : m.leaves .obs = false) (hcol : m.leaves .col = false) (hrecd : m.leaves .recd = false) (hjregs : m.leaves .jregs = false) : Follows m s (execJObsSample c index s) := by
  have h := Kept.refl m s
  refine ⟨_, rfl, ?_⟩
  repeat' first
    | with_reducible assumption
    | intro _
    | with_reducible apply atHub_kept
    | with_reducible apply doJObsSample_kept
    | dsimp only
    | split

theorem execPeriodicTally_kept (hobs : m.leaves .obs = false) : Follows m s (execPeriodicTally s) := by
  have h := Kept.refl m s
  refine ⟨_, rfl, ?_⟩
  repeat' first
    | with_reducible assumption
    | intro _
    | with_reducible apply atHub_kept
    | with_reducible apply doPeriodicTally_kept
    | dsimp only
    | split

theorem execTallyFreeze_kept (hobs : m.leaves .obs = false) : Follows m s (execTallyFreeze s) := by
  have h := Kept.refl m s
  refine ⟨_, rfl, ?_⟩
  repeat' first
    | with_reducible assumption
    | intro _
    | with_reducible apply atHub_kept
    | with_reducible apply doTallyFreeze_kept
    | dsimp only
    | split

theorem execTallyDrain_kept {missing : List Nat} (hobs : m.leaves .obs = false) (hcol : m.leaves .col = false) (hcmd : m.leaves .cmd = false) (hfab : m.leaves .fab = false) : Follows m s (execTallyDrain missing s) := by
  have h := Kept.refl m s
  refine ⟨_, rfl, ?_⟩
  repeat' first
    | with_reducible assumption
    | intro _
    | with_reducible apply atHub_kept
    | with_reducible apply doTallyDrain_kept
    | dsimp only
    | split

theorem execTraceDrain_kept {c : Nat} (hobs : m.leaves .obs = false) (hcmd : m.leaves .cmd = false) (hfab : m.leaves .fab = false) : Follows m s (execTraceDrain c s) := by
  have h := Kept.refl m s
  refine ⟨_, rfl, ?_⟩
  repeat' first
    | with_reducible assumption
    | intro _
    | with_reducible apply atHub_kept
    | with_reducible apply doTraceDrain_kept
    | dsimp only
    | split

theorem execTraceHeadWrite_kept {c : Nat} {value : BitVec 32} (hobs : m.leaves .obs = false) : Follows m s (execTraceHeadWrite c value s) := by
  have h := Kept.refl m s
  refine ⟨_, rfl, ?_⟩
  repeat' first
    | with_reducible assumption
    | intro _
    | with_reducible apply atHub_kept
    | with_reducible apply doTraceHeadWrite_kept
    | dsimp only
    | split

theorem execLinkParity_kept {link : Nat} (hdig : m.leaves .dig = false) (hobs : m.leaves .obs = false) (hscr : m.leaves .scr = false) (hcol : m.leaves .col = false) (hcmd : m.leaves .cmd = false) : Follows m s (execLinkParity link s) := by
  have h := Kept.refl m s
  refine ⟨_, rfl, ?_⟩
  repeat' first
    | with_reducible assumption
    | intro _
    | with_reducible apply atHub_kept
    | with_reducible apply doLinkParity_kept
    | dsimp only
    | split

theorem execPortParityError_kept {unit : Loc} (hobs : m.leaves .obs = false) (hcol : m.leaves .col = false) : Follows m s (execPortParityError unit s) := by
  have h := Kept.refl m s
  refine ⟨_, rfl, ?_⟩
  repeat' first
    | with_reducible assumption
    | intro _
    | with_reducible apply atHub_kept
    | with_reducible apply doPortParityError_kept
    | dsimp only
    | split

theorem execHeartbeat_kept {part : Nat} (hobs : m.leaves .obs = false) (hcol : m.leaves .col = false) : Follows m s (execHeartbeat part s) := by
  have h := Kept.refl m s
  refine ⟨_, rfl, ?_⟩
  repeat' first
    | with_reducible assumption
    | intro _
    | with_reducible apply atHub_kept
    | with_reducible apply doHeartbeat_kept
    | dsimp only
    | split

theorem execTapMissing_kept {tap : Nat} (hobs : m.leaves .obs = false) (hscr : m.leaves .scr = false) (hcol : m.leaves .col = false) : Follows m s (execTapMissing tap s) := by
  have h := Kept.refl m s
  refine ⟨_, rfl, ?_⟩
  repeat' first
    | with_reducible assumption
    | intro _
    | with_reducible apply atHub_kept
    | with_reducible apply doTapMissing_kept
    | dsimp only
    | split

theorem execWardenMissing_kept {r : Nat} (hobs : m.leaves .obs = false) (hscr : m.leaves .scr = false) (hcol : m.leaves .col = false) (hcmd : m.leaves .cmd = false) (hjrn : m.leaves .jrn = false) (hseq : m.leaves .seq = false) : Follows m s (execWardenMissing r s) := by
  have h := Kept.refl m s
  refine ⟨_, rfl, ?_⟩
  repeat' first
    | with_reducible assumption
    | intro _
    | with_reducible apply atHub_kept
    | with_reducible apply doWardenMissing_kept
    | dsimp only
    | split

theorem execEccEvent_kept {ctrl : Nat} {ue : Bool} {ch : Nat} {waddr : Nat} {pay : W256} (hobs : m.leaves .obs = false) (hcol : m.leaves .col = false) : Follows m s (execEccEvent ctrl ue ch waddr pay s) := by
  have h := Kept.refl m s
  refine ⟨_, rfl, ?_⟩
  repeat' first
    | with_reducible assumption
    | intro _
    | with_reducible apply atHub_kept
    | with_reducible apply doEccEvent_kept
    | dsimp only
    | split

theorem execBlazeWritebackDone_kept {ctrl : Nat} (hobs : m.leaves .obs = false) (hcol : m.leaves .col = false) : Follows m s (execBlazeWritebackDone ctrl s) := by
  have h := Kept.refl m s
  refine ⟨_, rfl, ?_⟩
  repeat' first
    | with_reducible assumption
    | intro _
    | with_reducible apply atHub_kept
    | with_reducible apply doBwbDone_kept
    | dsimp only
    | split

theorem execBlazeWritebackTimeout_kept {ctrl : Nat} (hcol : m.leaves .col = false) : Follows m s (execBlazeWritebackTimeout ctrl s) := by
  have h := Kept.refl m s
  refine ⟨_, rfl, ?_⟩
  repeat' first
    | with_reducible assumption
    | intro _
    | with_reducible apply atHub_kept
    | with_reducible apply doBwbTimeout_kept
    | dsimp only
    | split

theorem execBlazeConsumed_kept {tap : Nat} {unit : Nat} {cord : Nat} {pay : W64} (hobs : m.leaves .obs = false) (hcol : m.leaves .col = false) : Follows m s (execBlazeConsumed tap unit cord pay s) := by
  have h := Kept.refl m s
  refine ⟨_, rfl, ?_⟩
  repeat' first
    | with_reducible assumption
    | intro _
    | with_reducible apply atTapPort_kept
    | with_reducible apply doBlazeConsumed_kept
    | dsimp only
    | split

theorem execHostCoreEvent_kept {core : Nat} {typ : Nat} {cord : Nat} {pay : W64} (hcol : m.leaves .col = false) : Follows m s (execHostCoreEvent core typ cord pay s) := by
  have h := Kept.refl m s
  refine ⟨_, rfl, ?_⟩
  repeat' first
    | with_reducible assumption
    | intro _
    | with_reducible apply atCorePort_kept
    | with_reducible apply doHostCoreEvent_kept
    | dsimp only
    | split

theorem execPing_kept (hobs : m.leaves .obs = false) (hcol : m.leaves .col = false) (hfab : m.leaves .fab = false) : Follows m s (execPing s) := by
  have h := Kept.refl m s
  refine ⟨_, rfl, ?_⟩
  repeat' first
    | with_reducible assumption
    | intro _
    | with_reducible apply atHub_kept
    | with_reducible apply withMsg_kept
    | with_reducible apply onPing_kept
    | dsimp only
    | split

theorem execLeaseExpired_kept {lease : Nat} (hcol : m.leaves .col = false) : Follows m s (execLeaseExpired lease s) := by
  have h := Kept.refl m s
  refine ⟨_, rfl, ?_⟩
  repeat' first
    | with_reducible assumption
    | intro _
    | with_reducible apply atHub_kept
    | with_reducible apply doLeaseExpired_kept
    | dsimp only
    | split

theorem execLeaseRevoke_kept (hcol : m.leaves .col = false) (hfab : m.leaves .fab = false) : Follows m s (execLeaseRevoke s) := by
  have h := Kept.refl m s
  refine ⟨_, rfl, ?_⟩
  repeat' first
    | with_reducible assumption
    | intro _
    | with_reducible apply atHub_kept
    | with_reducible apply withMsg_kept
    | with_reducible apply onRevoke_kept
    | dsimp only
    | split

theorem execPolicyWrite_kept {tag : Nat} {body : BitVec 448} (hbnk : m.leaves .bnk = false) (hisl : m.leaves .isl = false) (hgov : m.leaves .gov = false) (hseq : m.leaves .seq = false) (hwords : m.leaves .words = false) : Follows m s (execPolicyWrite tag body s) := by
  have h := Kept.refl m s
  refine ⟨_, rfl, ?_⟩
  repeat' first
    | with_reducible assumption
    | intro _
    | with_reducible apply atGate_kept
    | with_reducible apply toGateIn_kept
    | dsimp only
    | split

theorem execPolicyRead_kept {tag : Nat} {body : BitVec 448} (hbnk : m.leaves .bnk = false) (hisl : m.leaves .isl = false) (hgov : m.leaves .gov = false) (hseq : m.leaves .seq = false) (hwords : m.leaves .words = false) : Follows m s (execPolicyRead tag body s) := by
  have h := Kept.refl m s
  refine ⟨_, rfl, ?_⟩
  repeat' first
    | with_reducible assumption
    | intro _
    | with_reducible apply atGate_kept
    | with_reducible apply toGateIn_kept
    | dsimp only
    | split

theorem execRootKey_kept {tag : Nat} {body : BitVec 448} (hdig : m.leaves .dig = false) (hisl : m.leaves .isl = false) : Follows m s (execRootKey tag body s) := by
  have h := Kept.refl m s
  refine ⟨_, rfl, ?_⟩
  repeat' first
    | with_reducible assumption
    | intro _
    | with_reducible apply atGate_kept
    | with_reducible apply doRootKey_kept
    | dsimp only
    | split

theorem execCaptureKey_kept {tag : Nat} {body : BitVec 448} (hisl : m.leaves .isl = false) (hcapKeys : m.leaves .capKeys = false) : Follows m s (execCaptureKey tag body s) := by
  have h := Kept.refl m s
  refine ⟨_, rfl, ?_⟩
  repeat' first
    | with_reducible assumption
    | intro _
    | with_reducible apply atGate_kept
    | with_reducible apply doCaptureKey_kept
    | dsimp only
    | split

theorem execFellUndo_kept {tag : Nat} {body : BitVec 448} (hisl : m.leaves .isl = false) (hcol : m.leaves .col = false) (hrecd : m.leaves .recd = false) (hcellar : m.leaves .cellar = false) : Follows m s (execFellUndo tag body s) := by
  have h := Kept.refl m s
  refine ⟨_, rfl, ?_⟩
  repeat' first
    | with_reducible assumption
    | intro _
    | with_reducible apply atGate_kept
    | with_reducible apply doFellUndo_kept
    | dsimp only
    | split

theorem execVddIslUp_kept (hst : m.st = false) (hfell : m.fell = false) (hprog : m.prog = false) (hlevel : m.level = false) (hpf : m.pf = false) (hsev : m.sev = false) (het : m.et = false) (hdig : m.leaves .dig = false) (hbnk : m.leaves .bnk = false) (hobs : m.leaves .obs = false) (hscr : m.leaves .scr = false) (hisl : m.leaves .isl = false) (hcol : m.leaves .col = false) (hgov : m.leaves .gov = false) (hcmd : m.leaves .cmd = false) (htaps : m.leaves .taps = false) (hjrn : m.leaves .jrn = false) (hesc : m.leaves .esc = false) (hrecd : m.leaves .recd = false) (hseq : m.leaves .seq = false) (hfab : m.leaves .fab = false) (htim : m.leaves .tim = false) (hmregs : m.leaves .mregs = false) (hjregs : m.leaves .jregs = false) (hcapKeys : m.leaves .capKeys = false) (hthm : m.leaves .thm = false) (hwords : m.leaves .words = false) : Follows m s (execVddIslUp s) := by
  have h := Kept.refl m s
  refine ⟨_, rfl, ?_⟩
  repeat' first
    | with_reducible assumption
    | intro _
    | with_reducible apply doVddIslUp_kept
    | dsimp only
    | split

theorem execVddIslFall_kept (hst : m.st = false) (hfell : m.fell = false) (hprog : m.prog = false) (hlevel : m.level = false) (hpf : m.pf = false) (hsev : m.sev = false) (het : m.et = false) (hdig : m.leaves .dig = false) (hbnk : m.leaves .bnk = false) (hobs : m.leaves .obs = false) (hscr : m.leaves .scr = false) (hisl : m.leaves .isl = false) (hcol : m.leaves .col = false) (hgov : m.leaves .gov = false) (hcmd : m.leaves .cmd = false) (htaps : m.leaves .taps = false) (hjrn : m.leaves .jrn = false) (hesc : m.leaves .esc = false) (hrecd : m.leaves .recd = false) (hseq : m.leaves .seq = false) (hfab : m.leaves .fab = false) (htim : m.leaves .tim = false) (hmregs : m.leaves .mregs = false) (hjregs : m.leaves .jregs = false) (hcapKeys : m.leaves .capKeys = false) (hthm : m.leaves .thm = false) (hwords : m.leaves .words = false) : Follows m s (execVddIslFall s) := by
  have h := Kept.refl m s
  refine ⟨_, rfl, ?_⟩
  repeat' first
    | with_reducible assumption
    | intro _
    | with_reducible apply islClear_kept
    | dsimp only
    | split

theorem execCorePowerGood_kept {faulty : List (Nat × Nat)} (hst : m.st = false) (hfell : m.fell = false) (hprog : m.prog = false) (hsev : m.sev = false) (het : m.et = false) (hdig : m.leaves .dig = false) (hbnk : m.leaves .bnk = false) (hobs : m.leaves .obs = false) (hscr : m.leaves .scr = false) (hisl : m.leaves .isl = false) (hcol : m.leaves .col = false) (hgov : m.leaves .gov = false) (hcmd : m.leaves .cmd = false) (htaps : m.leaves .taps = false) (hjrn : m.leaves .jrn = false) (hesc : m.leaves .esc = false) (hrecd : m.leaves .recd = false) (hseq : m.leaves .seq = false) (hfab : m.leaves .fab = false) (htim : m.leaves .tim = false) (hmregs : m.leaves .mregs = false) (hjregs : m.leaves .jregs = false) (hcapKeys : m.leaves .capKeys = false) (hthm : m.leaves .thm = false) (hcellar : m.leaves .cellar = false) (hwords : m.leaves .words = false) : Follows m s (execCorePowerGood s faulty) := by
  have h := Kept.refl m s
  refine ⟨_, rfl, ?_⟩
  repeat' first
    | with_reducible assumption
    | intro _
    | with_reducible apply doCorePowerGood_kept
    | dsimp only
    | split

theorem execStartComplete_kept {ft : List W256} (hst : m.st = false) (hsev : m.sev = false) (hbnk : m.leaves .bnk = false) (hobs : m.leaves .obs = false) (hscr : m.leaves .scr = false) (hisl : m.leaves .isl = false) (hcol : m.leaves .col = false) (hgov : m.leaves .gov = false) (hjrn : m.leaves .jrn = false) (hrecd : m.leaves .recd = false) (hseq : m.leaves .seq = false) (hwords : m.leaves .words = false) : Follows m s (execStartComplete s ft) := by
  have h := Kept.refl m s
  refine ⟨_, rfl, ?_⟩
  repeat' first
    | with_reducible assumption
    | intro _
    | with_reducible apply atHub_kept
    | with_reducible apply doStartComplete_kept
    | dsimp only
    | split

theorem execCorePgFall_kept {bits : BitVec 16} (hst : m.st = false) (hfell : m.fell = false) (hprog : m.prog = false) (hpf : m.pf = false) (hsev : m.sev = false) (het : m.et = false) (hdig : m.leaves .dig = false) (hbnk : m.leaves .bnk = false) (hobs : m.leaves .obs = false) (hscr : m.leaves .scr = false) (hisl : m.leaves .isl = false) (hcol : m.leaves .col = false) (hgov : m.leaves .gov = false) (hcmd : m.leaves .cmd = false) (htaps : m.leaves .taps = false) (hjrn : m.leaves .jrn = false) (hesc : m.leaves .esc = false) (hrecd : m.leaves .recd = false) (hseq : m.leaves .seq = false) (hfab : m.leaves .fab = false) (htim : m.leaves .tim = false) (hmregs : m.leaves .mregs = false) (hjregs : m.leaves .jregs = false) (hcapKeys : m.leaves .capKeys = false) (hthm : m.leaves .thm = false) (hwords : m.leaves .words = false) : Follows m s (execCorePgFall bits s) := by
  have h := Kept.refl m s
  refine ⟨_, rfl, ?_⟩
  repeat' first
    | with_reducible assumption
    | intro _
    | with_reducible apply doCorePgFall_kept
    | dsimp only
    | split

theorem execCorePgRise_kept {bits : BitVec 16} (hisl : m.leaves .isl = false) : Follows m s (execCorePgRise bits s) := by
  have h := Kept.refl m s
  refine ⟨_, rfl, ?_⟩
  repeat' first
    | with_reducible assumption
    | intro _
    | with_reducible apply kept_ite
    | simp only [↓kept_upd_iff, implies_true, hisl, Bool.false_eq_true, false_implies]
    | dsimp only
    | split

theorem execPfWarn_kept (hpf : m.pf = false) (hdig : m.leaves .dig = false) (hbnk : m.leaves .bnk = false) (hobs : m.leaves .obs = false) (hscr : m.leaves .scr = false) (hisl : m.leaves .isl = false) (hcol : m.leaves .col = false) (hcmd : m.leaves .cmd = false) (hjrn : m.leaves .jrn = false) (hesc : m.leaves .esc = false) (hrecd : m.leaves .recd = false) (hseq : m.leaves .seq = false) (hfab : m.leaves .fab = false) (htim : m.leaves .tim = false) (hmregs : m.leaves .mregs = false) (hcellar : m.leaves .cellar = false) (hwords : m.leaves .words = false) : Follows m s (execPfWarn s) := by
  have h := Kept.refl m s
  refine ⟨_, rfl, ?_⟩
  repeat' first
    | with_reducible assumption
    | intro _
    | with_reducible apply doPfWarn_kept
    | dsimp only
    | split

theorem execPfWarnRelease_kept (hpf : m.pf = false) (hobs : m.leaves .obs = false) (hscr : m.leaves .scr = false) (hisl : m.leaves .isl = false) (hjrn : m.leaves .jrn = false) (hrecd : m.leaves .recd = false) (hseq : m.leaves .seq = false) : Follows m s (execPfWarnRelease s) := by
  have h := Kept.refl m s
  refine ⟨_, rfl, ?_⟩
  repeat' first
    | with_reducible assumption
    | intro _
    | with_reducible apply doPfWarnRelease_kept
    | dsimp only
    | split

theorem execCompOpen_kept {c : Nat} (hst : m.st = false) (hisl : m.leaves .isl = false) (hcol : m.leaves .col = false) (hgov : m.leaves .gov = false) (hcmd : m.leaves .cmd = false) (hjrn : m.leaves .jrn = false) (hesc : m.leaves .esc = false) (hrecd : m.leaves .recd = false) (hseq : m.leaves .seq = false) (hmregs : m.leaves .mregs = false) : Follows m s (execCompOpen c s) := by
  have h := Kept.refl m s
  refine ⟨_, rfl, ?_⟩
  repeat' first
    | with_reducible assumption
    | intro _
    | with_reducible apply hubReg_kept
    | with_reducible apply doCompOpen_kept
    | dsimp only
    | split

theorem execCompClose_kept {c : Nat} (hdig : m.leaves .dig = false) (hobs : m.leaves .obs = false) (hisl : m.leaves .isl = false) (hcol : m.leaves .col = false) (hgov : m.leaves .gov = false) (hcmd : m.leaves .cmd = false) (htaps : m.leaves .taps = false) (hjrn : m.leaves .jrn = false) (hesc : m.leaves .esc = false) (hfab : m.leaves .fab = false) (hmregs : m.leaves .mregs = false) (hjregs : m.leaves .jregs = false) (hcapKeys : m.leaves .capKeys = false) : Follows m s (execCompClose c s) := by
  have h := Kept.refl m s
  refine ⟨_, rfl, ?_⟩
  repeat' first
    | with_reducible assumption
    | intro _
    | with_reducible apply hubReg_kept
    | with_reducible apply doCompClose_kept
    | dsimp only
    | split

theorem execRecantWaitExpiry_kept {c : Nat} (hdig : m.leaves .dig = false) (hobs : m.leaves .obs = false) (hcol : m.leaves .col = false) (hcmd : m.leaves .cmd = false) (hesc : m.leaves .esc = false) (hfab : m.leaves .fab = false) : Follows m s (execRecantWaitExpiry c s) := by
  have h := Kept.refl m s
  refine ⟨_, rfl, ?_⟩
  repeat' first
    | with_reducible assumption
    | intro _
    | with_reducible apply atHub_kept
    | with_reducible apply doRecantWaitExpiry_kept
    | dsimp only
    | split

theorem execSealRequest_kept {c : Nat} (hst : m.st = false) (hdig : m.leaves .dig = false) (hobs : m.leaves .obs = false) (hisl : m.leaves .isl = false) (hcol : m.leaves .col = false) (hgov : m.leaves .gov = false) (hcmd : m.leaves .cmd = false) (htaps : m.leaves .taps = false) (hjrn : m.leaves .jrn = false) (hesc : m.leaves .esc = false) (hrecd : m.leaves .recd = false) (hseq : m.leaves .seq = false) (hfab : m.leaves .fab = false) (hmregs : m.leaves .mregs = false) (hjregs : m.leaves .jregs = false) (hcapKeys : m.leaves .capKeys = false) : Follows m s (execSealRequest c s) := by
  have h := Kept.refl m s
  refine ⟨_, rfl, ?_⟩
  repeat' first
    | with_reducible assumption
    | intro _
    | with_reducible apply hubReg_kept
    | with_reducible apply doSealRequest_kept
    | dsimp only
    | split

theorem execDrainComplete_kept (hst : m.st = false) (hobs : m.leaves .obs = false) (hscr : m.leaves .scr = false) (hisl : m.leaves .isl = false) (hcol : m.leaves .col = false) (hcmd : m.leaves .cmd = false) (hjrn : m.leaves .jrn = false) (hrecd : m.leaves .recd = false) (hseq : m.leaves .seq = false) : Follows m s (execDrainComplete s) := by
  have h := Kept.refl m s
  refine ⟨_, rfl, ?_⟩
  repeat' first
    | with_reducible assumption
    | intro _
    | with_reducible apply atHub_kept
    | with_reducible apply enterClosing_kept
    | with_reducible apply kept_ite
    | dsimp only
    | split

theorem execDrainTimeout_kept (hst : m.st = false) (hobs : m.leaves .obs = false) (hscr : m.leaves .scr = false) (hisl : m.leaves .isl = false) (hcol : m.leaves .col = false) (hgov : m.leaves .gov = false) (hcmd : m.leaves .cmd = false) (hjrn : m.leaves .jrn = false) (hrecd : m.leaves .recd = false) (hseq : m.leaves .seq = false) : Follows m s (execDrainTimeout s) := by
  have h := Kept.refl m s
  refine ⟨_, rfl, ?_⟩
  repeat' first
    | with_reducible assumption
    | intro _
    | with_reducible apply atHub_kept
    | with_reducible apply doDrainTimeout_kept
    | dsimp only
    | split

theorem execClosingComplete_kept {wrote : Bool} (hst : m.st = false) (hdig : m.leaves .dig = false) (hscr : m.leaves .scr = false) (hisl : m.leaves .isl = false) (hcol : m.leaves .col = false) (hrecd : m.leaves .recd = false) (hseq : m.leaves .seq = false) (hcapKeys : m.leaves .capKeys = false) (hcellar : m.leaves .cellar = false) : Follows m s (execClosingComplete wrote s) := by
  have h := Kept.refl m s
  refine ⟨_, rfl, ?_⟩
  repeat' first
    | with_reducible assumption
    | intro _
    | with_reducible apply atHub_kept
    | with_reducible apply doClosingComplete_kept
    | dsimp only
    | split

theorem execQNop_kept {b : Bool} {q : BitVec 56} (hcol : m.leaves .col = false) (hseq : m.leaves .seq = false) : Follows m s (execQNop b q s) := by
  have h := Kept.refl m s
  refine ⟨_, rfl, ?_⟩
  repeat' first
    | with_reducible assumption
    | intro _
    | with_reducible apply qIssue_kept
    | with_reducible apply updPair_kept
    | dsimp only
    | split

theorem execQAdd_kept {b : Bool} {q : BitVec 56} (hcol : m.leaves .col = false) (hseq : m.leaves .seq = false) : Follows m s (execQAdd b q s) := by
  have h := Kept.refl m s
  refine ⟨_, rfl, ?_⟩
  repeat' first
    | with_reducible assumption
    | intro _
    | with_reducible apply qRRR_kept
    | dsimp only
    | split

theorem execQAddi_kept {b : Bool} {q : BitVec 56} (hcol : m.leaves .col = false) (hseq : m.leaves .seq = false) : Follows m s (execQAddi b q s) := by
  have h := Kept.refl m s
  refine ⟨_, rfl, ?_⟩
  repeat' first
    | with_reducible assumption
    | intro _
    | with_reducible apply qRRI_kept
    | dsimp only
    | split

theorem execQSub_kept {b : Bool} {q : BitVec 56} (hcol : m.leaves .col = false) (hseq : m.leaves .seq = false) : Follows m s (execQSub b q s) := by
  have h := Kept.refl m s
  refine ⟨_, rfl, ?_⟩
  repeat' first
    | with_reducible assumption
    | intro _
    | with_reducible apply qRRR_kept
    | dsimp only
    | split

theorem execQMul_kept {b : Bool} {q : BitVec 56} (hcol : m.leaves .col = false) (hseq : m.leaves .seq = false) : Follows m s (execQMul b q s) := by
  have h := Kept.refl m s
  refine ⟨_, rfl, ?_⟩
  repeat' first
    | with_reducible assumption
    | intro _
    | with_reducible apply qRRR_kept
    | dsimp only
    | split

theorem execQAnd_kept {b : Bool} {q : BitVec 56} (hcol : m.leaves .col = false) (hseq : m.leaves .seq = false) : Follows m s (execQAnd b q s) := by
  have h := Kept.refl m s
  refine ⟨_, rfl, ?_⟩
  repeat' first
    | with_reducible assumption
    | intro _
    | with_reducible apply qRRR_kept
    | dsimp only
    | split

theorem execQOr_kept {b : Bool} {q : BitVec 56} (hcol : m.leaves .col = false) (hseq : m.leaves .seq = false) : Follows m s (execQOr b q s) := by
  have h := Kept.refl m s
  refine ⟨_, rfl, ?_⟩
  repeat' first
    | with_reducible assumption
    | intro _
    | with_reducible apply qRRR_kept
    | dsimp only
    | split

theorem execQXor_kept {b : Bool} {q : BitVec 56} (hcol : m.leaves .col = false) (hseq : m.leaves .seq = false) : Follows m s (execQXor b q s) := by
  have h := Kept.refl m s
  refine ⟨_, rfl, ?_⟩
  repeat' first
    | with_reducible assumption
    | intro _
    | with_reducible apply qRRR_kept
    | dsimp only
    | split

theorem execQAndi_kept {b : Bool} {q : BitVec 56} (hcol : m.leaves .col = false) (hseq : m.leaves .seq = false) : Follows m s (execQAndi b q s) := by
  have h := Kept.refl m s
  refine ⟨_, rfl, ?_⟩
  repeat' first
    | with_reducible assumption
    | intro _
    | with_reducible apply qRRI_kept
    | dsimp only
    | split

theorem execQOri_kept {b : Bool} {q : BitVec 56} (hcol : m.leaves .col = false) (hseq : m.leaves .seq = false) : Follows m s (execQOri b q s) := by
  have h := Kept.refl m s
  refine ⟨_, rfl, ?_⟩
  repeat' first
    | with_reducible assumption
    | intro _
    | with_reducible apply qRRI_kept
    | dsimp only
    | split

theorem execQXori_kept {b : Bool} {q : BitVec 56} (hcol : m.leaves .col = false) (hseq : m.leaves .seq = false) : Follows m s (execQXori b q s) := by
  have h := Kept.refl m s
  refine ⟨_, rfl, ?_⟩
  repeat' first
    | with_reducible assumption
    | intro _
    | with_reducible apply qRRI_kept
    | dsimp only
    | split

theorem execQShl_kept {b : Bool} {q : BitVec 56} (hcol : m.leaves .col = false) (hseq : m.leaves .seq = false) : Follows m s (execQShl b q s) := by
  have h := Kept.refl m s
  refine ⟨_, rfl, ?_⟩
  repeat' first
    | with_reducible assumption
    | intro _
    | with_reducible apply qShift_kept
    | dsimp only
    | split

theorem execQShr_kept {b : Bool} {q : BitVec 56} (hcol : m.leaves .col = false) (hseq : m.leaves .seq = false) : Follows m s (execQShr b q s) := by
  have h := Kept.refl m s
  refine ⟨_, rfl, ?_⟩
  repeat' first
    | with_reducible assumption
    | intro _
    | with_reducible apply qShift_kept
    | dsimp only
    | split

theorem execQSar_kept {b : Bool} {q : BitVec 56} (hcol : m.leaves .col = false) (hseq : m.leaves .seq = false) : Follows m s (execQSar b q s) := by
  have h := Kept.refl m s
  refine ⟨_, rfl, ?_⟩
  repeat' first
    | with_reducible assumption
    | intro _
    | with_reducible apply qShift_kept
    | dsimp only
    | split

theorem execQRor_kept {b : Bool} {q : BitVec 56} (hcol : m.leaves .col = false) (hseq : m.leaves .seq = false) : Follows m s (execQRor b q s) := by
  have h := Kept.refl m s
  refine ⟨_, rfl, ?_⟩
  repeat' first
    | with_reducible assumption
    | intro _
    | with_reducible apply qShift_kept
    | dsimp only
    | split

theorem execQGfmul_kept {b : Bool} {q : BitVec 56} (hcol : m.leaves .col = false) (hseq : m.leaves .seq = false) : Follows m s (execQGfmul b q s) := by
  have h := Kept.refl m s
  refine ⟨_, rfl, ?_⟩
  repeat' first
    | with_reducible assumption
    | intro _
    | with_reducible apply qRRR_kept
    | dsimp only
    | split

theorem execQMovi_kept {b : Bool} {q : BitVec 56} (hcol : m.leaves .col = false) (hseq : m.leaves .seq = false) : Follows m s (execQMovi b q s) := by
  have h := Kept.refl m s
  refine ⟨_, rfl, ?_⟩
  repeat' first
    | with_reducible assumption
    | intro _
    | with_reducible apply qScalar_kept
    | dsimp only
    | split

theorem execQMovhi_kept {b : Bool} {q : BitVec 56} (hcol : m.leaves .col = false) (hseq : m.leaves .seq = false) : Follows m s (execQMovhi b q s) := by
  have h := Kept.refl m s
  refine ⟨_, rfl, ?_⟩
  repeat' first
    | with_reducible assumption
    | intro _
    | with_reducible apply qRRI_kept
    | dsimp only
    | split

theorem execQFfs_kept {b : Bool} {q : BitVec 56} (hcol : m.leaves .col = false) (hseq : m.leaves .seq = false) : Follows m s (execQFfs b q s) := by
  have h := Kept.refl m s
  refine ⟨_, rfl, ?_⟩
  repeat' first
    | with_reducible assumption
    | intro _
    | with_reducible apply qScalar_kept
    | dsimp only
    | split

theorem execQPopc_kept {b : Bool} {q : BitVec 56} (hcol : m.leaves .col = false) (hseq : m.leaves .seq = false) : Follows m s (execQPopc b q s) := by
  have h := Kept.refl m s
  refine ⟨_, rfl, ?_⟩
  repeat' first
    | with_reducible assumption
    | intro _
    | with_reducible apply qScalar_kept
    | dsimp only
    | split

theorem execQCmp_kept {b : Bool} {q : BitVec 56} (hcol : m.leaves .col = false) (hseq : m.leaves .seq = false) : Follows m s (execQCmp b q s) := by
  have h := Kept.refl m s
  refine ⟨_, rfl, ?_⟩
  repeat' first
    | with_reducible assumption
    | intro _
    | with_reducible apply qCompare_kept
    | dsimp only
    | split

theorem execQCmpi_kept {b : Bool} {q : BitVec 56} (hcol : m.leaves .col = false) (hseq : m.leaves .seq = false) : Follows m s (execQCmpi b q s) := by
  have h := Kept.refl m s
  refine ⟨_, rfl, ?_⟩
  repeat' first
    | with_reducible assumption
    | intro _
    | with_reducible apply qCompare_kept
    | dsimp only
    | split

theorem execQPlog_kept {b : Bool} {q : BitVec 56} (hcol : m.leaves .col = false) (hseq : m.leaves .seq = false) : Follows m s (execQPlog b q s) := by
  have h := Kept.refl m s
  refine ⟨_, rfl, ?_⟩
  repeat' first
    | with_reducible assumption
    | intro _
    | with_reducible apply qIssue_kept
    | with_reducible apply updPair_kept
    | dsimp only
    | split

theorem execQSel_kept {b : Bool} {q : BitVec 56} (hcol : m.leaves .col = false) (hseq : m.leaves .seq = false) : Follows m s (execQSel b q s) := by
  have h := Kept.refl m s
  refine ⟨_, rfl, ?_⟩
  repeat' first
    | with_reducible assumption
    | intro _
    | with_reducible apply qScalar_kept
    | with_reducible apply kept_ite
    | dsimp only
    | split

theorem execQMovs_kept {b : Bool} {q : BitVec 56} (hcol : m.leaves .col = false) (hseq : m.leaves .seq = false) : Follows m s (execQMovs b q s) := by
  have h := Kept.refl m s
  refine ⟨_, rfl, ?_⟩
  repeat' first
    | with_reducible assumption
    | intro _
    | with_reducible apply qIssue_kept
    | with_reducible apply updPair_kept
    | dsimp only
    | split

theorem execQBr_kept {b : Bool} {q : BitVec 56} (hcol : m.leaves .col = false) (hseq : m.leaves .seq = false) : Follows m s (execQBr b q s) := by
  have h := Kept.refl m s
  refine ⟨_, rfl, ?_⟩
  repeat' first
    | with_reducible assumption
    | intro _
    | with_reducible apply qIssue_kept
    | with_reducible apply updPair_kept
    | dsimp only
    | split

theorem execQCall_kept {b : Bool} {q : BitVec 56} (hcol : m.leaves .col = false) (hseq : m.leaves .seq = false) : Follows m s (execQCall b q s) := by
  have h := Kept.refl m s
  refine ⟨_, rfl, ?_⟩
  repeat' first
    | with_reducible assumption
    | intro _
    | with_reducible apply qIssue_kept
    | with_reducible apply updPair_kept
    | dsimp only
    | split

theorem execQJr_kept {b : Bool} {q : BitVec 56} (hcol : m.leaves .col = false) (hseq : m.leaves .seq = false) : Follows m s (execQJr b q s) := by
  have h := Kept.refl m s
  refine ⟨_, rfl, ?_⟩
  repeat' first
    | with_reducible assumption
    | intro _
    | with_reducible apply qIssue_kept
    | with_reducible apply hookReturns_kept
    | with_reducible apply updPair_kept
    | dsimp only
    | split

theorem execQLd_kept {b : Bool} {q : BitVec 56} {path : PathParity} (hbnk : m.leaves .bnk = false) (hobs : m.leaves .obs = false) (hcol : m.leaves .col = false) (hseq : m.leaves .seq = false) (hwords : m.leaves .words = false) : Follows m s (execQLd b q s path) := by
  have h := Kept.refl m s
  refine ⟨_, rfl, ?_⟩
  repeat' first
    | with_reducible assumption
    | intro _
    | with_reducible apply qStatus_kept
    | with_reducible apply doLd_kept
    | dsimp only
    | split

theorem execQSt_kept {b : Bool} {q : BitVec 56} {path : PathParity} (hbnk : m.leaves .bnk = false) (hobs : m.leaves .obs = false) (hcol : m.leaves .col = false) (hgov : m.leaves .gov = false) (hseq : m.leaves .seq = false) (hwords : m.leaves .words = false) : Follows m s (execQSt b q s path) := by
  have h := Kept.refl m s
  refine ⟨_, rfl, ?_⟩
  repeat' first
    | with_reducible assumption
    | intro _
    | with_reducible apply qStatus_kept
    | with_reducible apply doSt_kept
    | dsimp only
    | split

theorem execQLdw_kept {b : Bool} {q : BitVec 56} (hbnk : m.leaves .bnk = false) (hobs : m.leaves .obs = false) (hcol : m.leaves .col = false) (hseq : m.leaves .seq = false) (hwords : m.leaves .words = false) : Follows m s (execQLdw b q s) := by
  have h := Kept.refl m s
  refine ⟨_, rfl, ?_⟩
  repeat' first
    | with_reducible assumption
    | intro _
    | with_reducible apply qStatus_kept
    | with_reducible apply doLdw_kept
    | dsimp only
    | split

theorem execQStw_kept {b : Bool} {q : BitVec 56} (hbnk : m.leaves .bnk = false) (hobs : m.leaves .obs = false) (hcol : m.leaves .col = false) (hgov : m.leaves .gov = false) (hseq : m.leaves .seq = false) (hwords : m.leaves .words = false) : Follows m s (execQStw b q s) := by
  have h := Kept.refl m s
  refine ⟨_, rfl, ?_⟩
  repeat' first
    | with_reducible assumption
    | intro _
    | with_reducible apply qStatus_kept
    | with_reducible apply doStw_kept
    | dsimp only
    | split

theorem execQBind_kept {b : Bool} {q : BitVec 56} (hcol : m.leaves .col = false) (hseq : m.leaves .seq = false) : Follows m s (execQBind b q s) := by
  have h := Kept.refl m s
  refine ⟨_, rfl, ?_⟩
  repeat' first
    | with_reducible assumption
    | intro _
    | with_reducible apply qStatus_kept
    | with_reducible apply doBind_kept
    | dsimp only
    | split

theorem execQPop_kept {b : Bool} {q : BitVec 56} (hbnk : m.leaves .bnk = false) (hobs : m.leaves .obs = false) (hisl : m.leaves .isl = false) (hcol : m.leaves .col = false) (hgov : m.leaves .gov = false) (hcmd : m.leaves .cmd = false) (hseq : m.leaves .seq = false) (hwords : m.leaves .words = false) : Follows m s (execQPop b q s) := by
  have h := Kept.refl m s
  refine ⟨_, rfl, ?_⟩
  repeat' first
    | with_reducible assumption
    | intro _
    | with_reducible apply qStatusG_kept
    | with_reducible apply doPop_kept
    | dsimp only
    | split

theorem execQPush_kept {b : Bool} {q : BitVec 56} (hbnk : m.leaves .bnk = false) (hobs : m.leaves .obs = false) (hcol : m.leaves .col = false) (hcmd : m.leaves .cmd = false) (hrecd : m.leaves .recd = false) (hseq : m.leaves .seq = false) (hwords : m.leaves .words = false) : Follows m s (execQPush b q s) := by
  have h := Kept.refl m s
  refine ⟨_, rfl, ?_⟩
  repeat' first
    | with_reducible assumption
    | intro _
    | with_reducible apply qStatus_kept
    | with_reducible apply doPush_kept
    | dsimp only
    | split

theorem execQQlen_kept {b : Bool} {q : BitVec 56} (hcol : m.leaves .col = false) (hseq : m.leaves .seq = false) : Follows m s (execQQlen b q s) := by
  have h := Kept.refl m s
  refine ⟨_, rfl, ?_⟩
  repeat' first
    | with_reducible assumption
    | intro _
    | with_reducible apply qStatusG_kept
    | with_reducible apply doQlen_kept
    | dsimp only
    | split

theorem execQTimer_kept {b : Bool} {q : BitVec 56} (hcol : m.leaves .col = false) (hseq : m.leaves .seq = false) : Follows m s (execQTimer b q s) := by
  have h := Kept.refl m s
  refine ⟨_, rfl, ?_⟩
  repeat' first
    | with_reducible assumption
    | intro _
    | with_reducible apply qStatus_kept
    | with_reducible apply doTimer_kept
    | dsimp only
    | split

theorem execTimerExpiry_kept {b : Bool} {timer : Nat} (hseq : m.leaves .seq = false) : Follows m s (execTimerExpiry b timer s) := by
  have h := Kept.refl m s
  refine ⟨_, rfl, ?_⟩
  repeat' first
    | with_reducible assumption
    | intro _
    | with_reducible apply expireTimer_kept
    | with_reducible apply kept_ite
    | dsimp only
    | split

theorem execQWait_kept {b : Bool} {q : BitVec 56} (hisl : m.leaves .isl = false) (hcol : m.leaves .col = false) (hseq : m.leaves .seq = false) : Follows m s (execQWait b q s) := by
  have h := Kept.refl m s
  refine ⟨_, rfl, ?_⟩
  repeat' first
    | with_reducible assumption
    | intro _
    | with_reducible apply qIssue_kept
    | with_reducible apply doWait_kept
    | dsimp only
    | split

theorem execQOwn_kept {b : Bool} {q : BitVec 56} (hbnk : m.leaves .bnk = false) (hcol : m.leaves .col = false) (hseq : m.leaves .seq = false) (hwords : m.leaves .words = false) : Follows m s (execQOwn b q s) := by
  have h := Kept.refl m s
  refine ⟨_, rfl, ?_⟩
  repeat' first
    | with_reducible assumption
    | intro _
    | with_reducible apply qStatus_kept
    | with_reducible apply doOwn_kept
    | dsimp only
    | split

theorem execQMpr_kept {b : Bool} {q : BitVec 56} (hst : m.st = false) (hprog : m.prog = false) (hsev : m.sev = false) (hdig : m.leaves .dig = false) (hbnk : m.leaves .bnk = false) (hobs : m.leaves .obs = false) (hscr : m.leaves .scr = false) (hisl : m.leaves .isl = false) (hcol : m.leaves .col = false) (hgov : m.leaves .gov = false) (hcmd : m.leaves .cmd = false) (htaps : m.leaves .taps = false) (hjrn : m.leaves .jrn = false) (hesc : m.leaves .esc = false) (hrecd : m.leaves .recd = false) (hseq : m.leaves .seq = false) (hfab : m.leaves .fab = false) (htim : m.leaves .tim = false) (hmregs : m.leaves .mregs = false) (hjregs : m.leaves .jregs = false) (hcapKeys : m.leaves .capKeys = false) (hthm : m.leaves .thm = false) (hcellar : m.leaves .cellar = false) (hwords : m.leaves .words = false) : Follows m s (execQMpr b q s) := by
  have h := Kept.refl m s
  refine ⟨_, rfl, ?_⟩
  repeat' first
    | with_reducible assumption
    | intro _
    | with_reducible apply qStatusG_kept
    | with_reducible apply doMp_kept
    | dsimp only
    | split

theorem execQMpw_kept {b : Bool} {q : BitVec 56} (hst : m.st = false) (hprog : m.prog = false) (hsev : m.sev = false) (hdig : m.leaves .dig = false) (hbnk : m.leaves .bnk = false) (hobs : m.leaves .obs = false) (hscr : m.leaves .scr = false) (hisl : m.leaves .isl = false) (hcol : m.leaves .col = false) (hgov : m.leaves .gov = false) (hcmd : m.leaves .cmd = false) (htaps : m.leaves .taps = false) (hjrn : m.leaves .jrn = false) (hesc : m.leaves .esc = false) (hrecd : m.leaves .recd = false) (hseq : m.leaves .seq = false) (hfab : m.leaves .fab = false) (htim : m.leaves .tim = false) (hmregs : m.leaves .mregs = false) (hjregs : m.leaves .jregs = false) (hcapKeys : m.leaves .capKeys = false) (hthm : m.leaves .thm = false) (hcellar : m.leaves .cellar = false) (hwords : m.leaves .words = false) : Follows m s (execQMpw b q s) := by
  have h := Kept.refl m s
  refine ⟨_, rfl, ?_⟩
  repeat' first
    | with_reducible assumption
    | intro _
    | with_reducible apply qStatusG_kept
    | with_reducible apply doMp_kept
    | dsimp only
    | split

theorem execQLop_kept {b : Bool} {q : BitVec 56} (hbnk : m.leaves .bnk = false) (hobs : m.leaves .obs = false) (hcol : m.leaves .col = false) (hgov : m.leaves .gov = false) (hcmd : m.leaves .cmd = false) (hseq : m.leaves .seq = false) (hfab : m.leaves .fab = false) (hwords : m.leaves .words = false) : Follows m s (execQLop b q s) := by
  have h := Kept.refl m s
  refine ⟨_, rfl, ?_⟩
  repeat' first
    | with_reducible assumption
    | intro _
    | with_reducible apply qStatus_kept
    | with_reducible apply doLop_kept
    | dsimp only
    | split

theorem execQLread_kept {b : Bool} {q : BitVec 56} (hcol : m.leaves .col = false) (hseq : m.leaves .seq = false) : Follows m s (execQLread b q s) := by
  have h := Kept.refl m s
  refine ⟨_, rfl, ?_⟩
  repeat' first
    | with_reducible assumption
    | intro _
    | with_reducible apply qStatusG_kept
    | with_reducible apply doLread_kept
    | dsimp only
    | split

theorem execQSevw_kept {b : Bool} {q : BitVec 56} (hsev : m.sev = false) (hcol : m.leaves .col = false) (hseq : m.leaves .seq = false) : Follows m s (execQSevw b q s) := by
  have h := Kept.refl m s
  refine ⟨_, rfl, ?_⟩
  repeat' first
    | with_reducible assumption
    | intro _
    | with_reducible apply qStatus_kept
    | with_reducible apply doSevw_kept
    | dsimp only
    | split

theorem execQSevr_kept {b : Bool} {q : BitVec 56} (hcol : m.leaves .col = false) (hseq : m.leaves .seq = false) : Follows m s (execQSevr b q s) := by
  have h := Kept.refl m s
  refine ⟨_, rfl, ?_⟩
  repeat' first
    | with_reducible assumption
    | intro _
    | with_reducible apply qStatusG_kept
    | dsimp only
    | split

theorem execQPwrite_kept {b : Bool} {q : BitVec 56} (hbnk : m.leaves .bnk = false) (hobs : m.leaves .obs = false) (hcol : m.leaves .col = false) (hgov : m.leaves .gov = false) (hjrn : m.leaves .jrn = false) (hseq : m.leaves .seq = false) (hwords : m.leaves .words = false) : Follows m s (execQPwrite b q s) := by
  have h := Kept.refl m s
  refine ⟨_, rfl, ?_⟩
  repeat' first
    | with_reducible assumption
    | intro _
    | with_reducible apply qStatus_kept
    | with_reducible apply doPwrite_kept
    | dsimp only
    | split

theorem execQPread_kept {b : Bool} {q : BitVec 56} (hbnk : m.leaves .bnk = false) (hobs : m.leaves .obs = false) (hcol : m.leaves .col = false) (hgov : m.leaves .gov = false) (hseq : m.leaves .seq = false) (hwords : m.leaves .words = false) : Follows m s (execQPread b q s) := by
  have h := Kept.refl m s
  refine ⟨_, rfl, ?_⟩
  repeat' first
    | with_reducible assumption
    | intro _
    | with_reducible apply qStatus_kept
    | with_reducible apply doPread_kept
    | dsimp only
    | split

theorem execQFence_kept {b : Bool} {q : BitVec 56} (hobs : m.leaves .obs = false) (hscr : m.leaves .scr = false) (hcol : m.leaves .col = false) (hgov : m.leaves .gov = false) (hcmd : m.leaves .cmd = false) (hjrn : m.leaves .jrn = false) (hseq : m.leaves .seq = false) (hfab : m.leaves .fab = false) : Follows m s (execQFence b q s) := by
  have h := Kept.refl m s
  refine ⟨_, rfl, ?_⟩
  repeat' first
    | with_reducible assumption
    | intro _
    | with_reducible apply qStatus_kept
    | with_reducible apply doFence_kept
    | dsimp only
    | split

theorem execQFell_kept {b : Bool} {q : BitVec 56} (hfell : m.fell = false) (hobs : m.leaves .obs = false) (hcol : m.leaves .col = false) (hcmd : m.leaves .cmd = false) (hjrn : m.leaves .jrn = false) (hrecd : m.leaves .recd = false) (hseq : m.leaves .seq = false) (hcellar : m.leaves .cellar = false) : Follows m s (execQFell b q s) := by
  have h := Kept.refl m s
  refine ⟨_, rfl, ?_⟩
  repeat' first
    | with_reducible assumption
    | intro _
    | with_reducible apply qStatus_kept
    | with_reducible apply doFell_kept
    | dsimp only
    | split

theorem execQRaise_kept {b : Bool} {q : BitVec 56} (hbnk : m.leaves .bnk = false) (hobs : m.leaves .obs = false) (hcol : m.leaves .col = false) (hseq : m.leaves .seq = false) (hwords : m.leaves .words = false) : Follows m s (execQRaise b q s) := by
  have h := Kept.refl m s
  refine ⟨_, rfl, ?_⟩
  repeat' first
    | with_reducible assumption
    | intro _
    | with_reducible apply qStatus_kept
    | with_reducible apply doRaise_kept
    | dsimp only
    | split

theorem execQSlice_kept {b : Bool} {q : BitVec 56} (hscr : m.leaves .scr = false) (hcol : m.leaves .col = false) (hseq : m.leaves .seq = false) : Follows m s (execQSlice b q s) := by
  have h := Kept.refl m s
  refine ⟨_, rfl, ?_⟩
  repeat' first
    | with_reducible assumption
    | intro _
    | with_reducible apply qStatus_kept
    | with_reducible apply doSliceOrder_kept
    | dsimp only
    | split

theorem execQSage_kept {b : Bool} {q : BitVec 56} (hcol : m.leaves .col = false) (hseq : m.leaves .seq = false) : Follows m s (execQSage b q s) := by
  have h := Kept.refl m s
  refine ⟨_, rfl, ?_⟩
  repeat' first
    | with_reducible assumption
    | intro _
    | with_reducible apply qStatusG_kept
    | with_reducible apply doSage_kept
    | dsimp only
    | split

theorem execQSense_kept {b : Bool} {q : BitVec 56} (hcol : m.leaves .col = false) (hseq : m.leaves .seq = false) : Follows m s (execQSense b q s) := by
  have h := Kept.refl m s
  refine ⟨_, rfl, ?_⟩
  repeat' first
    | with_reducible assumption
    | intro _
    | with_reducible apply qStatusG_kept
    | with_reducible apply doSense_kept
    | dsimp only
    | split

theorem execQPause_kept {b : Bool} {q : BitVec 56} (hobs : m.leaves .obs = false) (hcol : m.leaves .col = false) (hseq : m.leaves .seq = false) (hmregs : m.leaves .mregs = false) : Follows m s (execQPause b q s) := by
  have h := Kept.refl m s
  refine ⟨_, rfl, ?_⟩
  repeat' first
    | with_reducible assumption
    | intro _
    | with_reducible apply qStatus_kept
    | with_reducible apply doPause_kept
    | dsimp only
    | split

theorem execQRec_kept {b : Bool} {q : BitVec 56} (hbnk : m.leaves .bnk = false) (hobs : m.leaves .obs = false) (hcol : m.leaves .col = false) (hrecd : m.leaves .recd = false) (hseq : m.leaves .seq = false) (hwords : m.leaves .words = false) : Follows m s (execQRec b q s) := by
  have h := Kept.refl m s
  refine ⟨_, rfl, ?_⟩
  repeat' first
    | with_reducible assumption
    | intro _
    | with_reducible apply qStatus_kept
    | with_reducible apply doRec_kept
    | with_reducible apply kept_ite
    | dsimp only
    | split

theorem execQCper_kept {b : Bool} {q : BitVec 56} (hbnk : m.leaves .bnk = false) (hobs : m.leaves .obs = false) (hcol : m.leaves .col = false) (hrecd : m.leaves .recd = false) (hseq : m.leaves .seq = false) (hwords : m.leaves .words = false) : Follows m s (execQCper b q s) := by
  have h := Kept.refl m s
  refine ⟨_, rfl, ?_⟩
  repeat' first
    | with_reducible assumption
    | intro _
    | with_reducible apply qStatus_kept
    | with_reducible apply doCper_kept
    | dsimp only
    | split

theorem execQCsamp_kept {b : Bool} {q : BitVec 56} (hcol : m.leaves .col = false) (hseq : m.leaves .seq = false) : Follows m s (execQCsamp b q s) := by
  have h := Kept.refl m s
  refine ⟨_, rfl, ?_⟩
  repeat' first
    | with_reducible assumption
    | intro _
    | with_reducible apply qStatusG_kept
    | with_reducible apply kept_ite
    | dsimp only
    | split

theorem execQCrst_kept {b : Bool} {q : BitVec 56} (hobs : m.leaves .obs = false) (hcol : m.leaves .col = false) (hseq : m.leaves .seq = false) : Follows m s (execQCrst b q s) := by
  have h := Kept.refl m s
  refine ⟨_, rfl, ?_⟩
  repeat' first
    | with_reducible assumption
    | intro _
    | with_reducible apply qStatus_kept
    | with_reducible apply whenS_kept
    | with_reducible apply resetCtr_kept
    | dsimp only
    | split

theorem execQCsel_kept {b : Bool} {q : BitVec 56} (hobs : m.leaves .obs = false) (hcol : m.leaves .col = false) (hseq : m.leaves .seq = false) : Follows m s (execQCsel b q s) := by
  have h := Kept.refl m s
  refine ⟨_, rfl, ?_⟩
  repeat' first
    | with_reducible assumption
    | intro _
    | with_reducible apply qStatus_kept
    | with_reducible apply doCsel_kept
    | dsimp only
    | split

theorem execQTally_kept {b : Bool} {q : BitVec 56} (hobs : m.leaves .obs = false) (hcol : m.leaves .col = false) (hseq : m.leaves .seq = false) : Follows m s (execQTally b q s) := by
  have h := Kept.refl m s
  refine ⟨_, rfl, ?_⟩
  repeat' first
    | with_reducible assumption
    | intro _
    | with_reducible apply qStatus_kept
    | with_reducible apply doQTally_kept
    | dsimp only
    | split

theorem execQCensus_kept {b : Bool} {q : BitVec 56} (hobs : m.leaves .obs = false) (hcol : m.leaves .col = false) (hseq : m.leaves .seq = false) : Follows m s (execQCensus b q s) := by
  have h := Kept.refl m s
  refine ⟨_, rfl, ?_⟩
  repeat' first
    | with_reducible assumption
    | intro _
    | with_reducible apply qStatus_kept
    | with_reducible apply doQCensus_kept
    | dsimp only
    | split

theorem execVcsReceive_kept {hdr : W128} {payload : BitVec 384} (hdig : m.leaves .dig = false) (hobs : m.leaves .obs = false) (hcol : m.leaves .col = false) (hgov : m.leaves .gov = false) (hcmd : m.leaves .cmd = false) (htaps : m.leaves .taps = false) (hjrn : m.leaves .jrn = false) (hesc : m.leaves .esc = false) (hfab : m.leaves .fab = false) : Follows m s (execVcsReceive hdr payload s) := by
  have h := Kept.refl m s
  refine ⟨_, rfl, ?_⟩
  repeat' first
    | with_reducible assumption
    | intro _
    | with_reducible apply atHub_kept
    | with_reducible apply doVcsReceive_kept
    | dsimp only
    | split

theorem execRecordWrite_kept (hbnk : m.leaves .bnk = false) (hrecd : m.leaves .recd = false) (hcellar : m.leaves .cellar = false) (hwords : m.leaves .words = false) : Follows m s (execRecordWrite s) := by
  have h := Kept.refl m s
  refine ⟨_, rfl, ?_⟩
  repeat' first
    | with_reducible assumption
    | intro _
    | with_reducible apply atHub_kept
    | with_reducible apply doRecordWrite_kept
    | dsimp only
    | split

theorem execTokenAdd_kept {code : BitVec 12} (hbnk : m.leaves .bnk = false) (hrecd : m.leaves .recd = false) (hwords : m.leaves .words = false) : Follows m s (execTokenAdd code s) := by
  have h := Kept.refl m s
  refine ⟨_, rfl, ?_⟩
  repeat' first
    | with_reducible assumption
    | intro _
    | with_reducible apply atHub_kept
    | with_reducible apply doTokenAdd_kept
    | dsimp only
    | split

theorem execFreezeGo_kept {count : Nat} (hisl : m.leaves .isl = false) (hrecd : m.leaves .recd = false) (hmregs : m.leaves .mregs = false) : Follows m s (execFreezeGo count s) := by
  have h := Kept.refl m s
  refine ⟨_, rfl, ?_⟩
  repeat' first
    | with_reducible assumption
    | intro _
    | with_reducible apply hubReg_kept
    | with_reducible apply doFreezeGo_kept
    | dsimp only
    | split

theorem execFreezeRelease_kept (hisl : m.leaves .isl = false) (hrecd : m.leaves .recd = false) : Follows m s (execFreezeRelease s) := by
  have h := Kept.refl m s
  refine ⟨_, rfl, ?_⟩
  repeat' first
    | with_reducible assumption
    | intro _
    | with_reducible apply hubReg_kept
    | with_reducible apply endFreeze_kept
    | dsimp only
    | split

theorem execFreezeTimeout_kept (hrecd : m.leaves .recd = false) : Follows m s (execFreezeTimeout s) := by
  have h := Kept.refl m s
  refine ⟨_, rfl, ?_⟩
  repeat' first
    | with_reducible assumption
    | intro _
    | with_reducible apply atHub_kept
    | with_reducible apply whenS_kept
    | with_reducible apply endFreeze_kept
    | dsimp only
    | split

theorem execRecRead_kept {slot : Nat} (hbnk : m.leaves .bnk = false) (hisl : m.leaves .isl = false) (hcol : m.leaves .col = false) (hrecd : m.leaves .recd = false) (hmregs : m.leaves .mregs = false) (hwords : m.leaves .words = false) : Follows m s (execRecRead slot s) := by
  have h := Kept.refl m s
  refine ⟨_, rfl, ?_⟩
  repeat' first
    | with_reducible assumption
    | intro _
    | with_reducible apply hubReg_kept
    | with_reducible apply doRecRead_kept
    | dsimp only
    | split

theorem execRateWrite_kept {code : Nat} {rate : Nat} {burst : Nat} (hisl : m.leaves .isl = false) (hrecd : m.leaves .recd = false) (hmregs : m.leaves .mregs = false) : Follows m s (execRateWrite code rate burst s) := by
  have h := Kept.refl m s
  refine ⟨_, rfl, ?_⟩
  repeat' first
    | with_reducible assumption
    | intro _
    | with_reducible apply hubReg_kept
    | with_reducible apply doRateWrite_kept
    | dsimp only
    | split

theorem execRateRead_kept {code : Nat} (hisl : m.leaves .isl = false) (hmregs : m.leaves .mregs = false) : Follows m s (execRateRead code s) := by
  have h := Kept.refl m s
  refine ⟨_, rfl, ?_⟩
  repeat' first
    | with_reducible assumption
    | intro _
    | with_reducible apply hubReg_kept
    | with_reducible apply doRateRead_kept
    | dsimp only
    | split

theorem execFlushPage_kept {wrote : Bool} (hbnk : m.leaves .bnk = false) (hcol : m.leaves .col = false) (hrecd : m.leaves .recd = false) (hcellar : m.leaves .cellar = false) (hwords : m.leaves .words = false) : Follows m s (execFlushPage wrote s) := by
  have h := Kept.refl m s
  refine ⟨_, rfl, ?_⟩
  repeat' first
    | with_reducible assumption
    | intro _
    | with_reducible apply atHub_kept
    | with_reducible apply doFlushPage_kept
    | dsimp only
    | split

theorem execRecCellar_kept {wrote : Bool} (hbnk : m.leaves .bnk = false) (hcol : m.leaves .col = false) (hrecd : m.leaves .recd = false) (hcellar : m.leaves .cellar = false) (hwords : m.leaves .words = false) : Follows m s (execRecCellar wrote s) := by
  have h := Kept.refl m s
  refine ⟨_, rfl, ?_⟩
  repeat' first
    | with_reducible assumption
    | intro _
    | with_reducible apply atHub_kept
    | with_reducible apply pageEnds_kept
    | with_reducible apply kept_ite
    | dsimp only
    | split

theorem execCellarRead_kept {addr : Nat} (hrecd : m.leaves .recd = false) (hmregs : m.leaves .mregs = false) : Follows m s (execCellarRead addr s) := by
  have h := Kept.refl m s
  refine ⟨_, rfl, ?_⟩
  repeat' first
    | with_reducible assumption
    | intro _
    | with_reducible apply whenS_kept
    | with_reducible apply doCellarRead_kept
    | dsimp only
    | split

theorem execRecKey_kept {tag : Nat} {body : BitVec 448} (hisl : m.leaves .isl = false) (hrecd : m.leaves .recd = false) : Follows m s (execRecKey tag body s) := by
  have h := Kept.refl m s
  refine ⟨_, rfl, ?_⟩
  repeat' first
    | with_reducible assumption
    | intro _
    | with_reducible apply atGate_kept
    | with_reducible apply doRecKey_kept
    | dsimp only
    | split

theorem execRecClear_kept {tag : Nat} {body : BitVec 448} (hbnk : m.leaves .bnk = false) (hisl : m.leaves .isl = false) (hcol : m.leaves .col = false) (hrecd : m.leaves .recd = false) (hcellar : m.leaves .cellar = false) (hwords : m.leaves .words = false) : Follows m s (execRecClear tag body s) := by
  have h := Kept.refl m s
  refine ⟨_, rfl, ?_⟩
  repeat' first
    | with_reducible assumption
    | intro _
    | with_reducible apply atGate_kept
    | with_reducible apply doRecClear_kept
    | dsimp only
    | split

theorem execJPageAccess_kept {core : Nat} {offset : Nat} {wide : Bool} {write : Bool} {data : W64} (hobs : m.leaves .obs = false) (hcol : m.leaves .col = false) (hcmd : m.leaves .cmd = false) (hrecd : m.leaves .recd = false) (hfab : m.leaves .fab = false) (htim : m.leaves .tim = false) (hmregs : m.leaves .mregs = false) (hjregs : m.leaves .jregs = false) : Follows m s (execJPageAccess core offset wide write data s) := by
  have h := Kept.refl m s
  refine ⟨_, rfl, ?_⟩
  repeat' first
    | with_reducible assumption
    | intro _
    | with_reducible apply doJPageAccess_kept
    | dsimp only
    | split

theorem execMreg_kept {offset : Nat} {wide : Bool} {write : Bool} {data : W64} (hst : m.st = false) (hprog : m.prog = false) (hsev : m.sev = false) (hdig : m.leaves .dig = false) (hbnk : m.leaves .bnk = false) (hobs : m.leaves .obs = false) (hscr : m.leaves .scr = false) (hisl : m.leaves .isl = false) (hcol : m.leaves .col = false) (hgov : m.leaves .gov = false) (hcmd : m.leaves .cmd = false) (htaps : m.leaves .taps = false) (hjrn : m.leaves .jrn = false) (hesc : m.leaves .esc = false) (hrecd : m.leaves .recd = false) (hseq : m.leaves .seq = false) (hfab : m.leaves .fab = false) (htim : m.leaves .tim = false) (hmregs : m.leaves .mregs = false) (hjregs : m.leaves .jregs = false) (hcapKeys : m.leaves .capKeys = false) (hthm : m.leaves .thm = false) (hcellar : m.leaves .cellar = false) (hwords : m.leaves .words = false) : Follows m s (execMreg offset wide write data s) := by
  have h := Kept.refl m s
  refine ⟨_, rfl, ?_⟩
  repeat' first
    | with_reducible assumption
    | intro _
    | with_reducible apply whenS_kept
    | with_reducible apply doMreg_kept
    | dsimp only
    | split

theorem execRegisterWrite_kept {job : Bool} {wide : Bool} {c : Nat} {offset : Nat} {value : W64} (hst : m.st = false) (hprog : m.prog = false) (hsev : m.sev = false) (hdig : m.leaves .dig = false) (hbnk : m.leaves .bnk = false) (hobs : m.leaves .obs = false) (hscr : m.leaves .scr = false) (hisl : m.leaves .isl = false) (hcol : m.leaves .col = false) (hgov : m.leaves .gov = false) (hcmd : m.leaves .cmd = false) (htaps : m.leaves .taps = false) (hjrn : m.leaves .jrn = false) (hesc : m.leaves .esc = false) (hrecd : m.leaves .recd = false) (hseq : m.leaves .seq = false) (hfab : m.leaves .fab = false) (htim : m.leaves .tim = false) (hmregs : m.leaves .mregs = false) (hjregs : m.leaves .jregs = false) (hcapKeys : m.leaves .capKeys = false) (hthm : m.leaves .thm = false) (hcellar : m.leaves .cellar = false) (hwords : m.leaves .words = false) : Follows m s (execRegisterWrite job wide c offset value s) := by
  have h := Kept.refl m s
  refine ⟨_, rfl, ?_⟩
  repeat' first
    | with_reducible assumption
    | intro _
    | with_reducible apply doRegisterWrite_kept
    | dsimp only
    | split

theorem execSampleSeed_kept {value : W64} (hst : m.st = false) (hprog : m.prog = false) (hsev : m.sev = false) (hdig : m.leaves .dig = false) (hbnk : m.leaves .bnk = false) (hobs : m.leaves .obs = false) (hscr : m.leaves .scr = false) (hisl : m.leaves .isl = false) (hcol : m.leaves .col = false) (hgov : m.leaves .gov = false) (hcmd : m.leaves .cmd = false) (htaps : m.leaves .taps = false) (hjrn : m.leaves .jrn = false) (hesc : m.leaves .esc = false) (hrecd : m.leaves .recd = false) (hseq : m.leaves .seq = false) (hfab : m.leaves .fab = false) (htim : m.leaves .tim = false) (hmregs : m.leaves .mregs = false) (hjregs : m.leaves .jregs = false) (hcapKeys : m.leaves .capKeys = false) (hthm : m.leaves .thm = false) (hcellar : m.leaves .cellar = false) (hwords : m.leaves .words = false) : Follows m s (execSampleSeed value s) := by
  have h := Kept.refl m s
  refine ⟨_, rfl, ?_⟩
  repeat' first
    | with_reducible assumption
    | intro _
    | with_reducible apply mPut_kept
    | dsimp only
    | split

theorem execDieIndexWrite_kept {value : W64} (hst : m.st = false) (hprog : m.prog = false) (hsev : m.sev = false) (hdig : m.leaves .dig = false) (hbnk : m.leaves .bnk = false) (hobs : m.leaves .obs = false) (hscr : m.leaves .scr = false) (hisl : m.leaves .isl = false) (hcol : m.leaves .col = false) (hgov : m.leaves .gov = false) (hcmd : m.leaves .cmd = false) (htaps : m.leaves .taps = false) (hjrn : m.leaves .jrn = false) (hesc : m.leaves .esc = false) (hrecd : m.leaves .recd = false) (hseq : m.leaves .seq = false) (hfab : m.leaves .fab = false) (htim : m.leaves .tim = false) (hmregs : m.leaves .mregs = false) (hjregs : m.leaves .jregs = false) (hcapKeys : m.leaves .capKeys = false) (hthm : m.leaves .thm = false) (hcellar : m.leaves .cellar = false) (hwords : m.leaves .words = false) : Follows m s (execDieIndexWrite value s) := by
  have h := Kept.refl m s
  refine ⟨_, rfl, ?_⟩
  repeat' first
    | with_reducible assumption
    | intro _
    | with_reducible apply mPut_kept
    | dsimp only
    | split

theorem execAssignWrite_kept {u : Nat} {value : W64} (hst : m.st = false) (hprog : m.prog = false) (hsev : m.sev = false) (hdig : m.leaves .dig = false) (hbnk : m.leaves .bnk = false) (hobs : m.leaves .obs = false) (hscr : m.leaves .scr = false) (hisl : m.leaves .isl = false) (hcol : m.leaves .col = false) (hgov : m.leaves .gov = false) (hcmd : m.leaves .cmd = false) (htaps : m.leaves .taps = false) (hjrn : m.leaves .jrn = false) (hesc : m.leaves .esc = false) (hrecd : m.leaves .recd = false) (hseq : m.leaves .seq = false) (hfab : m.leaves .fab = false) (htim : m.leaves .tim = false) (hmregs : m.leaves .mregs = false) (hjregs : m.leaves .jregs = false) (hcapKeys : m.leaves .capKeys = false) (hthm : m.leaves .thm = false) (hcellar : m.leaves .cellar = false) (hwords : m.leaves .words = false) : Follows m s (execAssignWrite u value s) := by
  have h := Kept.refl m s
  refine ⟨_, rfl, ?_⟩
  repeat' first
    | with_reducible assumption
    | intro _
    | with_reducible apply mPut_kept
    | with_reducible apply kept_ite
    | dsimp only
    | split

theorem execPrecWrite_kept (hobs : m.leaves .obs = false) (hisl : m.leaves .isl = false) (hcol : m.leaves .col = false) (hgov : m.leaves .gov = false) (hjrn : m.leaves .jrn = false) (hmregs : m.leaves .mregs = false) : Follows m s (execPrecWrite s) := by
  have h := Kept.refl m s
  refine ⟨_, rfl, ?_⟩
  repeat' first
    | with_reducible assumption
    | intro _
    | with_reducible apply hubReg_kept
    | with_reducible apply doPrec_kept
    | dsimp only
    | split

theorem execPrecRead_kept (hobs : m.leaves .obs = false) (hisl : m.leaves .isl = false) (hcol : m.leaves .col = false) (hgov : m.leaves .gov = false) (hjrn : m.leaves .jrn = false) (hmregs : m.leaves .mregs = false) : Follows m s (execPrecRead s) := by
  have h := Kept.refl m s
  refine ⟨_, rfl, ?_⟩
  repeat' first
    | with_reducible assumption
    | intro _
    | with_reducible apply hubReg_kept
    | with_reducible apply doPrec_kept
    | dsimp only
    | split

theorem execSevWrite_kept {value : BitVec 32} (hst : m.st = false) (hprog : m.prog = false) (hsev : m.sev = false) (hdig : m.leaves .dig = false) (hbnk : m.leaves .bnk = false) (hobs : m.leaves .obs = false) (hscr : m.leaves .scr = false) (hisl : m.leaves .isl = false) (hcol : m.leaves .col = false) (hgov : m.leaves .gov = false) (hcmd : m.leaves .cmd = false) (htaps : m.leaves .taps = false) (hjrn : m.leaves .jrn = false) (hesc : m.leaves .esc = false) (hrecd : m.leaves .recd = false) (hseq : m.leaves .seq = false) (hfab : m.leaves .fab = false) (htim : m.leaves .tim = false) (hmregs : m.leaves .mregs = false) (hjregs : m.leaves .jregs = false) (hcapKeys : m.leaves .capKeys = false) (hthm : m.leaves .thm = false) (hcellar : m.leaves .cellar = false) (hwords : m.leaves .words = false) : Follows m s (execSevWrite value s) := by
  have h := Kept.refl m s
  refine ⟨_, rfl, ?_⟩
  repeat' first
    | with_reducible assumption
    | intro _
    | with_reducible apply mPut_kept
    | dsimp only
    | split

theorem execSevRead_kept {value : BitVec 32} (hst : m.st = false) (hprog : m.prog = false) (hsev : m.sev = false) (hdig : m.leaves .dig = false) (hbnk : m.leaves .bnk = false) (hobs : m.leaves .obs = false) (hscr : m.leaves .scr = false) (hisl : m.leaves .isl = false) (hcol : m.leaves .col = false) (hgov : m.leaves .gov = false) (hcmd : m.leaves .cmd = false) (htaps : m.leaves .taps = false) (hjrn : m.leaves .jrn = false) (hesc : m.leaves .esc = false) (hrecd : m.leaves .recd = false) (hseq : m.leaves .seq = false) (hfab : m.leaves .fab = false) (htim : m.leaves .tim = false) (hmregs : m.leaves .mregs = false) (hjregs : m.leaves .jregs = false) (hcapKeys : m.leaves .capKeys = false) (hthm : m.leaves .thm = false) (hcellar : m.leaves .cellar = false) (hwords : m.leaves .words = false) : Follows m s (execSevRead value s) := by
  have h := Kept.refl m s
  refine ⟨_, rfl, ?_⟩
  repeat' first
    | with_reducible assumption
    | intro _
    | with_reducible apply mPut_kept
    | dsimp only
    | split

theorem execGroupWrite_kept {value : BitVec 32} (hst : m.st = false) (hprog : m.prog = false) (hsev : m.sev = false) (hdig : m.leaves .dig = false) (hbnk : m.leaves .bnk = false) (hobs : m.leaves .obs = false) (hscr : m.leaves .scr = false) (hisl : m.leaves .isl = false) (hcol : m.leaves .col = false) (hgov : m.leaves .gov = false) (hcmd : m.leaves .cmd = false) (htaps : m.leaves .taps = false) (hjrn : m.leaves .jrn = false) (hesc : m.leaves .esc = false) (hrecd : m.leaves .recd = false) (hseq : m.leaves .seq = false) (hfab : m.leaves .fab = false) (htim : m.leaves .tim = false) (hmregs : m.leaves .mregs = false) (hjregs : m.leaves .jregs = false) (hcapKeys : m.leaves .capKeys = false) (hthm : m.leaves .thm = false) (hcellar : m.leaves .cellar = false) (hwords : m.leaves .words = false) : Follows m s (execGroupWrite value s) := by
  have h := Kept.refl m s
  refine ⟨_, rfl, ?_⟩
  repeat' first
    | with_reducible assumption
    | intro _
    | with_reducible apply mPut_kept
    | dsimp only
    | split

theorem execGroupRead_kept {value : BitVec 32} (hst : m.st = false) (hprog : m.prog = false) (hsev : m.sev = false) (hdig : m.leaves .dig = false) (hbnk : m.leaves .bnk = false) (hobs : m.leaves .obs = false) (hscr : m.leaves .scr = false) (hisl : m.leaves .isl = false) (hcol : m.leaves .col = false) (hgov : m.leaves .gov = false) (hcmd : m.leaves .cmd = false) (htaps : m.leaves .taps = false) (hjrn : m.leaves .jrn = false) (hesc : m.leaves .esc = false) (hrecd : m.leaves .recd = false) (hseq : m.leaves .seq = false) (hfab : m.leaves .fab = false) (htim : m.leaves .tim = false) (hmregs : m.leaves .mregs = false) (hjregs : m.leaves .jregs = false) (hcapKeys : m.leaves .capKeys = false) (hthm : m.leaves .thm = false) (hcellar : m.leaves .cellar = false) (hwords : m.leaves .words = false) : Follows m s (execGroupRead value s) := by
  have h := Kept.refl m s
  refine ⟨_, rfl, ?_⟩
  repeat' first
    | with_reducible assumption
    | intro _
    | with_reducible apply mPut_kept
    | dsimp only
    | split

theorem execGroupDelete_kept {value : BitVec 32} (hst : m.st = false) (hprog : m.prog = false) (hsev : m.sev = false) (hdig : m.leaves .dig = false) (hbnk : m.leaves .bnk = false) (hobs : m.leaves .obs = false) (hscr : m.leaves .scr = false) (hisl : m.leaves .isl = false) (hcol : m.leaves .col = false) (hgov : m.leaves .gov = false) (hcmd : m.leaves .cmd = false) (htaps : m.leaves .taps = false) (hjrn : m.leaves .jrn = false) (hesc : m.leaves .esc = false) (hrecd : m.leaves .recd = false) (hseq : m.leaves .seq = false) (hfab : m.leaves .fab = false) (htim : m.leaves .tim = false) (hmregs : m.leaves .mregs = false) (hjregs : m.leaves .jregs = false) (hcapKeys : m.leaves .capKeys = false) (hthm : m.leaves .thm = false) (hcellar : m.leaves .cellar = false) (hwords : m.leaves .words = false) : Follows m s (execGroupDelete value s) := by
  have h := Kept.refl m s
  refine ⟨_, rfl, ?_⟩
  repeat' first
    | with_reducible assumption
    | intro _
    | with_reducible apply mPut_kept
    | dsimp only
    | split

theorem execMatchWrite_kept {value : BitVec 32} (hst : m.st = false) (hprog : m.prog = false) (hsev : m.sev = false) (hdig : m.leaves .dig = false) (hbnk : m.leaves .bnk = false) (hobs : m.leaves .obs = false) (hscr : m.leaves .scr = false) (hisl : m.leaves .isl = false) (hcol : m.leaves .col = false) (hgov : m.leaves .gov = false) (hcmd : m.leaves .cmd = false) (htaps : m.leaves .taps = false) (hjrn : m.leaves .jrn = false) (hesc : m.leaves .esc = false) (hrecd : m.leaves .recd = false) (hseq : m.leaves .seq = false) (hfab : m.leaves .fab = false) (htim : m.leaves .tim = false) (hmregs : m.leaves .mregs = false) (hjregs : m.leaves .jregs = false) (hcapKeys : m.leaves .capKeys = false) (hthm : m.leaves .thm = false) (hcellar : m.leaves .cellar = false) (hwords : m.leaves .words = false) : Follows m s (execMatchWrite value s) := by
  have h := Kept.refl m s
  refine ⟨_, rfl, ?_⟩
  repeat' first
    | with_reducible assumption
    | intro _
    | with_reducible apply mPut_kept
    | dsimp only
    | split

theorem execMatchRead_kept {value : BitVec 32} (hst : m.st = false) (hprog : m.prog = false) (hsev : m.sev = false) (hdig : m.leaves .dig = false) (hbnk : m.leaves .bnk = false) (hobs : m.leaves .obs = false) (hscr : m.leaves .scr = false) (hisl : m.leaves .isl = false) (hcol : m.leaves .col = false) (hgov : m.leaves .gov = false) (hcmd : m.leaves .cmd = false) (htaps : m.leaves .taps = false) (hjrn : m.leaves .jrn = false) (hesc : m.leaves .esc = false) (hrecd : m.leaves .recd = false) (hseq : m.leaves .seq = false) (hfab : m.leaves .fab = false) (htim : m.leaves .tim = false) (hmregs : m.leaves .mregs = false) (hjregs : m.leaves .jregs = false) (hcapKeys : m.leaves .capKeys = false) (hthm : m.leaves .thm = false) (hcellar : m.leaves .cellar = false) (hwords : m.leaves .words = false) : Follows m s (execMatchRead value s) := by
  have h := Kept.refl m s
  refine ⟨_, rfl, ?_⟩
  repeat' first
    | with_reducible assumption
    | intro _
    | with_reducible apply mPut_kept
    | dsimp only
    | split

theorem execCmdqTailWrite_kept {c : Nat} {value : BitVec 32} (hcmd : m.leaves .cmd = false) (hfab : m.leaves .fab = false) : Follows m s (execCmdqTailWrite c value s) := by
  have h := Kept.refl m s
  refine ⟨_, rfl, ?_⟩
  repeat' first
    | with_reducible assumption
    | intro _
    | with_reducible apply whenS_kept
    | with_reducible apply doCmdqTailWrite_kept
    | dsimp only
    | split

theorem execCmdqEnable_kept {c : Nat} {value : BitVec 32} (hcmd : m.leaves .cmd = false) (hjregs : m.leaves .jregs = false) : Follows m s (execCmdqEnable c value s) := by
  have h := Kept.refl m s
  refine ⟨_, rfl, ?_⟩
  repeat' first
    | with_reducible assumption
    | intro _
    | with_reducible apply whenS_kept
    | with_reducible apply doCmdqEnable_kept
    | dsimp only
    | split

theorem execCplqEnable_kept {c : Nat} {value : BitVec 32} (hcmd : m.leaves .cmd = false) (hjregs : m.leaves .jregs = false) : Follows m s (execCplqEnable c value s) := by
  have h := Kept.refl m s
  refine ⟨_, rfl, ?_⟩
  repeat' first
    | with_reducible assumption
    | intro _
    | with_reducible apply whenS_kept
    | with_reducible apply doCplqEnable_kept
    | dsimp only
    | split

theorem execCplqHeadWrite_kept {c : Nat} {value : BitVec 32} (hcmd : m.leaves .cmd = false) : Follows m s (execCplqHeadWrite c value s) := by
  have h := Kept.refl m s
  refine ⟨_, rfl, ?_⟩
  repeat' first
    | with_reducible assumption
    | intro _
    | with_reducible apply whenS_kept
    | with_reducible apply doCplqHeadWrite_kept
    | dsimp only
    | split

theorem execCommandFetch_kept {c : Nat} {packets : List (BitVec 512)} (hcmd : m.leaves .cmd = false) : Follows m s (execCommandFetch c packets s) := by
  have h := Kept.refl m s
  refine ⟨_, rfl, ?_⟩
  repeat' first
    | with_reducible assumption
    | intro _
    | with_reducible apply atHub_kept
    | with_reducible apply doCommandFetch_kept
    | dsimp only
    | split

theorem execCompletionWrite_kept {c : Nat} (hcmd : m.leaves .cmd = false) (hfab : m.leaves .fab = false) : Follows m s (execCompletionWrite c s) := by
  have h := Kept.refl m s
  refine ⟨_, rfl, ?_⟩
  repeat' first
    | with_reducible assumption
    | intro _
    | with_reducible apply atHub_kept
    | with_reducible apply doCompletionWrite_kept
    | dsimp only
    | split

theorem execReadData_kept {tag : Nat} {status : Nat} {data : List (BitVec 288)} (hdig : m.leaves .dig = false) (hbnk : m.leaves .bnk = false) (hobs : m.leaves .obs = false) (hcol : m.leaves .col = false) (hgov : m.leaves .gov = false) (hcmd : m.leaves .cmd = false) (htaps : m.leaves .taps = false) (hjrn : m.leaves .jrn = false) (hesc : m.leaves .esc = false) (hrecd : m.leaves .recd = false) (hfab : m.leaves .fab = false) (hwords : m.leaves .words = false) : Follows m s (execReadData tag status data s) := by
  have h := Kept.refl m s
  refine ⟨_, rfl, ?_⟩
  repeat' first
    | with_reducible assumption
    | intro _
    | with_reducible apply atHub_kept
    | with_reducible apply doReadData_kept
    | dsimp only
    | split

theorem execWack_kept {tag : Nat} {status : Nat} (hbnk : m.leaves .bnk = false) (hobs : m.leaves .obs = false) (hcol : m.leaves .col = false) (hcmd : m.leaves .cmd = false) (hjrn : m.leaves .jrn = false) (hfab : m.leaves .fab = false) (hwords : m.leaves .words = false) : Follows m s (execWack tag status s) := by
  have h := Kept.refl m s
  refine ⟨_, rfl, ?_⟩
  repeat' first
    | with_reducible assumption
    | intro _
    | with_reducible apply atHub_kept
    | with_reducible apply doWack_kept
    | dsimp only
    | split

theorem execStreamTimeout_kept {tag : Nat} (hdig : m.leaves .dig = false) (hbnk : m.leaves .bnk = false) (hobs : m.leaves .obs = false) (hcol : m.leaves .col = false) (hgov : m.leaves .gov = false) (hcmd : m.leaves .cmd = false) (htaps : m.leaves .taps = false) (hjrn : m.leaves .jrn = false) (hesc : m.leaves .esc = false) (hrecd : m.leaves .recd = false) (hfab : m.leaves .fab = false) (hwords : m.leaves .words = false) : Follows m s (execStreamTimeout tag s) := by
  have h := Kept.refl m s
  refine ⟨_, rfl, ?_⟩
  repeat' first
    | with_reducible assumption
    | intro _
    | with_reducible apply atHub_kept
    | with_reducible apply doStreamTimeout_kept
    | dsimp only
    | split

theorem execClearDone_kept {key : Nat} (hobs : m.leaves .obs = false) (hscr : m.leaves .scr = false) (hcol : m.leaves .col = false) (hcmd : m.leaves .cmd = false) (hjrn : m.leaves .jrn = false) (hseq : m.leaves .seq = false) : Follows m s (execClearDone key s) := by
  have h := Kept.refl m s
  refine ⟨_, rfl, ?_⟩
  repeat' first
    | with_reducible assumption
    | intro _
    | with_reducible apply atHub_kept
    | with_reducible apply doClearDone_kept
    | dsimp only
    | split

theorem execStClear_kept {key : Nat} (hobs : m.leaves .obs = false) (hscr : m.leaves .scr = false) (hcol : m.leaves .col = false) (hcmd : m.leaves .cmd = false) (hjrn : m.leaves .jrn = false) (hseq : m.leaves .seq = false) : Follows m s (execStClear key s) := by
  have h := Kept.refl m s
  refine ⟨_, rfl, ?_⟩
  repeat' first
    | with_reducible assumption
    | intro _
    | with_reducible apply atHub_kept
    | with_reducible apply doStClear_kept
    | dsimp only
    | split

theorem execStTimeout_kept {key : Nat} (hobs : m.leaves .obs = false) (hscr : m.leaves .scr = false) (hcol : m.leaves .col = false) (hcmd : m.leaves .cmd = false) (hjrn : m.leaves .jrn = false) (hseq : m.leaves .seq = false) : Follows m s (execStTimeout key s) := by
  have h := Kept.refl m s
  refine ⟨_, rfl, ?_⟩
  repeat' first
    | with_reducible assumption
    | intro _
    | with_reducible apply atHub_kept
    | with_reducible apply doStTimeout_kept
    | dsimp only
    | split

theorem execSegmentEnd_kept {key : Nat} {so : List (BitVec 1024)} (hfell : m.fell = false) (hobs : m.leaves .obs = false) (hscr : m.leaves .scr = false) (hcol : m.leaves .col = false) (hcmd : m.leaves .cmd = false) (hjrn : m.leaves .jrn = false) (hrecd : m.leaves .recd = false) (hcellar : m.leaves .cellar = false) : Follows m s (execSegmentEnd key so s) := by
  have h := Kept.refl m s
  refine ⟨_, rfl, ?_⟩
  repeat' first
    | with_reducible assumption
    | intro _
    | with_reducible apply atHub_kept
    | with_reducible apply doSegmentEnd_kept
    | dsimp only
    | split

theorem execSliceGridPoint_kept {r : Nat} {slot : Nat} (hobs : m.leaves .obs = false) (hscr : m.leaves .scr = false) (hjrn : m.leaves .jrn = false) : Follows m s (execSliceGridPoint r slot s) := by
  have h := Kept.refl m s
  refine ⟨_, rfl, ?_⟩
  repeat' first
    | with_reducible assumption
    | intro _
    | with_reducible apply atHub_kept
    | with_reducible apply doSliceGridPoint_kept
    | dsimp only
    | split

theorem execScreenDue_kept {unit : Loc} (hscr : m.leaves .scr = false) (hcmd : m.leaves .cmd = false) : Follows m s (execScreenDue unit s) := by
  have h := Kept.refl m s
  refine ⟨_, rfl, ?_⟩
  repeat' first
    | with_reducible assumption
    | intro _
    | with_reducible apply atHub_kept
    | with_reducible apply doScreenDue_kept
    | dsimp only
    | split

theorem execStOverdue_kept {unit : Loc} (hscr : m.leaves .scr = false) (hcol : m.leaves .col = false) : Follows m s (execStOverdue unit s) := by
  have h := Kept.refl m s
  refine ⟨_, rfl, ?_⟩
  repeat' first
    | with_reducible assumption
    | intro _
    | with_reducible apply atHub_kept
    | with_reducible apply doStOverdue_kept
    | dsimp only
    | split

theorem execPackLoad_kept {tag : Nat} {body : BitVec 448} (hscr : m.leaves .scr = false) (hisl : m.leaves .isl = false) (hcol : m.leaves .col = false) (hrecd : m.leaves .recd = false) (hcellar : m.leaves .cellar = false) : Follows m s (execPackLoad tag body s) := by
  have h := Kept.refl m s
  refine ⟨_, rfl, ?_⟩
  repeat' first
    | with_reducible assumption
    | intro _
    | with_reducible apply atGate_kept
    | with_reducible apply doPackLoad_kept
    | dsimp only
    | split

theorem execClosingRecordRetry_kept {wrote : Bool} (hscr : m.leaves .scr = false) (hcol : m.leaves .col = false) (hrecd : m.leaves .recd = false) (hcellar : m.leaves .cellar = false) : Follows m s (execClosingRecordRetry wrote s) := by
  have h := Kept.refl m s
  refine ⟨_, rfl, ?_⟩
  repeat' first
    | with_reducible assumption
    | intro _
    | with_reducible apply atHub_kept
    | with_reducible apply writeClosing_kept
    | with_reducible apply recordFailed_kept
    | with_reducible apply kept_ite
    | dsimp only
    | split

theorem execExcursion_kept (hisl : m.leaves .isl = false) (hcol : m.leaves .col = false) (hrecd : m.leaves .recd = false) (hcellar : m.leaves .cellar = false) : Follows m s (execExcursion s) := by
  have h := Kept.refl m s
  refine ⟨_, rfl, ?_⟩
  repeat' first
    | with_reducible assumption
    | intro _
    | with_reducible apply doExcursion_kept
    | dsimp only
    | split

theorem execCperPop_kept (hisl : m.leaves .isl = false) (hrecd : m.leaves .recd = false) : Follows m s (execCperPop s) := by
  have h := Kept.refl m s
  refine ⟨_, rfl, ?_⟩
  repeat' first
    | with_reducible assumption
    | intro _
    | with_reducible apply hubReg_kept
    | with_reducible apply doCperPop_kept
    | dsimp only
    | split

theorem execExtest_kept (hscr : m.leaves .scr = false) : Follows m s (execExtest s) := by
  have h := Kept.refl m s
  refine ⟨_, rfl, ?_⟩
  repeat' first
    | with_reducible assumption
    | intro _
    | with_reducible apply tapLoad_kept
    | dsimp only
    | split

theorem execIdcode_kept (hscr : m.leaves .scr = false) : Follows m s (execIdcode s) := by
  have h := Kept.refl m s
  refine ⟨_, rfl, ?_⟩
  repeat' first
    | with_reducible assumption
    | intro _
    | with_reducible apply tapLoad_kept
    | dsimp only
    | split

theorem execSamplePreload_kept (hscr : m.leaves .scr = false) : Follows m s (execSamplePreload s) := by
  have h := Kept.refl m s
  refine ⟨_, rfl, ?_⟩
  repeat' first
    | with_reducible assumption
    | intro _
    | with_reducible apply tapLoad_kept
    | dsimp only
    | split

theorem execBypass_kept {ir : BitVec 8} (hscr : m.leaves .scr = false) : Follows m s (execBypass ir s) := by
  have h := Kept.refl m s
  refine ⟨_, rfl, ?_⟩
  repeat' first
    | with_reducible assumption
    | intro _
    | with_reducible apply tapLoad_kept
    | with_reducible apply kept_ite
    | dsimp only
    | split

theorem execUnitScan_kept {unit : Loc} (hscr : m.leaves .scr = false) (hcol : m.leaves .col = false) (hmregs : m.leaves .mregs = false) : Follows m s (execUnitScan unit s) := by
  have h := Kept.refl m s
  refine ⟨_, rfl, ?_⟩
  repeat' first
    | with_reducible assumption
    | intro _
    | with_reducible apply doUnitScan_kept
    | dsimp only
    | split

theorem execHubScan_kept (hscr : m.leaves .scr = false) (hcol : m.leaves .col = false) (hmregs : m.leaves .mregs = false) : Follows m s (execHubScan s) := by
  have h := Kept.refl m s
  refine ⟨_, rfl, ?_⟩
  repeat' first
    | with_reducible assumption
    | intro _
    | with_reducible apply tapRefuse_kept
    | with_reducible apply raiseIsland_kept
    | with_reducible apply tapLoad_kept
    | with_reducible apply kept_ite
    | simp only [↓kept_upd_iff, implies_true, hscr, hcol, hmregs, Bool.false_eq_true, false_implies]
    | dsimp only
    | split

theorem execTapReset_kept (hscr : m.leaves .scr = false) : Follows m s (execTapReset s) := by
  have h := Kept.refl m s
  refine ⟨_, rfl, ?_⟩
  repeat' first
    | with_reducible assumption
    | intro _
    | with_reducible apply tapLoad_kept
    | dsimp only
    | split

theorem execSkidStart_kept {scope : Loc} (hdig : m.leaves .dig = false) (hbnk : m.leaves .bnk = false) (hobs : m.leaves .obs = false) (hscr : m.leaves .scr = false) (hcol : m.leaves .col = false) (hgov : m.leaves .gov = false) (hcmd : m.leaves .cmd = false) (htaps : m.leaves .taps = false) (hjrn : m.leaves .jrn = false) (hesc : m.leaves .esc = false) (hrecd : m.leaves .recd = false) (hseq : m.leaves .seq = false) (hfab : m.leaves .fab = false) (hwords : m.leaves .words = false) : Follows m s (execSkidStart scope s) := by
  have h := Kept.refl m s
  refine ⟨_, rfl, ?_⟩
  repeat' first
    | with_reducible assumption
    | intro _
    | with_reducible apply atHub_kept
    | with_reducible apply doSkidStart_kept
    | dsimp only
    | split

theorem execCordHandover_kept {scope : Loc} (hobs : m.leaves .obs = false) (hgov : m.leaves .gov = false) (htaps : m.leaves .taps = false) (hjrn : m.leaves .jrn = false) (hesc : m.leaves .esc = false) : Follows m s (execCordHandover scope s) := by
  have h := Kept.refl m s
  refine ⟨_, rfl, ?_⟩
  repeat' first
    | with_reducible assumption
    | intro _
    | with_reducible apply atHub_kept
    | with_reducible apply doCordHandover_kept
    | dsimp only
    | split

theorem execSkid_kept {scope : Loc} (hobs : m.leaves .obs = false) (hcmd : m.leaves .cmd = false) (hjrn : m.leaves .jrn = false) (hesc : m.leaves .esc = false) (hrecd : m.leaves .recd = false) : Follows m s (execSkid scope s) := by
  have h := Kept.refl m s
  refine ⟨_, rfl, ?_⟩
  repeat' first
    | with_reducible assumption
    | intro _
    | with_reducible apply atHub_kept
    | with_reducible apply doSkid_kept
    | dsimp only
    | split

theorem execSpareWakeDone_kept {region : Nat} {bits : BitVec 8} (hjrn : m.leaves .jrn = false) : Follows m s (execSpareWakeDone region bits s) := by
  have h := Kept.refl m s
  refine ⟨_, rfl, ?_⟩
  repeat' first
    | with_reducible assumption
    | intro _
    | with_reducible apply atRegion_kept
    | with_reducible apply doSpareWakeDone_kept
    | dsimp only
    | split

theorem execJrnSkidLate_kept {scope : Loc} (hcol : m.leaves .col = false) (hjrn : m.leaves .jrn = false) : Follows m s (execJrnSkidLate scope s) := by
  have h := Kept.refl m s
  refine ⟨_, rfl, ?_⟩
  repeat' first
    | with_reducible assumption
    | intro _
    | with_reducible apply atHub_kept
    | with_reducible apply doJrnSkidLate_kept
    | dsimp only
    | split

theorem execRingFetch_kept {tag : Nat} {bytes : BitVec 1024} (hdig : m.leaves .dig = false) (hbnk : m.leaves .bnk = false) (hobs : m.leaves .obs = false) (hcol : m.leaves .col = false) (hgov : m.leaves .gov = false) (hcmd : m.leaves .cmd = false) (htaps : m.leaves .taps = false) (hjrn : m.leaves .jrn = false) (hesc : m.leaves .esc = false) (hrecd : m.leaves .recd = false) (hfab : m.leaves .fab = false) (hwords : m.leaves .words = false) : Follows m s (execRingFetch tag bytes s) := by
  have h := Kept.refl m s
  refine ⟨_, rfl, ?_⟩
  repeat' first
    | with_reducible assumption
    | intro _
    | with_reducible apply atHub_kept
    | with_reducible apply doRingFetch_kept
    | dsimp only
    | split

theorem execCordSettle_kept {slot : Nat} (hdig : m.leaves .dig = false) (hbnk : m.leaves .bnk = false) (hobs : m.leaves .obs = false) (hscr : m.leaves .scr = false) (hcol : m.leaves .col = false) (hgov : m.leaves .gov = false) (hcmd : m.leaves .cmd = false) (htaps : m.leaves .taps = false) (hjrn : m.leaves .jrn = false) (hesc : m.leaves .esc = false) (hrecd : m.leaves .recd = false) (hseq : m.leaves .seq = false) (hfab : m.leaves .fab = false) (hwords : m.leaves .words = false) : Follows m s (execCordSettle slot s) := by
  have h := Kept.refl m s
  refine ⟨_, rfl, ?_⟩
  repeat' first
    | with_reducible assumption
    | intro _
    | with_reducible apply atHub_kept
    | with_reducible apply retrySkids_kept
    | with_reducible apply doCordSettle_kept
    | dsimp only
    | split

theorem execStopOrder_kept (hobs : m.leaves .obs = false) (hcmd : m.leaves .cmd = false) (hfab : m.leaves .fab = false) : Follows m s (execStopOrder s) := by
  have h := Kept.refl m s
  refine ⟨_, rfl, ?_⟩
  repeat' first
    | with_reducible assumption
    | intro _
    | with_reducible apply atHub_kept
    | with_reducible apply doStopOrder_kept
    | dsimp only
    | split

theorem execStopTick_kept {c : Nat} (hfab : m.leaves .fab = false) : Follows m s (execStopTick c s) := by
  have h := Kept.refl m s
  refine ⟨_, rfl, ?_⟩
  repeat' first
    | with_reducible assumption
    | intro _
    | with_reducible apply atHub_kept
    | with_reducible apply doStopTick_kept
    | dsimp only
    | split

theorem execStopQuiet_kept {c : Nat} (hcol : m.leaves .col = false) (hfab : m.leaves .fab = false) : Follows m s (execStopQuiet c s) := by
  have h := Kept.refl m s
  refine ⟨_, rfl, ?_⟩
  repeat' first
    | with_reducible assumption
    | intro _
    | with_reducible apply atHub_kept
    | with_reducible apply doStopQuiet_kept
    | dsimp only
    | split

theorem execStopMark_kept (hfab : m.leaves .fab = false) : Follows m s (execStopMark s) := by
  have h := Kept.refl m s
  refine ⟨_, rfl, ?_⟩
  repeat' first
    | with_reducible assumption
    | intro _
    | with_reducible apply atHub_kept
    | with_reducible apply doStopMark_kept
    | dsimp only
    | split

theorem execCutComplete_kept {c : Nat} (hcmd : m.leaves .cmd = false) (hfab : m.leaves .fab = false) : Follows m s (execCutComplete c s) := by
  have h := Kept.refl m s
  refine ⟨_, rfl, ?_⟩
  repeat' first
    | with_reducible assumption
    | intro _
    | with_reducible apply atHub_kept
    | with_reducible apply doCutComplete_kept
    | dsimp only
    | split

theorem execStopIncomplete_kept {c : Nat} (hcol : m.leaves .col = false) (hcmd : m.leaves .cmd = false) (hfab : m.leaves .fab = false) : Follows m s (execStopIncomplete c s) := by
  have h := Kept.refl m s
  refine ⟨_, rfl, ?_⟩
  repeat' first
    | with_reducible assumption
    | intro _
    | with_reducible apply atHub_kept
    | with_reducible apply doStopIncomplete_kept
    | dsimp only
    | split

theorem execResumeReceived_kept (hcmd : m.leaves .cmd = false) (hfab : m.leaves .fab = false) : Follows m s (execResumeReceived s) := by
  have h := Kept.refl m s
  refine ⟨_, rfl, ?_⟩
  repeat' first
    | with_reducible assumption
    | intro _
    | with_reducible apply atHub_kept
    | with_reducible apply doResumeReceived_kept
    | dsimp only
    | split

theorem execResumeRelease_kept {c : Nat} (hdig : m.leaves .dig = false) (hobs : m.leaves .obs = false) (hcol : m.leaves .col = false) (hcmd : m.leaves .cmd = false) (hjrn : m.leaves .jrn = false) (hesc : m.leaves .esc = false) (hfab : m.leaves .fab = false) : Follows m s (execResumeRelease c s) := by
  have h := Kept.refl m s
  refine ⟨_, rfl, ?_⟩
  repeat' first
    | with_reducible assumption
    | intro _
    | with_reducible apply atHub_kept
    | with_reducible apply doResumeRelease_kept
    | dsimp only
    | split

theorem execThrottleStep_kept {scope : Nat} (hobs : m.leaves .obs = false) (hthm : m.leaves .thm = false) : Follows m s (execThrottleStep scope s) := by
  have h := Kept.refl m s
  refine ⟨_, rfl, ?_⟩
  repeat' first
    | with_reducible assumption
    | intro _
    | with_reducible apply atHub_kept
    | with_reducible apply doThrottleStep_kept
    | dsimp only
    | split

theorem execRoSample_kept {sensor : Nat} {count : Nat} (hobs : m.leaves .obs = false) (hcol : m.leaves .col = false) (hthm : m.leaves .thm = false) : Follows m s (execRoSample sensor count s) := by
  have h := Kept.refl m s
  refine ⟨_, rfl, ?_⟩
  repeat' first
    | with_reducible assumption
    | intro _
    | with_reducible apply atHub_kept
    | with_reducible apply doRoSample_kept
    | dsimp only
    | split

theorem execDiodeSample_kept {r : Nat} {temp : Int} (hscr : m.leaves .scr = false) (hisl : m.leaves .isl = false) (hcol : m.leaves .col = false) (hrecd : m.leaves .recd = false) (hthm : m.leaves .thm = false) (hcellar : m.leaves .cellar = false) : Follows m s (execDiodeSample r temp s) := by
  have h := Kept.refl m s
  refine ⟨_, rfl, ?_⟩
  repeat' first
    | with_reducible assumption
    | intro _
    | with_reducible apply atHub_kept
    | with_reducible apply doDiodeSample_kept
    | dsimp only
    | split

theorem execCalibrate_kept {sensor : Nat} (hobs : m.leaves .obs = false) (hcol : m.leaves .col = false) (hthm : m.leaves .thm = false) : Follows m s (execCalibrate sensor s) := by
  have h := Kept.refl m s
  refine ⟨_, rfl, ?_⟩
  repeat' first
    | with_reducible assumption
    | intro _
    | with_reducible apply atHub_kept
    | with_reducible apply doCalibrate_kept
    | dsimp only
    | split

theorem execReinstate_kept {sensor : Nat} (hisl : m.leaves .isl = false) (hthm : m.leaves .thm = false) : Follows m s (execReinstate sensor s) := by
  have h := Kept.refl m s
  refine ⟨_, rfl, ?_⟩
  repeat' first
    | with_reducible assumption
    | intro _
    | with_reducible apply hubReg_kept
    | with_reducible apply doReinstate_kept
    | dsimp only
    | split

theorem execCanaryWindow_kept {canary : Nat} {m3 : Nat} {m4 : Nat} (hobs : m.leaves .obs = false) (hcol : m.leaves .col = false) (hthm : m.leaves .thm = false) : Follows m s (execCanaryWindow canary m3 m4 s) := by
  have h := Kept.refl m s
  refine ⟨_, rfl, ?_⟩
  repeat' first
    | with_reducible assumption
    | intro _
    | with_reducible apply atHub_kept
    | with_reducible apply doCanaryWindow_kept
    | dsimp only
    | split

theorem execDroopHoldExpiry_kept {canary : Nat} (hobs : m.leaves .obs = false) (hthm : m.leaves .thm = false) : Follows m s (execDroopHoldExpiry canary s) := by
  have h := Kept.refl m s
  refine ⟨_, rfl, ?_⟩
  repeat' first
    | with_reducible assumption
    | intro _
    | with_reducible apply atHub_kept
    | with_reducible apply doDroopHoldExpiry_kept
    | dsimp only
    | split

theorem execPmbusRead_kept {rail : Nat} {command : Nat} {value : Nat} {ok : Bool} (hcol : m.leaves .col = false) (hthm : m.leaves .thm = false) : Follows m s (execPmbusRead rail command value ok s) := by
  have h := Kept.refl m s
  refine ⟨_, rfl, ?_⟩
  repeat' first
    | with_reducible assumption
    | intro _
    | with_reducible apply doPmbusRead_kept
    | dsimp only
    | split

theorem execPmAlert_kept {addr : Nat} {status : Nat} (hcol : m.leaves .col = false) (hthm : m.leaves .thm = false) : Follows m s (execPmAlert addr status s) := by
  have h := Kept.refl m s
  refine ⟨_, rfl, ?_⟩
  repeat' first
    | with_reducible assumption
    | intro _
    | with_reducible apply doPmAlert_kept
    | dsimp only
    | split

theorem execTileTicket_kept {tap : Nat} {w : W256} (hdig : m.leaves .dig = false) (hobs : m.leaves .obs = false) (hcol : m.leaves .col = false) (hgov : m.leaves .gov = false) (hcmd : m.leaves .cmd = false) (htaps : m.leaves .taps = false) (hjrn : m.leaves .jrn = false) (hesc : m.leaves .esc = false) (hfab : m.leaves .fab = false) : Follows m s (execTileTicket tap w s) := by
  have h := Kept.refl m s
  refine ⟨_, rfl, ?_⟩
  repeat' first
    | with_reducible assumption
    | intro _
    | with_reducible apply atTapPort_kept
    | with_reducible apply doTileTicket_kept
    | dsimp only
    | split

theorem execOperandWord_kept {tap : Nat} {tag : Nat} {role : Nat} {index : Nat} {w : W256} (hobs : m.leaves .obs = false) (hcol : m.leaves .col = false) (htaps : m.leaves .taps = false) : Follows m s (execOperandWord tap tag role index w s) := by
  have h := Kept.refl m s
  refine ⟨_, rfl, ?_⟩
  repeat' first
    | with_reducible assumption
    | intro _
    | with_reducible apply atTapPort_kept
    | with_reducible apply doOperandWord_kept
    | dsimp only
    | split

theorem execEorWord_kept {tap : Nat} {unit : Nat} {tag : Nat} {index : Nat} {last : Bool} {w : W256} (hobs : m.leaves .obs = false) (hcol : m.leaves .col = false) (htaps : m.leaves .taps = false) : Follows m s (execEorWord tap unit tag index last w s) := by
  have h := Kept.refl m s
  refine ⟨_, rfl, ?_⟩
  repeat' first
    | with_reducible assumption
    | intro _
    | with_reducible apply atTapPort_kept
    | with_reducible apply doEorWord_kept
    | with_reducible apply kept_ite
    | dsimp only
    | split

theorem execValueWord_kept {tap : Nat} {unit : Nat} {tag : Nat} {index : Nat} {_last : Bool} {w : W256} (hobs : m.leaves .obs = false) (hcol : m.leaves .col = false) (htaps : m.leaves .taps = false) : Follows m s (execValueWord tap unit tag index _last w s) := by
  have h := Kept.refl m s
  refine ⟨_, rfl, ?_⟩
  repeat' first
    | with_reducible assumption
    | intro _
    | with_reducible apply atTapPort_kept
    | with_reducible apply withTile_kept
    | with_reducible apply updTile_kept
    | with_reducible apply kept_ite
    | dsimp only
    | split

theorem execCaptureWord_kept {tap : Nat} {unit : Nat} {tile : Bool} {tag : Nat} {cord : Nat} {off : Nat} {w : W256} (hobs : m.leaves .obs = false) (hcol : m.leaves .col = false) (htaps : m.leaves .taps = false) : Follows m s (execCaptureWord tap unit tile tag cord off w s) := by
  have h := Kept.refl m s
  refine ⟨_, rfl, ?_⟩
  repeat' first
    | with_reducible assumption
    | intro _
    | with_reducible apply atTapPort_kept
    | with_reducible apply doCaptureWord_kept
    | dsimp only
    | split

theorem execTicketStateError_kept {tap : Nat} {tag : Nat} {corrected : Bool} (hdig : m.leaves .dig = false) (hobs : m.leaves .obs = false) (hcol : m.leaves .col = false) (hgov : m.leaves .gov = false) (hcmd : m.leaves .cmd = false) (htaps : m.leaves .taps = false) (hjrn : m.leaves .jrn = false) (hesc : m.leaves .esc = false) (hfab : m.leaves .fab = false) : Follows m s (execTicketStateError tap tag s corrected) := by
  have h := Kept.refl m s
  refine ⟨_, rfl, ?_⟩
  repeat' first
    | with_reducible assumption
    | intro _
    | with_reducible apply atTapPort_kept
    | with_reducible apply doTicketStateError_kept
    | dsimp only
    | split

theorem execDispatchSlot_kept {tap : Nat} {unit : Nat} {cord : Nat} {pin : Bool} (hobs : m.leaves .obs = false) (hscr : m.leaves .scr = false) (hcol : m.leaves .col = false) (hcmd : m.leaves .cmd = false) (htaps : m.leaves .taps = false) (hjrn : m.leaves .jrn = false) (hseq : m.leaves .seq = false) : Follows m s (execDispatchSlot tap unit cord pin s) := by
  have h := Kept.refl m s
  refine ⟨_, rfl, ?_⟩
  repeat' first
    | with_reducible assumption
    | intro _
    | with_reducible apply atTapPort_kept
    | with_reducible apply doDispatchSlot_kept
    | dsimp only
    | split

theorem execClkRatioWrite_kept {value : W64} (hisl : m.leaves .isl = false) (htim : m.leaves .tim = false) (hmregs : m.leaves .mregs = false) : Follows m s (execClkRatioWrite value s) := by
  have h := Kept.refl m s
  refine ⟨_, rfl, ?_⟩
  repeat' first
    | with_reducible assumption
    | intro _
    | with_reducible apply hubReg_kept
    | with_reducible apply doClkRatioWrite_kept
    | dsimp only
    | split

theorem execRatioSwitch_kept {r : Nat} (hobs : m.leaves .obs = false) (htim : m.leaves .tim = false) (hmregs : m.leaves .mregs = false) : Follows m s (execRatioSwitch r s) := by
  have h := Kept.refl m s
  refine ⟨_, rfl, ?_⟩
  repeat' first
    | with_reducible assumption
    | intro _
    | with_reducible apply atHub_kept
    | with_reducible apply doRatioSwitch_kept
    | dsimp only
    | split

theorem execLoadBeacon_kept {part : Nat} {delay : Nat} (htim : m.leaves .tim = false) : Follows m s (execLoadBeacon part delay s) := by
  have h := Kept.refl m s
  refine ⟨_, rfl, ?_⟩
  repeat' first
    | with_reducible assumption
    | intro _
    | with_reducible apply atHub_kept
    | with_reducible apply loadCopy_kept
    | simp only [↓kept_upd_iff, implies_true, htim, Bool.false_eq_true, false_implies]
    | dsimp only
    | split

theorem execCheckBeacon_kept {part : Nat} {slip : Int} (hobs : m.leaves .obs = false) (hcol : m.leaves .col = false) (htim : m.leaves .tim = false) : Follows m s (execCheckBeacon part slip s) := by
  have h := Kept.refl m s
  refine ⟨_, rfl, ?_⟩
  repeat' first
    | with_reducible assumption
    | intro _
    | with_reducible apply atHub_kept
    | with_reducible apply doCheckBeacon_kept
    | dsimp only
    | split

theorem execNeighbourCompare_kept {r : Nat} (hcol : m.leaves .col = false) (htim : m.leaves .tim = false) : Follows m s (execNeighbourCompare r s) := by
  have h := Kept.refl m s
  refine ⟨_, rfl, ?_⟩
  repeat' first
    | with_reducible assumption
    | intro _
    | with_reducible apply atHub_kept
    | with_reducible apply doNeighbourCompare_kept
    | dsimp only
    | split

theorem execTResp_kept {t4 : Nat} (hobs : m.leaves .obs = false) (hcol : m.leaves .col = false) (hseq : m.leaves .seq = false) (hfab : m.leaves .fab = false) (htim : m.leaves .tim = false) (hmregs : m.leaves .mregs = false) : Follows m s (execTResp t4 s) := by
  have h := Kept.refl m s
  refine ⟨_, rfl, ?_⟩
  repeat' first
    | with_reducible assumption
    | intro _
    | with_reducible apply atHub_kept
    | with_reducible apply doTResp_kept
    | dsimp only
    | split

theorem execTReq_kept (hfab : m.leaves .fab = false) : Follows m s (execTReq s) := by
  have h := Kept.refl m s
  refine ⟨_, rfl, ?_⟩
  repeat' first
    | with_reducible assumption
    | intro _
    | with_reducible apply atHub_kept
    | with_reducible apply doTReq_kept
    | dsimp only
    | split

theorem execAlign_kept (hisl : m.leaves .isl = false) (hcol : m.leaves .col = false) (hseq : m.leaves .seq = false) (hfab : m.leaves .fab = false) (htim : m.leaves .tim = false) (hmregs : m.leaves .mregs = false) : Follows m s (execAlign s) := by
  have h := Kept.refl m s
  refine ⟨_, rfl, ?_⟩
  repeat' first
    | with_reducible assumption
    | intro _
    | with_reducible apply hubReg_kept
    | with_reducible apply doAlign_kept
    | dsimp only
    | split

theorem execTAnnounce_kept (hcol : m.leaves .col = false) (hseq : m.leaves .seq = false) (hfab : m.leaves .fab = false) (htim : m.leaves .tim = false) : Follows m s (execTAnnounce s) := by
  have h := Kept.refl m s
  refine ⟨_, rfl, ?_⟩
  repeat' first
    | with_reducible assumption
    | intro _
    | with_reducible apply atHub_kept
    | with_reducible apply doTAnnounce_kept
    | dsimp only
    | split

theorem execEtStep_kept (het : m.et = false) (hcol : m.leaves .col = false) (hesc : m.leaves .esc = false) (hrecd : m.leaves .recd = false) (hfab : m.leaves .fab = false) (htim : m.leaves .tim = false) (hmregs : m.leaves .mregs = false) : Follows m s (execEtStep s) := by
  have h := Kept.refl m s
  refine ⟨_, rfl, ?_⟩
  repeat' first
    | with_reducible assumption
    | intro _
    | with_reducible apply atHub_kept
    | with_reducible apply doEtStep_kept
    | dsimp only
    | split

theorem execDriftExchange_kept (hcol : m.leaves .col = false) (hseq : m.leaves .seq = false) (hfab : m.leaves .fab = false) (htim : m.leaves .tim = false) : Follows m s (execDriftExchange s) := by
  have h := Kept.refl m s
  refine ⟨_, rfl, ?_⟩
  repeat' first
    | with_reducible assumption
    | intro _
    | with_reducible apply atHub_kept
    | with_reducible apply doDriftExchange_kept
    | dsimp only
    | split

theorem execPllUnlock_kept (hcol : m.leaves .col = false) (hisl : m.leaves .isl = false) : Follows m s (execPllUnlock s) := by
  have h := Kept.refl m s
  refine ⟨_, rfl, ?_⟩
  repeat' first
    | with_reducible assumption
    | intro _
    | with_reducible apply whenS_kept
    | with_reducible apply raiseIsland_kept
    | simp only [↓kept_upd_iff, implies_true, hcol, hisl, Bool.false_eq_true, false_implies]
    | dsimp only
    | split

theorem execRefLost_kept (hcol : m.leaves .col = false) (hmregs : m.leaves .mregs = false) (hisl : m.leaves .isl = false) : Follows m s (execRefLost s) := by
  have h := Kept.refl m s
  refine ⟨_, rfl, ?_⟩
  repeat' first
    | with_reducible assumption
    | intro _
    | with_reducible apply whenS_kept
    | with_reducible apply raiseIsland_kept
    | with_reducible apply State.setRf_kept
    | simp only [↓kept_upd_iff, implies_true, hcol, hmregs, hisl, Bool.false_eq_true, false_implies]
    | dsimp only
    | split

theorem execEtSlew_kept {value : W64} (hisl : m.leaves .isl = false) (htim : m.leaves .tim = false) : Follows m s (execEtSlew value s) := by
  have h := Kept.refl m s
  refine ⟨_, rfl, ?_⟩
  repeat' first
    | with_reducible assumption
    | intro _
    | with_reducible apply hubReg_kept
    | with_reducible apply doEtSlew_kept
    | dsimp only
    | split

theorem execSlewTick_kept (het : m.et = false) (htim : m.leaves .tim = false) : Follows m s (execSlewTick s) := by
  have h := Kept.refl m s
  refine ⟨_, rfl, ?_⟩
  repeat' first
    | with_reducible assumption
    | intro _
    | with_reducible apply atHub_kept
    | with_reducible apply doSlewTick_kept
    | dsimp only
    | split

theorem execMatchExchange_kept {entry : Nat} (hseq : m.leaves .seq = false) (hfab : m.leaves .fab = false) (htim : m.leaves .tim = false) : Follows m s (execMatchExchange entry s) := by
  have h := Kept.refl m s
  refine ⟨_, rfl, ?_⟩
  repeat' first
    | with_reducible assumption
    | intro _
    | with_reducible apply atHub_kept
    | with_reducible apply sendReq_kept
    | with_reducible apply kept_ite
    | dsimp only
    | split

theorem execClkMatchStale_kept {entry : Nat} (hcol : m.leaves .col = false) (htim : m.leaves .tim = false) : Follows m s (execClkMatchStale entry s) := by
  have h := Kept.refl m s
  refine ⟨_, rfl, ?_⟩
  repeat' first
    | with_reducible assumption
    | intro _
    | with_reducible apply atHub_kept
    | with_reducible apply doClkMatchStale_kept
    | dsimp only
    | split

theorem execEtLoRead_kept {job : Bool} {c : Nat} (hisl : m.leaves .isl = false) (htim : m.leaves .tim = false) (hmregs : m.leaves .mregs = false) : Follows m s (execEtLoRead job c s) := by
  have h := Kept.refl m s
  refine ⟨_, rfl, ?_⟩
  repeat' first
    | with_reducible assumption
    | intro _
    | with_reducible apply whenS_kept
    | with_reducible apply latchEt_kept
    | with_reducible apply hubReg_kept
    | with_reducible apply kept_ite
    | dsimp only
    | split

theorem execDigestPart_kept (hfell : m.fell = false) (hdig : m.leaves .dig = false) (hbnk : m.leaves .bnk = false) (hobs : m.leaves .obs = false) (hscr : m.leaves .scr = false) (hcol : m.leaves .col = false) (hgov : m.leaves .gov = false) (hcmd : m.leaves .cmd = false) (htaps : m.leaves .taps = false) (hjrn : m.leaves .jrn = false) (hesc : m.leaves .esc = false) (hrecd : m.leaves .recd = false) (hseq : m.leaves .seq = false) (hfab : m.leaves .fab = false) (hcellar : m.leaves .cellar = false) (hwords : m.leaves .words = false) : Follows m s (execDigestPart s) := by
  have h := Kept.refl m s
  refine ⟨_, rfl, ?_⟩
  repeat' first
    | with_reducible assumption
    | intro _
    | with_reducible apply atHub_kept
    | with_reducible apply withMsg_kept
    | with_reducible apply onDigestPart_kept
    | dsimp only
    | split

theorem execVoteWaitExpiry_kept {c : Nat} {epoch : Nat} (hfell : m.fell = false) (hdig : m.leaves .dig = false) (hbnk : m.leaves .bnk = false) (hobs : m.leaves .obs = false) (hscr : m.leaves .scr = false) (hcol : m.leaves .col = false) (hgov : m.leaves .gov = false) (hcmd : m.leaves .cmd = false) (htaps : m.leaves .taps = false) (hjrn : m.leaves .jrn = false) (hesc : m.leaves .esc = false) (hrecd : m.leaves .recd = false) (hseq : m.leaves .seq = false) (hfab : m.leaves .fab = false) (hcellar : m.leaves .cellar = false) (hwords : m.leaves .words = false) : Follows m s (execVoteWaitExpiry c epoch s) := by
  have h := Kept.refl m s
  refine ⟨_, rfl, ?_⟩
  repeat' first
    | with_reducible assumption
    | intro _
    | with_reducible apply atHub_kept
    | with_reducible apply doVoteWaitExpiry_kept
    | dsimp only
    | split

theorem execVerdict_kept (hdig : m.leaves .dig = false) (hcol : m.leaves .col = false) (hgov : m.leaves .gov = false) (hcmd : m.leaves .cmd = false) (hfab : m.leaves .fab = false) : Follows m s (execVerdict s) := by
  have h := Kept.refl m s
  refine ⟨_, rfl, ?_⟩
  repeat' first
    | with_reducible assumption
    | intro _
    | with_reducible apply atHub_kept
    | with_reducible apply doVerdict_kept
    | dsimp only
    | split

theorem execDigNoVerdict_kept {c : Nat} (hdig : m.leaves .dig = false) (hcol : m.leaves .col = false) : Follows m s (execDigNoVerdict c s) := by
  have h := Kept.refl m s
  refine ⟨_, rfl, ?_⟩
  repeat' first
    | with_reducible assumption
    | intro _
    | with_reducible apply atHub_kept
    | with_reducible apply doDigNoVerdict_kept
    | dsimp only
    | split

theorem execRetentionExpiry_kept {c : Nat} {epoch : Nat} (hdig : m.leaves .dig = false) : Follows m s (execRetentionExpiry c epoch s) := by
  have h := Kept.refl m s
  refine ⟨_, rfl, ?_⟩
  repeat' first
    | with_reducible assumption
    | intro _
    | with_reducible apply atHub_kept
    | with_reducible apply doRetentionExpiry_kept
    | dsimp only
    | split

theorem execTensorPart_kept (hdig : m.leaves .dig = false) (hcol : m.leaves .col = false) (hfab : m.leaves .fab = false) : Follows m s (execTensorPart s) := by
  have h := Kept.refl m s
  refine ⟨_, rfl, ?_⟩
  repeat' first
    | with_reducible assumption
    | intro _
    | with_reducible apply atHub_kept
    | with_reducible apply withMsg_kept
    | with_reducible apply onTensorPart_kept
    | dsimp only
    | split

theorem execTensorWaitExpiry_kept {c : Nat} (hdig : m.leaves .dig = false) (hcol : m.leaves .col = false) (hfab : m.leaves .fab = false) : Follows m s (execTensorWaitExpiry c s) := by
  have h := Kept.refl m s
  refine ⟨_, rfl, ?_⟩
  repeat' first
    | with_reducible assumption
    | intro _
    | with_reducible apply atHub_kept
    | with_reducible apply doTensorWaitExpiry_kept
    | dsimp only
    | split

theorem execTensorDiff_kept (hdig : m.leaves .dig = false) (hcol : m.leaves .col = false) (hfab : m.leaves .fab = false) : Follows m s (execTensorDiff s) := by
  have h := Kept.refl m s
  refine ⟨_, rfl, ?_⟩
  repeat' first
    | with_reducible assumption
    | intro _
    | with_reducible apply atHub_kept
    | with_reducible apply withMsg_kept
    | with_reducible apply onTensorDiff_kept
    | dsimp only
    | split

end Sys2Proof.Machine
end

