-- ==== Sys2Proof/Laws/State.lean ====
section
/-! SUPPORT. What each update of the state leaves alone, one lemma per part and update, and what a read gives after it. -/
namespace Sys2Proof.Machine

variable {s : State}

/-! #### setRf -/

@[simp] theorem State.setRf_pending {f : RF} {v : Nat} : (s.setRf f v).pending = s.pending := rfl
@[simp] theorem State.setRf_out {f : RF} {v : Nat} : (s.setRf f v).out = s.out := rfl
@[simp] theorem State.setRf_freeCtr {f : RF} {v : Nat} : (s.setRf f v).freeCtr = s.freeCtr := rfl
@[simp] theorem State.setRf_fuse {f : RF} {v : Nat} : (s.setRf f v).fuse = s.fuse := rfl
@[simp] theorem State.setRf_isl {f : RF} {v : Nat} : (s.setRf f v).isl = s.isl := rfl
@[simp] theorem State.setRf_tim {f : RF} {v : Nat} : (s.setRf f v).tim = s.tim := rfl
@[simp] theorem State.setRf_col {f : RF} {v : Nat} : (s.setRf f v).col = s.col := rfl
@[simp] theorem State.setRf_taps {f : RF} {v : Nat} : (s.setRf f v).taps = s.taps := rfl
@[simp] theorem State.setRf_gov {f : RF} {v : Nat} : (s.setRf f v).gov = s.gov := rfl
@[simp] theorem State.setRf_esc {f : RF} {v : Nat} : (s.setRf f v).esc = s.esc := rfl
@[simp] theorem State.setRf_dig {f : RF} {v : Nat} : (s.setRf f v).dig = s.dig := rfl
@[simp] theorem State.setRf_jrn {f : RF} {v : Nat} : (s.setRf f v).jrn = s.jrn := rfl
@[simp] theorem State.setRf_fab {f : RF} {v : Nat} : (s.setRf f v).fab = s.fab := rfl
@[simp] theorem State.setRf_scr {f : RF} {v : Nat} : (s.setRf f v).scr = s.scr := rfl
@[simp] theorem State.setRf_thm {f : RF} {v : Nat} : (s.setRf f v).thm = s.thm := rfl
@[simp] theorem State.setRf_bnk {f : RF} {v : Nat} : (s.setRf f v).bnk = s.bnk := rfl
@[simp] theorem State.setRf_obs {f : RF} {v : Nat} : (s.setRf f v).obs = s.obs := rfl
@[simp] theorem State.setRf_recd {f : RF} {v : Nat} : (s.setRf f v).recd = s.recd := rfl
@[simp] theorem State.setRf_seq {f : RF} {v : Nat} : (s.setRf f v).seq = s.seq := rfl
@[simp] theorem State.setRf_cmd {f : RF} {v : Nat} : (s.setRf f v).cmd = s.cmd := rfl
@[simp] theorem State.setRf_jregs {f : RF} {v : Nat} : (s.setRf f v).jregs = s.jregs := rfl
@[simp] theorem State.setRf_capKeys {f : RF} {v : Nat} : (s.setRf f v).capKeys = s.capKeys := rfl

/-! #### setJf -/

@[simp] theorem State.setJf_pending {c : Nat} {f : RF} {v : Nat} : (s.setJf c f v).pending = s.pending := rfl
@[simp] theorem State.setJf_out {c : Nat} {f : RF} {v : Nat} : (s.setJf c f v).out = s.out := rfl
@[simp] theorem State.setJf_freeCtr {c : Nat} {f : RF} {v : Nat} : (s.setJf c f v).freeCtr = s.freeCtr := rfl
@[simp] theorem State.setJf_fuse {c : Nat} {f : RF} {v : Nat} : (s.setJf c f v).fuse = s.fuse := rfl
@[simp] theorem State.setJf_isl {c : Nat} {f : RF} {v : Nat} : (s.setJf c f v).isl = s.isl := rfl
@[simp] theorem State.setJf_tim {c : Nat} {f : RF} {v : Nat} : (s.setJf c f v).tim = s.tim := rfl
@[simp] theorem State.setJf_col {c : Nat} {f : RF} {v : Nat} : (s.setJf c f v).col = s.col := rfl
@[simp] theorem State.setJf_taps {c : Nat} {f : RF} {v : Nat} : (s.setJf c f v).taps = s.taps := rfl
@[simp] theorem State.setJf_gov {c : Nat} {f : RF} {v : Nat} : (s.setJf c f v).gov = s.gov := rfl
@[simp] theorem State.setJf_esc {c : Nat} {f : RF} {v : Nat} : (s.setJf c f v).esc = s.esc := rfl
@[simp] theorem State.setJf_dig {c : Nat} {f : RF} {v : Nat} : (s.setJf c f v).dig = s.dig := rfl
@[simp] theorem State.setJf_jrn {c : Nat} {f : RF} {v : Nat} : (s.setJf c f v).jrn = s.jrn := rfl
@[simp] theorem State.setJf_fab {c : Nat} {f : RF} {v : Nat} : (s.setJf c f v).fab = s.fab := rfl
@[simp] theorem State.setJf_scr {c : Nat} {f : RF} {v : Nat} : (s.setJf c f v).scr = s.scr := rfl
@[simp] theorem State.setJf_thm {c : Nat} {f : RF} {v : Nat} : (s.setJf c f v).thm = s.thm := rfl
@[simp] theorem State.setJf_bnk {c : Nat} {f : RF} {v : Nat} : (s.setJf c f v).bnk = s.bnk := rfl
@[simp] theorem State.setJf_obs {c : Nat} {f : RF} {v : Nat} : (s.setJf c f v).obs = s.obs := rfl
@[simp] theorem State.setJf_recd {c : Nat} {f : RF} {v : Nat} : (s.setJf c f v).recd = s.recd := rfl
@[simp] theorem State.setJf_seq {c : Nat} {f : RF} {v : Nat} : (s.setJf c f v).seq = s.seq := rfl
@[simp] theorem State.setJf_cmd {c : Nat} {f : RF} {v : Nat} : (s.setJf c f v).cmd = s.cmd := rfl
@[simp] theorem State.setJf_mregs {c : Nat} {f : RF} {v : Nat} : (s.setJf c f v).mregs = s.mregs := rfl
@[simp] theorem State.setJf_capKeys {c : Nat} {f : RF} {v : Nat} : (s.setJf c f v).capKeys = s.capKeys := rfl

/-! #### emit -/

@[simp] theorem emit_pending {o : Output} : (emit o s).pending = s.pending := rfl
@[simp] theorem emit_freeCtr {o : Output} : (emit o s).freeCtr = s.freeCtr := rfl
@[simp] theorem emit_fuse {o : Output} : (emit o s).fuse = s.fuse := rfl
@[simp] theorem emit_isl {o : Output} : (emit o s).isl = s.isl := rfl
@[simp] theorem emit_tim {o : Output} : (emit o s).tim = s.tim := rfl
@[simp] theorem emit_col {o : Output} : (emit o s).col = s.col := rfl
@[simp] theorem emit_taps {o : Output} : (emit o s).taps = s.taps := rfl
@[simp] theorem emit_gov {o : Output} : (emit o s).gov = s.gov := rfl
@[simp] theorem emit_esc {o : Output} : (emit o s).esc = s.esc := rfl
@[simp] theorem emit_dig {o : Output} : (emit o s).dig = s.dig := rfl
@[simp] theorem emit_jrn {o : Output} : (emit o s).jrn = s.jrn := rfl
@[simp] theorem emit_fab {o : Output} : (emit o s).fab = s.fab := rfl
@[simp] theorem emit_scr {o : Output} : (emit o s).scr = s.scr := rfl
@[simp] theorem emit_thm {o : Output} : (emit o s).thm = s.thm := rfl
@[simp] theorem emit_bnk {o : Output} : (emit o s).bnk = s.bnk := rfl
@[simp] theorem emit_obs {o : Output} : (emit o s).obs = s.obs := rfl
@[simp] theorem emit_recd {o : Output} : (emit o s).recd = s.recd := rfl
@[simp] theorem emit_seq {o : Output} : (emit o s).seq = s.seq := rfl
@[simp] theorem emit_cmd {o : Output} : (emit o s).cmd = s.cmd := rfl
@[simp] theorem emit_mregs {o : Output} : (emit o s).mregs = s.mregs := rfl
@[simp] theorem emit_jregs {o : Output} : (emit o s).jregs = s.jregs := rfl
@[simp] theorem emit_capKeys {o : Output} : (emit o s).capKeys = s.capKeys := rfl

/-! #### raiseOn -/

@[simp] theorem raiseOn_pending {link unit : Nat} {m : W128} : (raiseOn link unit m s).pending = s.pending := rfl
@[simp] theorem raiseOn_out {link unit : Nat} {m : W128} : (raiseOn link unit m s).out = s.out := rfl
@[simp] theorem raiseOn_freeCtr {link unit : Nat} {m : W128} : (raiseOn link unit m s).freeCtr = s.freeCtr := rfl
@[simp] theorem raiseOn_fuse {link unit : Nat} {m : W128} : (raiseOn link unit m s).fuse = s.fuse := rfl
@[simp] theorem raiseOn_isl {link unit : Nat} {m : W128} : (raiseOn link unit m s).isl = s.isl := rfl
@[simp] theorem raiseOn_tim {link unit : Nat} {m : W128} : (raiseOn link unit m s).tim = s.tim := rfl
@[simp] theorem raiseOn_taps {link unit : Nat} {m : W128} : (raiseOn link unit m s).taps = s.taps := rfl
@[simp] theorem raiseOn_gov {link unit : Nat} {m : W128} : (raiseOn link unit m s).gov = s.gov := rfl
@[simp] theorem raiseOn_esc {link unit : Nat} {m : W128} : (raiseOn link unit m s).esc = s.esc := rfl
@[simp] theorem raiseOn_dig {link unit : Nat} {m : W128} : (raiseOn link unit m s).dig = s.dig := rfl
@[simp] theorem raiseOn_jrn {link unit : Nat} {m : W128} : (raiseOn link unit m s).jrn = s.jrn := rfl
@[simp] theorem raiseOn_fab {link unit : Nat} {m : W128} : (raiseOn link unit m s).fab = s.fab := rfl
@[simp] theorem raiseOn_scr {link unit : Nat} {m : W128} : (raiseOn link unit m s).scr = s.scr := rfl
@[simp] theorem raiseOn_thm {link unit : Nat} {m : W128} : (raiseOn link unit m s).thm = s.thm := rfl
@[simp] theorem raiseOn_bnk {link unit : Nat} {m : W128} : (raiseOn link unit m s).bnk = s.bnk := rfl
@[simp] theorem raiseOn_obs {link unit : Nat} {m : W128} : (raiseOn link unit m s).obs = s.obs := rfl
@[simp] theorem raiseOn_recd {link unit : Nat} {m : W128} : (raiseOn link unit m s).recd = s.recd := rfl
@[simp] theorem raiseOn_seq {link unit : Nat} {m : W128} : (raiseOn link unit m s).seq = s.seq := rfl
@[simp] theorem raiseOn_cmd {link unit : Nat} {m : W128} : (raiseOn link unit m s).cmd = s.cmd := rfl
@[simp] theorem raiseOn_mregs {link unit : Nat} {m : W128} : (raiseOn link unit m s).mregs = s.mregs := rfl
@[simp] theorem raiseOn_jregs {link unit : Nat} {m : W128} : (raiseOn link unit m s).jregs = s.jregs := rfl
@[simp] theorem raiseOn_capKeys {link unit : Nat} {m : W128} : (raiseOn link unit m s).capKeys = s.capKeys := rfl

/-! #### raiseHub -/

@[simp] theorem raiseHub_pending {u kind d : Nat} {l : Loc} : (raiseHub u kind l d s).pending = s.pending := rfl
@[simp] theorem raiseHub_out {u kind d : Nat} {l : Loc} : (raiseHub u kind l d s).out = s.out := rfl
@[simp] theorem raiseHub_freeCtr {u kind d : Nat} {l : Loc} : (raiseHub u kind l d s).freeCtr = s.freeCtr := rfl
@[simp] theorem raiseHub_fuse {u kind d : Nat} {l : Loc} : (raiseHub u kind l d s).fuse = s.fuse := rfl
@[simp] theorem raiseHub_isl {u kind d : Nat} {l : Loc} : (raiseHub u kind l d s).isl = s.isl := rfl
@[simp] theorem raiseHub_tim {u kind d : Nat} {l : Loc} : (raiseHub u kind l d s).tim = s.tim := rfl
@[simp] theorem raiseHub_taps {u kind d : Nat} {l : Loc} : (raiseHub u kind l d s).taps = s.taps := rfl
@[simp] theorem raiseHub_gov {u kind d : Nat} {l : Loc} : (raiseHub u kind l d s).gov = s.gov := rfl
@[simp] theorem raiseHub_esc {u kind d : Nat} {l : Loc} : (raiseHub u kind l d s).esc = s.esc := rfl
@[simp] theorem raiseHub_dig {u kind d : Nat} {l : Loc} : (raiseHub u kind l d s).dig = s.dig := rfl
@[simp] theorem raiseHub_jrn {u kind d : Nat} {l : Loc} : (raiseHub u kind l d s).jrn = s.jrn := rfl
@[simp] theorem raiseHub_fab {u kind d : Nat} {l : Loc} : (raiseHub u kind l d s).fab = s.fab := rfl
@[simp] theorem raiseHub_scr {u kind d : Nat} {l : Loc} : (raiseHub u kind l d s).scr = s.scr := rfl
@[simp] theorem raiseHub_thm {u kind d : Nat} {l : Loc} : (raiseHub u kind l d s).thm = s.thm := rfl
@[simp] theorem raiseHub_bnk {u kind d : Nat} {l : Loc} : (raiseHub u kind l d s).bnk = s.bnk := rfl
@[simp] theorem raiseHub_obs {u kind d : Nat} {l : Loc} : (raiseHub u kind l d s).obs = s.obs := rfl
@[simp] theorem raiseHub_recd {u kind d : Nat} {l : Loc} : (raiseHub u kind l d s).recd = s.recd := rfl
@[simp] theorem raiseHub_seq {u kind d : Nat} {l : Loc} : (raiseHub u kind l d s).seq = s.seq := rfl
@[simp] theorem raiseHub_cmd {u kind d : Nat} {l : Loc} : (raiseHub u kind l d s).cmd = s.cmd := rfl
@[simp] theorem raiseHub_mregs {u kind d : Nat} {l : Loc} : (raiseHub u kind l d s).mregs = s.mregs := rfl
@[simp] theorem raiseHub_jregs {u kind d : Nat} {l : Loc} : (raiseHub u kind l d s).jregs = s.jregs := rfl
@[simp] theorem raiseHub_capKeys {u kind d : Nat} {l : Loc} : (raiseHub u kind l d s).capKeys = s.capKeys := rfl

/-! #### count -/

@[simp] theorem count_pending {i n : Nat} : (count i n s).pending = s.pending := rfl
@[simp] theorem count_out {i n : Nat} : (count i n s).out = s.out := rfl
@[simp] theorem count_freeCtr {i n : Nat} : (count i n s).freeCtr = s.freeCtr := rfl
@[simp] theorem count_fuse {i n : Nat} : (count i n s).fuse = s.fuse := rfl
@[simp] theorem count_isl {i n : Nat} : (count i n s).isl = s.isl := rfl
@[simp] theorem count_tim {i n : Nat} : (count i n s).tim = s.tim := rfl
@[simp] theorem count_col {i n : Nat} : (count i n s).col = s.col := rfl
@[simp] theorem count_taps {i n : Nat} : (count i n s).taps = s.taps := rfl
@[simp] theorem count_gov {i n : Nat} : (count i n s).gov = s.gov := rfl
@[simp] theorem count_esc {i n : Nat} : (count i n s).esc = s.esc := rfl
@[simp] theorem count_dig {i n : Nat} : (count i n s).dig = s.dig := rfl
@[simp] theorem count_jrn {i n : Nat} : (count i n s).jrn = s.jrn := rfl
@[simp] theorem count_fab {i n : Nat} : (count i n s).fab = s.fab := rfl
@[simp] theorem count_scr {i n : Nat} : (count i n s).scr = s.scr := rfl
@[simp] theorem count_thm {i n : Nat} : (count i n s).thm = s.thm := rfl
@[simp] theorem count_bnk {i n : Nat} : (count i n s).bnk = s.bnk := rfl
@[simp] theorem count_recd {i n : Nat} : (count i n s).recd = s.recd := rfl
@[simp] theorem count_seq {i n : Nat} : (count i n s).seq = s.seq := rfl
@[simp] theorem count_cmd {i n : Nat} : (count i n s).cmd = s.cmd := rfl
@[simp] theorem count_mregs {i n : Nat} : (count i n s).mregs = s.mregs := rfl
@[simp] theorem count_jregs {i n : Nat} : (count i n s).jregs = s.jregs := rfl
@[simp] theorem count_capKeys {i n : Nat} : (count i n s).capKeys = s.capKeys := rfl

/-! #### pushRec -/

@[simp] theorem pushRec_pending {hw : Bool} {r : BitVec 512} : (pushRec hw r s).pending = s.pending := by
  unfold pushRec
  repeat' split
  all_goals rfl
@[simp] theorem pushRec_out {hw : Bool} {r : BitVec 512} : (pushRec hw r s).out = s.out := by
  unfold pushRec
  repeat' split
  all_goals rfl
@[simp] theorem pushRec_freeCtr {hw : Bool} {r : BitVec 512} : (pushRec hw r s).freeCtr = s.freeCtr := by
  unfold pushRec
  repeat' split
  all_goals rfl
@[simp] theorem pushRec_fuse {hw : Bool} {r : BitVec 512} : (pushRec hw r s).fuse = s.fuse := by
  unfold pushRec
  repeat' split
  all_goals rfl
@[simp] theorem pushRec_isl {hw : Bool} {r : BitVec 512} : (pushRec hw r s).isl = s.isl := by
  unfold pushRec
  repeat' split
  all_goals rfl
@[simp] theorem pushRec_tim {hw : Bool} {r : BitVec 512} : (pushRec hw r s).tim = s.tim := by
  unfold pushRec
  repeat' split
  all_goals rfl
@[simp] theorem pushRec_col {hw : Bool} {r : BitVec 512} : (pushRec hw r s).col = s.col := by
  unfold pushRec
  repeat' split
  all_goals rfl
@[simp] theorem pushRec_taps {hw : Bool} {r : BitVec 512} : (pushRec hw r s).taps = s.taps := by
  unfold pushRec
  repeat' split
  all_goals rfl
@[simp] theorem pushRec_gov {hw : Bool} {r : BitVec 512} : (pushRec hw r s).gov = s.gov := by
  unfold pushRec
  repeat' split
  all_goals rfl
@[simp] theorem pushRec_esc {hw : Bool} {r : BitVec 512} : (pushRec hw r s).esc = s.esc := by
  unfold pushRec
  repeat' split
  all_goals rfl
@[simp] theorem pushRec_dig {hw : Bool} {r : BitVec 512} : (pushRec hw r s).dig = s.dig := by
  unfold pushRec
  repeat' split
  all_goals rfl
@[simp] theorem pushRec_jrn {hw : Bool} {r : BitVec 512} : (pushRec hw r s).jrn = s.jrn := by
  unfold pushRec
  repeat' split
  all_goals rfl
@[simp] theorem pushRec_fab {hw : Bool} {r : BitVec 512} : (pushRec hw r s).fab = s.fab := by
  unfold pushRec
  repeat' split
  all_goals rfl
@[simp] theorem pushRec_scr {hw : Bool} {r : BitVec 512} : (pushRec hw r s).scr = s.scr := by
  unfold pushRec
  repeat' split
  all_goals rfl
@[simp] theorem pushRec_thm {hw : Bool} {r : BitVec 512} : (pushRec hw r s).thm = s.thm := by
  unfold pushRec
  repeat' split
  all_goals rfl
@[simp] theorem pushRec_bnk {hw : Bool} {r : BitVec 512} : (pushRec hw r s).bnk = s.bnk := by
  unfold pushRec
  repeat' split
  all_goals rfl
@[simp] theorem pushRec_obs {hw : Bool} {r : BitVec 512} : (pushRec hw r s).obs = s.obs := by
  unfold pushRec
  repeat' split
  all_goals rfl
@[simp] theorem pushRec_seq {hw : Bool} {r : BitVec 512} : (pushRec hw r s).seq = s.seq := by
  unfold pushRec
  repeat' split
  all_goals rfl
@[simp] theorem pushRec_cmd {hw : Bool} {r : BitVec 512} : (pushRec hw r s).cmd = s.cmd := by
  unfold pushRec
  repeat' split
  all_goals rfl
@[simp] theorem pushRec_mregs {hw : Bool} {r : BitVec 512} : (pushRec hw r s).mregs = s.mregs := by
  unfold pushRec
  repeat' split
  all_goals rfl
@[simp] theorem pushRec_jregs {hw : Bool} {r : BitVec 512} : (pushRec hw r s).jregs = s.jregs := by
  unfold pushRec
  repeat' split
  all_goals rfl
@[simp] theorem pushRec_capKeys {hw : Bool} {r : BitVec 512} : (pushRec hw r s).capKeys = s.capKeys := by
  unfold pushRec
  repeat' split
  all_goals rfl

/-! #### updComp -/

@[simp] theorem updComp_pending {c : Nat} {f : Comp → Comp} : (updComp c f s).pending = s.pending := rfl
@[simp] theorem updComp_out {c : Nat} {f : Comp → Comp} : (updComp c f s).out = s.out := rfl
@[simp] theorem updComp_freeCtr {c : Nat} {f : Comp → Comp} : (updComp c f s).freeCtr = s.freeCtr := rfl
@[simp] theorem updComp_fuse {c : Nat} {f : Comp → Comp} : (updComp c f s).fuse = s.fuse := rfl
@[simp] theorem updComp_isl {c : Nat} {f : Comp → Comp} : (updComp c f s).isl = s.isl := rfl
@[simp] theorem updComp_tim {c : Nat} {f : Comp → Comp} : (updComp c f s).tim = s.tim := rfl
@[simp] theorem updComp_col {c : Nat} {f : Comp → Comp} : (updComp c f s).col = s.col := rfl
@[simp] theorem updComp_taps {c : Nat} {f : Comp → Comp} : (updComp c f s).taps = s.taps := rfl
@[simp] theorem updComp_gov {c : Nat} {f : Comp → Comp} : (updComp c f s).gov = s.gov := rfl
@[simp] theorem updComp_esc {c : Nat} {f : Comp → Comp} : (updComp c f s).esc = s.esc := rfl
@[simp] theorem updComp_dig {c : Nat} {f : Comp → Comp} : (updComp c f s).dig = s.dig := rfl
@[simp] theorem updComp_jrn {c : Nat} {f : Comp → Comp} : (updComp c f s).jrn = s.jrn := rfl
@[simp] theorem updComp_fab {c : Nat} {f : Comp → Comp} : (updComp c f s).fab = s.fab := rfl
@[simp] theorem updComp_scr {c : Nat} {f : Comp → Comp} : (updComp c f s).scr = s.scr := rfl
@[simp] theorem updComp_thm {c : Nat} {f : Comp → Comp} : (updComp c f s).thm = s.thm := rfl
@[simp] theorem updComp_bnk {c : Nat} {f : Comp → Comp} : (updComp c f s).bnk = s.bnk := rfl
@[simp] theorem updComp_obs {c : Nat} {f : Comp → Comp} : (updComp c f s).obs = s.obs := rfl
@[simp] theorem updComp_recd {c : Nat} {f : Comp → Comp} : (updComp c f s).recd = s.recd := rfl
@[simp] theorem updComp_seq {c : Nat} {f : Comp → Comp} : (updComp c f s).seq = s.seq := rfl
@[simp] theorem updComp_mregs {c : Nat} {f : Comp → Comp} : (updComp c f s).mregs = s.mregs := rfl
@[simp] theorem updComp_jregs {c : Nat} {f : Comp → Comp} : (updComp c f s).jregs = s.jregs := rfl
@[simp] theorem updComp_capKeys {c : Nat} {f : Comp → Comp} : (updComp c f s).capKeys = s.capKeys := rfl

/-! #### updTap -/

@[simp] theorem updTap_pending {tap : Nat} {f : Tap → Tap} : (updTap tap f s).pending = s.pending := rfl
@[simp] theorem updTap_out {tap : Nat} {f : Tap → Tap} : (updTap tap f s).out = s.out := rfl
@[simp] theorem updTap_freeCtr {tap : Nat} {f : Tap → Tap} : (updTap tap f s).freeCtr = s.freeCtr := rfl
@[simp] theorem updTap_fuse {tap : Nat} {f : Tap → Tap} : (updTap tap f s).fuse = s.fuse := rfl
@[simp] theorem updTap_isl {tap : Nat} {f : Tap → Tap} : (updTap tap f s).isl = s.isl := rfl
@[simp] theorem updTap_tim {tap : Nat} {f : Tap → Tap} : (updTap tap f s).tim = s.tim := rfl
@[simp] theorem updTap_col {tap : Nat} {f : Tap → Tap} : (updTap tap f s).col = s.col := rfl
@[simp] theorem updTap_gov {tap : Nat} {f : Tap → Tap} : (updTap tap f s).gov = s.gov := rfl
@[simp] theorem updTap_esc {tap : Nat} {f : Tap → Tap} : (updTap tap f s).esc = s.esc := rfl
@[simp] theorem updTap_dig {tap : Nat} {f : Tap → Tap} : (updTap tap f s).dig = s.dig := rfl
@[simp] theorem updTap_jrn {tap : Nat} {f : Tap → Tap} : (updTap tap f s).jrn = s.jrn := rfl
@[simp] theorem updTap_fab {tap : Nat} {f : Tap → Tap} : (updTap tap f s).fab = s.fab := rfl
@[simp] theorem updTap_scr {tap : Nat} {f : Tap → Tap} : (updTap tap f s).scr = s.scr := rfl
@[simp] theorem updTap_thm {tap : Nat} {f : Tap → Tap} : (updTap tap f s).thm = s.thm := rfl
@[simp] theorem updTap_bnk {tap : Nat} {f : Tap → Tap} : (updTap tap f s).bnk = s.bnk := rfl
@[simp] theorem updTap_obs {tap : Nat} {f : Tap → Tap} : (updTap tap f s).obs = s.obs := rfl
@[simp] theorem updTap_recd {tap : Nat} {f : Tap → Tap} : (updTap tap f s).recd = s.recd := rfl
@[simp] theorem updTap_seq {tap : Nat} {f : Tap → Tap} : (updTap tap f s).seq = s.seq := rfl
@[simp] theorem updTap_cmd {tap : Nat} {f : Tap → Tap} : (updTap tap f s).cmd = s.cmd := rfl
@[simp] theorem updTap_mregs {tap : Nat} {f : Tap → Tap} : (updTap tap f s).mregs = s.mregs := rfl
@[simp] theorem updTap_jregs {tap : Nat} {f : Tap → Tap} : (updTap tap f s).jregs = s.jregs := rfl
@[simp] theorem updTap_capKeys {tap : Nat} {f : Tap → Tap} : (updTap tap f s).capKeys = s.capKeys := rfl

/-! #### updPair -/

@[simp] theorem updPair_pending {b : Bool} {f : Pair → Pair} : (updPair b f s).pending = s.pending := by
  cases b <;> rfl
@[simp] theorem updPair_out {b : Bool} {f : Pair → Pair} : (updPair b f s).out = s.out := by
  cases b <;> rfl
@[simp] theorem updPair_freeCtr {b : Bool} {f : Pair → Pair} : (updPair b f s).freeCtr = s.freeCtr := by
  cases b <;> rfl
@[simp] theorem updPair_fuse {b : Bool} {f : Pair → Pair} : (updPair b f s).fuse = s.fuse := by
  cases b <;> rfl
@[simp] theorem updPair_isl {b : Bool} {f : Pair → Pair} : (updPair b f s).isl = s.isl := by
  cases b <;> rfl
@[simp] theorem updPair_tim {b : Bool} {f : Pair → Pair} : (updPair b f s).tim = s.tim := by
  cases b <;> rfl
@[simp] theorem updPair_col {b : Bool} {f : Pair → Pair} : (updPair b f s).col = s.col := by
  cases b <;> rfl
@[simp] theorem updPair_taps {b : Bool} {f : Pair → Pair} : (updPair b f s).taps = s.taps := by
  cases b <;> rfl
@[simp] theorem updPair_gov {b : Bool} {f : Pair → Pair} : (updPair b f s).gov = s.gov := by
  cases b <;> rfl
@[simp] theorem updPair_esc {b : Bool} {f : Pair → Pair} : (updPair b f s).esc = s.esc := by
  cases b <;> rfl
@[simp] theorem updPair_dig {b : Bool} {f : Pair → Pair} : (updPair b f s).dig = s.dig := by
  cases b <;> rfl
@[simp] theorem updPair_jrn {b : Bool} {f : Pair → Pair} : (updPair b f s).jrn = s.jrn := by
  cases b <;> rfl
@[simp] theorem updPair_fab {b : Bool} {f : Pair → Pair} : (updPair b f s).fab = s.fab := by
  cases b <;> rfl
@[simp] theorem updPair_scr {b : Bool} {f : Pair → Pair} : (updPair b f s).scr = s.scr := by
  cases b <;> rfl
@[simp] theorem updPair_thm {b : Bool} {f : Pair → Pair} : (updPair b f s).thm = s.thm := by
  cases b <;> rfl
@[simp] theorem updPair_bnk {b : Bool} {f : Pair → Pair} : (updPair b f s).bnk = s.bnk := by
  cases b <;> rfl
@[simp] theorem updPair_obs {b : Bool} {f : Pair → Pair} : (updPair b f s).obs = s.obs := by
  cases b <;> rfl
@[simp] theorem updPair_recd {b : Bool} {f : Pair → Pair} : (updPair b f s).recd = s.recd := by
  cases b <;> rfl
@[simp] theorem updPair_cmd {b : Bool} {f : Pair → Pair} : (updPair b f s).cmd = s.cmd := by
  cases b <;> rfl
@[simp] theorem updPair_mregs {b : Bool} {f : Pair → Pair} : (updPair b f s).mregs = s.mregs := by
  cases b <;> rfl
@[simp] theorem updPair_jregs {b : Bool} {f : Pair → Pair} : (updPair b f s).jregs = s.jregs := by
  cases b <;> rfl
@[simp] theorem updPair_capKeys {b : Bool} {f : Pair → Pair} : (updPair b f s).capKeys = s.capKeys := by
  cases b <;> rfl

/-! #### updBank -/

@[simp] theorem updBank_pending {b : Nat} {f : BankReg → BankReg} : (updBank b f s).pending = s.pending := rfl
@[simp] theorem updBank_out {b : Nat} {f : BankReg → BankReg} : (updBank b f s).out = s.out := rfl
@[simp] theorem updBank_freeCtr {b : Nat} {f : BankReg → BankReg} : (updBank b f s).freeCtr = s.freeCtr := rfl
@[simp] theorem updBank_fuse {b : Nat} {f : BankReg → BankReg} : (updBank b f s).fuse = s.fuse := rfl
@[simp] theorem updBank_isl {b : Nat} {f : BankReg → BankReg} : (updBank b f s).isl = s.isl := rfl
@[simp] theorem updBank_tim {b : Nat} {f : BankReg → BankReg} : (updBank b f s).tim = s.tim := rfl
@[simp] theorem updBank_col {b : Nat} {f : BankReg → BankReg} : (updBank b f s).col = s.col := rfl
@[simp] theorem updBank_taps {b : Nat} {f : BankReg → BankReg} : (updBank b f s).taps = s.taps := rfl
@[simp] theorem updBank_gov {b : Nat} {f : BankReg → BankReg} : (updBank b f s).gov = s.gov := rfl
@[simp] theorem updBank_esc {b : Nat} {f : BankReg → BankReg} : (updBank b f s).esc = s.esc := rfl
@[simp] theorem updBank_dig {b : Nat} {f : BankReg → BankReg} : (updBank b f s).dig = s.dig := rfl
@[simp] theorem updBank_jrn {b : Nat} {f : BankReg → BankReg} : (updBank b f s).jrn = s.jrn := rfl
@[simp] theorem updBank_fab {b : Nat} {f : BankReg → BankReg} : (updBank b f s).fab = s.fab := rfl
@[simp] theorem updBank_scr {b : Nat} {f : BankReg → BankReg} : (updBank b f s).scr = s.scr := rfl
@[simp] theorem updBank_thm {b : Nat} {f : BankReg → BankReg} : (updBank b f s).thm = s.thm := rfl
@[simp] theorem updBank_obs {b : Nat} {f : BankReg → BankReg} : (updBank b f s).obs = s.obs := rfl
@[simp] theorem updBank_recd {b : Nat} {f : BankReg → BankReg} : (updBank b f s).recd = s.recd := rfl
@[simp] theorem updBank_seq {b : Nat} {f : BankReg → BankReg} : (updBank b f s).seq = s.seq := rfl
@[simp] theorem updBank_cmd {b : Nat} {f : BankReg → BankReg} : (updBank b f s).cmd = s.cmd := rfl
@[simp] theorem updBank_mregs {b : Nat} {f : BankReg → BankReg} : (updBank b f s).mregs = s.mregs := rfl
@[simp] theorem updBank_jregs {b : Nat} {f : BankReg → BankReg} : (updBank b f s).jregs = s.jregs := rfl
@[simp] theorem updBank_capKeys {b : Nat} {f : BankReg → BankReg} : (updBank b f s).capKeys = s.capKeys := rfl

/-! #### updDig -/

@[simp] theorem updDig_pending {c : Nat} {f : DigComp → DigComp} : (updDig c f s).pending = s.pending := rfl
@[simp] theorem updDig_out {c : Nat} {f : DigComp → DigComp} : (updDig c f s).out = s.out := rfl
@[simp] theorem updDig_freeCtr {c : Nat} {f : DigComp → DigComp} : (updDig c f s).freeCtr = s.freeCtr := rfl
@[simp] theorem updDig_fuse {c : Nat} {f : DigComp → DigComp} : (updDig c f s).fuse = s.fuse := rfl
@[simp] theorem updDig_isl {c : Nat} {f : DigComp → DigComp} : (updDig c f s).isl = s.isl := rfl
@[simp] theorem updDig_tim {c : Nat} {f : DigComp → DigComp} : (updDig c f s).tim = s.tim := rfl
@[simp] theorem updDig_col {c : Nat} {f : DigComp → DigComp} : (updDig c f s).col = s.col := rfl
@[simp] theorem updDig_taps {c : Nat} {f : DigComp → DigComp} : (updDig c f s).taps = s.taps := rfl
@[simp] theorem updDig_gov {c : Nat} {f : DigComp → DigComp} : (updDig c f s).gov = s.gov := rfl
@[simp] theorem updDig_esc {c : Nat} {f : DigComp → DigComp} : (updDig c f s).esc = s.esc := rfl
@[simp] theorem updDig_jrn {c : Nat} {f : DigComp → DigComp} : (updDig c f s).jrn = s.jrn := rfl
@[simp] theorem updDig_fab {c : Nat} {f : DigComp → DigComp} : (updDig c f s).fab = s.fab := rfl
@[simp] theorem updDig_scr {c : Nat} {f : DigComp → DigComp} : (updDig c f s).scr = s.scr := rfl
@[simp] theorem updDig_thm {c : Nat} {f : DigComp → DigComp} : (updDig c f s).thm = s.thm := rfl
@[simp] theorem updDig_bnk {c : Nat} {f : DigComp → DigComp} : (updDig c f s).bnk = s.bnk := rfl
@[simp] theorem updDig_obs {c : Nat} {f : DigComp → DigComp} : (updDig c f s).obs = s.obs := rfl
@[simp] theorem updDig_recd {c : Nat} {f : DigComp → DigComp} : (updDig c f s).recd = s.recd := rfl
@[simp] theorem updDig_seq {c : Nat} {f : DigComp → DigComp} : (updDig c f s).seq = s.seq := rfl
@[simp] theorem updDig_cmd {c : Nat} {f : DigComp → DigComp} : (updDig c f s).cmd = s.cmd := rfl
@[simp] theorem updDig_mregs {c : Nat} {f : DigComp → DigComp} : (updDig c f s).mregs = s.mregs := rfl
@[simp] theorem updDig_jregs {c : Nat} {f : DigComp → DigComp} : (updDig c f s).jregs = s.jregs := rfl
@[simp] theorem updDig_capKeys {c : Nat} {f : DigComp → DigComp} : (updDig c f s).capKeys = s.capKeys := rfl

/-! #### updArb -/

@[simp] theorem updArb_pending {c : Nat} {f : Arb → Arb} : (updArb c f s).pending = s.pending := rfl
@[simp] theorem updArb_out {c : Nat} {f : Arb → Arb} : (updArb c f s).out = s.out := rfl
@[simp] theorem updArb_freeCtr {c : Nat} {f : Arb → Arb} : (updArb c f s).freeCtr = s.freeCtr := rfl
@[simp] theorem updArb_fuse {c : Nat} {f : Arb → Arb} : (updArb c f s).fuse = s.fuse := rfl
@[simp] theorem updArb_isl {c : Nat} {f : Arb → Arb} : (updArb c f s).isl = s.isl := rfl
@[simp] theorem updArb_tim {c : Nat} {f : Arb → Arb} : (updArb c f s).tim = s.tim := rfl
@[simp] theorem updArb_col {c : Nat} {f : Arb → Arb} : (updArb c f s).col = s.col := rfl
@[simp] theorem updArb_taps {c : Nat} {f : Arb → Arb} : (updArb c f s).taps = s.taps := rfl
@[simp] theorem updArb_gov {c : Nat} {f : Arb → Arb} : (updArb c f s).gov = s.gov := rfl
@[simp] theorem updArb_esc {c : Nat} {f : Arb → Arb} : (updArb c f s).esc = s.esc := rfl
@[simp] theorem updArb_jrn {c : Nat} {f : Arb → Arb} : (updArb c f s).jrn = s.jrn := rfl
@[simp] theorem updArb_fab {c : Nat} {f : Arb → Arb} : (updArb c f s).fab = s.fab := rfl
@[simp] theorem updArb_scr {c : Nat} {f : Arb → Arb} : (updArb c f s).scr = s.scr := rfl
@[simp] theorem updArb_thm {c : Nat} {f : Arb → Arb} : (updArb c f s).thm = s.thm := rfl
@[simp] theorem updArb_bnk {c : Nat} {f : Arb → Arb} : (updArb c f s).bnk = s.bnk := rfl
@[simp] theorem updArb_obs {c : Nat} {f : Arb → Arb} : (updArb c f s).obs = s.obs := rfl
@[simp] theorem updArb_recd {c : Nat} {f : Arb → Arb} : (updArb c f s).recd = s.recd := rfl
@[simp] theorem updArb_seq {c : Nat} {f : Arb → Arb} : (updArb c f s).seq = s.seq := rfl
@[simp] theorem updArb_cmd {c : Nat} {f : Arb → Arb} : (updArb c f s).cmd = s.cmd := rfl
@[simp] theorem updArb_mregs {c : Nat} {f : Arb → Arb} : (updArb c f s).mregs = s.mregs := rfl
@[simp] theorem updArb_jregs {c : Nat} {f : Arb → Arb} : (updArb c f s).jregs = s.jregs := rfl
@[simp] theorem updArb_capKeys {c : Nat} {f : Arb → Arb} : (updArb c f s).capKeys = s.capKeys := rfl

/-! #### putEntry -/

@[simp] theorem putEntry_pending {i : Nat} {e : EscEntry} : (putEntry i e s).pending = s.pending := rfl
@[simp] theorem putEntry_out {i : Nat} {e : EscEntry} : (putEntry i e s).out = s.out := rfl
@[simp] theorem putEntry_freeCtr {i : Nat} {e : EscEntry} : (putEntry i e s).freeCtr = s.freeCtr := rfl
@[simp] theorem putEntry_fuse {i : Nat} {e : EscEntry} : (putEntry i e s).fuse = s.fuse := rfl
@[simp] theorem putEntry_isl {i : Nat} {e : EscEntry} : (putEntry i e s).isl = s.isl := rfl
@[simp] theorem putEntry_tim {i : Nat} {e : EscEntry} : (putEntry i e s).tim = s.tim := rfl
@[simp] theorem putEntry_col {i : Nat} {e : EscEntry} : (putEntry i e s).col = s.col := rfl
@[simp] theorem putEntry_taps {i : Nat} {e : EscEntry} : (putEntry i e s).taps = s.taps := rfl
@[simp] theorem putEntry_gov {i : Nat} {e : EscEntry} : (putEntry i e s).gov = s.gov := rfl
@[simp] theorem putEntry_dig {i : Nat} {e : EscEntry} : (putEntry i e s).dig = s.dig := rfl
@[simp] theorem putEntry_jrn {i : Nat} {e : EscEntry} : (putEntry i e s).jrn = s.jrn := rfl
@[simp] theorem putEntry_fab {i : Nat} {e : EscEntry} : (putEntry i e s).fab = s.fab := rfl
@[simp] theorem putEntry_scr {i : Nat} {e : EscEntry} : (putEntry i e s).scr = s.scr := rfl
@[simp] theorem putEntry_thm {i : Nat} {e : EscEntry} : (putEntry i e s).thm = s.thm := rfl
@[simp] theorem putEntry_bnk {i : Nat} {e : EscEntry} : (putEntry i e s).bnk = s.bnk := rfl
@[simp] theorem putEntry_obs {i : Nat} {e : EscEntry} : (putEntry i e s).obs = s.obs := rfl
@[simp] theorem putEntry_recd {i : Nat} {e : EscEntry} : (putEntry i e s).recd = s.recd := rfl
@[simp] theorem putEntry_seq {i : Nat} {e : EscEntry} : (putEntry i e s).seq = s.seq := rfl
@[simp] theorem putEntry_cmd {i : Nat} {e : EscEntry} : (putEntry i e s).cmd = s.cmd := rfl
@[simp] theorem putEntry_mregs {i : Nat} {e : EscEntry} : (putEntry i e s).mregs = s.mregs := rfl
@[simp] theorem putEntry_jregs {i : Nat} {e : EscEntry} : (putEntry i e s).jregs = s.jregs := rfl
@[simp] theorem putEntry_capKeys {i : Nat} {e : EscEntry} : (putEntry i e s).capKeys = s.capKeys := rfl

/-! #### putLatch -/

@[simp] theorem putLatch_pending {i : Nat} {l : Latch} : (putLatch i l s).pending = s.pending := rfl
@[simp] theorem putLatch_out {i : Nat} {l : Latch} : (putLatch i l s).out = s.out := rfl
@[simp] theorem putLatch_freeCtr {i : Nat} {l : Latch} : (putLatch i l s).freeCtr = s.freeCtr := rfl
@[simp] theorem putLatch_fuse {i : Nat} {l : Latch} : (putLatch i l s).fuse = s.fuse := rfl
@[simp] theorem putLatch_isl {i : Nat} {l : Latch} : (putLatch i l s).isl = s.isl := rfl
@[simp] theorem putLatch_tim {i : Nat} {l : Latch} : (putLatch i l s).tim = s.tim := rfl
@[simp] theorem putLatch_col {i : Nat} {l : Latch} : (putLatch i l s).col = s.col := rfl
@[simp] theorem putLatch_taps {i : Nat} {l : Latch} : (putLatch i l s).taps = s.taps := rfl
@[simp] theorem putLatch_gov {i : Nat} {l : Latch} : (putLatch i l s).gov = s.gov := rfl
@[simp] theorem putLatch_esc {i : Nat} {l : Latch} : (putLatch i l s).esc = s.esc := rfl
@[simp] theorem putLatch_dig {i : Nat} {l : Latch} : (putLatch i l s).dig = s.dig := rfl
@[simp] theorem putLatch_jrn {i : Nat} {l : Latch} : (putLatch i l s).jrn = s.jrn := rfl
@[simp] theorem putLatch_scr {i : Nat} {l : Latch} : (putLatch i l s).scr = s.scr := rfl
@[simp] theorem putLatch_thm {i : Nat} {l : Latch} : (putLatch i l s).thm = s.thm := rfl
@[simp] theorem putLatch_bnk {i : Nat} {l : Latch} : (putLatch i l s).bnk = s.bnk := rfl
@[simp] theorem putLatch_obs {i : Nat} {l : Latch} : (putLatch i l s).obs = s.obs := rfl
@[simp] theorem putLatch_recd {i : Nat} {l : Latch} : (putLatch i l s).recd = s.recd := rfl
@[simp] theorem putLatch_seq {i : Nat} {l : Latch} : (putLatch i l s).seq = s.seq := rfl
@[simp] theorem putLatch_cmd {i : Nat} {l : Latch} : (putLatch i l s).cmd = s.cmd := rfl
@[simp] theorem putLatch_mregs {i : Nat} {l : Latch} : (putLatch i l s).mregs = s.mregs := rfl
@[simp] theorem putLatch_jregs {i : Nat} {l : Latch} : (putLatch i l s).jregs = s.jregs := rfl
@[simp] theorem putLatch_capKeys {i : Nat} {l : Latch} : (putLatch i l s).capKeys = s.capKeys := rfl

/-! #### takeMsg -/

@[simp] theorem takeMsg_pending {m : VcsMsg} : (takeMsg m s).pending = s.pending := rfl
@[simp] theorem takeMsg_out {m : VcsMsg} : (takeMsg m s).out = s.out := rfl
@[simp] theorem takeMsg_freeCtr {m : VcsMsg} : (takeMsg m s).freeCtr = s.freeCtr := rfl
@[simp] theorem takeMsg_fuse {m : VcsMsg} : (takeMsg m s).fuse = s.fuse := rfl
@[simp] theorem takeMsg_isl {m : VcsMsg} : (takeMsg m s).isl = s.isl := rfl
@[simp] theorem takeMsg_tim {m : VcsMsg} : (takeMsg m s).tim = s.tim := rfl
@[simp] theorem takeMsg_col {m : VcsMsg} : (takeMsg m s).col = s.col := rfl
@[simp] theorem takeMsg_taps {m : VcsMsg} : (takeMsg m s).taps = s.taps := rfl
@[simp] theorem takeMsg_gov {m : VcsMsg} : (takeMsg m s).gov = s.gov := rfl
@[simp] theorem takeMsg_esc {m : VcsMsg} : (takeMsg m s).esc = s.esc := rfl
@[simp] theorem takeMsg_dig {m : VcsMsg} : (takeMsg m s).dig = s.dig := rfl
@[simp] theorem takeMsg_jrn {m : VcsMsg} : (takeMsg m s).jrn = s.jrn := rfl
@[simp] theorem takeMsg_scr {m : VcsMsg} : (takeMsg m s).scr = s.scr := rfl
@[simp] theorem takeMsg_thm {m : VcsMsg} : (takeMsg m s).thm = s.thm := rfl
@[simp] theorem takeMsg_bnk {m : VcsMsg} : (takeMsg m s).bnk = s.bnk := rfl
@[simp] theorem takeMsg_obs {m : VcsMsg} : (takeMsg m s).obs = s.obs := rfl
@[simp] theorem takeMsg_recd {m : VcsMsg} : (takeMsg m s).recd = s.recd := rfl
@[simp] theorem takeMsg_seq {m : VcsMsg} : (takeMsg m s).seq = s.seq := rfl
@[simp] theorem takeMsg_cmd {m : VcsMsg} : (takeMsg m s).cmd = s.cmd := rfl
@[simp] theorem takeMsg_mregs {m : VcsMsg} : (takeMsg m s).mregs = s.mregs := rfl
@[simp] theorem takeMsg_jregs {m : VcsMsg} : (takeMsg m s).jregs = s.jregs := rfl
@[simp] theorem takeMsg_capKeys {m : VcsMsg} : (takeMsg m s).capKeys = s.capKeys := rfl

/-! #### dropMsg -/

@[simp] theorem dropMsg_pending {m : VcsMsg} : (dropMsg m s).pending = s.pending := rfl
@[simp] theorem dropMsg_out {m : VcsMsg} : (dropMsg m s).out = s.out := rfl
@[simp] theorem dropMsg_freeCtr {m : VcsMsg} : (dropMsg m s).freeCtr = s.freeCtr := rfl
@[simp] theorem dropMsg_fuse {m : VcsMsg} : (dropMsg m s).fuse = s.fuse := rfl
@[simp] theorem dropMsg_isl {m : VcsMsg} : (dropMsg m s).isl = s.isl := rfl
@[simp] theorem dropMsg_tim {m : VcsMsg} : (dropMsg m s).tim = s.tim := rfl
@[simp] theorem dropMsg_col {m : VcsMsg} : (dropMsg m s).col = s.col := rfl
@[simp] theorem dropMsg_taps {m : VcsMsg} : (dropMsg m s).taps = s.taps := rfl
@[simp] theorem dropMsg_gov {m : VcsMsg} : (dropMsg m s).gov = s.gov := rfl
@[simp] theorem dropMsg_esc {m : VcsMsg} : (dropMsg m s).esc = s.esc := rfl
@[simp] theorem dropMsg_dig {m : VcsMsg} : (dropMsg m s).dig = s.dig := rfl
@[simp] theorem dropMsg_jrn {m : VcsMsg} : (dropMsg m s).jrn = s.jrn := rfl
@[simp] theorem dropMsg_scr {m : VcsMsg} : (dropMsg m s).scr = s.scr := rfl
@[simp] theorem dropMsg_thm {m : VcsMsg} : (dropMsg m s).thm = s.thm := rfl
@[simp] theorem dropMsg_bnk {m : VcsMsg} : (dropMsg m s).bnk = s.bnk := rfl
@[simp] theorem dropMsg_obs {m : VcsMsg} : (dropMsg m s).obs = s.obs := rfl
@[simp] theorem dropMsg_recd {m : VcsMsg} : (dropMsg m s).recd = s.recd := rfl
@[simp] theorem dropMsg_seq {m : VcsMsg} : (dropMsg m s).seq = s.seq := rfl
@[simp] theorem dropMsg_cmd {m : VcsMsg} : (dropMsg m s).cmd = s.cmd := rfl
@[simp] theorem dropMsg_mregs {m : VcsMsg} : (dropMsg m s).mregs = s.mregs := rfl
@[simp] theorem dropMsg_jregs {m : VcsMsg} : (dropMsg m s).jregs = s.jregs := rfl
@[simp] theorem dropMsg_capKeys {m : VcsMsg} : (dropMsg m s).capKeys = s.capKeys := rfl

/-! #### pushReqs -/

@[simp] theorem pushReqs_pending {l : List W256} : (pushReqs l s).pending = s.pending := rfl
@[simp] theorem pushReqs_out {l : List W256} : (pushReqs l s).out = s.out := rfl
@[simp] theorem pushReqs_freeCtr {l : List W256} : (pushReqs l s).freeCtr = s.freeCtr := rfl
@[simp] theorem pushReqs_fuse {l : List W256} : (pushReqs l s).fuse = s.fuse := rfl
@[simp] theorem pushReqs_isl {l : List W256} : (pushReqs l s).isl = s.isl := rfl
@[simp] theorem pushReqs_tim {l : List W256} : (pushReqs l s).tim = s.tim := rfl
@[simp] theorem pushReqs_col {l : List W256} : (pushReqs l s).col = s.col := rfl
@[simp] theorem pushReqs_taps {l : List W256} : (pushReqs l s).taps = s.taps := rfl
@[simp] theorem pushReqs_gov {l : List W256} : (pushReqs l s).gov = s.gov := rfl
@[simp] theorem pushReqs_esc {l : List W256} : (pushReqs l s).esc = s.esc := rfl
@[simp] theorem pushReqs_dig {l : List W256} : (pushReqs l s).dig = s.dig := rfl
@[simp] theorem pushReqs_jrn {l : List W256} : (pushReqs l s).jrn = s.jrn := rfl
@[simp] theorem pushReqs_fab {l : List W256} : (pushReqs l s).fab = s.fab := rfl
@[simp] theorem pushReqs_scr {l : List W256} : (pushReqs l s).scr = s.scr := rfl
@[simp] theorem pushReqs_thm {l : List W256} : (pushReqs l s).thm = s.thm := rfl
@[simp] theorem pushReqs_bnk {l : List W256} : (pushReqs l s).bnk = s.bnk := rfl
@[simp] theorem pushReqs_obs {l : List W256} : (pushReqs l s).obs = s.obs := rfl
@[simp] theorem pushReqs_recd {l : List W256} : (pushReqs l s).recd = s.recd := rfl
@[simp] theorem pushReqs_cmd {l : List W256} : (pushReqs l s).cmd = s.cmd := rfl
@[simp] theorem pushReqs_mregs {l : List W256} : (pushReqs l s).mregs = s.mregs := rfl
@[simp] theorem pushReqs_jregs {l : List W256} : (pushReqs l s).jregs = s.jregs := rfl
@[simp] theorem pushReqs_capKeys {l : List W256} : (pushReqs l s).capKeys = s.capKeys := rfl

/-! #### takeReq -/

@[simp] theorem takeReq_pending {r : W256} : (takeReq r s).pending = s.pending := rfl
@[simp] theorem takeReq_out {r : W256} : (takeReq r s).out = s.out := rfl
@[simp] theorem takeReq_freeCtr {r : W256} : (takeReq r s).freeCtr = s.freeCtr := rfl
@[simp] theorem takeReq_fuse {r : W256} : (takeReq r s).fuse = s.fuse := rfl
@[simp] theorem takeReq_isl {r : W256} : (takeReq r s).isl = s.isl := rfl
@[simp] theorem takeReq_tim {r : W256} : (takeReq r s).tim = s.tim := rfl
@[simp] theorem takeReq_col {r : W256} : (takeReq r s).col = s.col := rfl
@[simp] theorem takeReq_taps {r : W256} : (takeReq r s).taps = s.taps := rfl
@[simp] theorem takeReq_gov {r : W256} : (takeReq r s).gov = s.gov := rfl
@[simp] theorem takeReq_esc {r : W256} : (takeReq r s).esc = s.esc := rfl
@[simp] theorem takeReq_dig {r : W256} : (takeReq r s).dig = s.dig := rfl
@[simp] theorem takeReq_jrn {r : W256} : (takeReq r s).jrn = s.jrn := rfl
@[simp] theorem takeReq_fab {r : W256} : (takeReq r s).fab = s.fab := rfl
@[simp] theorem takeReq_scr {r : W256} : (takeReq r s).scr = s.scr := rfl
@[simp] theorem takeReq_thm {r : W256} : (takeReq r s).thm = s.thm := rfl
@[simp] theorem takeReq_bnk {r : W256} : (takeReq r s).bnk = s.bnk := rfl
@[simp] theorem takeReq_obs {r : W256} : (takeReq r s).obs = s.obs := rfl
@[simp] theorem takeReq_recd {r : W256} : (takeReq r s).recd = s.recd := rfl
@[simp] theorem takeReq_cmd {r : W256} : (takeReq r s).cmd = s.cmd := rfl
@[simp] theorem takeReq_mregs {r : W256} : (takeReq r s).mregs = s.mregs := rfl
@[simp] theorem takeReq_jregs {r : W256} : (takeReq r s).jregs = s.jregs := rfl
@[simp] theorem takeReq_capKeys {r : W256} : (takeReq r s).capKeys = s.capKeys := rfl

/-! #### updRo -/

@[simp] theorem updRo_pending {i : Nat} {f : RoSensor → RoSensor} : (updRo i f s).pending = s.pending := rfl
@[simp] theorem updRo_out {i : Nat} {f : RoSensor → RoSensor} : (updRo i f s).out = s.out := rfl
@[simp] theorem updRo_freeCtr {i : Nat} {f : RoSensor → RoSensor} : (updRo i f s).freeCtr = s.freeCtr := rfl
@[simp] theorem updRo_fuse {i : Nat} {f : RoSensor → RoSensor} : (updRo i f s).fuse = s.fuse := rfl
@[simp] theorem updRo_isl {i : Nat} {f : RoSensor → RoSensor} : (updRo i f s).isl = s.isl := rfl
@[simp] theorem updRo_tim {i : Nat} {f : RoSensor → RoSensor} : (updRo i f s).tim = s.tim := rfl
@[simp] theorem updRo_col {i : Nat} {f : RoSensor → RoSensor} : (updRo i f s).col = s.col := rfl
@[simp] theorem updRo_taps {i : Nat} {f : RoSensor → RoSensor} : (updRo i f s).taps = s.taps := rfl
@[simp] theorem updRo_gov {i : Nat} {f : RoSensor → RoSensor} : (updRo i f s).gov = s.gov := rfl
@[simp] theorem updRo_esc {i : Nat} {f : RoSensor → RoSensor} : (updRo i f s).esc = s.esc := rfl
@[simp] theorem updRo_dig {i : Nat} {f : RoSensor → RoSensor} : (updRo i f s).dig = s.dig := rfl
@[simp] theorem updRo_jrn {i : Nat} {f : RoSensor → RoSensor} : (updRo i f s).jrn = s.jrn := rfl
@[simp] theorem updRo_fab {i : Nat} {f : RoSensor → RoSensor} : (updRo i f s).fab = s.fab := rfl
@[simp] theorem updRo_scr {i : Nat} {f : RoSensor → RoSensor} : (updRo i f s).scr = s.scr := rfl
@[simp] theorem updRo_bnk {i : Nat} {f : RoSensor → RoSensor} : (updRo i f s).bnk = s.bnk := rfl
@[simp] theorem updRo_obs {i : Nat} {f : RoSensor → RoSensor} : (updRo i f s).obs = s.obs := rfl
@[simp] theorem updRo_recd {i : Nat} {f : RoSensor → RoSensor} : (updRo i f s).recd = s.recd := rfl
@[simp] theorem updRo_seq {i : Nat} {f : RoSensor → RoSensor} : (updRo i f s).seq = s.seq := rfl
@[simp] theorem updRo_cmd {i : Nat} {f : RoSensor → RoSensor} : (updRo i f s).cmd = s.cmd := rfl
@[simp] theorem updRo_mregs {i : Nat} {f : RoSensor → RoSensor} : (updRo i f s).mregs = s.mregs := rfl
@[simp] theorem updRo_jregs {i : Nat} {f : RoSensor → RoSensor} : (updRo i f s).jregs = s.jregs := rfl
@[simp] theorem updRo_capKeys {i : Nat} {f : RoSensor → RoSensor} : (updRo i f s).capKeys = s.capKeys := rfl

/-! #### updScope -/

@[simp] theorem updScope_pending {k : Nat} {f : ThScope → ThScope} : (updScope k f s).pending = s.pending := rfl
@[simp] theorem updScope_out {k : Nat} {f : ThScope → ThScope} : (updScope k f s).out = s.out := rfl
@[simp] theorem updScope_freeCtr {k : Nat} {f : ThScope → ThScope} : (updScope k f s).freeCtr = s.freeCtr := rfl
@[simp] theorem updScope_fuse {k : Nat} {f : ThScope → ThScope} : (updScope k f s).fuse = s.fuse := rfl
@[simp] theorem updScope_isl {k : Nat} {f : ThScope → ThScope} : (updScope k f s).isl = s.isl := rfl
@[simp] theorem updScope_tim {k : Nat} {f : ThScope → ThScope} : (updScope k f s).tim = s.tim := rfl
@[simp] theorem updScope_col {k : Nat} {f : ThScope → ThScope} : (updScope k f s).col = s.col := rfl
@[simp] theorem updScope_taps {k : Nat} {f : ThScope → ThScope} : (updScope k f s).taps = s.taps := rfl
@[simp] theorem updScope_gov {k : Nat} {f : ThScope → ThScope} : (updScope k f s).gov = s.gov := rfl
@[simp] theorem updScope_esc {k : Nat} {f : ThScope → ThScope} : (updScope k f s).esc = s.esc := rfl
@[simp] theorem updScope_dig {k : Nat} {f : ThScope → ThScope} : (updScope k f s).dig = s.dig := rfl
@[simp] theorem updScope_jrn {k : Nat} {f : ThScope → ThScope} : (updScope k f s).jrn = s.jrn := rfl
@[simp] theorem updScope_fab {k : Nat} {f : ThScope → ThScope} : (updScope k f s).fab = s.fab := rfl
@[simp] theorem updScope_scr {k : Nat} {f : ThScope → ThScope} : (updScope k f s).scr = s.scr := rfl
@[simp] theorem updScope_bnk {k : Nat} {f : ThScope → ThScope} : (updScope k f s).bnk = s.bnk := rfl
@[simp] theorem updScope_obs {k : Nat} {f : ThScope → ThScope} : (updScope k f s).obs = s.obs := rfl
@[simp] theorem updScope_recd {k : Nat} {f : ThScope → ThScope} : (updScope k f s).recd = s.recd := rfl
@[simp] theorem updScope_seq {k : Nat} {f : ThScope → ThScope} : (updScope k f s).seq = s.seq := rfl
@[simp] theorem updScope_cmd {k : Nat} {f : ThScope → ThScope} : (updScope k f s).cmd = s.cmd := rfl
@[simp] theorem updScope_mregs {k : Nat} {f : ThScope → ThScope} : (updScope k f s).mregs = s.mregs := rfl
@[simp] theorem updScope_jregs {k : Nat} {f : ThScope → ThScope} : (updScope k f s).jregs = s.jregs := rfl
@[simp] theorem updScope_capKeys {k : Nat} {f : ThScope → ThScope} : (updScope k f s).capKeys = s.capKeys := rfl

/-! #### updCanary -/

@[simp] theorem updCanary_pending {i : Nat} {f : Canary → Canary} : (updCanary i f s).pending = s.pending := rfl
@[simp] theorem updCanary_out {i : Nat} {f : Canary → Canary} : (updCanary i f s).out = s.out := rfl
@[simp] theorem updCanary_freeCtr {i : Nat} {f : Canary → Canary} : (updCanary i f s).freeCtr = s.freeCtr := rfl
@[simp] theorem updCanary_fuse {i : Nat} {f : Canary → Canary} : (updCanary i f s).fuse = s.fuse := rfl
@[simp] theorem updCanary_isl {i : Nat} {f : Canary → Canary} : (updCanary i f s).isl = s.isl := rfl
@[simp] theorem updCanary_tim {i : Nat} {f : Canary → Canary} : (updCanary i f s).tim = s.tim := rfl
@[simp] theorem updCanary_col {i : Nat} {f : Canary → Canary} : (updCanary i f s).col = s.col := rfl
@[simp] theorem updCanary_taps {i : Nat} {f : Canary → Canary} : (updCanary i f s).taps = s.taps := rfl
@[simp] theorem updCanary_gov {i : Nat} {f : Canary → Canary} : (updCanary i f s).gov = s.gov := rfl
@[simp] theorem updCanary_esc {i : Nat} {f : Canary → Canary} : (updCanary i f s).esc = s.esc := rfl
@[simp] theorem updCanary_dig {i : Nat} {f : Canary → Canary} : (updCanary i f s).dig = s.dig := rfl
@[simp] theorem updCanary_jrn {i : Nat} {f : Canary → Canary} : (updCanary i f s).jrn = s.jrn := rfl
@[simp] theorem updCanary_fab {i : Nat} {f : Canary → Canary} : (updCanary i f s).fab = s.fab := rfl
@[simp] theorem updCanary_scr {i : Nat} {f : Canary → Canary} : (updCanary i f s).scr = s.scr := rfl
@[simp] theorem updCanary_bnk {i : Nat} {f : Canary → Canary} : (updCanary i f s).bnk = s.bnk := rfl
@[simp] theorem updCanary_obs {i : Nat} {f : Canary → Canary} : (updCanary i f s).obs = s.obs := rfl
@[simp] theorem updCanary_recd {i : Nat} {f : Canary → Canary} : (updCanary i f s).recd = s.recd := rfl
@[simp] theorem updCanary_seq {i : Nat} {f : Canary → Canary} : (updCanary i f s).seq = s.seq := rfl
@[simp] theorem updCanary_cmd {i : Nat} {f : Canary → Canary} : (updCanary i f s).cmd = s.cmd := rfl
@[simp] theorem updCanary_mregs {i : Nat} {f : Canary → Canary} : (updCanary i f s).mregs = s.mregs := rfl
@[simp] theorem updCanary_jregs {i : Nat} {f : Canary → Canary} : (updCanary i f s).jregs = s.jregs := rfl
@[simp] theorem updCanary_capKeys {i : Nat} {f : Canary → Canary} : (updCanary i f s).capKeys = s.capKeys := rfl

/-! #### updRail -/

@[simp] theorem updRail_pending {n : Nat} {f : Rail → Rail} : (updRail n f s).pending = s.pending := rfl
@[simp] theorem updRail_out {n : Nat} {f : Rail → Rail} : (updRail n f s).out = s.out := rfl
@[simp] theorem updRail_freeCtr {n : Nat} {f : Rail → Rail} : (updRail n f s).freeCtr = s.freeCtr := rfl
@[simp] theorem updRail_fuse {n : Nat} {f : Rail → Rail} : (updRail n f s).fuse = s.fuse := rfl
@[simp] theorem updRail_isl {n : Nat} {f : Rail → Rail} : (updRail n f s).isl = s.isl := rfl
@[simp] theorem updRail_tim {n : Nat} {f : Rail → Rail} : (updRail n f s).tim = s.tim := rfl
@[simp] theorem updRail_col {n : Nat} {f : Rail → Rail} : (updRail n f s).col = s.col := rfl
@[simp] theorem updRail_taps {n : Nat} {f : Rail → Rail} : (updRail n f s).taps = s.taps := rfl
@[simp] theorem updRail_gov {n : Nat} {f : Rail → Rail} : (updRail n f s).gov = s.gov := rfl
@[simp] theorem updRail_esc {n : Nat} {f : Rail → Rail} : (updRail n f s).esc = s.esc := rfl
@[simp] theorem updRail_dig {n : Nat} {f : Rail → Rail} : (updRail n f s).dig = s.dig := rfl
@[simp] theorem updRail_jrn {n : Nat} {f : Rail → Rail} : (updRail n f s).jrn = s.jrn := rfl
@[simp] theorem updRail_fab {n : Nat} {f : Rail → Rail} : (updRail n f s).fab = s.fab := rfl
@[simp] theorem updRail_scr {n : Nat} {f : Rail → Rail} : (updRail n f s).scr = s.scr := rfl
@[simp] theorem updRail_bnk {n : Nat} {f : Rail → Rail} : (updRail n f s).bnk = s.bnk := rfl
@[simp] theorem updRail_obs {n : Nat} {f : Rail → Rail} : (updRail n f s).obs = s.obs := rfl
@[simp] theorem updRail_recd {n : Nat} {f : Rail → Rail} : (updRail n f s).recd = s.recd := rfl
@[simp] theorem updRail_seq {n : Nat} {f : Rail → Rail} : (updRail n f s).seq = s.seq := rfl
@[simp] theorem updRail_cmd {n : Nat} {f : Rail → Rail} : (updRail n f s).cmd = s.cmd := rfl
@[simp] theorem updRail_mregs {n : Nat} {f : Rail → Rail} : (updRail n f s).mregs = s.mregs := rfl
@[simp] theorem updRail_jregs {n : Nat} {f : Rail → Rail} : (updRail n f s).jregs = s.jregs := rfl
@[simp] theorem updRail_capKeys {n : Nat} {f : Rail → Rail} : (updRail n f s).capKeys = s.capKeys := rfl

/-! #### updLease -/

@[simp] theorem updLease_pending {i : Nat} {f : Lease → Lease} : (updLease i f s).pending = s.pending := rfl
@[simp] theorem updLease_out {i : Nat} {f : Lease → Lease} : (updLease i f s).out = s.out := rfl
@[simp] theorem updLease_freeCtr {i : Nat} {f : Lease → Lease} : (updLease i f s).freeCtr = s.freeCtr := rfl
@[simp] theorem updLease_fuse {i : Nat} {f : Lease → Lease} : (updLease i f s).fuse = s.fuse := rfl
@[simp] theorem updLease_isl {i : Nat} {f : Lease → Lease} : (updLease i f s).isl = s.isl := rfl
@[simp] theorem updLease_tim {i : Nat} {f : Lease → Lease} : (updLease i f s).tim = s.tim := rfl
@[simp] theorem updLease_taps {i : Nat} {f : Lease → Lease} : (updLease i f s).taps = s.taps := rfl
@[simp] theorem updLease_gov {i : Nat} {f : Lease → Lease} : (updLease i f s).gov = s.gov := rfl
@[simp] theorem updLease_esc {i : Nat} {f : Lease → Lease} : (updLease i f s).esc = s.esc := rfl
@[simp] theorem updLease_dig {i : Nat} {f : Lease → Lease} : (updLease i f s).dig = s.dig := rfl
@[simp] theorem updLease_jrn {i : Nat} {f : Lease → Lease} : (updLease i f s).jrn = s.jrn := rfl
@[simp] theorem updLease_fab {i : Nat} {f : Lease → Lease} : (updLease i f s).fab = s.fab := rfl
@[simp] theorem updLease_scr {i : Nat} {f : Lease → Lease} : (updLease i f s).scr = s.scr := rfl
@[simp] theorem updLease_thm {i : Nat} {f : Lease → Lease} : (updLease i f s).thm = s.thm := rfl
@[simp] theorem updLease_bnk {i : Nat} {f : Lease → Lease} : (updLease i f s).bnk = s.bnk := rfl
@[simp] theorem updLease_obs {i : Nat} {f : Lease → Lease} : (updLease i f s).obs = s.obs := rfl
@[simp] theorem updLease_recd {i : Nat} {f : Lease → Lease} : (updLease i f s).recd = s.recd := rfl
@[simp] theorem updLease_seq {i : Nat} {f : Lease → Lease} : (updLease i f s).seq = s.seq := rfl
@[simp] theorem updLease_cmd {i : Nat} {f : Lease → Lease} : (updLease i f s).cmd = s.cmd := rfl
@[simp] theorem updLease_mregs {i : Nat} {f : Lease → Lease} : (updLease i f s).mregs = s.mregs := rfl
@[simp] theorem updLease_jregs {i : Nat} {f : Lease → Lease} : (updLease i f s).jregs = s.jregs := rfl
@[simp] theorem updLease_capKeys {i : Nat} {f : Lease → Lease} : (updLease i f s).capKeys = s.capKeys := rfl

/-! #### setBucket -/

@[simp] theorem setBucket_pending {code : Nat} {b : Bucket} : (setBucket code b s).pending = s.pending := rfl
@[simp] theorem setBucket_out {code : Nat} {b : Bucket} : (setBucket code b s).out = s.out := rfl
@[simp] theorem setBucket_freeCtr {code : Nat} {b : Bucket} : (setBucket code b s).freeCtr = s.freeCtr := rfl
@[simp] theorem setBucket_fuse {code : Nat} {b : Bucket} : (setBucket code b s).fuse = s.fuse := rfl
@[simp] theorem setBucket_isl {code : Nat} {b : Bucket} : (setBucket code b s).isl = s.isl := rfl
@[simp] theorem setBucket_tim {code : Nat} {b : Bucket} : (setBucket code b s).tim = s.tim := rfl
@[simp] theorem setBucket_col {code : Nat} {b : Bucket} : (setBucket code b s).col = s.col := rfl
@[simp] theorem setBucket_taps {code : Nat} {b : Bucket} : (setBucket code b s).taps = s.taps := rfl
@[simp] theorem setBucket_gov {code : Nat} {b : Bucket} : (setBucket code b s).gov = s.gov := rfl
@[simp] theorem setBucket_esc {code : Nat} {b : Bucket} : (setBucket code b s).esc = s.esc := rfl
@[simp] theorem setBucket_dig {code : Nat} {b : Bucket} : (setBucket code b s).dig = s.dig := rfl
@[simp] theorem setBucket_jrn {code : Nat} {b : Bucket} : (setBucket code b s).jrn = s.jrn := rfl
@[simp] theorem setBucket_fab {code : Nat} {b : Bucket} : (setBucket code b s).fab = s.fab := rfl
@[simp] theorem setBucket_scr {code : Nat} {b : Bucket} : (setBucket code b s).scr = s.scr := rfl
@[simp] theorem setBucket_thm {code : Nat} {b : Bucket} : (setBucket code b s).thm = s.thm := rfl
@[simp] theorem setBucket_bnk {code : Nat} {b : Bucket} : (setBucket code b s).bnk = s.bnk := rfl
@[simp] theorem setBucket_obs {code : Nat} {b : Bucket} : (setBucket code b s).obs = s.obs := rfl
@[simp] theorem setBucket_seq {code : Nat} {b : Bucket} : (setBucket code b s).seq = s.seq := rfl
@[simp] theorem setBucket_cmd {code : Nat} {b : Bucket} : (setBucket code b s).cmd = s.cmd := rfl
@[simp] theorem setBucket_mregs {code : Nat} {b : Bucket} : (setBucket code b s).mregs = s.mregs := rfl
@[simp] theorem setBucket_jregs {code : Nat} {b : Bucket} : (setBucket code b s).jregs = s.jregs := rfl
@[simp] theorem setBucket_capKeys {code : Nat} {b : Bucket} : (setBucket code b s).capKeys = s.capKeys := rfl

/-! #### setTrace -/

@[simp] theorem setTrace_pending {c : Nat} {x : Trace} : (setTrace c x s).pending = s.pending := rfl
@[simp] theorem setTrace_out {c : Nat} {x : Trace} : (setTrace c x s).out = s.out := rfl
@[simp] theorem setTrace_freeCtr {c : Nat} {x : Trace} : (setTrace c x s).freeCtr = s.freeCtr := rfl
@[simp] theorem setTrace_fuse {c : Nat} {x : Trace} : (setTrace c x s).fuse = s.fuse := rfl
@[simp] theorem setTrace_isl {c : Nat} {x : Trace} : (setTrace c x s).isl = s.isl := rfl
@[simp] theorem setTrace_tim {c : Nat} {x : Trace} : (setTrace c x s).tim = s.tim := rfl
@[simp] theorem setTrace_col {c : Nat} {x : Trace} : (setTrace c x s).col = s.col := rfl
@[simp] theorem setTrace_taps {c : Nat} {x : Trace} : (setTrace c x s).taps = s.taps := rfl
@[simp] theorem setTrace_gov {c : Nat} {x : Trace} : (setTrace c x s).gov = s.gov := rfl
@[simp] theorem setTrace_esc {c : Nat} {x : Trace} : (setTrace c x s).esc = s.esc := rfl
@[simp] theorem setTrace_dig {c : Nat} {x : Trace} : (setTrace c x s).dig = s.dig := rfl
@[simp] theorem setTrace_jrn {c : Nat} {x : Trace} : (setTrace c x s).jrn = s.jrn := rfl
@[simp] theorem setTrace_fab {c : Nat} {x : Trace} : (setTrace c x s).fab = s.fab := rfl
@[simp] theorem setTrace_scr {c : Nat} {x : Trace} : (setTrace c x s).scr = s.scr := rfl
@[simp] theorem setTrace_thm {c : Nat} {x : Trace} : (setTrace c x s).thm = s.thm := rfl
@[simp] theorem setTrace_bnk {c : Nat} {x : Trace} : (setTrace c x s).bnk = s.bnk := rfl
@[simp] theorem setTrace_recd {c : Nat} {x : Trace} : (setTrace c x s).recd = s.recd := rfl
@[simp] theorem setTrace_seq {c : Nat} {x : Trace} : (setTrace c x s).seq = s.seq := rfl
@[simp] theorem setTrace_cmd {c : Nat} {x : Trace} : (setTrace c x s).cmd = s.cmd := rfl
@[simp] theorem setTrace_mregs {c : Nat} {x : Trace} : (setTrace c x s).mregs = s.mregs := rfl
@[simp] theorem setTrace_jregs {c : Nat} {x : Trace} : (setTrace c x s).jregs = s.jregs := rfl
@[simp] theorem setTrace_capKeys {c : Nat} {x : Trace} : (setTrace c x s).capKeys = s.capKeys := rfl

/-! #### setSpare -/

/-- A spare's change writes the Journal's part and, where it starts or stops acting, its counters (R251, R452). -/
theorem setSpare_eq {c : Nat} {v : SpareSt} : ∃ j o, setSpare c v s = { s with jrn := j, obs := o } := by
  have hf : ∀ (l : List Nat) (t : State), ∃ o, foldS l resetCtr t = { t with obs := o } := fun l => by
    induction l with
    | nil => exact fun t => ⟨_, rfl⟩
    | cons x r ih => exact fun t => ih (resetCtr x t)
  unfold setSpare placeSpare whenS
  dsimp only
  split
  · obtain ⟨o, h⟩ := hf _ s
    unfold resetScope
    dsimp only
    rw [h]
    exact ⟨_, _, rfl⟩
  · exact ⟨_, _, rfl⟩

@[simp] theorem setSpare_pending {c : Nat} {v : SpareSt} : (setSpare c v s).pending = s.pending := by
  obtain ⟨_, _, e⟩ := setSpare_eq (s := s) (c := c) (v := v)
  rw [e]
@[simp] theorem setSpare_out {c : Nat} {v : SpareSt} : (setSpare c v s).out = s.out := by
  obtain ⟨_, _, e⟩ := setSpare_eq (s := s) (c := c) (v := v)
  rw [e]
@[simp] theorem setSpare_freeCtr {c : Nat} {v : SpareSt} : (setSpare c v s).freeCtr = s.freeCtr := by
  obtain ⟨_, _, e⟩ := setSpare_eq (s := s) (c := c) (v := v)
  rw [e]
@[simp] theorem setSpare_fuse {c : Nat} {v : SpareSt} : (setSpare c v s).fuse = s.fuse := by
  obtain ⟨_, _, e⟩ := setSpare_eq (s := s) (c := c) (v := v)
  rw [e]
@[simp] theorem setSpare_isl {c : Nat} {v : SpareSt} : (setSpare c v s).isl = s.isl := by
  obtain ⟨_, _, e⟩ := setSpare_eq (s := s) (c := c) (v := v)
  rw [e]
@[simp] theorem setSpare_tim {c : Nat} {v : SpareSt} : (setSpare c v s).tim = s.tim := by
  obtain ⟨_, _, e⟩ := setSpare_eq (s := s) (c := c) (v := v)
  rw [e]
@[simp] theorem setSpare_col {c : Nat} {v : SpareSt} : (setSpare c v s).col = s.col := by
  obtain ⟨_, _, e⟩ := setSpare_eq (s := s) (c := c) (v := v)
  rw [e]
@[simp] theorem setSpare_taps {c : Nat} {v : SpareSt} : (setSpare c v s).taps = s.taps := by
  obtain ⟨_, _, e⟩ := setSpare_eq (s := s) (c := c) (v := v)
  rw [e]
@[simp] theorem setSpare_gov {c : Nat} {v : SpareSt} : (setSpare c v s).gov = s.gov := by
  obtain ⟨_, _, e⟩ := setSpare_eq (s := s) (c := c) (v := v)
  rw [e]
@[simp] theorem setSpare_esc {c : Nat} {v : SpareSt} : (setSpare c v s).esc = s.esc := by
  obtain ⟨_, _, e⟩ := setSpare_eq (s := s) (c := c) (v := v)
  rw [e]
@[simp] theorem setSpare_dig {c : Nat} {v : SpareSt} : (setSpare c v s).dig = s.dig := by
  obtain ⟨_, _, e⟩ := setSpare_eq (s := s) (c := c) (v := v)
  rw [e]
@[simp] theorem setSpare_fab {c : Nat} {v : SpareSt} : (setSpare c v s).fab = s.fab := by
  obtain ⟨_, _, e⟩ := setSpare_eq (s := s) (c := c) (v := v)
  rw [e]
@[simp] theorem setSpare_scr {c : Nat} {v : SpareSt} : (setSpare c v s).scr = s.scr := by
  obtain ⟨_, _, e⟩ := setSpare_eq (s := s) (c := c) (v := v)
  rw [e]
@[simp] theorem setSpare_thm {c : Nat} {v : SpareSt} : (setSpare c v s).thm = s.thm := by
  obtain ⟨_, _, e⟩ := setSpare_eq (s := s) (c := c) (v := v)
  rw [e]
@[simp] theorem setSpare_bnk {c : Nat} {v : SpareSt} : (setSpare c v s).bnk = s.bnk := by
  obtain ⟨_, _, e⟩ := setSpare_eq (s := s) (c := c) (v := v)
  rw [e]
@[simp] theorem setSpare_recd {c : Nat} {v : SpareSt} : (setSpare c v s).recd = s.recd := by
  obtain ⟨_, _, e⟩ := setSpare_eq (s := s) (c := c) (v := v)
  rw [e]
@[simp] theorem setSpare_seq {c : Nat} {v : SpareSt} : (setSpare c v s).seq = s.seq := by
  obtain ⟨_, _, e⟩ := setSpare_eq (s := s) (c := c) (v := v)
  rw [e]
@[simp] theorem setSpare_cmd {c : Nat} {v : SpareSt} : (setSpare c v s).cmd = s.cmd := by
  obtain ⟨_, _, e⟩ := setSpare_eq (s := s) (c := c) (v := v)
  rw [e]
@[simp] theorem setSpare_mregs {c : Nat} {v : SpareSt} : (setSpare c v s).mregs = s.mregs := by
  obtain ⟨_, _, e⟩ := setSpare_eq (s := s) (c := c) (v := v)
  rw [e]
@[simp] theorem setSpare_jregs {c : Nat} {v : SpareSt} : (setSpare c v s).jregs = s.jregs := by
  obtain ⟨_, _, e⟩ := setSpare_eq (s := s) (c := c) (v := v)
  rw [e]
@[simp] theorem setSpare_capKeys {c : Nat} {v : SpareSt} : (setSpare c v s).capKeys = s.capKeys := by
  obtain ⟨_, _, e⟩ := setSpare_eq (s := s) (c := c) (v := v)
  rw [e]

/-! #### updSlice -/

@[simp] theorem updSlice_pending {k : Nat} {f : Slice → Slice} : (updSlice k f s).pending = s.pending := rfl
@[simp] theorem updSlice_out {k : Nat} {f : Slice → Slice} : (updSlice k f s).out = s.out := rfl
@[simp] theorem updSlice_freeCtr {k : Nat} {f : Slice → Slice} : (updSlice k f s).freeCtr = s.freeCtr := rfl
@[simp] theorem updSlice_fuse {k : Nat} {f : Slice → Slice} : (updSlice k f s).fuse = s.fuse := rfl
@[simp] theorem updSlice_isl {k : Nat} {f : Slice → Slice} : (updSlice k f s).isl = s.isl := rfl
@[simp] theorem updSlice_tim {k : Nat} {f : Slice → Slice} : (updSlice k f s).tim = s.tim := rfl
@[simp] theorem updSlice_col {k : Nat} {f : Slice → Slice} : (updSlice k f s).col = s.col := rfl
@[simp] theorem updSlice_taps {k : Nat} {f : Slice → Slice} : (updSlice k f s).taps = s.taps := rfl
@[simp] theorem updSlice_gov {k : Nat} {f : Slice → Slice} : (updSlice k f s).gov = s.gov := rfl
@[simp] theorem updSlice_esc {k : Nat} {f : Slice → Slice} : (updSlice k f s).esc = s.esc := rfl
@[simp] theorem updSlice_dig {k : Nat} {f : Slice → Slice} : (updSlice k f s).dig = s.dig := rfl
@[simp] theorem updSlice_jrn {k : Nat} {f : Slice → Slice} : (updSlice k f s).jrn = s.jrn := rfl
@[simp] theorem updSlice_fab {k : Nat} {f : Slice → Slice} : (updSlice k f s).fab = s.fab := rfl
@[simp] theorem updSlice_thm {k : Nat} {f : Slice → Slice} : (updSlice k f s).thm = s.thm := rfl
@[simp] theorem updSlice_bnk {k : Nat} {f : Slice → Slice} : (updSlice k f s).bnk = s.bnk := rfl
@[simp] theorem updSlice_obs {k : Nat} {f : Slice → Slice} : (updSlice k f s).obs = s.obs := rfl
@[simp] theorem updSlice_recd {k : Nat} {f : Slice → Slice} : (updSlice k f s).recd = s.recd := rfl
@[simp] theorem updSlice_seq {k : Nat} {f : Slice → Slice} : (updSlice k f s).seq = s.seq := rfl
@[simp] theorem updSlice_cmd {k : Nat} {f : Slice → Slice} : (updSlice k f s).cmd = s.cmd := rfl
@[simp] theorem updSlice_mregs {k : Nat} {f : Slice → Slice} : (updSlice k f s).mregs = s.mregs := rfl
@[simp] theorem updSlice_jregs {k : Nat} {f : Slice → Slice} : (updSlice k f s).jregs = s.jregs := rfl
@[simp] theorem updSlice_capKeys {k : Nat} {f : Slice → Slice} : (updSlice k f s).capKeys = s.capKeys := rfl

/-! ### Reads after updates -/

@[simp] theorem raiseOn_flight {link unit : Nat} {m : W128} : (raiseOn link unit m s).col.flight = 
    s.col.flight ++ [{ link := link, unit := unit, msg := m, floodOn := (sevEntry s (msgClass m) (msgKind m)).testBit 3 }] := rfl
@[simp] theorem emit_out {o : Output} : (emit o s).out = s.out ++ [o] := rfl
@[simp] theorem pushRec_input {hw : Bool} {r : BitVec 512} (h : s.recd.input.length < 64) :
    (pushRec hw r s).recd.input = s.recd.input ++ [r] := by
  unfold pushRec
  rw [if_pos h]
@[simp] theorem takeMsg_intake {m : VcsMsg} : (takeMsg m s).fab.intake = s.fab.intake ++ [m] := rfl
@[simp] theorem dropMsg_intake {m : VcsMsg} : (dropMsg m s).fab.intake = s.fab.intake.erase m := rfl
@[simp] theorem pushReqs_requests {l : List W256} : (pushReqs l s).seq.requests = s.seq.requests ++ l := rfl
@[simp] theorem takeReq_requests {r : W256} : (takeReq r s).seq.requests = s.seq.requests.erase r := rfl
@[simp] theorem updPair_self {b : Bool} {f : Pair → Pair} : pairOf b (updPair b f s) = f (pairOf b s) := by
  cases b <;> rfl
@[simp] theorem updPair_other {b : Bool} {f : Pair → Pair} : pairOf (!b) (updPair b f s) = pairOf (!b) s := by
  cases b <;> rfl

/-- An entry put back changed reads changed, and every other entry as before. -/
theorem get_upd {α : Type} (t : Tbl α) (i j : Nat) (d : α) (f : α → α) :
    Tbl.get (Tbl.upd t i d f) j d = if j = i then f (Tbl.get t i d) else Tbl.get t j d := by
  unfold Tbl.upd
  split
  · next h => rw [h]; exact Tbl.get_put_self _ _ _ _
  · next h => exact Tbl.get_put_ne _ _ _ _ _ h

theorem comp_updComp {c d : Nat} {f : Comp → Comp} : (updComp c f s).comp d = if d = c then f (s.comp c) else s.comp d := get_upd _ _ _ _ _
theorem tap_updTap {i j : Nat} {f : Tap → Tap} : (updTap i f s).tap j = if j = i then f (s.tap i) else s.tap j := get_upd _ _ _ _ _
theorem bank_updBank {i j : Nat} {f : BankReg → BankReg} : (updBank i f s).bank j = if j = i then f (s.bank i) else s.bank j := get_upd _ _ _ _ _
theorem digComp_updDig {i j : Nat} {f : DigComp → DigComp} : (updDig i f s).digComp j = if j = i then f (s.digComp i) else s.digComp j := get_upd _ _ _ _ _
theorem arb_updArb {i j : Nat} {f : Arb → Arb} : (updArb i f s).arb j = if j = i then f (s.arb i) else s.arb j := get_upd _ _ _ _ _
theorem ro_updRo {i j : Nat} {f : RoSensor → RoSensor} : (updRo i f s).ro j = if j = i then f (s.ro i) else s.ro j := get_upd _ _ _ _ _
theorem scope_updScope {i j : Nat} {f : ThScope → ThScope} : (updScope i f s).scope j = if j = i then f (s.scope i) else s.scope j := get_upd _ _ _ _ _
theorem canary_updCanary {i j : Nat} {f : Canary → Canary} : (updCanary i f s).canary j = if j = i then f (s.canary i) else s.canary j := get_upd _ _ _ _ _
theorem rail_updRail {i j : Nat} {f : Rail → Rail} : (updRail i f s).rail j = if j = i then f (s.rail i) else s.rail j := get_upd _ _ _ _ _
theorem lease_updLease {i j : Nat} {f : Lease → Lease} : (updLease i f s).lease j = if j = i then f (s.lease i) else s.lease j := get_upd _ _ _ _ _

/-- What a hub unit raises is posted, and nothing else is. -/
theorem raiseHub_posted {u kind d : Nat} {l : Loc} : Posted kind l s (raiseHub u kind l d s) := ⟨33, u, 5, false, d, _, rfl⟩

/-- A meaning that ends in a next state answers whatever that state has. -/
theorem answers_of_next {c : Instr} {t : State} {p : State → Prop} (e : exec c s = .next t) (h : p t) : Answers c s p := ⟨t, e, h⟩

/-- Answers are read off the one state that the meaning gives. -/
theorem Answers.of_eq {c : Instr} {t : State} {p : State → Prop} (h : Answers c s p) (e : exec c s = .next t) : p t := by
  obtain ⟨u, hu, hp⟩ := h
  rw [e] at hu
  cases hu
  exact hp

end Sys2Proof.Machine
end

