-- ==== Sys2Proof/Tests/Slice0.lean ====
section
/-! SUPPORT. Tests of the model: ill-formed commands are refused, the spec's own vectors and worked numbers come out,
and the hypotheses of every obligation are met by a small state. -/
namespace Sys2Proof.Tests
open Sys2Proof Sys2Proof.Machine
set_option linter.unusedVariables false
set_option Elab.async false

/-! ### Small states, each a change of the state after reset -/

def P.up : State := { State.reset with
  isl := { Isl.reset with st := .opened, corePg := 0xFFFF, pllLock := true, level := .service },
  seq := { Seq.reset with pairA := { Pair.reset with st := .serving }, pairB := { Pair.reset with st := .standby } },
  gov := { Gov.reset with tablesOk := true }, recd := { Rec.reset with running := true } }
def P.st (b : BlockState) : State := { P.up with isl := { P.up.isl with st := b } }
def P.isl : State := P.st .island
def P.loaded : State := P.st .loaded
def P.selft : State := P.st .selftest
def P.sealed : State := P.st .sealed
def P.drain : State := P.st .drain
def P.closing : State := P.st .closing
/-- OPEN, with compartment 0 open and owning cluster 0, at a late ET. -/
def P.c : State := { P.up with
  cmd := { Cmd.reset with comps := [(0, { Comp.reset with st := .opened })], assigns := [(0, 16)] }
  tim := { Tim.reset with et := 10 ^ 12 } }
def P.tk : W256 := BitVec.ofNat 256 (2 ^ 24 + 2 ^ 64 + 2 ^ 80 + 2 ^ 96 + 7 * 2 ^ 128 + 7 * 2 ^ 132)
def P.tile : Tile := Tile.fresh P.tk 1 Fl.zero 1 false [] []
def P.ret : Tile := { P.tile with retired := some 0, nA := 1, nB := 1, nE := 1 }
def P.tp (x : Tile) : State := { P.c with taps := [(0, { Tap.reset with tags := [(0, x)] })] }
def P.col (c : Col) : State := { P.c with col := c }
def P.fab (f : Fab) : State := { P.c with fab := f }
def P.esc (f : Esc) : State := { P.c with esc := f }
def P.jrn (f : Jrn) : State := { P.c with jrn := f }
def P.scr (f : Scr) : State := { P.c with scr := f }
def P.obs (f : Obs) : State := { P.c with obs := f }
def P.thm (f : Thm) : State := { P.c with thm := f }
def P.dig (d : DigComp) : State := { P.c with dig := { Dig.reset with comps := [(0, d)] } }
def P.arb (a : Arb) : State := { P.c with dig := { Dig.reset with arbs := [(0, a)] } }
def P.entry : EscEntry := ⟨.held, false, false, 0, 0, 0, clusterLoc 0, 0, 0, 7, false, 0, 0, 0, 0, 0, 0, 0⟩
def P.ent (e : EscEntry) : State := P.esc { Esc.reset with entries := [(0, e)] }
def P.msg (cls : Nat) (p : Nat) : VcsMsg := ⟨cls, 1, 7, 0, 0, 0, 0, BitVec.ofNat 384 p⟩
def P.inbox (m : VcsMsg) : State := P.fab { Fab.reset with intake := [m] }
def P.br : Branch := ⟨0, 1, 7, 0, 0, 1, 0, 10 ^ 12, .plain, false⟩
def P.named : State := (P.c.setRf fDieSet 1).setRf fDieIndex 3
def P.desc : BitVec 768 := 5
def P.k : Cord := ⟨P.desc, 0, .retired, 0, [], false, [], false, false, false, coreLoc 0 0, 0, none, none, 0, none, [], none, false, 0, 0, false, [], false, 0⟩
def P.wm : State := P.esc { Esc.reset with wmarks := [(0, ⟨0, [], []⟩)] }
def P.cords (l : Tbl Cord) : State := { P.wm with jrn := { Jrn.reset with cords := l } }
def P.sk : Skid := ⟨0, clusterLoc 0, some 7, some (clusterLoc 7), 0, false, [(0, coreLoc 7 0, false)], [], 1, 0, 0, false, false⟩
def P.tim (t : Tim) : State := { P.c with tim := { t with et := 10 ^ 12 } }
def P.anch : State := ((P.named.setRf fTimeMode 1).setRf fRoot 0).setRf fParent 9
def P.pair (a b : Pair) : State := { P.c with seq := { Seq.reset with pairA := a, pairB := b } }
def P.stopped : Pair := { Pair.reset with st := .stopped }
def P.srv : Pair := { Pair.reset with st := .serving }
def P.stby : Pair := { Pair.reset with st := .standby }
def P.int : Intake := ⟨BitVec.ofNat 128 (0x2000 * 2 ^ 16), 0, 1, 4, false, false, false, 0, 0⟩
def P.seq (f : Seq) : State := { P.c with seq := { f with pairA := P.srv, pairB := P.stby } }
def P.req (u : Nat) : W256 := BitVec.ofNat 256 u
def P.work (w : WorkFor) (u : Nat) : Work := ⟨w, P.int, 0, 0, 0, 0, 0, 0, none, none, none, P.req u, 5, 0, none, none⟩
def P.asks (w : WorkFor) (u : Nat) : State := P.seq { Seq.reset with requests := [P.req u], works := [P.work w u] }
def P.sample : Sample := ⟨0, 0, 0, 1, 0, 0, 7, 0, 0, false, none⟩
def P.samples : State := { P.c with gov := { P.c.gov with samples := [P.sample], policy := [(96, BitVec.ofNat 256 (2 ^ 200 - 1))] } }
def P.reh (r : List Rehearsal) (pt e : Nat) : State := { P.c with gov := { P.c.gov with points := [(2048, (pt, e))], rehearsals := r, policy := [] }, bnk := { Bnk.reset with words := [(16384 * 32 + 1216, s32Enc (2 ^ 160))] } }
def P.latch : Latch := ⟨1, 4, 0, .opened, 0, 2, 0, false, false, 31, 0, 0, 0, 0, 0, 0⟩
def P.lat (l : Latch) : State := P.fab { Fab.reset with latches := [(3, l)] }
def P.stop : Stop := ⟨9, 10 ^ 13, false, 0, 0, 0, 0, false, false, none, none, none, 0, false, false, false, false, [], 0, 0, none, false, false⟩
def P.halt (p : Stop) (ms : List VcsMsg) : State := { P.c with fab := { Fab.reset with stops := [(0, p)], intake := ms, groups := [(0, [(0, 0, 9, 0)])] } }
def P.lopv (op latch value : Nat) : W128 := lop op 8 0 0 0 latch value 0 0
def P.erc : ErcRec := ⟨P.tk, 0, 0, 0, 0, 0, 0, 0, 0, .multiple, false⟩
def P.pinW : Work := { P.work .pinpoint 1 with erc := some P.erc }
def P.twin : Twin := ⟨0, none, none, none⟩
def P.seg : Segment := ⟨1, 1, 0, 0, 0, 5⟩
def P.slc : Slice := ⟨.idle, coreLoc 0 0, 0, 0, 0, [], [P.seg, P.seg], 0, 0, 10 ^ 12, 1, 10 ^ 12, false, false, 5, 7, 0, none⟩
def P.slice (x : Slice) : State := P.scr { Scr.reset with slices := [(0, x)] }
def P.old : State := (P.scr { Scr.reset with baseAge := 10 ^ 15 }).setRf fPeriodH 1
def P.bank (o : Owner) : State := { P.c with bnk := { Bnk.reset with ptrBank := 14, regs := [(14, { BankReg.reset with owner := o })] } }
def P.ctr : State := { (P.c.setRf fObsIndex 40) with obs := Obs.reset }
def P.tally : TallyOrder := ⟨5, 0, 0, []⟩
def P.rec (r : Rec) : State := { P.c with recd := { r with running := true } }
def P.fz : Freeze := ⟨0, 1, 5, []⟩
def P.th (x : ThScope) : State := P.thm { Thm.reset with scopes := [(0, x)] }
def P.rail (x : Rail) : State := P.thm { Thm.reset with rails := [(0, x)] }
/-- Bank 42 owned by Firmware, its first words holding `v`. -/
def P.fw (v : Nat) : State := { P.c with
  bnk := { Bnk.reset with regs := [(42, { BankReg.reset with owner := .firmware })], words := (List.range 16).map (fun i => (16384 * 42 + i, BitVec.ofNat 288 (v / 2 ^ (256 * i) % 2 ^ 256))) }
  col := { Col.reset with fell := { Col.reset.fell with cores := 1 } }
  recd := { Rec.reset with running := true, rseq := 9, keys := [(0, 1)] } }
def P.body (n : Nat) : BitVec 448 := BitVec.ofNat 448 (2 ^ 64 * (42 * 2 ^ 19) + 2 ^ 128 * n)
def P.src (v n : Nat) : List Byte := (gateSrc (P.fw v) (42 * 2 ^ 19) n).getD []
def P.clr : Nat := 0x52454352 + 2 ^ 64 * P.up.fuse.dieId.toNat + 2 ^ 128 * P.up.recd.clrGen + 2 ^ 192 * 3
def P.und : Nat := 0x4F444E55 + 2 ^ 64 * P.up.fuse.dieId.toNat + 2 ^ 160
def P.pack : Nat := 0x4B505453 + 2 ^ 32 + 2 ^ 96 * 4 + 2 ^ 128 + 2 ^ 144 + 2 ^ 160 + 2 ^ 176 + 2 ^ 192 * 400 + 2 ^ 2048 + 2 ^ (2048 + 64) + 2 ^ 2304 * P.up.fuse.dieRev
def P.packed : Pack := (parsePack P.up.fuse.unitRev (P.src P.pack 400)).getD ⟨0, 0, 0, false, false, false, [], []⟩
def P.sig : Nat := chipperSig ((toBytes 72 (0x52504F51 + 2 ^ 32 + 2 ^ 128 * 8 + 2 ^ 144 * 8 + 2 ^ 160)).take 56 ++ toBytes 8 0)
def P.img : Nat := 0x52504F51 + 2 ^ 32 + 2 ^ 128 * 8 + 2 ^ 144 * 8 + 2 ^ 160 + 2 ^ 448 * P.sig
def P.xf (w : Bool) (u : XferFor) : Xfer := ⟨3, 0, w, 0, 0, 32, u, 5, false⟩
def P.xfer (x : Xfer) : State := { P.c with cmd := { P.c.cmd with xfers := [x] } }
def P.comp (x : Comp) : State := { P.c with cmd := { P.c.cmd with comps := [(0, x)] } }
def P.held (p : BitVec 512) : Comp := { Comp.reset with st := .opened, held := [⟨p, .fetched⟩] }
def P.host : State := { P.c with cmd := { P.c.cmd with assigns := [(0, 16), (144, 16)] } }
def P.lvl (l : CamLevel) : State := { P.c with isl := { P.c.isl with level := l } }
def P.qi (rd ra rb pd imm : Nat) : BitVec 56 := BitVec.ofNat 56 (rd * 2 ^ 47 + ra * 2 ^ 42 + rb * 2 ^ 37 + pd * 2 ^ 34 + imm)
def P.pr (g1 g2 : W64) (h : Tbl Nat) : Pair := { P.srv with g := [(1, g1), (2, g2)], q := h }
def P.at : W64 := 14 * 2 ^ 19
def P.qs (p : Pair) (ws : Tbl (BitVec 288)) : State := { P.pair p P.stby with bnk := { Bnk.reset with regs := [(14, { BankReg.reset with owner := .serving })], words := ws } }
def P.qc (g1 g2 : W64) : State := P.qs (P.pr g1 g2 []) []
def P.fl : Flight := ⟨0, 0, 0, false, false, false, 0⟩
def P.pinTk : W256 := BitVec.ofNat 256 (nset P.tk.toNat 140 2 1)
def P.six : Six := ⟨Fl.zero, Fl.zero, Fl.zero, Fl.zero, Fl.zero, Fl.zero⟩
def P.tol : TolRec := ⟨P.tk, P.six, Fl.zero, Fl.zero, Fl.zero, Fl.zero, Fl.zero, Fl.zero, [], [], 1, 0, true⟩
/-- A tile-kind cord with a 32 B buffer at each place. -/
def P.tileDesc : BitVec 768 := BitVec.ofNat 768 (5 + 2 ^ 40 + (2 ^ 128 + 2 ^ 256 + 2 ^ 384 + 2 ^ 512) * (2 ^ 48 + 2 ^ 64 * 32))
/-- A vector-kind cord with empty buffers. -/
def P.vecDesc : BitVec 768 := BitVec.ofNat 768 (5 + 2 ^ 40 * 0x20)
def P.vec (w : Work) : State := { P.seq { Seq.reset with requests := [P.req 3], works := [w] } with jrn := { Jrn.reset with cords := [(0, { P.k with desc := P.vecDesc })] } }
def P.vecSamples : State := { P.samples with jrn := { Jrn.reset with cords := [(0, { P.k with desc := P.vecDesc })] } }
def P.rehm (m : Nat) (r : List Rehearsal) (pt e : Nat) : State := { P.c with gov := { P.c.gov with points := [(1024 * m, (pt, e))], rehearsals := r, policy := [] }, bnk := { Bnk.reset with words := [(16384 * 32 + 1216, s32Enc (2 ^ 32))] } }
/-- Bank 14 owned, a test window due. -/
def P.memt (w : Nat) : State := { P.c with bnk := { Bnk.reset with regs := [(14, { BankReg.reset with owner := .firmware })], nextWin := w } }
def P.adBytes : BitVec 1024 := BitVec.ofNat 1024 (6 + 2 ^ 48 + 2 ^ 53 + 2 ^ 768 * 9 + 2 ^ 800 * 6 + 2 ^ 864 * (2 ^ 64 - 1))
def P.adK : Cord := { P.k with jsn := 12 }
def P.adS : State := { P.cords [(0, P.adK)] with
  cmd := { P.c.cmd with xfers := [P.xf false (.ringFetch 0 9)] }
  jrn := { Jrn.reset with cords := [(0, P.adK)], fetches := [(0, 9, 12, 0)] } }
def P.adU : State := { P.adS with cmd := { P.adS.cmd with xfers := [] }, jrn := { P.adS.jrn with fetches := [] } }
def P.adV : State := (adoptProducer 0 P.adBytes 0 (lostSpare P.adK) P.adU).getD P.adU

/-! ### Ill-formed commands are refused (R27, R38, R66, R173, R207, R266, R301, R328, R404, R411, R422, R509, R518) -/

theorem test_unit_ranges : [Instr.compOpen 16, .wardenMissing 16, .tapMissing 144, .tileCompare 0 64, .tileCompare 144 0,
    .sendGrant 0 256, .eccEvent 8 false 0 0 0, .hostCoreEvent 8 0 0 0, .rehearsalPoint 5 0, .throttleStep 144].all
    (fun i => !i.wellFormed) = true := by decide +kernel
theorem test_entry_ranges : [Instr.leaseExpired 17, .timerExpiry false 16, .calibrate 192, .pmbusRead 19 0 0 true, .matchExchange 255,
    .rateRead 4096, .recRead 32768, .escExpired 16384, .dack 0 65536, .dispatchSlot 0 0 4294967296 false].all
    (fun i => !i.wellFormed) = true := by decide +kernel
theorem test_size_ranges : [Instr.sliceGridPoint 17 0, .sliceGridPoint 0 2, .bankOwn 49 0 false, .camPut 49 0 [],
    .commandFetch 0 (List.replicate 17 0), .readData 0 16 [], .readData 0 0 (List.replicate 129 0)].all
    (fun i => !i.wellFormed) = true := by decide +kernel
theorem test_edges_are_well_formed : [Instr.compOpen 15, .tapMissing 143, .tileCompare 143 63, .sendGrant 0 255, .leaseExpired 16,
    .timerExpiry true 15, .calibrate 191, .pmbusRead 18 0 0 true, .matchExchange 254, .recRead 32767, .escExpired 16383,
    .sliceGridPoint 16 1, .bankOwn 48 0 false, .commandFetch 15 (List.replicate 16 0), .readData 65535 15 []].all
    Instr.wellFormed = true := by decide +kernel

/-! ### Values that the spec itself prints -/

/-- R18's example. -/
theorem test_mod_of_a_negative : rotResidue (-3) 0 = 2 ^ 61 - 4 := by decide +kernel

/-- Vector 1 of 06_weight_digests. -/
theorem test_field_multiplication : gfMul 0x8000000000000000 2 = 0x1B ∧ gfMul 0x8000000000000001 3 = 0x8000000000000018 := by decide +kernel

/-- Vector 2 of 06_weight_digests, lane 0. -/
theorem test_key_schedule_lane_0 :
    [0, 1, 2, 3].flatMap (fun l => [1, 2, 3].map (subkey (0x8000000000000001 + 2 ^ 128 * 0x100) 1 0 l)) =
      [0x010101010100011A, 0x0202020302060302, 0x0302030B03030B03, 0x8414040404040404, 0x05050505050404B5, 0x0606060706460706,
       0x0706078707078707, 0x8908080808080808, 0x0909090909081209, 0x0A0A0A0B0E0A0B0A, 0x0B0A030B0B030B0B, 0x9C0C0C0C0C0C0C0C] := by
  decide +kernel

/-- Vector 2 of 06_weight_digests, lane 1 and the KCV. -/
theorem test_key_schedule_lane_1 :
    [0, 1, 2, 3].flatMap (fun l => [1, 2, 3].map (subkey (0x8000000000000001 + 2 ^ 128 * 0x100) 1 1 l)) =
      [0x0D0D0D0D0D0DBD0D, 0x0E0E0E0F4E0E0F0E, 0x0F0E8F0F0F8F0F0F, 0x901010101010100B, 0x11111111110B1111, 0x1212121712121312,
       0x131A13131B131313, 0x94141414141415A4, 0x1515151514A41515, 0x1616165716161716, 0x1796171797171717, 0x9818181818180318]
    ∧ kcv (0x8000000000000001 + 2 ^ 128 * 0x100) 1 = 0x2018 := by decide +kernel

/-- The position of vector 3 of 06_weight_digests. -/
theorem test_position : digPos 1 2 = 2 ^ 40 + 2 ∧ ror29 (digPos 1 2) = 2 ^ 36 + 0x800 := by decide +kernel

/-- The WIDE tile of the worked number of 03_tolerance_and_cruise. -/
def P.wide : W256 := BitVec.ofNat 256 (2 ^ 8 * 9 + 2 ^ 16 * 5 + 2 ^ 24 * 4 + 2 ^ 64 * 128 + 2 ^ 80 * 128 + 2 ^ 96 * 4096 + 2 ^ 128 * 9 + 2 ^ 132 * 9)

/-- The record of its walk-through: d0 = 0.4375, dr = 18.375, dc = 43.75. -/
def P.alarm : TolRec :=
  { ticket := P.wide, six := ⟨Fl.zero, Fl.zero, Fl.zero, Fl.zero, Fl.zero, Fl.zero⟩, d0 := .fin false 7 (-4), dr := .fin false 147 (-3)
    dc := .fin false 175 (-2), tau0 := .fin false 1 (-7), taur := .fin false 1 0, tauc := .fin false 1 0, rho := [], kappa := []
    kchain := 4096, retireEt := 7000000, kept := true }

theorem test_worked_coefficient : kr 4 4096 = 128 ∧ bucket 128 = 7 ∧ tolDefault 7 = 0x3EB504F3 := by decide +kernel
/-- τ0 = 0.00829 to five decimals (the spec prints it with c_7 rounded to four digits). -/
theorem test_worked_threshold :
    flLt (flDiv f64 (flNat f64 8285) (flNat f64 1000000)) (tau (dec32 0x3EB504F3) 128 (flNat f64 3072)) = true
    ∧ flLt (tau (dec32 0x3EB504F3) 128 (flNat f64 3072)) (flDiv f64 (flNat f64 8295) (flNat f64 1000000)) = true := by decide +kernel
theorem test_walk_through_located : located P.alarm = some (41, 99) ∧ adjWork P.alarm = 14716 := by decide +kernel

/-- FIPS 180-4's example for SHA-384: "abc". -/
theorem test_sha384 : ofBytesBE (shaBytes [0x61, 0x62, 0x63]) =
    0xcb00753f45a35e8bb5a03d699ac65007272c32ab0eded1631a8b605a43ff5bed8086072ba1e7cc2358baeca134c825a7 := by decide +kernel

/-! ### Single steps -/

/-- ADD wraps at 64 bits and leaves g1 (R506). -/
theorem test_add_wraps : (match exec (.qAdd false (P.qi 3 1 2 0 0)) (P.qc (-1) 5) with
    | .next t => t.seq.pairA.reg 3 == 4 && t.seq.pairA.reg 1 == (-1) | _ => false) = true := by decide +kernel
/-- A write of g0 is discarded (R499). -/
theorem test_g0_reads_zero : (match exec (.qAdd false (P.qi 0 1 2 0 0)) (P.qc 6 5) with
    | .next t => t.seq.pairA.reg 0 == 0 | _ => false) = true := by decide +kernel
/-- The command at the front runs first. -/
theorem test_first_in_first_out : (match step { P.up with pending := [.compOpen 3, .compOpen 4] } with
    | .next t => t.pending == [.compOpen 4] && (t.cmd.comps.get 3 Comp.reset).st == .opened && (t.cmd.comps.get 4 Comp.reset).st == .closed
    | _ => false) = true := by decide +kernel
/-- Reset's queue is empty. -/
theorem test_reset_waits_for_commands : State.reset.pending = [] := by decide +kernel

/-- RFC 6979's P-384 example: SHA-384, message "sample"; and the same signature over another message. -/
def P.rfcKey : BitVec 768 := BitVec.ofNat 768
  (0xEC3A4E415B4E19A4568618029F427FA5DA9A8BC4AE92E02E06AAE5286B300C64DEF8F0EA9055866064A254515480BC13 +
    2 ^ 384 * 0x8015D9B72D7D57244EA8EF9AC0C621896708A59367F9DFB9F54CA84B3F1C9DB1288B231C3AE0D4FE7344FD2533264720)
def P.rfcSig : BitVec 768 := BitVec.ofNat 768
  (0x94EDBB92A5ECB8AAD4736E56C691916B3F88140666CE9FA73D64C4EA95AD133C81A648152E44ACF96E36DD1E80FABE46 +
    2 ^ 384 * 0x99EF4AEB15F178CEA1FE40DB2603138F130E740A19624526203B6351D0A3A94FA329C145786E679E7B82C71A38628AC8)
theorem test_ecdsa_p384 : ecdsaP384 P.rfcKey [0x73, 0x61, 0x6D, 0x70, 0x6C, 0x65] P.rfcSig = true := by decide +kernel
theorem test_ecdsa_p384_other_message : ecdsaP384 P.rfcKey [0x73, 0x61, 0x6D, 0x70, 0x6C, 0x66] P.rfcSig = false := by decide +kernel

/-! ### Every obligation with hypotheses: a state and operands that meet them together, clause by clause -/

theorem meets_SuppliesMoveTheBlock :
    (fun (s : State) => s.isl.st = .off) State.reset
    ∧ (fun (bad : List (Nat × Nat)) (s : State) => s.isl.st = .island ∧ s.scr.hubScanned = false) ([(3, 5)]) P.isl
    ∧ (fun (bits : BitVec 16) (s : State) => s.hubUp = true ∧ s.isl.corePg &&& bits ≠ 0 ∧ s.isl.corePg &&& ~~~bits = 0) 0xFFFF P.up
    ∧ (fun (bits : BitVec 16) (s : State) => s.hubUp = true ∧ s.isl.corePg &&& bits ≠ 0 ∧ s.isl.corePg &&& ~~~bits ≠ 0) 1 P.up
    ∧ (fun (bits : BitVec 16) (s : State) => s.isl.st ≠ .off ∧ s.scr.hubScanned = false) 0 P.up
    ∧ (fun (s : State) => s.isl.st ≠ .off) P.up := by
  refine ⟨?_, ?_, ?_, ?_, ?_, ?_⟩ <;> decide +kernel

theorem meets_StatesAndCompartmentsFollowTheirEvents :
    (fun (ft : List W256) (s : State) => s.hubUp = true ∧ s.isl.st = .selftest ∧ s.isl.pf = false ∧ s.scr.phase = 5) ([]) ({ P.selft with scr := { Scr.reset with phase := 5 } })
    ∧ (fun (c : Nat) (s : State) => s.hubUp = true ∧ (s.isl.st = .loaded ∨ s.isl.st = .opened)) 0 P.up
    ∧ (fun (s : State) => s.hubUp = true ∧ s.isl.st = .drain ∧ drainDone s = true) P.drain
    ∧ (fun (s : State) (t0 : Nat) => s.hubUp = true ∧ s.isl.st = .drain ∧ s.cmd.drainEt = some t0 ∧ t0 + 40000000 ≤ s.et) ({ P.drain with cmd := { Cmd.reset with drainEt := some 0 }, tim := { Tim.reset with et := 40000000 } }) 0
    ∧ (fun (w : Bool) (s : State) => s.hubUp = true ∧ s.isl.st = .closing ∧ s.scr.phase = 5 ∧ s.isl.pf = false) false ({ P.closing with scr := { Scr.reset with phase := 5 } })
    ∧ (fun (w : Bool) (s : State) => s.hubUp = true ∧ s.isl.st = .sealed ∧ s.scr.recordOwed = true ∧ s.recd.cellarAbsent = false) true ({ P.sealed with scr := { Scr.reset with recordOwed := true } })
    ∧ (fun (c : Nat) (s : State) => s.hubUp = true ∧ s.isl.st = .opened ∧ (s.comp c).st = .closed ∧ s.cmd.dieStop = false) 0 P.up
    ∧ (fun (c : Nat) (s : State) => s.hubUp = true ∧ s.isl.st = .loaded ∧ (s.comp c).st = .closed ∧ s.cmd.dieStop = false ∧ s.gov.tablesOk = true ∧ ((pairOf false s).st = .serving ∨ (pairOf true s).st = .serving)) 0 P.loaded
    ∧ (fun (c : Nat) (s : State) => s.hubUp = true ∧ (s.comp c).st ≠ .closed) 0 P.c
    ∧ (fun (c : Nat) (s : State) => s.hubUp = true ∧ (s.comp c).st ≠ .closed) 0 P.c
    ∧ (fun (c : Nat) (s : State) (t0 : Nat) => s.hubUp = true ∧ (s.comp c).closeEt = some t0 ∧ t0 + 4000000 ≤ s.et) 0 ({ P.up with cmd := { Cmd.reset with comps := [(0, { Comp.reset with closeEt := some 0 })] }, tim := { Tim.reset with et := 4000000 } }) 0 := by
  refine ⟨?_, ?_, ?_, ?_, ?_, ?_, ?_, ?_, ?_, ?_, ?_⟩ <;> decide +kernel

theorem meets_FaultMessagesAreDecided :
    (fun (link : Nat) (f : Flight) (s : State) => s.hubUp = true ∧ linkHead s link = some f) 0 P.fl (P.col { Col.reset with flight := [P.fl] })
    ∧ (fun (link : Nat) (unit : Nat) (msg : W128) (s : State) => s.hubUp = true ∧ linkHead s link = none) 0 0 0 P.up
    ∧ (fun (link : Nat) (f : Flight) (s : State) => s.hubUp = true ∧ linkHead s link = some f ∧ s.col.intake.length < 3840) 0 P.fl (P.col { Col.reset with flight := [P.fl] })
    ∧ (fun (link : Nat) (f : Flight) (g : Flight) (s : State) => s.hubUp = true ∧ linkHead s link = some f ∧ g ∈ s.col.flight ∧ g.link = link ∧ (g.unit ≠ f.unit ∨ g.msg ≠ f.msg)) 0 P.fl ({ P.fl with unit := 1 }) (P.col { Col.reset with flight := [P.fl, { P.fl with unit := 1 }] })
    ∧ (fun (f : Flight) (x : Loc) (s : State) => s.hubUp = true ∧ (s.col.flight.find? (fun g => g.link == f.link && g.unit == f.unit && g.msg == f.msg) = some f) ∧ f.floodOn = true ∧ f.flood = false ∧ msgReh f.msg = false ∧ named (msgLocus f.msg) ≠ .invalid ∧ felled s (msgLocus f.msg) = false ∧ reach 4 (msgLocus f.msg) = .scope x ∧ s.col.fences = [] ∧ s.col.quiet.contains x.toNat = false) ({ P.fl with floodOn := true }) (clusterLoc 0) (P.col { Col.reset with flight := [{ P.fl with floodOn := true }] })
    ∧ (fun (link : Nat) (unit : Nat) (msg : W128) (s : State) => s.hubUp = true ∧ (s.col.flight.find? (fun f => f.link == link && f.unit == unit && f.msg == msg) = none) ∧ nfld (sevEntry s (msgClass msg) (msgKind msg)) 3 1 = 1 ∧ s.col.flight = []) 0 0 0 (P.col { Col.reset with sev := [(0, 8)] }) := by
  refine ⟨?_, ?_, ?_, ?_, ?_, ?_⟩ <;> decide +kernel

theorem meets_RehearsalMessagesHaveNoReaction :
    (fun (f : Flight) (s : State) => msgReh f.msg = true) (⟨0, 0, 0x8000, false, false, false, 0⟩) P.c := by decide +kernel

theorem meets_LinksErrorsOrdersAndFells :
    (fun (link : Nat) (s : State) => s.hubUp = true ∧ ((link < 32 ∨ 64 ≤ link)) ∧ link < 208 ∧ s.col.parityWait.find? link = none) 0 P.up
    ∧ (fun (link : Nat) (x : Tick) (s : State) => s.hubUp = true ∧ ((link < 32 ∨ 64 ≤ link)) ∧ link < 208 ∧ s.col.parityWait.find? link = some x) 207 0 (P.col { Col.reset with parityWait := [(207, 0)] })
    ∧ (fun (l : Loc) (s : State) => s.hubUp = true ∧ felled s l = false ∧ s.col.parityWait.find? (65536 + l.toNat) = none) 0 P.up
    ∧ (fun (part : Nat) (s : State) => s.hubUp = true ∧ part < 160) 0 P.up
    ∧ (fun (tap : Nat) (s : State) => tap < 144 ∧ beatMissed s tap = true ∧ s.col.tapsMissing.contains tap = false ∧ felled s (tapWholeLoc tap) = false) 0 P.c
    ∧ (fun (r : Nat) (s : State) => r < 16 ∧ beatMissed s (144 + r) = true ∧ s.col.wardensMissing.contains r = false) 0 P.c
    ∧ (fun (m : Nat) (h : Nat) (waddr : Nat) (pay : W256) (s : State) => s.hubUp = true ∧ h < 16) 0 0 0 0 P.up
    ∧ (fun (m : Nat) (h : Nat) (waddr : Nat) (pay : W256) (s : State) => s.hubUp = true ∧ h < 16 ∧ isQuiet s (channelLoc m h) = false) 0 0 0 0 P.up
    ∧ (fun (m : Nat) (b : Back) (s : State) => s.hubUp = true ∧ (s.col.backs.find? (fun b => b.ctrl == m) = some b)) 0 (⟨0, 0, 0, 0, 0, false⟩) (P.col { Col.reset with backs := [⟨0, 0, 0, 0, 0, false⟩] })
    ∧ (fun (m : Nat) (b : Back) (s : State) => s.hubUp = true ∧ (s.col.backs.find? (fun b => b.ctrl == m) = some b) ∧ b.et + 800 ≤ s.et ∧ b.again = true) 0 (⟨0, 0, 0, 0, 0, true⟩) (P.col { Col.reset with backs := [⟨0, 0, 0, 0, 0, true⟩] })
    ∧ (fun (m : Nat) (b : Back) (s : State) => s.hubUp = true ∧ (s.col.backs.find? (fun b => b.ctrl == m) = some b) ∧ b.et + 800 ≤ s.et ∧ b.again = false) 0 (⟨0, 0, 0, 0, 0, false⟩) (P.col { Col.reset with backs := [⟨0, 0, 0, 0, 0, false⟩] })
    ∧ (fun (c : Nat) (unit : Nat) (cord : Nat) (pay : W64) (s : State) => s.hubUp = true ∧ c < 128 ∧ s.powered (c / 8) = true ∧ felled s (clusterLoc c) = false) 0 0 0 0 P.up
    ∧ (fun (core : Nat) (cord : Nat) (pay : W64) (s : State) => s.hubUp = true ∧ felled s (hcoreLoc core) = false) 0 0 0 P.up
    ∧ (fun (o : Order) (rest : List Order) (s : State) => s.hubUp = true ∧ s.col.orders = o :: rest ∧ o.lift = false) (⟨false, .locus (clusterLoc 3)⟩) ([]) (P.col { Col.reset with orders := [⟨false, .locus (clusterLoc 3)⟩] })
    ∧ (fun (o : Order) (rest : List Order) (s : State) => s.hubUp = true ∧ s.col.orders = o :: rest ∧ o.lift = true) (⟨true, .locus (clusterLoc 3)⟩) ([]) (P.col { Col.reset with orders := [⟨true, .locus (clusterLoc 3)⟩] })
    ∧ (fun (o : Order) (rest : List Order) (s : State) => s.col.orders = o :: rest ∧ o.lift = true) (⟨true, .locus (clusterLoc 3)⟩) ([]) (P.col { Col.reset with orders := [⟨true, .locus (clusterLoc 3)⟩] })
    ∧ (fun (o : Order) (rest : List Order) (s : State) => s.col.orders = o :: rest ∧ o.lift = false) (⟨false, .locus (clusterLoc 3)⟩) ([]) (P.col { Col.reset with orders := [⟨false, .locus (clusterLoc 3)⟩] })
    ∧ (fun (s : State) => s.hubUp = true ∧ s.col.fellOwed = true ∧ s.recd.cellarAbsent = false) (P.col { Col.reset with fellOwed := true })
    ∧ (fun (s : State) => s.hubUp = true ∧ s.col.fellOwed = true) (P.col { Col.reset with fellOwed := true })
    ∧ (fun (tap : Nat) (s : State) => s.hubUp = true ∧ s.scr.tapRetry.contains tap = true ∧ ((s.scr.tapTested.find? tap).any (fun t0 => decide (s.et < t0 + 40000000)) = false)) 0 (P.scr { Scr.reset with tapRetry := [0] })
    ∧ (fun (tap : Nat) (s : State) => s.hubUp = true ∧ s.scr.tapRetry.contains tap = true ∧ ((s.scr.tapTested.find? tap).any (fun t0 => decide (s.et < t0 + 40000000)) = false)) 0 (P.scr { Scr.reset with tapRetry := [0] }) := by
  refine ⟨?_, ?_, ?_, ?_, ?_, ?_, ?_, ?_, ?_, ?_, ?_, ?_, ?_, ?_, ?_, ?_, ?_, ?_, ?_, ?_, ?_⟩ <;> decide +kernel

theorem meets_TicketsAndDispatchRequests :
    (fun (tap : Nat) (w : W256) (s : State) => tapUp s tap = true ∧ tkFieldsOk tap w = true ∧ tkChainOk ((s.tap tap).unit (tkUnit w)) w = true ∧ tileAt s tap (tkTag w) = none ∧ unitQuiet s tap (tkUnit w) = false ∧ tkEmpty w = false) 0 P.tk P.c
    ∧ (fun (tap : Nat) (w : W256) (s : State) => tapUp s tap = true ∧ tkFieldsOk tap w = true ∧ tkChainOk ((s.tap tap).unit (tkUnit w)) w = true ∧ tileAt s tap (tkTag w) = none ∧ tkPin w = true ∧ quietAbove s tap (tkUnit w) = false ∧ tkEmpty w = false) 0 P.pinTk P.c
    ∧ (fun (tap : Nat) (w : W256) (s : State) => tapUp s tap = true ∧ tkFieldsOk tap w = true ∧ tkChainOk ((s.tap tap).unit (tkUnit w)) w = true ∧ tileAt s tap (tkTag w) = none ∧ unitQuiet s tap (tkUnit w) = false ∧ tkEmpty w = true) 0 (P.tk - BitVec.ofNat 256 (2 ^ 64)) P.c
    ∧ (fun (tap : Nat) (w : W256) (s : State) => tapUp s tap = true ∧ tkFieldsOk tap w = false) 0 0 P.up
    ∧ (fun (tap : Nat) (u : Nat) (cord : Nat) (pin : Bool) (s : State) => tapUp s tap = true ∧ gateRefusal tap u cord pin (gateSlot tap u s).1 (gateSlot tap u s).2 = none ∧ ((tapComp s tap).bind (fun c => findCord s c cord) = none)) 0 31 0 false P.c
    ∧ (fun (tap : Nat) (u : Nat) (cord : Nat) (i : Nat) (pin : Bool) (k : Cord) (s : State) => tapUp s tap = true ∧ gateRefusal tap u cord pin (gateSlot tap u s).1 (gateSlot tap u s).2 = none ∧ ((tapComp s tap).bind (fun c => findCord s c cord) = some i) ∧ s.cord i = some k ∧ k.st = .waiting ∧ unitKey k.placed = some (tap, u)) 0 0 5 0 false ({ P.k with st := .waiting }) (P.cords [(0, { P.k with st := .waiting })])
    ∧ (fun (tap : Nat) (u : Nat) (cord : Nat) (pin : Bool) (s : State) (evs : List Nat) => tapUp s tap = true ∧ gateRefusal tap u cord pin (gateSlot tap u s).1 (gateSlot tap u s).2 = some evs) 0 0 0 false (P.scr { Scr.reset with holds := [(coreLoc 0 0).toNat] }) ([]) := by
  refine ⟨?_, ?_, ?_, ?_, ?_, ?_, ?_⟩ <;> decide +kernel

theorem meets_WordsAndTilesComplete :
    (fun (tap : Nat) (tag : Nat) (role : Nat) (index : Nat) (w : W256) (x : Tile) (s : State) => tapUp s tap = true ∧ tileAt s tap tag = some x ∧ x.retired = none ∧ (acceptOperand x role index w).1.breached = false) 0 0 0 0 0 P.tile (P.tp P.tile)
    ∧ (fun (tap : Nat) (unit : Nat) (tag : Nat) (index : Nat) (w : W256) (x : Tile) (s : State) => tapUp s tap = true ∧ unit < 32 ∧ tileAt s tap tag = some x ∧ x.retired = none ∧ index < tkM x.ticket * cdiv (tkN x.ticket) 4) 0 31 0 0 0 P.tile (P.tp P.tile)
    ∧ (fun (tap : Nat) (unit : Nat) (tag : Nat) (index : Nat) (w : W256) (x : Tile) (s : State) => tapUp s tap = true ∧ unit < 32 ∧ tileAt s tap tag = some x ∧ x.retired = none ∧ index < tkM x.ticket * cdiv (tkN x.ticket) 4) 0 0 0 0 1 P.tile (P.tp P.tile)
    ∧ (fun (tap : Nat) (unit : Nat) (tag : Nat) (index : Nat) (last : Bool) (w : W256) (x : Tile) (s : State) => tapUp s tap = true ∧ unit < 32 ∧ tileAt s tap tag = some x) 0 0 0 0 true 0 P.tile (P.tp P.tile)
    ∧ (fun (tap : Nat) (unit : Nat) (tag : Nat) (off : Nat) (w : W256) (x : Tile) (s : State) => tapUp s tap = true ∧ tileAt s tap tag = some x ∧ x.sampled = true ∧ (((findCord s (tkComp x.ticket) (tkCord x.ticket)).bind (fun i => s.cord i)).any (fun k => k.twinned) = false)) 0 0 0 32 5 ({ P.tile with sampled := true }) (P.tp { P.tile with sampled := true })
    ∧ (fun (tap : Nat) (tag : Nat) (x : Tile) (s : State) => tapUp s tap = true ∧ tileAt s tap tag = some x ∧ x.retired.isSome = true ∧ ((s.tap tap).tags.any (fun e => comparesFirst e.2 x) = false) ∧ tkPin x.ticket = false) 0 0 P.ret (P.tp P.ret)
    ∧ (fun (tap : Nat) (tag : Nat) (x : Tile) (s : State) => tapUp s tap = true ∧ tileAt s tap tag = some x ∧ x.retired.isSome = true ∧ ((s.tap tap).tags.any (fun e => comparesFirst e.2 x) = false) ∧ tkPin x.ticket = true) 0 0 ({ P.ret with ticket := P.tk ||| BitVec.ofNat 256 (2 ^ 140) }) (P.tp { P.ret with ticket := P.tk ||| BitVec.ofNat 256 (2 ^ 140) })
    ∧ (fun (tap : Nat) (tag : Nat) (x : Tile) (s : State) => tapUp s tap = true ∧ tileAt s tap tag = some x) 0 0 P.tile (P.tp P.tile)
    ∧ (fun (tap : Nat) (tag : Nat) (x : Tile) (s : State) => tapUp s tap = true ∧ tileAt s tap tag = some x) 0 0 P.tile (P.tp P.tile) := by
  refine ⟨?_, ?_, ?_, ?_, ?_, ?_, ?_, ?_, ?_⟩ <;> decide +kernel

theorem meets_VerdictIsOkExactlyWithoutDifference :
    (fun (u : UnitSt) (x : Tile) => x.breached = false ∧ countsOk x = true ∧ tkKind x.ticket ≠ 3 ∧ tkKind x.ticket ≠ 4 ∧ x.anyInexact = false ∧ x.nonfin = false) UnitSt.reset P.ret := by decide +kernel

theorem meets_SendPortAndQuotas :
    (fun (tap : Nat) (req : W128) (s : State) => tapUp s tap = true ∧ s.esc.sends.has (256 * tap + fld req 0 8) = false ∧ (Tbl.get s.esc.pools tap Pool.reset).credits = 0) 0 0 P.up
    ∧ (fun (tap : Nat) (i : Nat) (req : W128) (s : State) => tapUp s tap = true ∧ s.esc.sends.has (256 * tap + fld req 0 8) = false ∧ (Tbl.get s.esc.pools tap Pool.reset).comp = some (fld req 13 4) ∧ 0 < (Tbl.get s.esc.pools tap Pool.reset).credits ∧ Tbl.free s.esc.entries 16384 = some i ∧ unitOut s (tapUnitLoc tap (fld req 8 5)) = false ∧ compQuiet s (fld req 13 4) = false ∧ (s.comp (fld req 13 4)).st = .opened ∧ sendBad s (sentEntry s tap i req) = none ∧ stopHolds s (fld req 13 4) = false ∧ escForward s (fld req 13 4) = false) 0 0 (BitVec.ofNat 128 (7 * 2 ^ 82)) (P.esc { Esc.reset with pools := [(0, ⟨some 0, 1, 0, 0, []⟩)] })
    ∧ (fun (tap : Nat) (handle : Nat) (p : SendSt) (e : EscEntry) (s : State) => tapUp s tap = true ∧ handle < 256 ∧ s.esc.sends.find? (256 * tap + handle) = some p ∧ p.granted = false ∧ s.escEntry p.index = some e ∧ e.st = .held ∧ stopHolds s e.comp = false ∧ e.forward = false ∧ sendProven s e = true) 0 3 (⟨0, 0, 0, 0, 0, false, 0⟩) ({ P.entry with locus := coreLoc 0 0 }) (P.esc { Esc.reset with entries := [(0, { P.entry with locus := coreLoc 0 0 })], wmarks := [(0, ⟨0, [], []⟩)], sends := [(3, ⟨0, 0, 0, 0, 0, false, 0⟩)] })
    ∧ (fun (tap : Nat) (handle : Nat) (p : SendSt) (s : State) => tapUp s tap = true ∧ s.esc.sends.find? (256 * tap + handle) = some p ∧ p.granted = true) 0 0 (⟨0, 0, 0, 0, 0, true, 0⟩) (P.esc { Esc.reset with sends := [(0, ⟨0, 0, 0, 0, 0, true, 0⟩)] })
    ∧ (fun (tap : Nat) (c : Nat) (s : State) => tapUp s tap = true ∧ (Tbl.get s.esc.pools tap Pool.reset).comp = some c) 0 0 (P.esc { Esc.reset with pools := [(0, ⟨some 0, 1, 8, 0, []⟩)] }) := by
  refine ⟨?_, ?_, ?_, ?_, ?_⟩ <;> decide +kernel

theorem meets_EscrowEntriesFollowTheirMessages :
    (fun (bad : List Nat) (r : ProofRep) (rest : List ProofRep) (e : EscEntry) (s : State) => s.hubUp = true ∧ s.esc.reports = r :: rest ∧ s.escEntry r.index = some e ∧ e.inbound = false ∧ e.reuse = r.reuse ∧ e.st = .provisional) ([]) (⟨0, 0, true, 0⟩) ([]) ({ P.entry with st := .provisional }) (P.esc { Esc.reset with entries := [(0, { P.entry with st := .provisional })], reports := [⟨0, 0, true, 0⟩] })
    ∧ (fun (x : W128) (slot : Nat) (len : Nat) (s : State) => s.hubUp = true ∧ extProv x = false) 0 0 0 P.up
    ∧ (fun (x : W128) (slot : Nat) (len : Nat) (s : State) => s.hubUp = true ∧ extProv x = true ∧ escRoom s (extComp s x) = none ∧ (List.find? (fun (ie : Nat × EscEntry) => ie.2.inbound && ie.2.peer == extSrcDie x && ie.2.peerComp == extSrcComp x && ie.2.sendId == extSendId x && ie.2.comp == extComp s x && (ie.2.st == .earlyClear || ie.2.st == .earlyRecant)) s.esc.entries = none)) 1 0 0 ({ P.up with gov := { Gov.reset with policy := [(96, 0)] } })
    ∧ (fun (i : Nat) (e : EscEntry) (s : State) => s.hubUp = true ∧ s.escEntry i = some e ∧ e.inbound = true ∧ e.st = .opened ∧ e.born + 400 * escInb s e.comp ≤ s.et) 0 ({ P.entry with st := .opened, inbound := true }) (P.ent { P.entry with st := .opened, inbound := true })
    ∧ (fun (i : Nat) (e : EscEntry) (s : State) => s.hubUp = true ∧ s.escEntry i = some e ∧ (e.st = .earlyClear ∨ e.st = .earlyRecant) ∧ e.deadline ≤ s.et) 0 ({ P.entry with st := .earlyClear, inbound := true }) (P.ent { P.entry with st := .earlyClear, inbound := true })
    ∧ (fun (i : Nat) (e : EscEntry) (s : State) => s.hubUp = true ∧ s.escEntry i = some e ∧ e.st = .branchFailed ∧ e.deadline ≤ s.et) 0 ({ P.entry with st := .branchFailed, deadline := 10 ^ 12 }) (P.ent { P.entry with st := .branchFailed, deadline := 10 ^ 12 })
    ∧ (fun (cls : Nat) (typ : Nat) (c : Instr) (f : VcsMsg → State → State) => (cls, typ, c, f) ∈ [(vcEscrow, 1, Instr.clear, onClear), (vcEscrow, 2, .recant, onRecant), (vcEscrow, 3, .recantAck, onRecantAck), (vcEscrow, 4, .recall, onRecall), (vcEscrow, 5, .lateRecant, onLateRecant), (vcLease, 1, .ping, onPing), (vcLease, 3, .leaseRevoke, onRevoke), (vcDigest, 1, .digestPart, onDigestPart), (vcDigest, 3, .tensorPart, onTensorPart), (vcDigest, 4, .tensorDiff, onTensorDiff)]) vcEscrow 1 .clear onClear
    ∧ (fun (m : VcsMsg) (c : Nat) (i : Nat) (s : State) => escDst s m = some c ∧ (s.comp c).st = .opened ∧ findInbound s m.src (fld m.payload 8 4) (fld m.payload 16 16) c escOpen = some i) (P.msg vcEscrow 1) 0 0 (P.ent { P.entry with inbound := true, st := .opened })
    ∧ (fun (m : VcsMsg) (e : EscEntry) (s : State) => s.escEntry (fld m.payload 16 14) = some e ∧ e.inbound = false ∧ e.reuse = fld m.payload 30 2 ∧ e.st = .recanting ∧ e.acks ≤ 1) (P.msg vcEscrow 3) ({ P.entry with st := .recanting, acks := 1 }) (P.ent { P.entry with st := .recanting, acks := 1 })
    ∧ (fun (m : VcsMsg) (c : Nat) (s : State) => escDst s m = some c ∧ (s.comp c).st ≠ .opened) (P.msg vcEscrow 1) 0 ({ P.up with tim := P.c.tim }) := ⟨by decide +kernel, by decide +kernel, by decide +kernel, by decide +kernel, by decide +kernel, by decide +kernel, by simp, by decide +kernel, by decide +kernel, by decide +kernel⟩

theorem meets_FreedEntryChangesItsReuseCount :
    (fun (i : Nat) (s : State) => holders s = []) 0 (P.ent P.entry) := by decide +kernel

theorem meets_MessagesBranchesAndWindows :
    (fun (h : W128) (p : BitVec 384) (s : State) => s.hubUp = true ∧ s.dieSet = true ∧ hdrDst h = s.die ∧ messageOk h p = true ∧ (hdrClass h = 1 ∨ hdrClass h = 2 ∨ hdrClass h = 3 ∨ hdrClass h = 5 ∨ hdrClass h = 6) ∧ intakeRoom s (hdrPlen h) = true) (BitVec.ofNat 128 (1 + 16 + 3 * 2 ^ 32)) 1 P.named
    ∧ (fun (h : W128) (p : BitVec 384) (s : State) => s.hubUp = true ∧ s.dieSet = true ∧ hdrDst h = s.die ∧ messageOk h p = true ∧ hdrClass h ≠ 0 ∧ intakeRoom s (hdrPlen h) = false) (BitVec.ofNat 128 (1 + 16 + 3 * 2 ^ 32)) 1 ({ P.named with fab := { P.named.fab with intake := List.replicate 1024 (P.msg 1 1) } })
    ∧ (fun (h : W128) (p : BitVec 384) (s : State) => s.hubUp = true ∧ s.dieSet = true ∧ hdrDst h ≠ s.die ∧ hdrClass h ≠ 0) (BitVec.ofNat 128 (1 + 16 + 4 * 2 ^ 32)) 1 P.named
    ∧ (fun (h : W128) (p : BitVec 384) (s : State) => s.dieSet = false) 0 0 P.up
    ∧ (fun (mseq : Nat) (src : Nat) (b : Branch) (s : State) => s.hubUp = true ∧ findBranch s mseq src = some b ∧ b.use = .plain) 0 7 P.br (P.fab { Fab.reset with branches := [P.br] })
    ∧ (fun (mseq : Nat) (src : Nat) (s : State) => s.hubUp = true) 0 0 P.up
    ∧ (fun (mseq : Nat) (dst : Nat) (b : Branch) (s : State) => s.hubUp = true ∧ findBranch s mseq dst = some b ∧ b.attempts < 4096) 0 7 ({ P.br with attempts := 4095 }) (P.fab { Fab.reset with branches := [{ P.br with attempts := 4095 }] })
    ∧ (fun (mseq : Nat) (dst : Nat) (b : Branch) (s : State) => s.hubUp = true ∧ findBranch s mseq dst = some b ∧ b.cls ≠ vcEscrow ∧ b.use = .plain ∧ (b.attempts = 4096 ∨ 262144 ≤ 6 * (s.et - b.firstEt))) 0 7 ({ P.br with attempts := 4096, cls := 2 }) (P.fab { Fab.reset with branches := [{ P.br with attempts := 4096, cls := 2 }] })
    ∧ (fun (mseq : Nat) (dst : Nat) (b : Branch) (s : State) => findBranch s mseq dst = some b ∧ b.attempts < 4096 ∧ 6 * (s.et - b.firstEt) < 262144) 0 7 ({ P.br with attempts := 4095 }) (P.fab { Fab.reset with branches := [{ P.br with attempts := 4095 }] })
    ∧ (fun (s : State) => s.hubUp = true ∧ s.fab.window ≠ s.et / 400000 * 400000) P.c
    ∧ (fun (s : State) => s.fab.window = s.et / 400000 * 400000) P.up
    ∧ (fun (i : Nat) (s : State) => s.hubUp = true ∧ (s.lease i).state = .held ∧ (s.lease i).expiry ≤ s.et) 16 (P.col { Col.reset with leases := [(16, { Lease.reset with state := .held, expiry := 10 ^ 12 })] })
    ∧ (fun (i : Nat) (s : State) => s.et < (s.lease i).expiry) 0 (P.col { Col.reset with leases := [(0, { Lease.reset with state := .held, expiry := 10 ^ 12 + 1 })] }) := by
  refine ⟨?_, ?_, ?_, ?_, ?_, ?_, ?_, ?_, ?_, ?_, ?_, ?_, ?_⟩ <;> decide +kernel

theorem meets_EpochsAndTaggedWrites :
    (fun (c : Nat) (t0 : Tick) (s : State) => s.hubUp = true ∧ (s.digComp c).tclose = some t0 ∧ t0 ≤ s.et ∧ (s.digComp c).mode = .normal ∧ (s.digComp c).voteNext = none ∧ 1 ≤ voteInterval (s.digComp c).vote) 0 (10 ^ 12) (P.dig { DigComp.reset with tclose := some (10 ^ 12), vote := BitVec.ofNat 512 (2 ^ 512 - 1) })
    ∧ (fun (c : Nat) (t0 : Tick) (s : State) => (s.digComp c).tclose = some t0 ∧ s.et < t0) 0 (10 ^ 12 + 1) (P.dig { DigComp.reset with tclose := some (10 ^ 12 + 1) })
    ∧ (fun (c : Nat) (slot : Nat) (n : Nat) (tid : Nat) (k : Closing) (x : List Extent) (words : List (BitVec 288)) (s : State) => s.hubUp = true ∧ ((s.digComp c).closing.findIdx? (fun k => k.toScan.has slot) = some n) ∧ (s.digComp c).closing[n]? = some k ∧ Tbl.get k.toScan slot (0, []) = (tid, x) ∧ words.length = extWords x) 0 0 0 5 (⟨0, .normal, 0, 0, 0, 0, [], [(0, (5, [⟨0, 0, 1, 0⟩]))]⟩) ([⟨0, 0, 1, 0⟩]) ([0]) (P.dig { DigComp.reset with closing := [⟨0, .normal, 0, 0, 0, 0, [], [(0, (5, [⟨0, 0, 1, 0⟩]))]⟩] })
    ∧ (fun (c : Nat) (k : Closing) (rest : List Closing) (s : State) => s.hubUp = true ∧ (s.digComp c).closing = k :: rest ∧ k.toScan = []) 0 (⟨0, .normal, 0, 0, 0, 0, [], []⟩) ([]) (P.dig { DigComp.reset with closing := [⟨0, .normal, 0, 0, 0, 0, [], []⟩] })
    ∧ (fun (c : Nat) (s : State) => (s.digComp c).closing = []) 0 P.up
    ∧ (fun (m : Nat) (c : Nat) (slot : Nat) (woff : Nat) (ch : Nat) (w : BitVec 288) (e : Tensor) (s : State) => s.hubUp = true ∧ ch < 16 ∧ (s.digComp c).tclose = none ∧ s.dig.tensors.find? slot = some e ∧ e.valid = true ∧ e.comp = c ∧ (s.digComp c).windowOpen = true ∧ scanning (s.digComp c) slot = false ∧ (s32Dec w).2 ≠ .blazed) 0 0 0 9 15 (s32Enc 77) (⟨5, 0, true, false, 0, 0, 0, 0⟩) ({ P.dig { DigComp.reset with windowOpen := true } with dig := { Dig.reset with comps := [(0, { DigComp.reset with windowOpen := true })], tensors := [(0, ⟨5, 0, true, false, 0, 0, 0, 0⟩)] } })
    ∧ (fun (m : Nat) (c : Nat) (slot : Nat) (woff : Nat) (ch : Nat) (w : BitVec 288) (e : Tensor) (s : State) => s.hubUp = true ∧ ch < 16 ∧ (s.digComp c).tclose = none ∧ s.dig.tensors.find? slot = some e ∧ e.valid = true ∧ e.comp = c ∧ (s.digComp c).windowOpen = false ∧ scanning (s.digComp c) slot = false) 0 0 0 9 15 (s32Enc 77) (⟨5, 0, true, false, 0, 0, 0, 0⟩) ({ P.c with dig := { Dig.reset with comps := [(0, { DigComp.reset with windowOpen := false })], tensors := [(0, ⟨5, 0, true, false, 0, 0, 0, 0⟩)] } })
    ∧ (fun (m : Nat) (c : Nat) (slot : Nat) (woff : Nat) (ch : Nat) (w : BitVec 288) (s : State) => s.hubUp = true ∧ ch < 16 ∧ (s.digComp c).tclose = none ∧ s.dig.tensors.find? slot = none) 7 0 0 9 15 0 P.c := by
  refine ⟨?_, ?_, ?_, ?_, ?_, ?_, ?_, ?_⟩ <;> decide +kernel

theorem meets_FoldsCommute :
    (fun (m : Nat) (c : Nat) (slot : Nat) (a : Nat) (b : Nat) (v : BitVec 288) (w : BitVec 288) (t : Tensor) (s : State) => scanning (s.digComp c) slot = false) 0 0 0 1 2 (s32Enc 7) (s32Enc 8) (⟨5, 0, true, false, 0, 0, 0, 0⟩) P.c := by decide +kernel

theorem meets_VerdictsAndTheirTimeouts :
    (fun (c : Nat) (m : VcsMsg) (s : State) => s.hubUp = true ∧ s.fab.intake = [m] ∧ m.cls = vcDigest ∧ fld m.payload 0 4 = 2 ∧ groupComp s m.group = some c ∧ (s.digComp c).awaited = []) 0 (P.msg vcDigest 2) (P.fab { Fab.reset with intake := [P.msg vcDigest 2], groups := [(0, [(0, 0, 9, 0)])] })
    ∧ (fun (c : Nat) (e : Nat) (t0 : Tick) (rest : List (Nat × Tick)) (s : State) => s.hubUp = true ∧ (s.digComp c).awaited = (e, t0) :: rest ∧ t0 + 400000 * fld (s.digComp c).vote 112 16 + 40000000 ≤ s.et) 0 3 0 ([]) (P.dig { DigComp.reset with awaited := [(3, 0)] })
    ∧ (fun (c : Nat) (e : Nat) (s : State) => s.hubUp = true) 0 0 P.up
    ∧ (fun (c : Nat) (e : Nat) (v : OpenVote) (s : State) => s.hubUp = true ∧ (s.arb c).votes = [v] ∧ v.epoch = e % 2 ^ 32 ∧ (s.arb c).checks = [] ∧ v.first + voteWait (s.digComp c).vote ≤ s.et) 0 3 (⟨3, 0, []⟩) (P.arb { Arb.reset with votes := [⟨3, 0, []⟩] })
    ∧ (fun (c : Nat) (g : TensorGather) (s : State) => s.hubUp = true ∧ (s.arb c).gather = [g] ∧ g.first + voteWait (s.digComp c).vote ≤ s.et) 0 (⟨0, 0, 0, 0, [], 0, false, false⟩) (P.arb { Arb.reset with gather := [⟨0, 0, 0, 0, [], 0, false, false⟩] })
    ∧ (fun (c : Nat) (m : VcsMsg) (s : State) => s.hubUp = true ∧ (findMsg (fun m => m.cls == vcDigest && fld m.payload 0 4 == 5) s = some m) ∧ groupComp s m.group = some c) 0 (P.msg vcDigest 5) (P.fab { Fab.reset with intake := [P.msg vcDigest 5], groups := [(0, [(0, 0, 9, 0)])] }) := by
  refine ⟨?_, ?_, ?_, ?_, ?_, ?_⟩ <;> decide +kernel

theorem meets_RatiosAndMatchedPeers :
    (fun (v : W64) (r : Nat) (s : State) => s.hubUp = true ∧ r < 16 ∧ s.tim.switches = [] ∧ fld v 32 16 = 0 ∧ v.getLsbD r ≠ s.div4 r ∧ s.col.wardensMissing = [] ∧ s.col.fences = []) 1 0 P.c
    ∧ (fun (r : Nat) (t0 : Tick) (d : Bool) (s : State) => s.hubUp = true ∧ s.tim.switches.find? r = some (t0, d) ∧ t0 ≤ s.et) 0 5 true (P.tim { Tim.reset with switches := [(0, (5, true))] })
    ∧ (fun (r : Nat) (t0 : Tick) (d : Bool) (s : State) => s.tim.switches.find? r = some (t0, d) ∧ s.et < t0) 0 (10 ^ 13) true (P.tim { Tim.reset with switches := [(0, (10 ^ 13, true))] })
    ∧ (fun (part : Nat) (d : Nat) (s : State) => s.hubUp = true) 0 0 P.c
    ∧ (fun (part : Nat) (slip : Int) (s : State) => s.hubUp = true ∧ s.et < Tbl.get s.tim.beacons part 0 + 65536) 0 0 P.up
    ∧ (fun (part : Nat) (slip : Int) (s : State) => s.hubUp = true ∧ Tbl.get s.tim.beacons part 0 + 65536 ≤ s.et ∧ ((Tbl.get s.tim.copies part 0 + slip).natAbs ≤ 1 ∨ switching s part = true)) 0 0 P.c
    ∧ (fun (part : Nat) (slip : Int) (s : State) => s.hubUp = true ∧ Tbl.get s.tim.beacons part 0 + 65536 ≤ s.et ∧ 1 < (Tbl.get s.tim.copies part 0 + slip).natAbs ∧ switching s part = false) 0 2 P.c
    ∧ (fun (r : Nat) (n : Nat) (a : Int) (b : Int) (s : State) => s.hubUp = true ∧ n ∈ neighbours r ∧ senseOf s r = none ∧ diodeOf s r = some a ∧ diodeOf s n = some b ∧ b + 560 < a) 0 1 2000 0 (P.thm { Thm.reset with diodes := [(0, [2000]), (1, [0])] })
    ∧ (fun (c : Nat) (s : State) => s.hubUp = true) 0 P.up
    ∧ (fun (c : Nat) (s : State) => s.hubUp = true) 0 P.up
    ∧ (fun (c : Nat) (s : State) => s.hubUp = false) 0 P.isl
    ∧ (fun (i : Nat) (m : Match) (s : State) => s.hubUp = true ∧ s.tim.peers.find? i = some m ∧ m.valid = true ∧ s.rf fTimeMode = 2 ∧ s.inLoaded = true) 0 (⟨7, true, [], 0, 0, none, false⟩) ({ (P.c.setRf fTimeMode 2) with tim := { P.c.tim with peers := [(0, ⟨7, true, [], 0, 0, none, false⟩)] } })
    ∧ (fun (i : Nat) (m : Match) (t0 : Tick) (s : State) => s.hubUp = true ∧ s.tim.peers.find? i = some m ∧ m.valid = true ∧ s.rf fTimeMode = 2 ∧ m.staleTold = false ∧ m.newest = some t0 ∧ t0 + 440000000 ≤ s.et) 0 (⟨7, true, [], 0, 0, some 5, false⟩) 5 ({ (P.c.setRf fTimeMode 2) with tim := { P.c.tim with peers := [(0, ⟨7, true, [], 0, 0, some 5, false⟩)] } })
    ∧ (fun (i : Nat) (m : Match) (s : State) => s.tim.peers.find? i = some m ∧ m.staleTold = true) 0 (⟨7, true, [], 0, 0, some 5, true⟩) ({ (P.c.setRf fTimeMode 2) with tim := { P.c.tim with peers := [(0, ⟨7, true, [], 0, 0, some 5, true⟩)] } }) := by
  refine ⟨?_, ?_, ?_, ?_, ?_, ?_, ?_, ?_, ?_, ?_, ?_, ?_, ?_, ?_⟩ <;> decide +kernel

theorem meets_AnchoredTimeAndSlew :
    (fun (s : State) => s.hubUp = true ∧ (s.isl.st = .selftest ∨ s.isl.st = .loaded) ∧ s.rf fTimeMode = 1 ∧ s.rf fRoot = 0 ∧ s.tim.heard = []) ((P.selft.setRf fTimeMode 1).setRf fRoot 0)
    ∧ (fun (s : State) => s.hubUp = true ∧ s.isl.st ≠ .selftest ∧ s.isl.st ≠ .loaded) P.up
    ∧ (fun (m : VcsMsg) (s : State) => s.hubUp = true ∧ (findMsg (fun m => m.cls == vcTime && fld m.payload 0 4 == 3) s = some m) ∧ m.src = s.rf fParent ∧ fld m.payload 16 5 < 16 ∧ s.tim.align = none) ({ P.msg vcTime 3 with src := 9 }) ({ P.anch with fab := { Fab.reset with intake := [{ P.msg vcTime 3 with src := 9 }] } })
    ∧ (fun (m : VcsMsg) (s : State) => s.hubUp = true ∧ (findMsg (fun m => m.cls == vcTime && fld m.payload 0 4 == 1) s = some m) ∧ (s.isl.st = .selftest ∨ s.inLoaded = true) ∧ s.dieSet = true ∧ m.src ≠ s.die) (P.msg vcTime 1) ({ P.anch with fab := { Fab.reset with intake := [P.msg vcTime 1] } })
    ∧ (fun (t4 : Nat) (m : VcsMsg) (s : State) => s.hubUp = true ∧ (findMsg (fun m => m.cls == vcTime && fld m.payload 0 4 == 2) s = some m) ∧ (s.tim.reqs.find? (fun r => r.1 == m.src && r.2.1 == fld m.payload 8 8) = none)) 0 (P.msg vcTime 2) (P.inbox (P.msg vcTime 2))
    ∧ (fun (t4 : Nat) (t1 : Nat) (q : Nat) (m : VcsMsg) (s : State) => s.hubUp = true ∧ (findMsg (fun m => m.cls == vcTime && fld m.payload 0 4 == 2) s = some m) ∧ q = fld m.payload 8 8 ∧ (s.tim.reqs.find? (fun r => r.1 == m.src && r.2.1 == q) = some (m.src, q, t1)) ∧ m.src ≠ s.rf fParent) 9 5 0 (P.msg vcTime 2) ({ P.anch with fab := { Fab.reset with intake := [P.msg vcTime 2] }, tim := { P.anch.tim with reqs := [(7, 0, 5)] } })
    ∧ (fun (t4 : Nat) (t1 : Nat) (q : Nat) (m : VcsMsg) (a : Align) (s : State) => s.hubUp = true ∧ (findMsg (fun m => m.cls == vcTime && fld m.payload 0 4 == 2) s = some m) ∧ q = fld m.payload 8 8 ∧ (s.tim.reqs.find? (fun r => r.1 == m.src && r.2.1 == q) = some (m.src, q, t1)) ∧ m.src = s.rf fParent ∧ s.tim.align = some a ∧ a.step = none ∧ a.exch.length + 1 < s.rf fExch) 9 5 0 ({ P.msg vcTime 2 with src := 9 }) (⟨0, true, [], none⟩) ({ P.anch with fab := { Fab.reset with intake := [{ P.msg vcTime 2 with src := 9 }] }, tim := { P.anch.tim with reqs := [(9, 0, 5)], align := some ⟨0, true, [], none⟩ } })
    ∧ (fun (a : Align) (t0 : Tick) (whole : Int) (rem : Nat) (s : State) => s.hubUp = true ∧ s.tim.align = some a ∧ a.step = some (t0, whole, rem) ∧ t0 ≤ s.et) (⟨0, true, [], some (5, -3, 1)⟩) 5 (-3) 1 (P.tim { Tim.reset with align := some ⟨0, true, [], some (5, -3, 1)⟩ })
    ∧ (fun (s : State) => s.hubUp = true ∧ s.rf fTimeMode = 1 ∧ s.rf fRoot = 0 ∧ s.rf fQuality = qLocked ∧ s.inLoaded = true ∧ s.tim.reqs = [] ∧ s.dieSet = true ∧ s.rf fParent ≠ s.die) ((P.anch.setRf fQuality qLocked))
    ∧ (fun (v : W64) (s : State) => s.hubUp = true ∧ (sint 12 (fld v 0 12)).natAbs ≤ 1024) 0 P.up
    ∧ (fun (v : W64) (s : State) => s.hubUp = true ∧ 1024 < (sint 12 (fld v 0 12)).natAbs) 2047 P.c
    ∧ (fun (s : State) => s.hubUp = true ∧ s.tim.slewLeft ≠ 0 ∧ s.tim.slewNext ≤ s.et) (P.tim { Tim.reset with slewLeft := -5 })
    ∧ (fun (s : State) => (s.tim.slewLeft = 0 ∨ s.et < s.tim.slewNext)) P.up := by
  refine ⟨?_, ?_, ?_, ?_, ?_, ?_, ?_, ?_, ?_, ?_, ?_, ?_, ?_⟩ <;> decide +kernel

theorem meets_CordsRegisterAndRetire :
    (fun (r : Nat) (d : BitVec 768) (s : State) => s.hubUp = true ∧ s.powered r = true ∧ registerStatus s d ≠ stOk) 0 0 P.up
    ∧ (fun (r : Nat) (i : Nat) (d : BitVec 768) (s : State) => s.hubUp = true ∧ s.powered r = true ∧ registerStatus s d = stOk ∧ ((cordSlots s (fun k => k.comp == fld d 32 4)).length < quota s (fld d 32 4) 2) ∧ Tbl.free s.jrn.cords 32768 = some i) 0 0 P.desc P.c
    ∧ (fun (r : Nat) (d : BitVec 768) (s : State) => s.hubUp = true ∧ s.powered r = true ∧ registerStatus s d = stOk ∧ (quota s (fld d 32 4) 2 ≤ (cordSlots s (fun k => k.comp == fld d 32 4)).length)) 0 P.desc ({ P.c with gov := { P.c.gov with policy := [(96, 0)] } })
    ∧ (fun (r : Nat) (d : BitVec 768) (e : Nat × Bool) (l : List (Nat × Bool)) (s : State) => s.hubUp = true ∧ s.powered r = true) 0 P.desc ((3, false)) ([]) P.c
    ∧ (fun (i : Nat) (k : Cord) (s : State) => s.cord i = some k) 0 P.k (P.cords [(0, P.k)])
    ∧ (fun (i : Nat) (k : Cord) (s : State) => s.hubUp = true ∧ s.cord i = some k ∧ (k.st = .settled ∨ k.st = .waiting) ∧ consumers s k = [] ∧ outEntries s k.comp k.id = [] ∧ s.jrn.skids = [] ∧ s.jrn.spares = []) 0 ({ P.k with st := .settled }) (P.cords [(0, { P.k with st := .settled })])
    ∧ (fun (r : Nat) (i : Nat) (jt : BitVec 96) (k : Cord) (s : State) => s.hubUp = true ∧ s.powered r = true ∧ findCord s (fld jt 0 4) (fld jt 4 32) = some i ∧ s.cord i = some k ∧ regionOf k.placed = some r ∧ k.twin = none ∧ k.sampled = false ∧ k.st = .running ∧ s.jrn.skids = [] ∧ s.jrn.spares = []) 0 0 (BitVec.ofNat 96 (5 * 16)) ({ P.k with st := .running }) (P.cords [(0, { P.k with st := .running })])
    ∧ (fun (i : Nat) (k : Cord) (s : State) => s.hubUp = true ∧ s.cord i = some k ∧ settles s k = true ∧ s.jrn.rings.find? k.comp = none ∧ s.jrn.spares = [] ∧ s.jrn.skids = [] ∧ consumers s k = []) 0 P.k (P.cords [(0, P.k)])
    ∧ (fun (i : Nat) (k : Cord) (s : State) => s.cord i = some k ∧ settles s k = false ∧ s.jrn.skids = []) 0 ({ P.k with st := .running }) (P.cords [(0, { P.k with st := .running })])
    ∧ (fun (i : Nat) (k : Cord) (s : State) => s.hubUp = true ∧ s.cord i = some k ∧ provenCord s k = true ∧ consumers s k = []) 0 P.k (P.cords [(0, P.k)])
    ∧ (fun (i : Nat) (j : Nat) (k : Cord) (q : Cord) (s : State) => s.hubUp = true ∧ s.cord i = some k ∧ provenCord s k = true ∧ consumers s k = [j] ∧ s.cord j = some q ∧ heldDep s q = false) 0 1 P.k ({ P.k with desc := 6, st := .waiting, dep0 := some 0, jsn := 1, depHeld := true }) (P.cords [(0, P.k), (1, { P.k with desc := 6, st := .waiting, dep0 := some 0, jsn := 1, depHeld := true })])
    ∧ (fun (i : Nat) (t0 : Tick) (k : Cord) (s : State) => s.hubUp = true ∧ (s.jrn.spills.find? (fun e => e.1 == i) = some (i, t0)) ∧ s.cord i = some k ∧ k.st = .settled ∧ t0 + 4000000 ≤ s.et) 0 5 ({ P.k with st := .settled }) ({ P.cords [(0, { P.k with st := .settled })] with jrn := { Jrn.reset with cords := [(0, { P.k with st := .settled })], spills := [(0, 5)] } }) := by
  refine ⟨?_, ?_, ?_, ?_, ?_, ?_, ?_, ?_, ?_, ?_, ?_, ?_⟩ <;> decide +kernel

theorem meets_SkidsMoveCordsInOrder :
    (fun (l : Loc) (w : SkidWait) (s : State) => s.hubUp = true ∧ (s.jrn.waits.find? (fun w => w.scope == l) = some w) ∧ skidDueEt s w ≤ s.et) (clusterLoc 0) (⟨clusterLoc 0, 5, false⟩) (P.jrn { Jrn.reset with waits := [⟨clusterLoc 0, 5, false⟩] })
    ∧ (fun (l : Loc) (w : SkidWait) (s : State) => (s.jrn.waits.find? (fun w => w.scope == l) = some w) ∧ s.et < skidDueEt s w) (clusterLoc 0) (⟨clusterLoc 0, 10 ^ 12, true⟩) (P.jrn { Jrn.reset with waits := [⟨clusterLoc 0, 10 ^ 12, true⟩] })
    ∧ (fun (l : Loc) (s : State) => s.isl.pf = true) (clusterLoc 0) ({ P.c with isl := { P.c.isl with pf := true } })
    ∧ (fun (l : Loc) (target : Loc) (q : Skid) (x : Nat) (jsn : Nat) (i : Nat) (again : Bool) (rest : List (Nat × Loc × Bool)) (k : Cord) (s : State) => s.hubUp = true ∧ skidOf s l = some q ∧ q.spare = some x ∧ s.jrn.waking.contains x = false ∧ s.jrn.fetches = [] ∧ q.queue = (jsn, target, again) :: rest ∧ findJsn s q.comp jsn = some i ∧ s.cord i = some k ∧ k.recanted = none) (clusterLoc 0) (coreLoc 7 0) P.sk 7 0 0 false ([]) P.k (P.jrn { Jrn.reset with skids := [P.sk], cords := [(0, P.k)] })
    ∧ (fun (l : Loc) (q : Skid) (s : State) => s.hubUp = true ∧ skidOf s l = some q ∧ q.queue ≠ []) (clusterLoc 0) P.sk (P.jrn { Jrn.reset with skids := [P.sk] })
    ∧ (fun (l : Loc) (q : Skid) (s : State) => s.hubUp = true ∧ skidOf s l = some q ∧ q.queue = []) (clusterLoc 0) ({ P.sk with queue := [] }) (P.jrn { Jrn.reset with skids := [{ P.sk with queue := [] }] })
    ∧ (fun (r : Nat) (bits : BitVec 8) (s : State) => s.hubUp = true ∧ s.powered r = true) 0 1 P.up
    ∧ (fun (l : Loc) (q : Skid) (s : State) => s.hubUp = true ∧ skidOf s l = some q ∧ q.late = false ∧ q.queue ≠ [] ∧ q.fenceEt + 800000 ≤ s.et) (clusterLoc 0) P.sk (P.jrn { Jrn.reset with skids := [P.sk] })
    ∧ (fun (tag : Nat) (bytes : BitVec 1024) (s : State) => (s.cmd.xfers.find? (fun x => x.tag == tag) = none)) 0 0 P.up
    ∧ (fun (tag : Nat) (c : Nat) (jsn : Nat) (bytes : BitVec 1024) (x : Xfer) (s : State) => s.hubUp = true ∧ (s.cmd.xfers.find? (fun x => x.tag == tag) = some x) ∧ x.use = .ringFetch c jsn ∧ s.jrn.fetches = [] ∧ fld bytes 768 32 ≠ jsn) 0 0 9 0 (⟨0, 0, false, 0, 0, 0, .ringFetch 0 9, 0, false⟩) ({ P.c with cmd := { P.c.cmd with xfers := [⟨0, 0, false, 0, 0, 0, .ringFetch 0 9, 0, false⟩] } })
    ∧ (fun (tag : Nat) (c : Nat) (jsn : Nat) (cj : Nat) (n : Nat) (i : Nat) (bytes : BitVec 1024) (x : Xfer) (k : Cord) (j : Cord) (s : State) (u : State) (v : State) => s.hubUp = true ∧ (s.cmd.xfers.find? (fun x => x.tag == tag) = some x) ∧ x.use = .ringFetch c jsn ∧ s.jrn.fetches = [(c, jsn, cj, n)] ∧ fld bytes 768 32 = jsn ∧ fld bytes 800 4 = 6 ∧ bitAt bytes 48 = true ∧ bitAt bytes 53 = true ∧ bitAt bytes 814 = false ∧ findJsn s c jsn = none ∧ (findJsn s c cj).bind s.cord = some k ∧ (u = { s with cmd := { s.cmd with xfers := s.cmd.xfers.filter (fun y => y.tag != tag) }, jrn := { s.jrn with fetches := [] } }) ∧ adoptProducer c bytes n (lostSpare k) u = some v ∧ findJsn v c cj = some i ∧ v.cord i = some j ∧ ((∀ b ∈ j.lost, overlaps (descBuf (rewriteAll v c (BitVec.ofNat 768 (fld bytes 0 768))) 3) (j.buf b) = true))) 3 0 9 12 0 0 P.adBytes (P.xf false (.ringFetch 0 9)) P.adK ((P.adV.cord 0).getD P.adK) P.adS P.adU P.adV := by
  refine ⟨?_, ?_, ?_, ?_, ?_, ?_, ?_, ?_, ?_, ?_, ?_⟩ <;> decide +kernel

theorem meets_PairsImagesAndTheGate :
    (fun (b : Bool) (s : State) => s.hubUp = true ∧ (pairOf b s).st = .serving) false P.up
    ∧ (fun (b : Bool) (s : State) => s.hubUp = true ∧ (pairOf b s).st = .stopped) false (P.pair P.stopped P.srv)
    ∧ (fun (s : State) (t0 : Tick) => s.hubUp = true ∧ (pairOf s.seq.servingB s).st = .serving ∧ (pairOf s.seq.servingB s).turnStart = some t0 ∧ t0 + 400 * s.rf fTurnMax < s.et) (P.pair { P.srv with turnStart := some 5 } P.stby) 5
    ∧ (fun (s : State) (t0 : Tick) => (pairOf s.seq.servingB s).turnStart = some t0 ∧ s.et ≤ t0 + 400 * s.rf fTurnMax) (P.pair { P.srv with turnStart := some (10 ^ 12) } P.stby) (10 ^ 12)
    ∧ (fun (s : State) => s.hubUp = true ∧ (pairOf s.seq.servingB s).st = .stopped ∧ (pairOf (!s.seq.servingB) s).st = .standby) (P.pair P.stopped P.stby)
    ∧ (fun (s : State) => s.hubUp = true ∧ (pairOf s.seq.servingB s).st = .stopped ∧ (pairOf (!s.seq.servingB) s).st ≠ .standby ∧ 3 ≤ (pairOf (!s.seq.servingB) s).stops) (P.pair P.stopped { P.stopped with stops := 3 })
    ∧ (fun (s : State) => (pairOf s.seq.servingB s).st ≠ .stopped) P.up
    ∧ (fun (tag : Nat) (n : Nat) (img : List Byte) (body : BitVec 448) (s : State) => s.hubUp = true ∧ s.inLoaded = true ∧ s.isl.gateBusy = false ∧ s.isl.gateValid = false ∧ (pairOf (bitAt body 0) s).st ≠ .serving ∧ (pairOf (bitAt body 0) s).stops < 3 ∧ n = fld body 128 64 ∧ n % 8 = 0 ∧ 72 ≤ n ∧ n ≤ 524288 ∧ gateSrc s (fld body 64 64) n = some img ∧ imageGood img n = true) 0 72 (P.src P.img 72) (BitVec.ofNat 448 (1 + 2 ^ 64 * (42 * 2 ^ 19) + 2 ^ 128 * 72)) (P.fw P.img)
    ∧ (fun (tag : Nat) (body : BitVec 448) (s : State) => s.hubUp = true ∧ s.isl.gateBusy = false ∧ s.isl.gateValid = false ∧ s.isl.st ≠ .off ∧ (s.inLoaded = false ∨ (pairOf (bitAt body 0) s).st = .serving ∨ 3 ≤ (pairOf (bitAt body 0) s).stops)) 0 0 P.up
    ∧ (fun (tag : Nat) (body : BitVec 448) (s : State) => s.hubUp = true ∧ s.isl.st ≠ .off ∧ s.isl.gateBusy = true) 0 0 ({ P.c with isl := { P.c.isl with gateBusy := true } })
    ∧ (fun (tag : Nat) (s : State) => s.hubUp = true ∧ s.inLoaded = true ∧ s.isl.gateBusy = false ∧ s.isl.gateValid = false ∧ (pairOf (!s.seq.servingB) s).st = .standby ∧ s.seq.handover = none ∧ (pairOf s.seq.servingB s).waiting = none) 0 P.up
    ∧ (fun (tag : Nat) (w : Waiting) (s : State) => s.hubUp = true ∧ s.inLoaded = true ∧ s.isl.gateBusy = false ∧ s.isl.gateValid = false ∧ (pairOf (!s.seq.servingB) s).st = .standby ∧ s.seq.handover = none ∧ (pairOf s.seq.servingB s).waiting = some w ∧ w.point = true) 0 (⟨0, 0, 0, 0, true⟩) (P.pair { P.srv with waiting := some ⟨0, 0, 0, 0, true⟩ } P.stby)
    ∧ (fun (tag : Nat) (t0 : Tick) (s : State) => s.hubUp = true ∧ s.seq.handover = some (t0, tag) ∧ t0 + 400000000 ≤ s.et) 0 5 ({ P.c with seq := { P.c.seq with handover := some (5, 0) } })
    ∧ (fun (code : Nat) (tag : Nat) (l : Loc) (s : State) => s.hubUp = true) 0 0 0 P.up
    ∧ (fun (v : BitVec 512) (rest : List (BitVec 512)) (s : State) => s.hubUp = true ∧ s.seq.gateOut = v :: rest) 0 ([]) ({ P.c with seq := { P.c.seq with gateOut := [0] } })
    ∧ (fun (r : W256) (rest : List W256) (s : State) => s.hubUp = true ∧ s.seq.forming = r :: rest ∧ s.seq.responses.length < 256) 0 ([]) ({ P.c with seq := { P.c.seq with forming := [0] } }) := by
  refine ⟨?_, ?_, ?_, ?_, ?_, ?_, ?_, ?_, ?_, ?_, ?_, ?_, ?_, ?_, ?_, ?_⟩ <;> decide +kernel

theorem meets_EntriesAndCruiseAnswers :
    (fun (e : Intake) (rest : List Intake) (s : State) => s.hubUp = true ∧ s.col.intake = e :: rest ∧ (pairOf s.seq.servingB s).st = .serving ∧ s.seq.hookRet = none ∧ reactionPending s e = false) P.int ([]) (P.col { Col.reset with intake := [P.int] })
    ∧ (fun (e : Intake) (rest : List Intake) (s : State) => s.col.intake = e :: rest ∧ ((pairOf s.seq.servingB s).st ≠ .serving ∨ s.seq.hookRet.isSome = true ∨ reactionPending s e = true)) P.int ([]) ({ P.col { Col.reset with intake := [P.int] } with seq := { Seq.reset with pairA := P.stopped } })
    ∧ (fun (r : CruiseRead) (n : Nat) (cls : Nat) (q : W256) (w : Work) (s : State) (u : State) => s.hubUp = true ∧ nextReq s 1 = some (cls, q) ∧ u = countAdj (reqComp q) n (serveReq cls q s) ∧ workOf u q = some w) (⟨[], [], [], false⟩) 9 0 (P.req 1) (P.work .pinpoint 1) (P.asks .pinpoint 1) (countAdj 0 9 (serveReq 0 (P.req 1) (P.asks .pinpoint 1)))
    ∧ (fun (r : CruiseRead) (n : Nat) (cls : Nat) (q : W256) (w : Work) (x : TolRec) (s : State) (u : State) => s.hubUp = true ∧ nextReq s 2 = some (cls, q) ∧ u = countAdj (reqComp q) n (serveReq cls q s) ∧ workOf u q = some w ∧ w.tol = some x) (⟨[], [], [], false⟩) 9 1 (P.req 2) ({ P.work .adjudicate 2 with tol := some P.tol }) P.tol (P.seq { Seq.reset with requests := [P.req 2], works := [{ P.work .adjudicate 2 with tol := some P.tol }] }) (countAdj 0 9 (serveReq 1 (P.req 2) (P.seq { Seq.reset with requests := [P.req 2], works := [{ P.work .adjudicate 2 with tol := some P.tol }] })))
    ∧ (fun (r : CruiseRead) (tap : Nat) (d : BitVec 768) (t : TileData) (x : TolRec) (s : State) => readTile tap d r = some t ∧ fenced s (hubLoc uCruise) = false ∧ 3 * (s.et - x.retireEt) + sweepWork x false ≤ 240000) (⟨[0], [0], [P.tk], false⟩) 0 P.tileDesc (⟨P.tk, [0], [0], []⟩) P.tol P.up
    ∧ (fun (r : CruiseRead) (cls : Nat) (o : Nat) (q : W256) (w : Work) (x : Sample) (s : State) (u : State) => s.hubUp = true ∧ nextReq s 3 = some (cls, q) ∧ u = serveReq cls q s ∧ workOf u q = some w ∧ w.sample = some x ∧ secondOutcome u x r = some o) (⟨[], [], [], false⟩) 1 0 (P.req 3) ({ P.work .second 3 with sample := some { P.sample with first := some 0 } }) ({ P.sample with first := some 0 }) (P.vec { P.work .second 3 with sample := some { P.sample with first := some 0 } }) (serveReq 1 (P.req 3) (P.vec { P.work .second 3 with sample := some { P.sample with first := some 0 } }))
    ∧ (fun (r : CruiseRead) (cls : Nat) (q : W256) (w : Work) (x : Sample) (s : State) (u : State) => s.hubUp = true ∧ nextReq s 3 = some (cls, q) ∧ u = serveReq cls q s ∧ workOf u q = some w ∧ w.sample = some x ∧ secondOutcome u x r = none) (⟨[], [], [], false⟩) 1 (P.req 3) ({ P.work .second 3 with sample := some P.sample }) P.sample (P.seq { Seq.reset with requests := [P.req 3], works := [{ P.work .second 3 with sample := some P.sample }] }) (serveReq 1 (P.req 3) (P.seq { Seq.reset with requests := [P.req 3], works := [{ P.work .second 3 with sample := some P.sample }] }))
    ∧ (fun (r : CruiseRead) (cls : Nat) (o : Nat) (q : W256) (x : Sample) (s : State) (u : State) => s.hubUp = true ∧ nextReq s 3 = some (cls, q) ∧ u = serveReq cls q s ∧ workOf u q = none ∧ (u.gov.mismatched.find? (fun x => x.comp == reqComp q && x.cord == reqCord q) = some x) ∧ secondOutcome u x r = some o) (⟨[], [], [], false⟩) 1 0 (P.req 3) ({ P.sample with first := some 0 }) ({ P.vec (P.work .second 4) with gov := { P.c.gov with mismatched := [{ P.sample with first := some 0 }] } }) (serveReq 1 (P.req 3) { P.vec (P.work .second 4) with gov := { P.c.gov with mismatched := [{ P.sample with first := some 0 }] } })
    ∧ (fun (r : CruiseRead) (cls : Nat) (q : W256) (w : Work) (s : State) (u : State) => s.hubUp = true ∧ nextReq s 4 = some (cls, q) ∧ u = serveReq cls q s ∧ workOf u q = some w) (⟨[], [], [], false⟩) 1 (P.req 4) (P.work .twin 4) (P.asks .twin 4) (serveReq 1 (P.req 4) (P.asks .twin 4))
    ∧ (fun (f : Bool) (r : W256) (s : State) => s.hubUp = true ∧ headReq s 5 = some r ∧ workOf (takeReq r s) r = none) true (P.req 5) (P.seq { Seq.reset with requests := [P.req 5] })
    ∧ (fun (r : CruiseRead) (n : Nat) (f : Bool) (s : State) => s.seq.requests = []) (⟨[], [], [], false⟩) 0 true P.c := by
  refine ⟨?_, ?_, ?_, ?_, ?_, ?_, ?_, ?_, ?_, ?_, ?_⟩ <;> decide +kernel

theorem meets_SamplesAndUnitRequests :
    (fun (r : CruiseRead) (n : Nat) (x : Sample) (d : W128) (y : Redone) (s : State) => s.hubUp = true ∧ nextSample s = some x ∧ redo s x r = some (d, y) ∧ d ≠ x.digest) (⟨[], [], [], false⟩) 8 P.sample 0 (⟨[], false, false⟩) P.vecSamples
    ∧ (fun (r : CruiseRead) (n : Nat) (x : Sample) (y : Redone) (s : State) => s.hubUp = true ∧ nextSample s = some x ∧ redo s x r = some (x.digest, y) ∧ armed s 2 x.comp (tapUnitLoc x.tap x.unit) = false) (⟨[], [], [], false⟩) 8 ({ P.sample with digest := 0 }) (⟨[], false, false⟩) ({ P.vecSamples with gov := { P.vecSamples.gov with samples := [{ P.sample with digest := 0 }] } })
    ∧ (fun (r : CruiseRead) (n : Nat) (x : Sample) (s : State) => s.hubUp = true ∧ nextSample s = some x ∧ redo s x r = none) (⟨[], [], [], false⟩) 8 P.sample P.samples
    ∧ (fun (r : CruiseRead) (n : Nat) (s : State) => s.isl.pf = true) (⟨[], [], [], false⟩) 8 ({ P.samples with isl := { P.c.isl with pf := true } })
    ∧ (fun (x : Sample) (s : State) => s.hubUp = true ∧ (s.gov.samples.find? (fun x => decide (s.et > x.retireEt + 6400000)) = some x)) P.sample P.samples
    ∧ (fun (s : State) => s.gov.samples = []) P.up
    ∧ (fun (w : Work) (s : State) => s.hubUp = true ∧ (s.seq.works.find? (fun w => w.what == .pinpoint && w.rerun.isNone && decide (s.et > w.bound)) = some w) ∧ recordHeld s w = true ∧ (s.comp w.comp).st = .opened) P.pinW ({ P.seq { Seq.reset with works := [P.pinW] } with taps := [(0, { Tap.reset with ercRecs := [P.erc] })] })
    ∧ (fun (r : W256) (tk : W256) (tap : Nat) (u : Nat) (s : State) => s.hubUp = true ∧ headReq s 0x11 = some r ∧ unitKey (reqLoc r) = some (tap, u) ∧ pinTicket (takeReq r s) tap u (reqArg0 r) (reqArg1 r) = some tk) (BitVec.ofNat 256 (0x11 + tkTag P.tk * 2 ^ 64 + tkSeq P.tk * 2 ^ 96)) (BitVec.ofNat 256 (nset P.tk.toNat 140 2 1)) 0 0 ({ P.seq { Seq.reset with requests := [BitVec.ofNat 256 (0x11 + tkTag P.tk * 2 ^ 64 + tkSeq P.tk * 2 ^ 96)] } with taps := [(0, { Tap.reset with ercRecs := [P.erc] })] })
    ∧ (fun (r : W256) (i : Nat) (u : Loc) (k : Cord) (tw : Twin) (s : State) => s.hubUp = true ∧ headReq s 0x14 = some r ∧ findCord s (reqComp r) (reqCord r) = some i ∧ s.cord i = some k ∧ thirdPlace (takeReq r s) (reqComp r) (reqArg0 r) k.placed = some u ∧ k.twin = some tw) (BitVec.ofNat 256 (0x14 + 5 * 2 ^ 32)) 0 0 ({ P.k with twin := some P.twin }) P.twin ({ P.seq { Seq.reset with requests := [BitVec.ofNat 256 (0x14 + 5 * 2 ^ 32)] } with jrn := { Jrn.reset with cords := [(0, { P.k with twin := some P.twin })] } })
    ∧ (fun (r : W256) (s : State) => s.hubUp = true ∧ headReq s 0x12 = some r ∧ s.isl.pf = true ∧ s.jrn.skids = []) (P.req 0x12) ({ P.seq { Seq.reset with requests := [P.req 0x12] } with isl := { P.c.isl with pf := true } })
    ∧ (fun (r : W256) (l : Loc) (c : Nat) (i : Nat) (x : Nat) (k : Cord) (s : State) => s.hubUp = true ∧ headReq s 0x12 = some r ∧ reqLoc r = l ∧ isCore l = true ∧ s.isl.pf = false ∧ c < 16 ∧ (s.comp c).st = .opened ∧ s.cord i = some k ∧ k.st = .waiting ∧ affected s c l = [i] ∧ ((∀ d < 16, d ≠ c → affected s d l = [])) ∧ spareForUnit s c l = some x ∧ ((∀ e ∈ s.jrn.cords, e.2.lost = [])) ∧ s.jrn.skids = []) (BitVec.ofNat 256 0x12) 0 0 0 7 ({ P.k with st := .waiting }) ({ P.seq { Seq.reset with requests := [BitVec.ofNat 256 0x12] } with jrn := { Jrn.reset with cords := [(0, { P.k with st := .waiting })], spares := [(7, .idle)] } })
    ∧ (fun (r : W256) (i : Nat) (s : State) => s.hubUp = true ∧ headReq s 0x13 = some r ∧ findCord s (reqComp r) (reqCord r) = some i) (BitVec.ofNat 256 (0x13 + 5 * 2 ^ 32)) 0 ({ P.seq { Seq.reset with requests := [BitVec.ofNat 256 (0x13 + 5 * 2 ^ 32)] } with jrn := { Jrn.reset with cords := [(0, P.k)] } })
    ∧ (fun (r : W256) (i : Nat) (s : State) => s.hubUp = true ∧ headReq s 0x15 = some r ∧ findCord s (reqComp r) (reqCord r) = some i ∧ 1 ≤ reqArg0 r % 256 ∧ reqArg0 r % 256 ≤ 6) (BitVec.ofNat 256 (0x15 + 5 * 2 ^ 32 + 2 ^ 64)) 0 ({ P.seq { Seq.reset with requests := [BitVec.ofNat 256 (0x15 + 5 * 2 ^ 32 + 2 ^ 64)] } with jrn := { Jrn.reset with cords := [(0, P.k)] } })
    ∧ (fun (r : W256) (s : State) => s.hubUp = true ∧ headReq s 0x21 = some r) (P.req 0x21) (P.seq { Seq.reset with requests := [P.req 0x21] })
    ∧ (fun (s : State) => s.seq.requests = []) P.c := by
  refine ⟨?_, ?_, ?_, ?_, ?_, ?_, ?_, ?_, ?_, ?_, ?_, ?_, ?_, ?_, ?_⟩ <;> decide +kernel

theorem meets_UnreplayableCordsEndFenced :
    (fun (trigger : Nat) (i : Nat) (cause : Nat) (k : Cord) (s : State) => s.cord i = some k ∧ noReplayCause s k = some cause ∧ heldOn s s.jrn.cords.length [i] = [i] ∧ s.jrn.spares = [] ∧ outEntries s k.comp k.id = []) 0 0 1 P.k (P.cords [(0, P.k)]) := by decide +kernel

theorem meets_GovernorRunsAtItsPeriods :
    (fun (c : Nat) (s : State) => s.hubUp = true ∧ s.inLoaded = true ∧ s.compLive c = true ∧ s.isl.pf = false ∧ s.gov.periodStart.get c 0 + govField s c 16 16 * 400000 ≤ s.et) 0 P.c
    ∧ (fun (c : Nat) (s : State) => (s.isl.pf = true ∨ s.et < s.gov.periodStart.get c 0 + govField s c 16 16 * 400000)) 0 ({ P.c with isl := { P.c.isl with pf := true } })
    ∧ (fun (mech : Nat) (tap : Nat) (pt : Nat) (e : Nat) (s : State) => s.hubUp = true ∧ s.gov.points.find? (1024 * mech + tap) = some (pt, e) ∧ pt ≤ s.et ∧ rehOn s mech = true ∧ rehearsalOf s mech tap = none ∧ s.isl.pf = false ∧ 2 ≤ mech) 2 0 5 (10 ^ 13) (P.reh [] 5 (10 ^ 13))
    ∧ (fun (mech : Nat) (tap : Nat) (pt : Nat) (e : Nat) (s : State) => s.hubUp = true ∧ s.gov.points.find? (1024 * mech + tap) = some (pt, e) ∧ pt ≤ s.et ∧ rehOn s mech = true ∧ rehearsalOf s mech tap = none ∧ s.isl.pf = false ∧ mech < 2 ∧ rehHeld s mech tap = false) 0 0 5 (10 ^ 13) (P.rehm 0 [] 5 (10 ^ 13))
    ∧ (fun (mech : Nat) (tap : Nat) (pt : Nat) (e : Nat) (s : State) => s.gov.points.find? (1024 * mech + tap) = some (pt, e) ∧ s.et < pt) 2 0 (10 ^ 13) (10 ^ 13) (P.reh [] (10 ^ 13) (10 ^ 13))
    ∧ (fun (mech : Nat) (tap : Nat) (pt : Nat) (e : Nat) (r : Rehearsal) (s : State) => s.hubUp = true ∧ s.gov.points.find? (1024 * mech + tap) = some (pt, e) ∧ e ≤ s.et ∧ rehearsalOf s mech tap = some r ∧ r.injected = true ∧ r.ended = true ∧ rehOn s mech = true) 2 0 5 6 (⟨2, 0, true, none, 5, true⟩) (P.reh [⟨2, 0, true, none, 5, true⟩] 5 6)
    ∧ (fun (mech : Nat) (tap : Nat) (pt : Nat) (e : Nat) (r : Rehearsal) (s : State) => s.hubUp = true ∧ s.gov.points.find? (1024 * mech + tap) = some (pt, e) ∧ e ≤ s.et ∧ rehearsalOf s mech tap = some r ∧ r.injected = false ∧ rehOn s mech = true) 2 0 5 6 (⟨2, 0, false, none, 5, false⟩) (P.reh [⟨2, 0, false, none, 5, false⟩] 5 6)
    ∧ (fun (mech : Nat) (tap : Nat) (pt : Nat) (e : Nat) (r : Rehearsal) (s : State) => s.hubUp = true ∧ s.gov.points.find? (1024 * mech + tap) = some (pt, e) ∧ e ≤ s.et ∧ rehearsalOf s mech tap = some r ∧ r.injected = true ∧ r.ended = false ∧ mech < 2) 0 0 5 6 (⟨0, 0, true, none, 5, false⟩) (P.rehm 0 [⟨0, 0, true, none, 5, false⟩] 5 6)
    ∧ (fun (mech : Nat) (tap : Nat) (pt : Nat) (e : Nat) (s : State) => s.gov.points.find? (1024 * mech + tap) = some (pt, e) ∧ s.et < e) 2 0 5 (10 ^ 13) (P.reh [] 5 (10 ^ 13)) := by
  refine ⟨?_, ?_, ?_, ?_, ?_, ?_, ?_, ?_, ?_⟩ <;> decide +kernel

theorem meets_GovernorKeepsItsLimits :
    (fun (ks : List KindIn) (target : Rat) (cap : Rat) (cruiseNj : Rat) (twinNj : Rat) (twinWork : Rat) (load : Rat) (twinMax : Nat) (fuel : Nat) (code : Nat) (n : Exps) => ((∀ k ∈ ks, k.nmin ≤ expIn n k.kind)) ∧ code ≤ twinMax ∧ ((∀ a ∈ ks, ∀ b ∈ ks, a.kind = b.kind → a = b))) ([⟨0, 1, 1, 1, 1, 1, 1, 5⟩]) 1 1 1 1 1 0 3 10 0 ([(0, 5)]) := ⟨by decide +kernel, by decide, by simp⟩

theorem meets_LatchesAtHomeAndFromAfar :
    (fun (a : Nat) (o : W128) (s : State) => s.hubUp = true ∧ lopOp o = 1 ∧ lopGood o = true ∧ lopReply o = false ∧ s.cmd.dieStop = false ∧ s.compLive (lopComp o) = true ∧ lopLatch o = a ∧ a ≠ 0xFFFFFFFF ∧ 0 < lopValue o ∧ (s.fab.latches.any (fun e => decide (a ≤ e.1 ∧ e.1 < a + lopValue o)) = false) ∧ latchUse s (lopComp o) + lopValue o ≤ quota s (lopComp o) 0 ∧ s.fab.intake = []) 10 (P.lopv 1 10 2) (P.lat P.latch)
    ∧ (fun (o : W128) (l : Latch) (s : State) => s.hubUp = true ∧ lopOp o = 3 ∧ lopGood o = true ∧ lopReply o = false ∧ s.cmd.dieStop = false ∧ s.compLive (lopComp o) = true ∧ s.latch (lopLatch o) = some l ∧ l.comp = lopComp o ∧ l.st ≠ .lost ∧ 0 < lopValue o ∧ l.early < lopValue o ∧ s.fab.intake = []) (P.lopv 3 3 5) ({ P.latch with st := .idle }) (P.lat { P.latch with st := .idle })
    ∧ (fun (o : W128) (l : Latch) (s : State) => s.hubUp = true ∧ lopOp o = 4 ∧ lopGood o = true ∧ lopReply o = false ∧ s.cmd.dieStop = false ∧ s.compLive (lopComp o) = true ∧ s.latch (lopLatch o) = some l ∧ l.comp = lopComp o ∧ l.st = .opened ∧ lopAnygen o = true ∧ 0 < lopValue o ∧ l.count + lopValue o < l.target ∧ s.fab.intake = []) (P.lopv 4 3 1) P.latch (P.lat P.latch)
    ∧ (fun (o : W128) (l : Latch) (s : State) => s.hubUp = true ∧ lopOp o = 4 ∧ lopGood o = true ∧ lopReply o = false ∧ s.cmd.dieStop = false ∧ s.compLive (lopComp o) = true ∧ s.latch (lopLatch o) = some l ∧ l.comp = lopComp o ∧ l.st = .opened ∧ lopAnygen o = true ∧ 0 < lopValue o ∧ l.target < l.count + lopValue o ∧ s.fab.intake = []) (P.lopv 4 3 5) P.latch (P.lat P.latch)
    ∧ (fun (o : W128) (l : Latch) (u : EntryUpset) (s : State) => s.hubUp = true ∧ lopOp o = 4 ∧ s.latch (lopLatch o) = some l) (P.lopv 4 3 1) P.latch .corrected (P.lat P.latch)
    ∧ (fun (o : W128) (s : State) => s.hubUp = true ∧ lopOp o = 5 ∧ s.fab.intake = []) (P.lopv 5 3 0) (P.lat P.latch)
    ∧ (fun (o : W128) (s : State) => s.hubUp = true ∧ lopOp o = 2 ∧ lopGood o = true ∧ lopReply o = false ∧ s.cmd.dieStop = false ∧ s.compLive (lopComp o) = true ∧ 0 < lopValue o ∧ s.fab.intake = [] ∧ (s.fab.latches.any (fun e => decide (lopLatch o ≤ e.1 ∧ e.1 < lopLatch o + lopValue o) && e.2.comp != lopComp o) = false)) (P.lopv 2 3 1) (P.lat P.latch)
    ∧ (fun (o : W128) (l : Latch) (s : State) => s.hubUp = true ∧ lopOp o = 6 ∧ lopGood o = true ∧ lopReply o = false ∧ s.cmd.dieStop = false ∧ s.compLive (lopComp o) = true ∧ s.latch (lopLatch o) = some l ∧ l.comp = lopComp o ∧ s.fab.intake = []) (P.lopv 6 3 1) P.latch (P.lat P.latch)
    ∧ (fun (m : VcsMsg) (s : State) => s.hubUp = true ∧ (findMsg (fun m => m.cls == vcLatch && fld m.payload 0 4 == 8) s = some m)) (P.msg vcLatch 8) (P.inbox (P.msg vcLatch 8))
    ∧ (fun (m : VcsMsg) (s : State) => s.hubUp = true ∧ (findMsg (fun m => m.cls == vcLatch && fld m.payload 0 4 == 9) s = some m) ∧ groupComp s m.group = none) (P.msg vcLatch 9) (P.inbox (P.msg vcLatch 9))
    ∧ (fun (m : VcsMsg) (c : Nat) (s : State) => s.hubUp = true ∧ (findMsg (fun m => m.cls == vcLatch && fld m.payload 0 4 == 9) s = some m) ∧ groupComp s m.group = some c) (P.msg vcLatch 9) 0 (P.halt { P.stop with latch := 0 } [P.msg vcLatch 9])
    ∧ (fun (src : Nat) (o : W128) (s : State) => lopGood o = true ∧ ((lopOp o = 1 ∨ lopOp o = 2 ∨ lopOp o = 3 ∨ lopOp o = 6))) 7 (P.lopv 1 10 2) (P.lat P.latch) := by
  refine ⟨?_, ?_, ?_, ?_, ?_, ?_, ?_, ?_, ?_, ?_, ?_, ?_⟩ <;> decide +kernel

theorem meets_ArrivalsKeepOpenLatchesBelowTarget :
    (fun (src : Nat) (own : Bool) (o : W128) (s : State) (i : Nat) (l : Latch) => lopOp o = 4 ∧ ((∀ (i : Nat) (l : Latch), s.latch i = some l → l.st = .opened → l.count < l.target ∧ l.early ≤ l.target)) ∧ (latchApply src own o s).2.2.latch i = some l ∧ l.st = .opened) 7 true (P.lopv 4 3 1) (P.lat P.latch) 3 ({ P.latch with count := 2 }) := by
  refine ⟨by decide +kernel, fun i l h _ => ?_, by decide +kernel, by decide +kernel⟩
  change (if 3 = i then some P.latch else none) = some l at h
  split at h
  · cases h; decide
  · cases h

theorem meets_StopsArmTickAndResume :
    (fun (c : Nat) (m : VcsMsg) (s : State) => s.hubUp = true ∧ (findMsg (fun m => m.cls == vcStop && fld m.payload 0 4 == 1) s = some m) ∧ groupComp s m.group = some c ∧ (s.comp c).st = .opened ∧ s.isl.pf = false ∧ s.fab.stops.has c = false ∧ s.rf fTimeMode ≠ 2) 0 (P.msg vcStop 1) ({ P.halt P.stop [P.msg vcStop 1] with fab := { Fab.reset with intake := [P.msg vcStop 1], groups := [(0, [(0, 0, 9, 0)])] } })
    ∧ (fun (c : Nat) (p : Stop) (s : State) => s.hubUp = true ∧ s.fab.stops.find? c = some p ∧ p.etStop = none ∧ p.t ≤ s.et) 0 ({ P.stop with t := 5 }) (P.halt { P.stop with t := 5 } [])
    ∧ (fun (c : Nat) (p : Stop) (s : State) => s.hubUp = true ∧ s.fab.stops.find? c = some p ∧ p.etStop = none ∧ s.et < p.t) 0 P.stop (P.halt P.stop [])
    ∧ (fun (c : Nat) (p : Stop) (s : State) => s.hubUp = true ∧ s.fab.stops.find? c = some p ∧ p.etStop.isSome = true ∧ p.etQuiet = none ∧ s.cmd.dieStop = false ∧ tilesOpen s c = false ∧ sendsOut s c = false ∧ s.fab.granted = []) 0 ({ P.stop with etStop := some 5 }) (P.halt { P.stop with etStop := some 5 } [])
    ∧ (fun (m : VcsMsg) (c : Nat) (s : State) => s.hubUp = true ∧ (s.fab.intake.findSome? (fun m => if m.cls == vcStop && fld m.payload 0 4 == 2 then (List.find? (fun (e : Nat × Stop) => e.2.stopId == fld m.payload 16 16) s.fab.stops).map (fun e => (m, e.1)) else none) = some (m, c))) (P.msg vcStop (2 + 9 * 2 ^ 16)) 0 (P.halt P.stop [P.msg vcStop (2 + 9 * 2 ^ 16)])
    ∧ (fun (c : Nat) (p : Stop) (s : State) => s.hubUp = true ∧ s.fab.stops.find? c = some p ∧ p.done = true ∧ p.etCut = none ∧ shortKeys s c = 0) 0 ({ P.stop with done := true }) (P.halt { P.stop with done := true } [])
    ∧ (fun (c : Nat) (p : Stop) (s : State) => s.fab.stops.find? c = some p ∧ shortKeys s c ≠ 0) 0 P.stop ({ P.halt P.stop [] with fab := { Fab.reset with stops := [(0, P.stop)], targets := [(0, 4)] } })
    ∧ (fun (c : Nat) (p : Stop) (t0 : Tick) (s : State) => s.hubUp = true ∧ s.fab.stops.find? c = some p ∧ p.etStop = some t0 ∧ p.etCut = none ∧ t0 + 400000 * cutWaitMs s ≤ s.et) 0 ({ P.stop with etStop := some 5 }) 5 (P.halt { P.stop with etStop := some 5 } [])
    ∧ (fun (m : VcsMsg) (c : Nat) (p : Stop) (s : State) => s.hubUp = true ∧ (findMsg (fun m => m.cls == vcStop && fld m.payload 0 4 == 3) s = some m) ∧ groupComp s m.group = some c ∧ s.fab.stops.find? c = some p ∧ p.stopId = fld m.payload 16 16 ∧ p.etCut.isSome = true ∧ s.rf fTimeMode ≠ 2) (P.msg vcStop (3 + 9 * 2 ^ 16)) 0 ({ P.stop with etCut := some 5 }) (P.halt { P.stop with etCut := some 5 } [P.msg vcStop (3 + 9 * 2 ^ 16)])
    ∧ (fun (c : Nat) (p : Stop) (t0 : Tick) (s : State) => s.hubUp = true ∧ s.fab.stops.find? c = some p ∧ p.resume = some t0 ∧ t0 ≤ s.et ∧ p.written = true ∧ s.esc.sends = []) 0 ({ P.stop with resume := some 5, written := true }) 5 (P.halt { P.stop with resume := some 5, written := true } [])
    ∧ (fun (c : Nat) (p : Stop) (s : State) => s.fab.stops.find? c = some p ∧ p.written = false) 0 P.stop (P.halt P.stop []) := by
  refine ⟨?_, ?_, ?_, ?_, ?_, ?_, ?_, ?_, ?_, ?_, ?_⟩ <;> decide +kernel

theorem meets_SlicesAgesAndRecords :
    (fun (r : Nat) (slot : Nat) (s : State) => s.isl.pf = true) 0 0 ({ P.c with isl := { P.c.isl with pf := true } })
    ∧ (fun (r : Nat) (slot : Nat) (s : State) => s.hubUp = true ∧ r < 16 ∧ slot < 2 ∧ s.isl.pf = false ∧ s.col.quietDie = false ∧ s.et % 600000 = 18750 * r + 300000 * slot ∧ s.scr.slices.has (2 * r + slot) = false ∧ s.col.wardensMissing = [] ∧ regionTherm s r < 2 ∧ screening s = false ∧ s.inLoaded = true) 0 0 P.up
    ∧ (fun (key : Nat) (x : Slice) (s : State) => s.hubUp = true ∧ s.scr.slices.find? key = some x ∧ x.stage = 0 ∧ s.et ≤ x.since + 400 ∧ x.segs ≠ []) 0 ({ P.slc with stage := 0 }) (P.slice { P.slc with stage := 0 })
    ∧ (fun (key : Nat) (x : Slice) (g : Segment) (so : List (BitVec 1024)) (s : State) => s.hubUp = true ∧ s.scr.slices.find? key = some x ∧ x.stage = 1 ∧ x.confirm = false ∧ chipperScan x.mask so x.chip = x.expectAt x.seg ∧ x.segs[x.seg + 1]? = some g) 0 ({ P.slc with chip := 5 }) P.seg ([]) (P.slice { P.slc with chip := 5 })
    ∧ (fun (key : Nat) (x : Slice) (so : List (BitVec 1024)) (s : State) => s.hubUp = true ∧ s.scr.slices.find? key = some x ∧ x.stage = 1 ∧ x.confirm = false ∧ targetOf x.locus ≠ some 4 ∧ chipperScan x.mask so x.chip ≠ x.expectAt x.seg) 0 P.slc ([]) (P.slice P.slc)
    ∧ (fun (key : Nat) (x : Slice) (so : List (BitVec 1024)) (s : State) => s.hubUp = true ∧ s.scr.slices.find? key = some x ∧ x.stage = 1 ∧ x.confirm = true ∧ targetOf x.locus = some 1 ∧ chipperScan x.mask so x.chip = x.observed) 0 ({ P.slc with confirm := true, chip := 7 }) ([]) (P.slice { P.slc with confirm := true, chip := 7 })
    ∧ (fun (key : Nat) (x : Slice) (so : List (BitVec 1024)) (s : State) => s.hubUp = true ∧ s.scr.slices.find? key = some x ∧ x.stage = 1 ∧ x.confirm = true ∧ targetOf x.locus = some 1 ∧ chipperScan x.mask so x.chip ≠ x.observed) 0 ({ P.slc with confirm := true, chip := 8 }) ([]) (P.slice { P.slc with confirm := true, chip := 8 })
    ∧ (fun (key : Nat) (c : Nat) (u : Nat) (x : Slice) (s : State) => s.hubUp = true ∧ s.scr.slices.find? key = some x ∧ x.stage ≠ 1 ∧ x.since + 400 < s.et ∧ named x.locus = .core c u ∧ screening s = false) 0 0 0 ({ P.slc with stage := 2, since := 5 }) (P.slice { P.slc with stage := 2, since := 5 })
    ∧ (fun (key : Nat) (c : Nat) (u : Nat) (x : Slice) (s : State) => s.hubUp = true ∧ s.scr.slices.find? key = some x ∧ x.start + 600000 < s.et ∧ targetOf x.locus = some 1 ∧ named x.locus = .core c u ∧ screening s = false) 0 0 0 ({ P.slc with start := 5 }) (P.slice { P.slc with start := 5 })
    ∧ (fun (key : Nat) (x : Slice) (s : State) => s.scr.slices.find? key = some x ∧ targetOf x.locus = some 1 ∧ s.et ≤ x.start + 600000) 0 P.slc (P.slice P.slc)
    ∧ (fun (l : Loc) (s : State) => s.hubUp = true ∧ ages s l = true ∧ periodTicks s < ageOf s l ∧ s.scr.dueTold.contains l.toNat = false) (coreLoc 0 0) P.old
    ∧ (fun (l : Loc) (s : State) => (s.scr.dueTold.contains l.toNat = true ∨ ageOf s l ≤ periodTicks s)) 0 P.up
    ∧ (fun (l : Loc) (s : State) => s.hubUp = true ∧ ages s l = true ∧ 2 * periodTicks s < ageOf s l ∧ targetOf l = some 1 ∧ Tbl.get s.scr.overdueTold l.toNat 0 < ageOf s l / periodTicks s) (coreLoc 0 0) P.old
    ∧ (fun (l : Loc) (s : State) => ageOf s l ≤ 2 * periodTicks s) 0 P.up
    ∧ (fun (w : Bool) (s : State) => s.scr.recordOwed = false) false P.up
    ∧ (fun (s : State) => s.isl.st = .island ∧ s.hubUp = false) P.isl
    ∧ (fun (s : State) => s.isl.st ≠ .off ∧ s.hubUp = true) P.c
    ∧ (fun (s : State) => s.isl.st ≠ .off ∧ s.hubUp = true ∧ s.recd.cellarAbsent = false) P.c
    ∧ (fun (s : State) => s.isl.st = .off) State.reset
    ∧ (fun (s : State) => s.hubUp = true) P.up := by
  refine ⟨?_, ?_, ?_, ?_, ?_, ?_, ?_, ?_, ?_, ?_, ?_, ?_, ?_, ?_, ?_, ?_, ?_, ?_, ?_, ?_⟩ <;> decide +kernel

theorem meets_SensorsAndTestAccess :
    (fun (s : State) => s.isl.st ≠ .off) P.up
    ∧ (fun (l : Loc) (s : State) => s.isl.st ≠ .off ∧ s.isl.priv = false) 0 P.up
    ∧ (fun (l : Loc) (s : State) => s.isl.st ≠ .off ∧ s.isl.priv = true ∧ s.hubUp = true ∧ scannable s l = true) (coreLoc 1 0) ({ P.c with isl := { P.c.isl with priv := true } })
    ∧ (fun (s : State) => s.isl.st = .sealed ∧ s.isl.priv = true) ({ P.sealed with isl := { P.sealed.isl with priv := true } })
    ∧ (fun (i : Nat) (n : Nat) (s : State) => s.hubUp = true ∧ wardenGone s (senseRegion i) = false ∧ (s.ro i).samples = [] ∧ diodeOf s (senseRegion i) = none) 0 5 P.c
    ∧ (fun (r : Nat) (v : Int) (s : State) => s.hubUp = true ∧ wardenGone s r = false) 0 5 P.c
    ∧ (fun (r : Nat) (v : Int) (s : State) => wardenGone s r = true) 0 5 (P.col { Col.reset with wardensMissing := [0] })
    ∧ (fun (i : Nat) (s : State) => s.hubUp = true) 0 P.c
    ∧ (fun (i : Nat) (t0 : Tick) (s : State) => (s.ro i).lastCal = some t0 ∧ s.et < t0 + 24000000000) 0 (10 ^ 12) (P.thm { Thm.reset with ro := [(0, { RoSensor.reset with lastCal := some (10 ^ 12) })] })
    ∧ (fun (i : Nat) (d : Int) (v : Int) (s : State) => s.hubUp = true ∧ wardenGone s (senseRegion i) = false ∧ (s.ro i).lastCal = none ∧ (s.ro i).excl = false ∧ scopeIdle s i = true ∧ Tbl.get s.thm.diodes (senseRegion i) [] = List.replicate 16 d ∧ (s.ro i).raw = List.replicate 64 (65536 * v) ∧ -128 ≤ d - v ∧ d - v ≤ 128) 0 400 390 (P.thm { Thm.reset with ro := [(0, { RoSensor.reset with raw := List.replicate 64 (65536 * 390) })], diodes := [(0, List.replicate 16 400)] })
    ∧ (fun (k : Nat) (t0 : Tick) (s : State) => s.hubUp = true ∧ (s.scope k).clock = some (t0, false) ∧ t0 + 400000 ≤ s.et ∧ (s.scope k).n ≤ s.rf fThrMax) 0 5 (P.th { ThScope.reset with clock := some (5, false) })
    ∧ (fun (k : Nat) (t0 : Tick) (s : State) => s.hubUp = true ∧ (s.scope k).clock = some (t0, true) ∧ t0 + 400000 ≤ s.et) 0 5 (P.th { ThScope.reset with clock := some (5, true), n := 4 })
    ∧ (fun (i : Nat) (m3 : Nat) (m4 : Nat) (s : State) => s.hubUp = true ∧ wardenGone s (senseRegion i) = false ∧ (s.canary i).excl = false ∧ m4 ≤ m3 ∧ s.rf fMWarn < m4 ∧ s.rf fMDroop < m4 ∧ 0 < m4) 0 12 11 P.c
    ∧ (fun (i : Nat) (m3 : Nat) (m4 : Nat) (s : State) => s.hubUp = true ∧ wardenGone s (senseRegion i) = false ∧ (s.canary i).excl = false ∧ m3 < m4) 0 3 11 P.c
    ∧ (fun (i : Nat) (t0 : Tick) (s : State) => s.hubUp = true ∧ (s.canary i).droop = some t0 ∧ t0 + 400 * s.rf fDroopHold ≤ s.et) 0 5 (P.thm { Thm.reset with canaries := [(0, { Canary.reset with droop := some 5 })] })
    ∧ (fun (n : Nat) (v : Nat) (e : Int) (s : State) => s.isl.st ≠ .off ∧ (s.rail n).en = true ∧ (s.rail n).vmode = some e ∧ n < 16 ∧ 650 ≤ (scale2 (v % 65536 : Nat) e 1000).toNat ∧ (scale2 (v % 65536 : Nat) e 1000).toNat ≤ 850) 0 384 (-9) (P.rail { Rail.reset with en := true, vmode := some (-9) })
    ∧ (fun (n : Nat) (cmd : Nat) (v : Nat) (s : State) => s.isl.st ≠ .off ∧ (s.rail n).en = true ∧ n < 19 ∧ (s.rail n).fails = 2) 0 0x8B 0 (P.rail { Rail.reset with en := true, fails := 2 })
    ∧ (fun (a : Nat) (v : Nat) (s : State) => s.isl.st ≠ .off ∧ s.thm.alertRead.find? a = none) 0 0 P.c := by
  refine ⟨?_, ?_, ?_, ?_, ?_, ?_, ?_, ?_, ?_, ?_, ?_, ?_, ?_, ?_, ?_, ?_, ?_, ?_⟩ <;> decide +kernel

theorem meets_GatesApplyTheLargestCount :
    (fun (tap : Nat) (s : State) => tap < 128) 0 P.up := by decide +kernel

theorem meets_BanksPassAndHoldTheirWords :
    (fun (b : Nat) (k : Nat) (o : Owner) (s : State) => s.hubUp = true ∧ ownerCode s b ≠ k ∧ Owner.ofCode k = some o ∧ mayPass s b o false = true) 14 9 .firmware P.c
    ∧ (fun (b : Nat) (k : Nat) (o : Owner) (keep : Bool) (s : State) => s.hubUp = true ∧ ownerCode s b ≠ k ∧ Owner.ofCode k = some o ∧ mayPass s b o keep = false) 0 9 .firmware false P.c
    ∧ (fun (s : State) => s.hubUp = true ∧ (s.bank s.bnk.ptrBank).owner = .firmware ∧ s.bnk.ptrWord < 16384) (P.bank .firmware)
    ∧ (fun (s : State) => s.hubUp = true ∧ (s.bank s.bnk.ptrBank).owner ≠ .firmware) P.up
    ∧ (fun (s : State) => s.hubUp = true ∧ (s.bank s.bnk.ptrBank).owner ≠ .firmware) P.up
    ∧ (fun (s : State) => s.hubUp = true ∧ (s.bank s.bnk.ptrBank).owner = .firmware ∧ (s32Dec (bankWord s s.bnk.ptrBank s.bnk.ptrWord)).2 = .ok) (P.bank .firmware)
    ∧ (fun (b : Nat) (w : Nat) (s : State) => s.hubUp = true ∧ s.rf fMemEn = 1 ∧ s.isl.pf = false ∧ w < 128 ∧ 128 * b + w = s.bnk.nextWin ∧ b < 47 ∧ (s.bank b).owner = .none ∧ s.bnk.lastWin + 400 * s.rf fHubInt ≤ s.et) 0 0 ((P.c.setRf fMemEn 1))
    ∧ (fun (b : Nat) (w : Nat) (s : State) => s.hubUp = true ∧ s.rf fMemEn = 1 ∧ s.isl.pf = false ∧ w < 128 ∧ 128 * b + w = s.bnk.nextWin ∧ b < 47 ∧ (s.bank b).owner ≠ .none ∧ s.bnk.lastWin + 400 * s.rf fHubInt ≤ s.et ∧ ((∀ k < 128, (s32Dec (bankWord s b (128 * w + k))).2 = .ok))) 14 3 (P.memt 1795)
    ∧ (fun (b : Nat) (w : Nat) (k : Nat) (h : Nat) (p : Bool) (d : W256) (s : State) => s.hubUp = true ∧ s.rf fMemEn = 1 ∧ s.isl.pf = false ∧ w < 128 ∧ k < 128 ∧ 128 * b + w = s.bnk.nextWin ∧ b < 47 ∧ (s.bank b).owner ≠ .none ∧ s.bnk.lastWin + 400 * s.rf fHubInt ≤ s.et) 14 3 5 20 false 77 (P.memt 1795)
    ∧ (fun (b : Nat) (w : Nat) (l : List OwnerAccess) (f : Bool) (s : State) => (s.rf fMemEn = 0 ∨ s.isl.pf = true)) 0 0 ([]) false ({ P.c with isl := { P.c.isl with pf := true } })
    ∧ (fun (tap : Nat) (w : Nat) (t0 : Nat) (n : Nat) (s : State) => s.hubUp = true ∧ tap < 128 ∧ s.rf fCmemEn = 1 ∧ s.isl.pf = false ∧ felled s (clusterLoc tap) = false ∧ tapServes s tap = true ∧ Tbl.get s.bnk.cmemNext tap (0, 0) = (w, t0) ∧ t0 + 400 * s.rf fCmemInt ≤ s.et) 0 0 0 0 ((P.c.setRf fCmemEn 1)) := by
  refine ⟨?_, ?_, ?_, ?_, ?_, ?_, ?_, ?_, ?_, ?_, ?_⟩ <;> decide +kernel

theorem meets_CountersTalliesAndTraces :
    (fun (s : State) => s.hubUp = true ∧ s.rf fObsSpace = 0 ∧ s.rf fObsIndex ≤ 9087 ∧ siteMissing s (s.rf fObsIndex) = false) P.up
    ∧ (fun (s : State) => s.hubUp = true ∧ s.rf fObsSpace = 0 ∧ s.rf fObsIndex ≤ 9087 ∧ siteMissing s (s.rf fObsIndex) = false) P.up
    ∧ (fun (s : State) => s.hubUp = true ∧ s.rf fObsSpace = 0 ∧ s.rf fObsIndex ≤ 9087 ∧ siteMissing s (s.rf fObsIndex) = false ∧ selSuits (s.rf fObsIndex) (s.rf fSelEvent) (s.rf fSelCore) (s.rf fSelKind) = true ∧ s.rf fObsIndex < 8192) (P.ctr.setRf fSelEvent 3)
    ∧ (fun (c : Nat) (i : Nat) (s : State) => s.hubUp = true ∧ i ≤ 9087 ∧ ctrComp s i = some c ∧ siteMissing s i = false) 0 40 P.c
    ∧ (fun (c : Nat) (i : Nat) (s : State) => s.hubUp = true ∧ ctrComp s i ≠ some c ∧ lastOwned s c i = none) 0 0 P.up
    ∧ (fun (s : State) => s.hubUp = true ∧ s.rf fTallyMs ≠ 0 ∧ s.obs.lastPeriodic + s.rf fTallyMs * 400000 ≤ s.et ∧ s.obs.orders = [] ∧ s.obs.census = [] ∧ s.obs.taken = []) ((P.c.setRf fTallyMs 1))
    ∧ (fun (o : TallyOrder) (rest : List TallyOrder) (s : State) => s.hubUp = true ∧ s.obs.orders = o :: rest ∧ o.t ≤ s.et) P.tally ([]) (P.obs { Obs.reset with orders := [P.tally] })
    ∧ (fun (s : State) => ((∀ o ∈ s.obs.orders, s.et < o.t))) (P.obs { Obs.reset with orders := [{ P.tally with t := 10 ^ 13 }] })
    ∧ (fun (k : Nat) (sh : Shadow) (rest : List Shadow) (s : State) => s.hubUp = true ∧ s.obs.shadow = sh :: rest ∧ sh.order.tags = [] ∧ freeTally s = some k ∧ s.col.tapsMissing = [] ∧ s.col.wardensMissing = []) 0 (⟨P.tally, [], [], [], []⟩) ([]) (P.obs { Obs.reset with shadow := [⟨P.tally, [], [], [], []⟩] })
    ∧ (fun (s : State) => ((∀ o ∈ s.obs.census, s.et < o.t))) (P.obs { Obs.reset with census := [⟨10 ^ 13, 0, .management⟩] })
    ∧ (fun (o : CensusOrder) (rest : List CensusOrder) (s : State) => s.hubUp = true ∧ s.obs.census = o :: rest ∧ o.t ≤ s.et) (⟨5, 0, .management⟩) ([]) (P.obs { Obs.reset with census := [⟨5, 0, .management⟩] })
    ∧ (fun (c : Nat) (last : Tick) (s : State) => s.hubUp = true ∧ s.rf fHangMs ≠ 0 ∧ Tbl.get s.obs.lastRetire c (0, false) = (last, false) ∧ last + 400000 * s.rf fHangMs ≤ s.et ∧ (s.jrn.cords.any (fun e => e.2.comp == c && e.2.st != .settled) = true)) 0 5 ({ (P.cords [(0, P.k)]).setRf fHangMs 1 with obs := { Obs.reset with lastRetire := [(0, (5, false))] } })
    ∧ (fun (c : Nat) (s : State) => s.hubUp = true ∧ (s.trace c).staged = []) 0 P.up
    ∧ (fun (c : Nat) (k : Nat) (t0 : Tick) (r : W256) (rest : List (Tick × W256)) (s : State) => s.hubUp = true ∧ (s.trace c).staged = (t0, r) :: rest ∧ s.cmd.xfers = [] ∧ s.cmd.xwait = [] ∧ (s.trace c).log2 ≠ 0 ∧ s.isl.pf = false ∧ s.cmd.dieStop = false ∧ (3 ≤ rest.length ∨ t0 + 800 ≤ s.et) ∧ k = min (min 4 (rest.length + 1)) (min (2 ^ (s.trace c).log2 - ((s.trace c).tail + 2 ^ 32 - (s.trace c).head) % 2 ^ 32) (128 - (s.trace c).tail % 128)) ∧ 0 < k) 0 1 5 77 ([]) (P.obs { Obs.reset with traces := [(0, { Trace.reset with log2 := 10, staged := [(5, 77)] })] })
    ∧ (fun (c : Nat) (v : BitVec 32) (s : State) => s.hubUp = true ∧ ((s.trace c).tail + 2 ^ 32 - v.toNat) % 2 ^ 32 ≤ 2 ^ (s.trace c).log2) 0 0 P.up
    ∧ (fun (c : Nat) (v : BitVec 32) (s : State) => 2 ^ (s.trace c).log2 < ((s.trace c).tail + 2 ^ 32 - v.toNat) % 2 ^ 32) 0 1 P.up := by
  refine ⟨?_, ?_, ?_, ?_, ?_, ?_, ?_, ?_, ?_, ?_, ?_, ?_, ?_, ?_, ?_, ?_⟩ <;> decide +kernel

theorem meets_RecorderWritesAndFreezes :
    (fun (r : BitVec 512) (rest : List (BitVec 512)) (s : State) => s.hubUp = true ∧ s.recd.running = true ∧ s.recd.pfHold = false ∧ s.recd.input = r :: rest ∧ (bucketOf s (recCode r)).tokens ≠ 0) 3 ([]) (P.rec { Rec.reset with input := [3] })
    ∧ (fun (r : BitVec 512) (rest : List (BitVec 512)) (s : State) => s.hubUp = true ∧ s.recd.running = true ∧ s.recd.pfHold = false ∧ s.recd.input = r :: rest ∧ (bucketOf s (recCode r)).tokens = 0 ∧ (bucketOf s (recCode r)).rate ≠ 15 ∧ (bucketOf s (recCode r)).oldLeft = 0 ∧ unlimited r = false) 3 ([]) (P.rec { Rec.reset with input := [3], buckets := [(3, { Bucket.reset with tokens := 0 })] })
    ∧ (fun (r : BitVec 512) (rest : List (BitVec 512)) (s : State) => s.recd.running = false ∧ s.recd.input = r :: rest) 3 ([]) ({ P.c with recd := { Rec.reset with input := [3] } })
    ∧ (fun (code : BitVec 12) (s : State) => s.hubUp = true ∧ (bucketOf s code.toNat).rate ≤ 10 ∧ s.et % (400000000 / 2 ^ (bucketOf s code.toNat).rate) = 0 ∧ (bucketOf s code.toNat).supp = 0) 1 P.up
    ∧ (fun (n : Nat) (s : State) => s.hubUp = true ∧ n ≠ 0 ∧ n ≤ 24576 ∧ s.recd.freeze = none) 1 P.up
    ∧ (fun (n : Nat) (s : State) => s.hubUp = true ∧ 24576 < n) 24577 P.c
    ∧ (fun (f : Freeze) (s : State) => s.hubUp = true ∧ s.recd.freeze = some f) P.fz (P.rec { Rec.reset with freeze := some P.fz })
    ∧ (fun (f : Freeze) (s : State) => s.hubUp = true ∧ s.recd.freeze = some f ∧ f.begun + s.rf fFreezeS * 400000000 ≤ s.et) P.fz ((P.rec { Rec.reset with freeze := some P.fz }).setRf fFreezeS 1)
    ∧ (fun (f : Freeze) (s : State) => s.recd.freeze = some f ∧ s.et < f.begun + s.rf fFreezeS * 400000000) ({ P.fz with begun := 10 ^ 12 }) ((P.rec { Rec.reset with freeze := some { P.fz with begun := 10 ^ 12 } }).setRf fFreezeS 1)
    ∧ (fun (k : Nat) (s : State) => s.hubUp = true ∧ (ringRead s k).2 = false ∧ recRseq (ringRead s k).1 ≠ 0) 0 ({ P.c with bnk := { Bnk.reset with words := [(16384 * 8, s32Enc (2 ^ 64))] } })
    ∧ (fun (k : Nat) (s : State) => s.hubUp = true ∧ (ringRead s k).2 = false ∧ recRseq (ringRead s k).1 = 0) 0 P.up
    ∧ (fun (code : Nat) (rate : Nat) (burst : Nat) (s : State) => s.hubUp = true ∧ rate < 11) 0 0 0 P.up
    ∧ (fun (code : Nat) (s : State) => s.hubUp = true) 0 P.up
    ∧ (fun (n : Nat) (t0 : Tick) (rest : List (Nat × Tick)) (w : Bool) (s : State) => s.hubUp = true ∧ s.recd.unflushed = (n, t0) :: rest ∧ s.recd.retryPage = none ∧ s.rf fFlushEn = 1 ∧ s.recd.pfHold = false ∧ 4 * (n / 4) + 3 ≤ s.recd.rseq) 1 0 ([]) true (P.rec { Rec.reset with unflushed := [(1, 0)], rseq := 3 })
    ∧ (fun (p : Nat) (t0 : Tick) (s : State) => s.hubUp = true ∧ s.recd.retryPage = some (p, t0) ∧ t0 + 40000000 ≤ s.et) 0 0 (P.rec { Rec.reset with retryPage := some (0, 0) })
    ∧ (fun (p : Nat) (t0 : Tick) (s : State) => s.hubUp = true ∧ s.recd.retryPage = some (p, t0) ∧ t0 + 40000000 ≤ s.et ∧ s.recd.cellarAbsent = false) 0 0 (P.rec { Rec.reset with retryPage := some (0, 0) })
    ∧ (fun (p : Nat) (t0 : Tick) (w : Bool) (s : State) => s.recd.retryPage = some (p, t0) ∧ s.et < t0 + 40000000) 0 (10 ^ 12) true (P.rec { Rec.reset with retryPage := some (0, 10 ^ 12) })
    ∧ (fun (a : Nat) (s : State) => s.isl.st ≠ .off ∧ s.recd.cellarAbsent = false) 0 P.up := by
  refine ⟨?_, ?_, ?_, ?_, ?_, ?_, ?_, ?_, ?_, ?_, ?_, ?_, ?_, ?_, ?_, ?_, ?_, ?_⟩ <;> decide +kernel

theorem meets_GateMessagesReachTheirUnits :
    (fun (tag : Nat) (body : BitVec 448) (c : Instr) (s : State) => c ∈ [Instr.packLoad tag body, .recKey tag body, .recClear tag body, .policyWrite tag body, .policyRead tag body, .rootKey tag body, .captureKey tag body, .fellUndo tag body]) 0 0 (.packLoad 0 0) P.c
    ∧ (fun (tag : Nat) (body : BitVec 448) (s : State) => gateOpen s = true ∧ (pairOf s.seq.servingB s).st = .serving) 0 0 P.up
    ∧ (fun (tag : Nat) (body : BitVec 448) (s : State) => gateOpen s = true ∧ (pairOf s.seq.servingB s).st ≠ .serving) 0 0 (P.pair P.stopped P.stby)
    ∧ (fun (tag : Nat) (body : BitVec 448) (s : State) => gateOpen s = true) 0 0 P.up
    ∧ (fun (tag : Nat) (body : BitVec 448) (s : State) => gateOpen s = true) 0 0 P.up
    ∧ (fun (tag : Nat) (body : BitVec 448) (key : List Byte) (s : State) => gateOpen s = true ∧ gateSrc s (fld body 64 64) 96 = some key) 0 (P.body 96) (P.src 7 96) (P.fw 7)
    ∧ (fun (tag : Nat) (upto : Nat) (body : BitVec 448) (tok : List Byte) (s : State) => gateOpen s = true ∧ gateSrc s (fld body 64 64) 160 = some tok ∧ nfld (ofBytes tok) 0 32 = 0x52454352 ∧ nfld (ofBytes tok) 34 30 = 0 ∧ nfld (ofBytes tok) 160 32 = 0 ∧ nfld (ofBytes tok) 256 256 = 0 ∧ nfld (ofBytes tok) 64 64 = s.fuse.dieId.toNat ∧ nfld (ofBytes tok) 192 64 = upto ∧ 0 < upto ∧ upto ≤ s.recd.rseq ∧ nfld (ofBytes tok) 128 32 = s.recd.clrGen ∧ keyUsable s (nfld (ofBytes tok) 32 2) = true ∧ s.inLoaded = true) 0 3 (P.body 160) (P.src P.clr 160) (P.fw P.clr)
    ∧ (fun (tag : Nat) (body : BitVec 448) (hdr : List Byte) (bs : List Byte) (p : Pack) (s : State) => gateOpen s = true ∧ fld body 3 61 = 0 ∧ gateSrc s (fld body 64 64) 256 = some hdr ∧ 256 ≤ pkByte (ofBytes hdr) 24 4 ∧ pkByte (ofBytes hdr) 24 4 ≤ 262144 ∧ gateSrc s (fld body 64 64) (pkByte (ofBytes hdr) 24 4) = some bs ∧ parsePack s.fuse.unitRev bs = some p ∧ recordedVer s p.packId = some p.ver) 0 (P.body 256) (P.src P.pack 256) (P.src P.pack 400) P.packed ({ P.fw P.pack with scr := { Scr.reset with rollback := [(P.packed.packId, P.packed.ver)] } })
    ∧ (fun (tag : Nat) (v : Nat) (body : BitVec 448) (hdr : List Byte) (bs : List Byte) (p : Pack) (s : State) => gateOpen s = true ∧ fld body 3 61 = 0 ∧ gateSrc s (fld body 64 64) 256 = some hdr ∧ 256 ≤ pkByte (ofBytes hdr) 24 4 ∧ pkByte (ofBytes hdr) 24 4 ≤ 262144 ∧ gateSrc s (fld body 64 64) (pkByte (ofBytes hdr) 24 4) = some bs ∧ parsePack s.fuse.unitRev bs = some p ∧ recordedVer s p.packId = some v ∧ p.ver < v) 0 5 (P.body 256) (P.src P.pack 256) (P.src P.pack 400) P.packed ({ P.fw P.pack with scr := { Scr.reset with rollback := [(P.packed.packId, 5)] } })
    ∧ (fun (tag : Nat) (n : Nat) (body : BitVec 448) (tok : List Byte) (s : State) => gateOpen s = true ∧ gateSrc s (fld body 64 64) 256 = some tok ∧ nfld (ofBytes tok) 0 32 = 0x4F444E55 ∧ nfld (ofBytes tok) 34 30 = 0 ∧ nfld (ofBytes tok) 160 5 = n ∧ 1 ≤ n ∧ n ≤ 16 ∧ nfld (ofBytes tok) 165 91 = 0 ∧ nfld (ofBytes tok) (256 + 16 * n) (256 - 16 * n) = 0 ∧ (((List.range n).map (fun i => BitVec.ofNat 16 (nfld (ofBytes tok) (256 + 16 * i) 16))).all (mapLists s) = true) ∧ nfld (ofBytes tok) 64 64 = s.fuse.dieId.toNat ∧ nfld (ofBytes tok) 128 32 = s.col.fellGen) 0 1 (P.body 256) (P.src P.und 256) (P.fw P.und) := by
  refine ⟨?_, ?_, ?_, ?_, ?_, ?_, ?_, ?_, ?_, ?_⟩ <;> decide +kernel

theorem meets_RingsAndTransfers :
    (fun (c : Nat) (v : BitVec 32) (s : State) => s.hubUp = true ∧ 2 ^ s.jf c fCmdLog < (v.toNat + 2 ^ 32 - (s.comp c).cmdHead) % 2 ^ 32) 0 5000 P.c
    ∧ (fun (c : Nat) (v : BitVec 32) (s : State) => s.hubUp = true ∧ (v.toNat + 2 ^ 32 - (s.comp c).cmdHead) % 2 ^ 32 ≤ 2 ^ s.jf c fCmdLog) 0 0 P.up
    ∧ (fun (c : Nat) (v : BitVec 32) (s : State) => s.hubUp = true ∧ s.jf c fCmdEnable = 0 ∧ fld v 8 1 = 1 ∧ 4 ≤ fld v 0 5 ∧ fld v 0 5 ≤ 12) 0 0x104 P.c
    ∧ (fun (c : Nat) (v : BitVec 32) (s : State) => s.hubUp = true ∧ s.jf c fCmdEnable = 0 ∧ fld v 8 1 = 1 ∧ (fld v 0 5 < 4 ∨ 12 < fld v 0 5)) 0 0x101 P.c
    ∧ (fun (c : Nat) (v : BitVec 32) (s : State) => s.hubUp = true ∧ s.jf c fCplEnable = 0 ∧ fld v 8 1 = 1 ∧ 4 ≤ fld v 0 5 ∧ fld v 0 5 ≤ 16) 0 0x104 P.c
    ∧ (fun (c : Nat) (v : BitVec 32) (s : State) => s.hubUp = true) 0 0 P.up
    ∧ (fun (c : Nat) (ps : List (BitVec 512)) (s : State) => s.hubUp = true ∧ (ps.length ≤ (s.cmd.xfers.filter (fun x => x.use == .fetch c)).length)) 0 ([1]) (P.xfer (P.xf false (.fetch 0)))
    ∧ (fun (c : Nat) (r : Staged) (rest : List Staged) (s : State) => s.hubUp = true ∧ (s.comp c).staged = r :: rest ∧ s.isl.pf = false ∧ s.cmd.dieStop = false ∧ s.cmd.xfers = [] ∧ s.cmd.xwait = [] ∧ s.jf c fCplLog ≠ 0 ∧ ((s.comp c).cplTail + 2 ^ 32 - (s.comp c).cplHead) % 2 ^ 32 < 2 ^ s.jf c fCplLog) 0 (⟨3, true⟩) ([]) ((P.comp { Comp.reset with st := .opened, staged := [⟨3, true⟩] }).setJf 0 fCplLog 4)
    ∧ (fun (c : Nat) (s : State) => (s.isl.pf = true ∨ (s.comp c).staged = [])) 0 P.up
    ∧ (fun (tag : Nat) (d : List (BitVec 288)) (x : Xfer) (s : State) => s.hubUp = true ∧ (s.cmd.xfers.find? (fun x => x.tag == tag && !x.write) = some x) ∧ 32 * d.length = x.len ∧ ((d.map s32Dec).any (fun d => d.2 == .uncorrectable) = false)) 3 ([0]) (P.xf false (.fetch 0)) (P.xfer (P.xf false (.fetch 0)))
    ∧ (fun (tag : Nat) (st : Nat) (d : List (BitVec 288)) (x : Xfer) (s : State) => s.hubUp = true ∧ (s.cmd.xfers.find? (fun x => x.tag == tag && !x.write) = some x) ∧ (st ≠ 0 ∨ 32 * d.length ≠ x.len)) 3 1 ([0]) (P.xf false (.fetch 0)) (P.xfer (P.xf false (.fetch 0)))
    ∧ (fun (tag : Nat) (d : List (BitVec 288)) (x : Xfer) (s : State) => s.hubUp = true ∧ (s.cmd.xfers.find? (fun x => x.tag == tag && !x.write) = some x) ∧ 32 * d.length = x.len ∧ ((d.map s32Dec).any (fun d => d.2 == .uncorrectable) = true) ∧ x.again = false) 3 ([BitVec.ofNat 288 (1 + 2 ^ 8 + 2 ^ 32 + 2 ^ 64)]) (P.xf false (.fetch 0)) (P.xfer (P.xf false (.fetch 0)))
    ∧ (fun (tag : Nat) (st : Nat) (x : Xfer) (s : State) => s.hubUp = true ∧ (s.cmd.xfers.find? (fun x => x.tag == tag && x.write) = some x)) 3 0 (P.xf true (.cut 0 0)) (P.xfer (P.xf true (.cut 0 0)))
    ∧ (fun (tag : Nat) (x : Xfer) (s : State) => s.hubUp = true ∧ (s.cmd.xfers.find? (fun x => x.tag == tag) = some x) ∧ x.issued + 6400 < s.et ∧ x.write = false) 3 (P.xf false (.fetch 0)) (P.xfer (P.xf false (.fetch 0)))
    ∧ (fun (tag : Nat) (x : Xfer) (s : State) => (s.cmd.xfers.find? (fun x => x.tag == tag) = some x) ∧ s.et ≤ x.issued + 6400) 3 ({ P.xf false (.fetch 0) with issued := 10 ^ 12 }) (P.xfer { P.xf false (.fetch 0) with issued := 10 ^ 12 })
    ∧ (fun (tag : Nat) (st : Nat) (d : List (BitVec 288)) (s : State) => s.cmd.xfers = []) 3 0 ([0]) P.c := by
  refine ⟨?_, ?_, ?_, ?_, ?_, ?_, ?_, ?_, ?_, ?_, ?_, ?_, ?_, ?_, ?_, ?_⟩ <;> decide +kernel

theorem meets_HostCommandsCheckTheirRanges :
    (fun (op : Nat) (c : Nat) (used : List (Nat × Nat)) (f : Nat → State → State) (pkt : BitVec 512) (h : Held) (s : State) => nextHeld (s.comp c) = some h ∧ h.pkt = pkt ∧ fld pkt 0 8 = op ∧ servingOpcode op = false) 1 0 ([]) (fun _ s => s) 1 (⟨1, .fetched⟩) (P.comp (P.held 1))
    ∧ (fun (c : Nat) (e : Nat) (s : State) => (s.comp c).st = .stopped ∧ (s.comp c).causes = [] ∧ (s.lease c).state ≠ .expired ∧ (s.lease c).state ≠ .revoked) 0 9 (P.comp { Comp.reset with st := .stopped })
    ∧ (fun (c : Nat) (mode : Nat) (e : Nat) (s : State) => (s.comp c).st ≠ .stopped) 0 0 0 P.up
    ∧ (fun (c : Nat) (mode : Nat) (e : Nat) (s : State) => (s.comp c).st = .stopped ∧ mode ≤ 1 ∧ (s.comp c).causes ≠ []) 0 1 9 (P.comp { Comp.reset with st := .stopped, causes := [4] })
    ∧ (fun (c : Nat) (base : Nat) (log2 : Nat) (s : State) => s.jrn.rings = [] ∧ base % 4096 = 0 ∧ 10 ≤ log2 ∧ log2 ≤ 24) 0 4096 12 P.c
    ∧ (fun (c : Nat) (base : Nat) (log2 : Nat) (s : State) => 0 < log2 ∧ (log2 < 10 ∨ base % 4096 ≠ 0 ∨ 24 < log2)) 0 0 1 P.up
    ∧ (fun (c : Nat) (tag : Nat) (l : Loc) (act : Nat) (s : State) => fenceRefused s c l act = none) 0 3 (clusterLoc 0) 0 P.c
    ∧ (fun (c : Nat) (r : W128) (s : State) => fld r 0 12 = 0 ∧ (fld r 64 5 = 0 ∨ 7 ≤ fld r 64 5) ∧ fld r 64 5 ≤ 24 ∧ fld r 69 3 = 0 ∧ fld r 88 40 = 0) 0 0 P.up
    ∧ (fun (c : Nat) (t : Nat) (tag : Nat) (s : State) => t < s.et + 200 ∧ t ≠ 0) 0 1 0 P.up := by
  refine ⟨?_, ?_, ?_, ?_, ?_, ?_, ?_, ?_, ?_⟩ <;> decide +kernel

theorem meets_RegisterAccesses :
    (fun (o : Nat) (wide : Bool) (write : Bool) (v : W64) (s : State) => s.isl.st ≠ .off ∧ islandOffset o = false ∧ badOffset o wide = true) 64 false false 0 P.up
    ∧ (fun (o : Nat) (wide : Bool) (write : Bool) (v : W64) (s : State) => s.isl.st ≠ .off ∧ islandOffset o = false ∧ badOffset o wide = false ∧ s.hubUp = false) 0x100 false false 0 P.isl
    ∧ (fun (o : Nat) (wide : Bool) (v : W64) (s : State) => islandOffset o = false ∧ badOffset o wide = false ∧ s.hubUp = true) 0x100 false 0 P.c
    ∧ (fun (c : Nat) (o : Nat) (wide : Bool) (v : W64) (s : State) => s.isl.st ≠ .off ∧ badOffset o wide = true) 0 1 false 0 P.up
    ∧ (fun (c : Nat) (o : Nat) (wide : Bool) (v : W64) (s : State) => s.isl.st ≠ .off ∧ badOffset o wide = false ∧ (islandOffset o = true ∨ s.hubUp = true)) 0 0 false 0 P.up
    ∧ (fun (c : Nat) (o : Nat) (wide : Bool) (v : W64) (s : State) => s.isl.st ≠ .off ∧ badOffset o wide = false ∧ islandOffset o = false ∧ s.hubUp = false) 0 0x100 false 0 P.isl
    ∧ (fun (c : Nat) (o : Nat) (wide : Bool) (v : W64) (s : State) => s.hubUp = true ∧ o % (if wide then 8 else 4) = 0) 0 0 false 0 P.up
    ∧ (fun (core : Nat) (o : Nat) (c : Nat) (wide : Bool) (v : W64) (s : State) => s.hubUp = true ∧ assigned s (144 + core) = some c ∧ o / 0x1000 = c ∧ s.cmd.halted.contains core = false ∧ o % (if wide then 8 else 4) = 0) 0 0x48 0 false 0x104 P.host
    ∧ (fun (core : Nat) (o : Nat) (c : Nat) (wide : Bool) (write : Bool) (v : W64) (s : State) => s.hubUp = true ∧ assigned s (144 + core) = some c ∧ o / 0x1000 ≠ c) 0 0x1048 0 false true 0 P.host := by
  refine ⟨?_, ?_, ?_, ?_, ?_, ?_, ?_, ?_, ?_⟩ <;> decide +kernel

theorem meets_RegisterCommandsAndFields :
    (fun (v : W64) (s : State) => s.isl.st ≠ .off) 0 P.up
    ∧ (fun (v : W64) (s : State) => s.hubUp = true) 0 P.up
    ∧ (fun (u : Nat) (v : W64) (s : State) => s.hubUp = true ∧ u < 152 ∧ felled s (if u < 128 then clusterLoc u else if u < 144 then slabLoc (u - 128) else hcoreLoc (u - 144)) = false ∧ s.jrn.spares.has u = false ∧ s.jrn.cords = []) 0 0 P.up
    ∧ (fun (u : Nat) (v : W64) (s : State) => s.hubUp = true ∧ u < 152 ∧ s.jrn.spares.has u = true) 7 16 (P.jrn { Jrn.reset with spares := [(7, .idle)] })
    ∧ (fun (s : State) => s.hubUp = true ∧ recordLen (s.rf fPrecRec) = 0) P.up
    ∧ (fun (k : Nat) (s : State) => s.hubUp = true ∧ 1 ≤ s.rf fPrecRec ∧ s.rf fPrecRec ≤ 6 ∧ k < 4) 0 (P.c.setRf fPrecRec 3)
    ∧ (fun (s : State) => s.hubUp = true ∧ 1 ≤ s.rf fPrecRec ∧ s.rf fPrecRec ≤ 6) (P.c.setRf fPrecRec 3)
    ∧ (fun (v : BitVec 32) (s : State) => s.hubUp = true ∧ Kind.floor (fld v 0 12) ≤ fld v 16 3) 0 P.up
    ∧ (fun (v : BitVec 32) (s : State) => s.hubUp = true ∧ fld v 16 3 < Kind.floor (fld v 0 12)) 2 P.c
    ∧ (fun (v : BitVec 32) (s : State) => s.hubUp = true) 0 P.up
    ∧ (fun (v : BitVec 32) (s : State) => s.hubUp = true ∧ fld v 0 16 ≠ 0 ∧ s.rf fGrpFirst ≤ s.rf fGrpLast ∧ s.rf fGrpValid = 1 ∧ s.fab.groups.length < 1024) 5 (((P.c.setRf fGrpLast 9).setRf fGrpValid 1))
    ∧ (fun (v : BitVec 32) (s : State) => s.hubUp = true ∧ (fld v 0 16 = 0 ∨ s.rf fGrpLast < s.rf fGrpFirst)) 0 P.up
    ∧ (fun (v : BitVec 32) (first : Nat) (last : Nat) (comp : Nat) (s : State) => s.hubUp = true ∧ fld v 0 16 ≠ 0 ∧ Tbl.find? (s.fab.groups.get (fld v 0 16) []) (fld v 16 6) = some (first, last, comp)) 5 1 9 3 (P.fab { Fab.reset with groups := [(5, [(0, (1, 9, 3))])] })
    ∧ (fun (v : BitVec 32) (s : State) => s.hubUp = true ∧ fld v 0 16 ≠ 0) 1 P.up
    ∧ (fun (v : BitVec 32) (s : State) => s.hubUp = true ∧ fld v 0 8 < 255) 0 P.up
    ∧ (fun (v : BitVec 32) (m : Match) (s : State) => s.hubUp = true ∧ s.tim.peers.find? (fld v 0 8) = some m) 0 (⟨7, true, [], 0, 0, none, false⟩) (P.tim { Tim.reset with peers := [(0, ⟨7, true, [], 0, 0, none, false⟩)] })
    ∧ (fun (s : State) (f : RF) (g : RF) (v : Nat) => 64 * f.off + f.lo ≠ 64 * g.off + g.lo) P.c fTimeMode fPeriodH 3
    ∧ (fun (s : State) (c : Nat) (d : Nat) (f : RF) (g : RF) (v : Nat) => 64 * (0x1000 * c + f.off) + f.lo ≠ 64 * (0x1000 * d + g.off) + g.lo) P.c 0 0 fCmdLog fCplLog 3 := by
  refine ⟨?_, ?_, ?_, ?_, ?_, ?_, ?_, ?_, ?_, ?_, ?_, ?_, ?_, ?_, ?_, ?_, ?_, ?_⟩ <;> decide +kernel

theorem meets_I3cAnswers :
    (fun (lo : Byte) (hi : Byte) (ctl : Byte) (data : List Byte) (s : State) => s.isl.st ≠ .off ∧ fld ctl 2 6 = 0 ∧ bitAt ctl 1 = false ∧ data.length = (if bitAt ctl 0 then 8 else 4)) 0 0 0 ([0,0,0,0]) P.up
    ∧ (fun (lo : Byte) (hi : Byte) (ctl : Byte) (data : List Byte) (s : State) => s.isl.st ≠ .off ∧ fld ctl 2 6 = 0 ∧ bitAt ctl 1 = true) 8 0 2 ([]) P.c
    ∧ (fun (st : Nat) (n : Nat) (v : Nat) (s : State) => s.isl.st ≠ .off ∧ s.isl.i3cRead = some (st, n, v)) 0 4 77 ({ P.c with isl := { P.c.isl with i3cRead := some (0, 4, 77) } })
    ∧ (fun (a : BitVec 7) (s : State) => s.isl.st ≠ .off ∧ s.isl.i3cAddr = none) 9 P.up
    ∧ (fun (a : BitVec 7) (old : Nat) (s : State) => s.isl.st ≠ .off ∧ s.isl.i3cAddr = some old) 12 9 ({ P.c with isl := { P.c.isl with i3cAddr := some 9 } })
    ∧ (fun (s : State) => s.isl.st ≠ .off) P.up := by
  refine ⟨?_, ?_, ?_, ?_, ?_, ?_⟩ <;> decide +kernel

theorem meets_ConsoleAnswers :
    (fun (wide : Bool) (o : Nat) (c : Nat) (code : Nat) (v : W64) (bank : Nat) (off : Nat) (ws : List W256) (on : Bool) (s : State) => s.isl.st ≠ .off ∧ s.isl.overrun = false ∧ s.isl.level = .view) false 0 0 0 0 0 0 ([]) false (P.lvl .view)
    ∧ (fun (o : Nat) (wide : Bool) (s : State) => s.isl.st ≠ .off ∧ s.isl.overrun = false ∧ hasRc o = false ∧ badOffset o wide = false ∧ s.hubUp = true) 0 false P.up
    ∧ (fun (o : Nat) (wide : Bool) (v : W64) (s : State) => s.isl.st ≠ .off ∧ s.isl.overrun = false ∧ s.isl.level ≠ .view ∧ badOffset o wide = false ∧ s.hubUp = true) 0 false 0 P.up
    ∧ (fun (s : State) => s.isl.st ≠ .off ∧ s.isl.overrun = false) P.up
    ∧ (fun (s : State) => s.isl.st ≠ .off ∧ s.isl.overrun = false ∧ s.hubUp = true) P.up
    ∧ (fun (rate : Nat) (s : State) => s.isl.st ≠ .off ∧ s.isl.overrun = false ∧ 115200 ≤ rate ∧ rate ≤ 3000000) 115200 P.c
    ∧ (fun (addr : Nat) (n : Nat) (s : State) => s.isl.st ≠ .off ∧ s.isl.overrun = false ∧ 1 ≤ n ∧ n ≤ 256 ∧ addr + n ≤ 0x4000000 ∧ s.recd.cellarAbsent = false) 0 1 P.up
    ∧ (fun (n : Nat) (s : State) => s.isl.st ≠ .off ∧ s.isl.overrun = false ∧ 1 ≤ n ∧ n ≤ 64 ∧ s.hubUp = true) 1 P.up
    ∧ (fun (s : State) => s.isl.st ≠ .off ∧ s.isl.overrun = false) P.up
    ∧ (fun (tok : BitVec 2048) (s : State) => s.isl.st ≠ .off ∧ s.isl.overrun = false ∧ fld tok 0 32 ≠ 0x4B4C4E55) 0 P.c
    ∧ (fun (tok : BitVec 2048) (s : State) => s.isl.st ≠ .off ∧ s.isl.overrun = false ∧ s.hubUp = true ∧ fld tok 0 32 = 0x4B4C4E55 ∧ 1 ≤ fld tok 34 2 ∧ fld tok 34 2 ≤ 2 ∧ fld tok 36 28 = 0 ∧ fld tok 192 320 = 0 ∧ (s.isl.nonce.map (fun n => n.toNat) ≠ some (fld tok 128 64))) (BitVec.ofNat 2048 (0x4B4C4E55 + 2 ^ 34 + 2 ^ 64 * P.up.fuse.dieId.toNat + 2 ^ 128 * 5)) P.c
    ∧ (fun (tok : BitVec 2048) (n : W64) (s : State) => s.isl.st ≠ .off ∧ s.isl.overrun = false ∧ s.isl.nonce = some n ∧ fld tok 0 32 = 0x4B4C4E55 ∧ 1 ≤ fld tok 34 2 ∧ fld tok 34 2 ≤ 2 ∧ fld tok 36 28 = 0 ∧ fld tok 192 320 = 0 ∧ n.toNat = fld tok 128 64 ∧ fld tok 64 64 = s.fuse.dieId.toNat) (BitVec.ofNat 2048 (0x4B4C4E55 + 2 ^ 34 + 2 ^ 64 * P.up.fuse.dieId.toNat + 2 ^ 128 * 5)) 5 ({ P.c with isl := { P.c.isl with nonce := some 5 } })
    ∧ (fun (s : State) => s.isl.st ≠ .off ∧ s.isl.overrun = false) P.up
    ∧ (fun (cls : Nat) (kind : Nat) (s : State) => s.isl.st ≠ .off ∧ s.isl.overrun = false ∧ s.isl.level ≠ .view ∧ s.hubUp = true ∧ cls < 8 ∧ kind < 4096) 0 0 P.up
    ∧ (fun (cls : Nat) (kind : Nat) (e : Byte) (s : State) => s.isl.st ≠ .off ∧ s.isl.overrun = false ∧ s.isl.level ≠ .view ∧ s.hubUp = true ∧ cls < 8 ∧ kind < 4096 ∧ fld e 0 3 < Kind.floor kind) 0 2 0 P.up
    ∧ (fun (c : Nat) (close : Bool) (s : State) => s.isl.st ≠ .off ∧ s.isl.overrun = false ∧ s.isl.level ≠ .view ∧ s.hubUp = true ∧ c > 15) 64 false P.up
    ∧ (fun (c : Nat) (s : State) => s.isl.st ≠ .off ∧ s.isl.overrun = false ∧ s.isl.level ≠ .view ∧ s.hubUp = true ∧ c < 16 ∧ (s.comp c).st ≠ .closed) 0 P.c
    ∧ (fun (s : State) => s.isl.overrun = false ∧ s.isl.level ≠ .view ∧ s.hubUp = true ∧ (s.isl.st = .loaded ∨ s.isl.st = .opened)) P.up
    ∧ (fun (r : BitVec 2624) (rs : List (BitVec 2624)) (s : State) => s.isl.st ≠ .off ∧ s.isl.overrun = false ∧ s.isl.level ≠ .view ∧ s.hubUp = true ∧ s.recd.cper = r :: rs) 5 ([]) ({ P.c with recd := { P.c.recd with cper := [5] } })
    ∧ (fun (o : Nat) (s : State) => s.isl.overrun = false ∧ s.isl.level ≠ .view ∧ gateOpen s = true ∧ (pairOf s.seq.servingB s).st ≠ .serving) 0 (P.pair P.stopped P.stby)
    ∧ (fun (o : Nat) (s : State) => s.isl.overrun = false ∧ s.isl.level ≠ .view ∧ gateOpen s = true ∧ (pairOf s.seq.servingB s).st = .serving ∧ o + 32 ≤ 524288) 0 P.c
    ∧ (fun (o : Nat) (bs : List Byte) (s : State) => s.isl.overrun = false ∧ s.isl.level ≠ .view ∧ gateOpen s = true ∧ (pairOf s.seq.servingB s).st = .serving ∧ 0x8900 ≤ o ∧ o + 4 ≤ 0x8B00 ∧ o % 4 = 0 ∧ bs.length = 4) 0x8900 ([1, 2, 3, 4]) P.c
    ∧ (fun (s : State) => s.isl.st ≠ .off ∧ s.isl.overrun = false ∧ s.isl.level ≠ .view ∧ s.hubUp = true ∧ s.isl.gateBusy = true) ({ P.c with isl := { P.c.isl with gateBusy := true } })
    ∧ (fun (s : State) => s.isl.overrun = false ∧ s.isl.level ≠ .view ∧ gateOpen s = true) P.up
    ∧ (fun (code : Nat) (body : BitVec 448) (s : State) => s.isl.st ≠ .off ∧ s.isl.overrun = false ∧ s.isl.level = .service ∧ s.hubUp = true ∧ (code < 0x20 ∨ 0x41 < code)) 0 0 P.up
    ∧ (fun (body : BitVec 448) (s : State) => s.isl.overrun = false ∧ s.isl.level = .service ∧ gateOpen s = true) 0 P.up
    ∧ (fun (bank : Nat) (off : Nat) (ws : List W256) (s : State) => s.isl.st ≠ .off ∧ s.isl.overrun = false ∧ s.isl.level = .service ∧ s.hubUp = true ∧ (bank < 42 ∨ 47 < bank)) 0 0 ([]) P.up
    ∧ (fun (bank : Nat) (off : Nat) (w : W256) (s : State) => s.isl.st ≠ .off ∧ s.isl.overrun = false ∧ s.isl.level = .service ∧ s.hubUp = true ∧ 42 ≤ bank ∧ bank ≤ 47 ∧ off % 32 = 0 ∧ off / 32 < 16384 ∧ (s.bank bank).owner = .firmware) 42 0 5 (P.fw 0)
    ∧ (fun (on : Bool) (s : State) => s.isl.st ≠ .off ∧ s.isl.overrun = false ∧ s.isl.level = .service) false P.up
    ∧ (fun (s : State) => s.isl.st ≠ .off ∧ s.isl.lastInput + 600 ≤ s.isl.sec) ({ P.c with isl := { P.c.isl with sec := 600 } })
    ∧ (fun (s : State) => s.isl.st ≠ .off ∧ s.isl.sec < 2 ^ 48 - 1 ∧ s.isl.wall < 2 ^ 64 - 1) P.up := by
  refine ⟨?_, ?_, ?_, ?_, ?_, ?_, ?_, ?_, ?_, ?_, ?_, ?_, ?_, ?_, ?_, ?_, ?_, ?_, ?_, ?_, ?_, ?_, ?_, ?_, ?_, ?_, ?_, ?_, ?_, ?_, ?_⟩ <;> decide +kernel

theorem meets_QuoperRegistersAndComparisons :
    (fun (p : Pair) (i : Nat) (j : Nat) (v : W64) => i ≠ 0) (P.pr 5 6 []) 1 2 9
    ∧ (fun (p : Pair) (i : Nat) (j : Nat) (w : Bool) => i ≠ 0 ∧ i < 8 ∧ j < 8) P.srv 1 2 true
    ∧ (fun (b : Bool) (q : BitVec 56) (s : State) => goes b q (qNamed 0 0 0 0 0 0) s = true) false 0 P.up
    ∧ (fun (b : Bool) (q : BitVec 56) (s : State) => goes b q (qNamed 31 31 31 7 0 0) s = true ∧ qRd q = 2) false (P.qi 2 1 2 3 0) (P.qc 5 6)
    ∧ (fun (b : Bool) (q : BitVec 56) (s : State) => goes b q (qNamed 31 31 0 7 0 immAll) s = true ∧ qRd q = 4) false (P.qi 4 1 0 3 0xFFFFFFFF) (P.qc (BitVec.ofNat 64 (2 ^ 64 - 2)) 6)
    ∧ (fun (b : Bool) (q : BitVec 56) (s : State) => goes b q (qNamed 31 31 31 7 0 0) s = true ∧ 6 ≤ qRd q) false (P.qi 6 1 2 3 0) (P.qc 5 6)
    ∧ (fun (b : Bool) (q : BitVec 56) (s : State) => goes b q (qNamed 0 7 7 7 0 3) s = true ∧ fld q 0 2 = 3) false (P.qi 0 3 4 5 3) (P.qc 5 6)
    ∧ (fun (b : Bool) (q : BitVec 56) (s : State) => goes b q (qNamed 0 0 0 0 0 immAll) s = true) false 0 P.up
    ∧ (fun (b : Bool) (q : BitVec 56) (s : State) => goes b q (qNamed 0 31 0 0 0 immAll) s = true ∧ s.seq.hookRet = none) false 0 P.up
    ∧ (fun (b : Bool) (q : BitVec 56) (r : Nat) (s : State) => goesServing b q (qNamed 0 31 0 0 0 immAll) s = true ∧ s.seq.hookRet = some r) false (P.qi 0 31 0 0 0) 9 ({ P.qc 0 0 with seq := { (P.qc 0 0).seq with hookRet := some 9 } }) := by
  refine ⟨?_, ?_, ?_, ?_, ?_, ?_, ?_, ?_, ?_, ?_⟩ <;> decide +kernel

theorem meets_QuoperRefusals :
    (fun (b : Bool) (q : BitVec 56) (path : PathParity) (s : State) => runs b s = true ∧ (pairOf b s).pred (qPred q) = qNeg q) false (BitVec.ofNat 56 (2 ^ 53)) .good (P.qc 0 0)
    ∧ (fun (b : Bool) (q : BitVec 56) (path : PathParity) (s : State) => runs b s = true ∧ (pairOf b s).pred (qPred q) ≠ qNeg q ∧ s.recd.input.length < 64 ∧ (∀ i ∈ [(Instr.qNop b q, qNamed 0 0 0 0 0 0), (.qAdd b q, qNamed 31 31 31 0 0 0), (.qAddi b q, qNamed 31 31 0 0 0 immAll), (.qMul b q, qNamed 31 31 31 0 0 0), (.qShl b q, qNamed 31 31 31 0 0 63), (.qMovi b q, qNamed 31 0 0 0 0 immAll), (.qFfs b q, qNamed 31 31 0 0 0 0), (.qCmp b q, qNamed 31 31 31 7 0 0), (.qPlog b q, qNamed 0 7 7 7 0 3), (.qMovs b q, qNamed 31 0 0 0 0 0xFF), (.qBr b q, qNamed 0 0 0 0 0 immAll), (.qJr b q, qNamed 0 31 0 0 0 immAll), (.qLd b q path, qNamed 31 31 0 7 0 immAll), (.qSt b q path, qNamed 0 31 31 7 0 immAll), (.qOwn b q, qNamed 0 0 0 7 0 0x1F3F), (.qMpr b q, qNamed 31 0 0 7 1 0xFFFF), (.qBind b q, qNamed 0 0 15 7 0 0xFFFF), (.qPop b q, qNamed 31 31 15 7 0 immAll), (.qTimer b q, qNamed 0 31 0 7 0 15), (.qWait b q, qNamed 31 31 0 7 1 0xFFFF), (.qLop b q, qNamed 0 31 0 7 0 immAll), (.qFell b q, qNamed 0 31 0 7 0 0), (.qFence b q, qNamed 0 31 31 7 0 0xFF7), (.qSense b q, qNamed 31 31 0 7 0 7), (.qRec b q, qNamed 0 31 0 7 0 immAll), (.qCsel b q, qNamed 0 31 31 7 0 0), (.qCensus b q, qNamed 0 31 0 7 0 0)], q.toNat &&& i.2 ≠ q.toNat)) false (BitVec.allOnes 56) .good (P.qc 0 0)
    ∧ (fun (b : Bool) (q : BitVec 56) (s : State) => (pairOf b s).st = .standby ∧ (pairOf b s).waiting = none ∧ (pairOf b s).pred (qPred q) ≠ qNeg q ∧ (∀ i ∈ [(Instr.qMpr b q, qNamed 31 0 0 7 1 0xFFFF), (.qMpw b q, qNamed 0 0 31 7 1 0xFFFF), (.qPush b q, qNamed 0 31 15 7 0 immAll), (.qLop b q, qNamed 0 31 0 7 0 immAll), (.qLread b q, qNamed 31 31 0 7 0 0), (.qSevw b q, qNamed 0 31 31 7 0 0), (.qSevr b q, qNamed 31 31 0 7 0 0), (.qPwrite b q, qNamed 0 31 0 7 0 0x1FFFF), (.qPread b q, qNamed 0 31 0 7 0 0x1FFFF), (.qFence b q, qNamed 0 31 31 7 0 0xFF7), (.qFell b q, qNamed 0 31 0 7 0 0), (.qRaise b q, qNamed 0 31 0 7 0 immAll), (.qSlice b q, qNamed 0 31 0 7 0 7), (.qSage b q, qNamed 31 31 0 7 0 0), (.qSense b q, qNamed 31 31 0 7 0 7), (.qPause b q, qNamed 0 31 0 7 0 15), (.qRec b q, qNamed 0 31 0 7 0 immAll), (.qCper b q, qNamed 0 31 0 7 0 0), (.qCsamp b q, qNamed 31 31 0 7 0 0), (.qCrst b q, qNamed 0 31 0 7 0 0), (.qCsel b q, qNamed 0 31 31 7 0 0), (.qTally b q, qNamed 0 31 0 7 0 0), (.qCensus b q, qNamed 0 31 0 7 0 0)], qClean q i.2 = true)) true 0 (P.qc 0 0) := by
  refine ⟨?_, ?_, ?_⟩ <;> decide +kernel

theorem meets_ScalarInstructionsWriteTheirValue :
    (fun (b : Bool) (q : BitVec 56) (s : State) => (∀ e ∈ ([(Instr.qAdd, qNamed 31 31 31 0 0 0, fun p => p.reg (qRa q) + p.reg (qRb q)), (.qAddi, qNamed 31 31 0 0 0 immAll, fun p => p.reg (qRa q) + qSext q), (.qSub, qNamed 31 31 31 0 0 0, fun p => p.reg (qRa q) - p.reg (qRb q)), (.qMul, qNamed 31 31 31 0 0 0, fun p => p.reg (qRa q) * p.reg (qRb q)), (.qAnd, qNamed 31 31 31 0 0 0, fun p => p.reg (qRa q) &&& p.reg (qRb q)), (.qOr, qNamed 31 31 31 0 0 0, fun p => p.reg (qRa q) ||| p.reg (qRb q)), (.qXor, qNamed 31 31 31 0 0 0, fun p => p.reg (qRa q) ^^^ p.reg (qRb q)), (.qAndi, qNamed 31 31 0 0 0 immAll, fun p => p.reg (qRa q) &&& BitVec.ofNat 64 (fld q 0 32)), (.qOri, qNamed 31 31 0 0 0 immAll, fun p => p.reg (qRa q) ||| BitVec.ofNat 64 (fld q 0 32)), (.qXori, qNamed 31 31 0 0 0 immAll, fun p => p.reg (qRa q) ^^^ BitVec.ofNat 64 (fld q 0 32)), (.qShl, qNamed 31 31 31 0 0 63, fun p => p.reg (qRa q) <<< (((p.reg (qRb q)).toNat + fld q 0 6) % 64)), (.qShr, qNamed 31 31 31 0 0 63, fun p => p.reg (qRa q) >>> (((p.reg (qRb q)).toNat + fld q 0 6) % 64)), (.qSar, qNamed 31 31 31 0 0 63, fun p => (p.reg (qRa q)).sshiftRight (((p.reg (qRb q)).toNat + fld q 0 6) % 64)), (.qRor, qNamed 31 31 31 0 0 63, fun p => (p.reg (qRa q)).rotateRight (((p.reg (qRb q)).toNat + fld q 0 6) % 64)), (.qGfmul, qNamed 31 31 31 0 0 0, fun p => BitVec.ofNat 64 (gfMul (p.reg (qRa q)).toNat (p.reg (qRb q)).toNat)), (.qMovi, qNamed 31 0 0 0 0 immAll, fun _ => (BitVec.ofNat 32 (fld q 0 32)).signExtend 64), (.qMovhi, qNamed 31 31 0 0 0 immAll, fun p => BitVec.ofNat 64 (2 ^ 32 * fld q 0 32 + (p.reg (qRa q)).toNat % 2 ^ 32)), (.qFfs, qNamed 31 31 0 0 0 0, fun p => BitVec.ofNat 64 (ffs (p.reg (qRa q)))), (.qPopc, qNamed 31 31 0 0 0 0, fun p => BitVec.ofNat 64 ((List.range 64).countP (fun i => (p.reg (qRa q)).getLsbD i))), (.qSel, qNamed 31 31 31 7 0 0, fun p => if p.pred (qPd q) then p.reg (qRa q) else p.reg (qRb q))] : List ((Bool → BitVec 56 → Instr) × Nat × (Pair → W64))), goes b q e.2.1 s = true)) false 0 (P.qc 5 6)
    ∧ (fun (b : Bool) (q : BitVec 56) (s : State) => goes b q (qNamed 31 0 0 0 0 0xFF) s = true ∧ fld q 0 32 ≤ 11) false 0 P.up := by
  refine ⟨?_, ?_⟩ <;> decide +kernel

theorem meets_QuoperMemoryClass :
    (fun (b : Bool) (q : BitVec 56) (path : PathParity) (a : Nat) (w : W256) (s : State) => goes b q (qNamed 31 31 0 7 0 immAll) s = true ∧ qAddr b q s = a ∧ a % 8 = 0 ∧ a >>> 19 ≤ 47 ∧ path ≠ .failed ∧ ownsBank b s (a >>> 19) = true ∧ s32Dec (bankWord s (a >>> 19) (a % 2 ^ 19 / 32)) = (w, .ok)) false (P.qi 3 1 0 2 0) .repeated (14 * 2 ^ 19) 0 (P.qc P.at 0)
    ∧ (fun (b : Bool) (q : BitVec 56) (path : PathParity) (s : State) => goes b q (qNamed 31 31 0 7 0 immAll) s = true ∧ (qAddr b q s % 8 ≠ 0 ∨ 47 < qAddr b q s >>> 19)) false (P.qi 3 1 0 2 1) .good (P.qc P.at 0)
    ∧ (fun (b : Bool) (q : BitVec 56) (path : PathParity) (s : State) => goes b q (qNamed 31 31 0 7 0 immAll) s = true ∧ qAddr b q s % 8 = 0 ∧ qAddr b q s >>> 19 ≤ 47 ∧ ownsBank b s (qAddr b q s >>> 19) = false) false 0 .good P.up
    ∧ (fun (b : Bool) (q : BitVec 56) (s : State) => goes b q (qNamed 31 31 0 7 0 immAll) s = true ∧ addrCheck b s (qAddr b q s) 8 = stOk) false (P.qi 3 1 0 2 0) (P.qc P.at 0)
    ∧ (fun (b : Bool) (q : BitVec 56) (s : State) => goes b q (qNamed 0 31 31 7 0 immAll) s = true ∧ addrCheck b s (qAddr b q s) 8 = stOk) false (P.qi 0 1 2 2 8) (P.qc P.at 77)
    ∧ (fun (b : Bool) (q : BitVec 56) (path : PathParity) (a : Nat) (s : State) => goes b q (qNamed 0 31 31 7 0 immAll) s = true ∧ qAddr b q s = a ∧ a % 8 = 0 ∧ a >>> 19 ≤ 47 ∧ path ≠ .failed ∧ ownsBank b s (a >>> 19) = true) false (P.qi 0 1 2 2 8) .good (14 * 2 ^ 19 + 8) (P.qc P.at 77)
    ∧ (fun (b : Bool) (q : BitVec 56) (a : Nat) (w : W256) (s : State) => goes b q (qNamed 31 31 0 7 0 immAll) s = true ∧ qRd q % 4 = 0 ∧ 4 ≤ qRd q ∧ qAddr b q s = a ∧ a % 32 = 0 ∧ a >>> 19 ≤ 47 ∧ ownsBank b s (a >>> 19) = true ∧ s32Dec (bankWord s (a >>> 19) (a % 2 ^ 19 / 32)) = (w, .ok)) false (P.qi 4 1 0 2 0) (14 * 2 ^ 19) 99 (P.qs (P.pr P.at 0 []) [(16384 * 14, s32Enc 99)])
    ∧ (fun (b : Bool) (q : BitVec 56) (a : Nat) (l : Nat) (s : State) => goes b q (qNamed 0 31 31 7 0 immAll) s = true ∧ qRb q % 4 = 0 ∧ 4 ≤ qRb q ∧ qAddr b q s = a ∧ a % 32 = 0 ∧ a >>> 19 ≤ 47 ∧ ownsBank b s (a >>> 19) = true ∧ l < 4) false (P.qi 0 1 4 2 32) (14 * 2 ^ 19 + 32) 1 (P.qs { P.srv with g := [(1, P.at), (4, 8), (5, 9)] } [])
    ∧ (fun (b : Bool) (q : BitVec 56) (o : Owner) (s : State) => goesServing b q (qNamed 0 0 0 7 0 0x1F3F) s = true ∧ Owner.ofCode (fld q 8 4) = some o ∧ mayPass s (fld q 0 6) o (bitAt q 12) = true) false (P.qi 0 0 0 2 (15 + 2 ^ 8 * 9)) .firmware (P.qc 0 0)
    ∧ (fun (b : Bool) (q : BitVec 56) (o : Owner) (s : State) => goesServing b q (qNamed 0 0 0 7 0 0x1F3F) s = true ∧ Owner.ofCode (fld q 8 4) = some o ∧ mayPass s (fld q 0 6) o (bitAt q 12) = false) false (P.qi 0 0 0 2 (1 + 2 ^ 8 * 9)) .firmware (P.qc 0 0)
    ∧ (fun (b : Bool) (q : BitVec 56) (s : State) => goesServing b q (qNamed 31 0 0 7 1 0xFFFF) s = true ∧ s.hubUp = true ∧ badOffset (fld q 0 16) (!qX q) = false ∧ islandOffset (fld q 0 16) = false) false (P.qi 3 0 0 2 0x100) (P.qc 0 0)
    ∧ (fun (b : Bool) (q : BitVec 56) (s : State) => goesServing b q (qNamed 31 0 0 7 1 0xFFFF) s = true ∧ badOffset (fld q 0 16) (!qX q) = false ∧ islandOffset (fld q 0 16) = true) false 0 P.up
    ∧ (fun (b : Bool) (q : BitVec 56) (s : State) => goesServing b q (qNamed 0 0 31 7 1 0xFFFF) s = true ∧ s.hubUp = true ∧ badOffset (fld q 0 16) (!qX q) = false ∧ islandOffset (fld q 0 16) = false) false (P.qi 0 0 2 2 0x100) (P.qc 0 0) := by
  refine ⟨?_, ?_, ?_, ?_, ?_, ?_, ?_, ?_, ?_, ?_, ?_, ?_, ?_⟩ <;> decide +kernel

theorem meets_QuoperQueuesTimersAndWait :
    (fun (b : Bool) (q : BitVec 56) (s : State) => goesServing b q (qNamed 0 0 15 7 0 0xFFFF) s = true ∧ queueKnown (fld q 0 32) = true) false (P.qi 0 0 3 2 0x24) (P.qc 0 0)
    ∧ (fun (b : Bool) (q : BitVec 56) (s : State) => goes b q (qNamed 0 0 15 7 0 0xFFFF) s = true ∧ queueKnown (fld q 0 32) = false) false 0 P.up
    ∧ (fun (b : Bool) (q : BitVec 56) (s : State) => goes b q (qNamed 0 0 15 7 0 0xFFFF) s = true ∧ serves b s = false ∧ queueKnown (fld q 0 32) = true ∧ fld q 0 32 ≠ 2) true (P.qi 0 0 3 2 0x24) (P.qc 0 0)
    ∧ (fun (b : Bool) (q : BitVec 56) (id : Nat) (n : Nat) (v : Nat) (s : State) => goes b q (qNamed 31 31 15 7 0 immAll) s = true ∧ (pairOf b s).q.find? (qHandle q) = some id ∧ poppable id = true ∧ queueHead b s id = some (n, v) ∧ opCheck b s (qAddr b q s) n = stOk) false (P.qi 3 1 0 2 0) 3 32 0xABCD ({ P.qs (P.pr P.at 0 [(0, 3)]) [] with seq := { Seq.reset with pairA := P.pr P.at 0 [(0, 3)], pairB := P.stby, responses := [0xABCD] } })
    ∧ (fun (b : Bool) (q : BitVec 56) (id : Nat) (s : State) => goes b q (qNamed 31 31 15 7 0 immAll) s = true ∧ (pairOf b s).q.find? (qHandle q) = some id ∧ poppable id = true ∧ queueHead b s id = none) false (P.qi 3 1 0 2 0) 3 (P.qs (P.pr P.at 0 [(0, 3)]) [])
    ∧ (fun (b : Bool) (q : BitVec 56) (r : W256) (s : State) => goesServing b q (qNamed 0 31 15 7 0 immAll) s = true ∧ (pairOf b s).q.find? (qHandle q) = some 4 ∧ opCheck b s (qAddr b q s) 32 = stOk ∧ opRead (qAddr b q s) 32 s = (r.toNat, false, s) ∧ uopKnown (fld r 0 8) = true ∧ fld r 12 4 = 0 ∧ fld r 224 32 = 0 ∧ (s.comp (fld r 8 4)).st ≠ .stopped ∧ s.seq.requests = []) false (P.qi 0 1 0 2 0) 0x11 (P.qs (P.pr P.at 0 [(0, 4)]) [(16384 * 14, s32Enc 0x11)])
    ∧ (fun (b : Bool) (q : BitVec 56) (id : Nat) (s : State) => goesServing b q (qNamed 0 31 15 7 0 immAll) s = true ∧ (pairOf b s).q.find? (qHandle q) = some id ∧ pushable id = false) false (P.qi 0 1 0 2 0) 3 (P.qs (P.pr P.at 0 [(0, 3)]) [])
    ∧ (fun (b : Bool) (q : BitVec 56) (id : Nat) (s : State) => goes b q (qNamed 31 0 15 7 0 0) s = true ∧ (pairOf b s).q.find? (qHandle q) = some id) false (P.qi 3 0 0 2 0) 3 (P.qs (P.pr P.at 0 [(0, 3)]) [])
    ∧ (fun (b : Bool) (q : BitVec 56) (s : State) => goes b q (qNamed 0 31 0 7 0 15) s = true ∧ gA b q s = 0) false 0 P.up
    ∧ (fun (b : Bool) (q : BitVec 56) (s : State) => goes b q (qNamed 0 31 0 7 0 15) s = true ∧ s.et < gA b q s) false (P.qi 0 1 0 2 3) (P.qc (10 ^ 13) 0)
    ∧ (fun (b : Bool) (q : BitVec 56) (s : State) => goesServing b q (qNamed 0 31 0 7 0 15) s = true ∧ gA b q s ≠ 0 ∧ gA b q s ≤ s.et) false (P.qi 0 1 0 2 3) (P.qc 5 0)
    ∧ (fun (b : Bool) (n : Nat) (t0 : Nat) (s : State) => (pairOf b s).timers.find? n = some t0 ∧ t0 ≤ s.et ∧ serves b s = true ∧ n < 16) false 3 5 (P.qs { P.srv with timers := [(3, 5)] } [])
    ∧ (fun (b : Bool) (n : Nat) (t0 : Nat) (s : State) => (pairOf b s).timers.find? n = some t0 ∧ t0 ≤ s.et ∧ serves b s = false ∧ n < 16 ∧ s.seq.sysStandby.length < 16) true 3 5 (P.pair P.srv { P.stby with timers := [(3, 5)] })
    ∧ (fun (b : Bool) (n : Nat) (t0 : Nat) (s : State) => (pairOf b s).timers.find? n = some t0 ∧ s.et < t0) false 3 (10 ^ 13) (P.qs { P.srv with timers := [(3, 10 ^ 13)] } [])
    ∧ (fun (b : Bool) (q : BitVec 56) (h : Nat) (s : State) => goes b q (qNamed 31 31 0 7 1 0xFFFF) s = true ∧ s.seq.handover = none ∧ qRd q ≠ 0 ∧ ((List.range 16).any (fun h => (fld q 0 32).testBit h && !(pairOf b s).q.has h) = false) ∧ readyHandle b s (fld q 0 32) = some h) false (P.qi 3 1 0 2 1) 0 ({ P.qs (P.pr P.at 0 [(0, 3)]) [] with seq := { Seq.reset with pairA := P.pr P.at 0 [(0, 3)], pairB := P.stby, responses := [0xABCD] } })
    ∧ (fun (b : Bool) (q : BitVec 56) (s : State) => goes b q (qNamed 31 31 0 7 1 0xFFFF) s = true ∧ s.seq.handover = none ∧ s.et < gA b q s ∧ ((List.range 16).any (fun h => (fld q 0 32).testBit h && !(pairOf b s).q.has h) = false) ∧ readyHandle b s (fld q 0 32) = none) false (P.qi 3 1 0 2 1) (P.qs (P.pr (10 ^ 13) 0 [(0, 3)]) [])
    ∧ (fun (b : Bool) (q : BitVec 56) (s : State) => goes b q (qNamed 31 31 0 7 1 0xFFFF) s = true ∧ fld q 0 32 = 0 ∧ gA b q s = 0) false 0 P.up := by
  refine ⟨?_, ?_, ?_, ?_, ?_, ?_, ?_, ?_, ?_, ?_, ?_, ?_, ?_, ?_, ?_, ?_, ?_⟩ <;> decide +kernel

theorem meets_QuoperUnitClasses :
    (fun (b : Bool) (q : BitVec 56) (v : Nat) (s : State) => goesServing b q (qNamed 0 31 0 7 0 immAll) s = true ∧ opCheck b s (qAddr b q s) 16 = stOk ∧ opRead (qAddr b q s) 16 s = (v, false, s) ∧ lopHere s (BitVec.ofNat 128 v) = true ∧ lopReply (BitVec.ofNat 128 v) = false) false (P.qi 0 1 0 2 0) 5 (P.qs (P.pr P.at 0 []) [(16384 * 14, s32Enc 5)])
    ∧ (fun (b : Bool) (q : BitVec 56) (s : State) => goesServing b q (qNamed 31 31 0 7 0 0) s = true ∧ gA b q s ≤ 131071) false 0 P.up
    ∧ (fun (b : Bool) (q : BitVec 56) (s : State) => goesServing b q (qNamed 31 31 0 7 0 0) s = true ∧ 131071 < gA b q s) false (P.qi 3 1 0 2 0) (P.qc 131072 0)
    ∧ (fun (b : Bool) (q : BitVec 56) (s : State) => goesServing b q (qNamed 0 31 31 7 0 0) s = true ∧ Kind.floor (gA b q s % 4096) ≤ gB b q s % 8) false 0 P.up
    ∧ (fun (b : Bool) (q : BitVec 56) (s : State) => goesServing b q (qNamed 0 31 31 7 0 0) s = true ∧ gB b q s % 8 < Kind.floor (gA b q s % 4096)) false (P.qi 0 1 2 2 0) (P.qc 2 0)
    ∧ (fun (b : Bool) (q : BitVec 56) (s : State) => goesServing b q (qNamed 31 31 0 7 0 0) s = true) false 0 P.up
    ∧ (fun (b : Bool) (q : BitVec 56) (v : Nat) (s : State) => goesServing b q (qNamed 0 31 0 7 0 0x1FFFF) s = true ∧ recordLen (polTarget q).1 ≠ 0 ∧ opCheck b s (gA b q s) (recordLen (polTarget q).1) = stOk ∧ opRead (gA b q s) (recordLen (polTarget q).1) s = (v, false, s)) false (P.qi 0 1 0 2 3) 0 (P.qc P.at 0)
    ∧ (fun (b : Bool) (q : BitVec 56) (s : State) => goesServing b q (qNamed 0 31 0 7 0 0x1FFFF) s = true ∧ recordLen (polTarget q).1 ≠ 0 ∧ (polTarget q).2 ≤ 16 ∧ opCheck b s (gA b q s) (recordLen (polTarget q).1) = stOk) false (P.qi 0 1 0 2 3) (P.qc P.at 0)
    ∧ (fun (b : Bool) (q : BitVec 56) (s : State) => goesServing b q (qNamed 0 31 31 7 0 0xFF7) s = true ∧ named (gLoc b q s) ≠ .invalid ∧ fld q 0 3 = 2) false (P.qi 0 1 0 2 2) (P.qc 0 0)
    ∧ (fun (b : Bool) (q : BitVec 56) (s : State) => goesServing b q (qNamed 0 31 31 7 0 0xFF7) s = true ∧ named (gLoc b q s) ≠ .invalid ∧ fld q 0 3 = 0 ∧ 3 ≤ fld q 4 3) false (P.qi 0 1 2 2 0x30) (P.qc 0 0)
    ∧ (fun (b : Bool) (q : BitVec 56) (s : State) => goesServing b q (qNamed 0 31 0 7 0 0) s = true ∧ fellable (gLoc b q s) = true ∧ felled s (gLoc b q s) = true) false (P.qi 0 1 0 2 0) ({ P.qc 0 0 with col := { Col.reset with fell := { Col.reset.fell with cores := 1 } } })
    ∧ (fun (b : Bool) (q : BitVec 56) (s : State) => goesServing b q (qNamed 0 31 0 7 0 0) s = true ∧ fellable (gLoc b q s) = true ∧ felled s (gLoc b q s) = false) false 0 P.up
    ∧ (fun (b : Bool) (q : BitVec 56) (v : Nat) (s : State) => goesServing b q (qNamed 0 31 0 7 0 immAll) s = true ∧ opCheck b s (qAddr b q s) 16 = stOk ∧ opRead (qAddr b q s) 16 s = (v, false, s) ∧ v % 4096 ≠ 0) false (P.qi 0 1 0 2 0) 0x123 (P.qs (P.pr P.at 0 []) [(16384 * 14, s32Enc 0x123)])
    ∧ (fun (b : Bool) (q : BitVec 56) (tg : Nat) (p : Pack) (s : State) => goesServing b q (qNamed 0 31 0 7 0 7) s = true ∧ targetOf (gLoc b q s) = some tg ∧ s.scr.packs.find? (fld q 0 3) = some p ∧ p.target = tg ∧ felled s (gLoc b q s) = false ∧ s.scr.directed = []) false (P.qi 0 1 0 2 0) 1 (⟨20, 1, 1, true, false, false, [], [P.seg]⟩) ({ P.qc 0 0 with scr := { Scr.reset with packs := [(0, ⟨20, 1, 1, true, false, false, [], [P.seg]⟩)] } })
    ∧ (fun (b : Bool) (q : BitVec 56) (s : State) => goesServing b q (qNamed 31 31 0 7 0 0) s = true ∧ (targetOf (gLoc b q s)).isSome = true) false 0 P.up
    ∧ (fun (b : Bool) (q : BitVec 56) (s : State) => goesServing b q (qNamed 31 31 0 7 0 7) s = true) false 0 P.up
    ∧ (fun (b : Bool) (q : BitVec 56) (s : State) => goesServing b q (qNamed 0 31 0 7 0 15) s = true ∧ gA b q s ≤ 15) false 0 P.up
    ∧ (fun (b : Bool) (q : BitVec 56) (v : Nat) (s : State) => goesServing b q (qNamed 0 31 0 7 0 immAll) s = true ∧ s.recd.input = [] ∧ opCheck b s (qAddr b q s) 64 = stOk ∧ opRead (qAddr b q s) 64 s = (v, false, s) ∧ recType (BitVec.ofNat 512 v) = 1 ∧ 0 < (bucketOf s (recCode (BitVec.ofNat 512 v))).tokens) false (P.qi 0 1 0 2 0) 0x1123 (P.qs (P.pr P.at 0 []) [(16384 * 14, s32Enc 0x1123)])
    ∧ (fun (b : Bool) (q : BitVec 56) (s : State) => goesServing b q (qNamed 0 31 0 7 0 immAll) s = true ∧ 64 ≤ s.recd.input.length) false (P.qi 0 1 0 2 0) ({ P.qc P.at 0 with recd := { P.c.recd with input := List.replicate 64 3 } })
    ∧ (fun (b : Bool) (q : BitVec 56) (v : Nat) (s : State) => goesServing b q (qNamed 0 31 0 7 0 0) s = true ∧ opCheck b s (gA b q s) 128 = stOk ∧ opRead (gA b q s) 128 s = (v, false, s) ∧ s.recd.cper.length < 32) false (P.qi 0 1 0 2 0) 0 (P.qc P.at 0)
    ∧ (fun (b : Bool) (q : BitVec 56) (s : State) => goesServing b q (qNamed 31 31 0 7 0 0) s = true ∧ ctrStatus s (gA b q s) = stOk) false 0 P.up
    ∧ (fun (b : Bool) (q : BitVec 56) (s : State) => goesServing b q (qNamed 31 31 0 7 0 0) s = true ∧ 9087 < gA b q s) false (P.qi 3 1 0 2 0) (P.qc 9088 0)
    ∧ (fun (b : Bool) (q : BitVec 56) (s : State) => goesServing b q (qNamed 0 31 0 7 0 0) s = true ∧ ctrStatus s (gA b q s) = stOk) false 0 P.up
    ∧ (fun (b : Bool) (q : BitVec 56) (s : State) => goesServing b q (qNamed 0 31 31 7 0 0) s = true ∧ ctrStatus s (gA b q s) = stOk ∧ selSuits (gA b q s) (gB b q s % 32) (gB b q s / 32 % 64) (gB b q s / 4096 % 4096) = true) false (P.qi 0 1 2 2 0) (P.qc 40 3)
    ∧ (fun (b : Bool) (q : BitVec 56) (tt : Nat) (s : State) => goesServing b q (qNamed 0 31 0 7 0 0) s = true ∧ orderTick s.et (freezeTicks s) (gA b q s) = some tt ∧ (freeTally s).isSome = true ∧ s.obs.orders = []) false (P.qi 0 1 0 2 0) (10 ^ 12 + 10000) (P.qc (10 ^ 12 + 10000) 0)
    ∧ (fun (b : Bool) (q : BitVec 56) (s : State) => goesServing b q (qNamed 0 31 0 7 0 0) s = true ∧ orderTick s.et (freezeTicks s) (gA b q s) = none) false (P.qi 0 1 0 2 0) (P.qc 5 0)
    ∧ (fun (b : Bool) (q : BitVec 56) (tt : Nat) (s : State) => goesServing b q (qNamed 0 31 0 7 0 0) s = true ∧ orderTick s.et (freezeTicks s) (gA b q s) = some tt) false (P.qi 0 1 0 2 0) (10 ^ 12 + 10000) (P.qc (10 ^ 12 + 10000) 0) := by
  refine ⟨?_, ?_, ?_, ?_, ?_, ?_, ?_, ?_, ?_, ?_, ?_, ?_, ?_, ?_, ?_, ?_, ?_, ?_, ?_, ?_, ?_, ?_, ?_, ?_, ?_, ?_, ?_⟩ <;> decide +kernel

theorem meets_StepTakesTheCommandInFront :
    (fun (s : State) => s.pending = []) P.up := by decide +kernel

theorem meets_OnlyTheirCommandsChangeTheMachinesModes :
    (fun (c : Instr) (s : State) (t : State) => changesBlock c = false ∧ exec c s = .next t) .serialBreak P.c ({ P.c with isl := { P.c.isl with baud := 115200 } })
    ∧ (fun (c : Instr) (s : State) (t : State) => fellsUnits c = false ∧ exec c s = .next t) .serialBreak P.c ({ P.c with isl := { P.c.isl with baud := 115200 } })
    ∧ (fun (c : Instr) (s : State) (t : State) => loadsProgram c = false ∧ exec c s = .next t) .serialBreak P.c ({ P.c with isl := { P.c.isl with baud := 115200 } })
    ∧ (fun (c : Instr) (s : State) (t : State) => changesLevel c = false ∧ exec c s = .next t) .serialBreak P.c ({ P.c with isl := { P.c.isl with baud := 115200 } })
    ∧ (fun (c : Instr) (s : State) (t : State) => changesSeverity c = false ∧ exec c s = .next t) .serialBreak P.c ({ P.c with isl := { P.c.isl with baud := 115200 } })
    ∧ (fun (c : Instr) (s : State) (t : State) => changesTime c = false ∧ exec c s = .next t) .serialBreak P.c ({ P.c with isl := { P.c.isl with baud := 115200 } })
    ∧ (fun (c : Instr) (s : State) (t : State) => changesPowerFail c = false ∧ exec c s = .next t) .serialBreak P.c ({ P.c with isl := { P.c.isl with baud := 115200 } }) := ⟨⟨by decide, rfl⟩, ⟨by decide, rfl⟩, ⟨by decide, rfl⟩, ⟨by decide, rfl⟩, ⟨by decide, rfl⟩, ⟨by decide, rfl⟩, ⟨by decide, rfl⟩⟩

theorem meets_CommandsLeaveOtherPartsAlone :
    (fun (c : Instr) (p : Part) (s : State) (t : State) => (reaches c).contains p = false ∧ exec c s = .next t) .serialBreak .tim P.c ({ P.c with isl := { P.c.isl with baud := 115200 } })
    ∧ (fun (p : Part) (s : State) => p ∉ [Part.tim, .gov, .obs]) .esc P.up := ⟨⟨by decide, rfl⟩, by decide +kernel⟩

theorem meets_ElementErrorsAreLocated :
    (fun (d : Nat) (i : Nat) (j : Nat) => 0 < d ∧ d < m61 ∧ i < 61 ∧ j < 61) 1 0 0
    ∧ (fun (d : Nat) (x : Nat) (i : Nat) => 0 < d ∧ d < m61 ∧ i < 61 ∧ ((∀ j < 61, d * 2 ^ j % m61 ≠ x))) 1 0 0 := by
  refine ⟨?_, ?_⟩ <;> decide +kernel

theorem meets_CandidatesOfALocatedClass :
    (fun (t : Nat) (bound : Nat) (i : Nat) => t < 61) 0 0 0 := by decide +kernel

theorem meets_SymbolCodeCorrectsOneSymbol :
    (fun (d : W256) (p : Nat) (e : Nat) => p < 32 ∧ 0 < e ∧ e < 256) 0 0 1
    ∧ (fun (d : W256) (p : Nat) (e : Nat) => 32 ≤ p ∧ p < 36 ∧ 0 < e ∧ e < 256) 77 33 5 := by
  refine ⟨?_, ?_⟩ <;> decide +kernel

theorem meets_HubRegistersWithoutTheHub :
    (fun (o : Nat) (wide : Bool) (write : Bool) (v : W64) (s : State) => s.isl.st ≠ .off ∧ s.hubUp = false ∧ islandOffset o = false ∧ badOffset o wide = false) 0x100 false false 0 P.isl
    ∧ (fun (c : Nat) (o : Nat) (wide : Bool) (v : W64) (s : State) => s.isl.st ≠ .off ∧ s.hubUp = false ∧ islandOffset o = false ∧ badOffset o wide = false) 0 0x100 false 0 P.isl := by
  refine ⟨?_, ?_⟩ <;> decide +kernel

theorem meets_RecorderKeysNeedTheirFuse :
    (fun (tag : Nat) (body : BitVec 448) (key : List Byte) (s : State) => gateOpen s = true ∧ gateSrc s (fld body 64 64) 96 = some key) 0 (P.body 96) (P.src 7 96) (P.fw 7)
    ∧ (fun (bits : BitVec 16) (s : State) => s.hubUp = true ∧ s.isl.corePg &&& bits ≠ 0 ∧ s.isl.corePg &&& ~~~bits = 0) 0xFFFF P.up
    ∧ (fun (slot : Nat) (key : List Byte) (s : State) => slot < 4) 0 ([]) P.up := by
  refine ⟨?_, ?_, ?_⟩ <;> decide +kernel

theorem meets_SomeRecordsAreNeverLimited :
    (fun (r : BitVec 512) (rest : List (BitVec 512)) (s : State) => s.hubUp = true ∧ s.recd.running = true ∧ s.recd.pfHold = false ∧ s.recd.input = r :: rest ∧ unlimited r = true) (BitVec.ofNat 512 (0x51003)) ([]) (P.rec { Rec.reset with input := [BitVec.ofNat 512 (0x51003)] }) := by decide +kernel

end Sys2Proof.Tests
end

