-- ==== Sys2Proof/Proofs/HubRegisters.lean ====
section
/-! PROOF. Accesses to hub-resident registers of the M-page while the hub does not answer (R47). -/
namespace Sys2Proof.Machine

variable {s : State}

theorem exec_mreg (o : Nat) (wide write : Bool) (v : W64) :
    exec (.mreg o wide write v) s = .next (whenS (s.isl.st != .off) (doMreg o wide write v.toNat) s) := rfl

theorem exec_registerWrite_mPage (c o : Nat) (wide : Bool) (v : W64) :
    exec (.registerWrite false wide c o v) s = .next (mPut o wide v.toNat s) := rfl

/-- Reads and writes alike end before the register file: status 1, data zero, and ACC_ERR the only change. -/
theorem mAccess_hubDown {o : Nat} {wide : Bool} (write : Bool) (v : Nat) (hst : s.isl.st ≠ .off) (hhub : s.hubUp = false)
    (hisl : islandOffset o = false) (hbad : badOffset o wide = false) :
    mAccess o wide write v s = (1, 0, { s with isl := { s.isl with accErr := true } }) := by
  have hpast : ¬ (s.isl.st = .off ∨ badOffset o wide = true) := by simp [hst, hbad]
  have herr : (!islandOffset o && !s.hubUp) = true := by simp [hisl, hhub]
  simp only [mAccess, if_neg hpast, if_pos herr]

/-- The Gate passes the access on and answers with what the access gave. -/
theorem doMreg_hubResident {o : Nat} {wide write : Bool} {v : Nat} (hisl : islandOffset o = false) :
    doMreg o wide write v s =
      emit (.mPage (mAccess o wide write v s).1 (BitVec.ofNat 64 (mAccess o wide write v s).2.1)) (mAccess o wide write v s).2.2 := by
  simp [doMreg, hisl]

/-- Settles O58: both commands are one access of the M-page, and that access stops at R47's check. -/
theorem hubRegistersWithoutTheHub : Obligations.HubRegistersWithoutTheHub := by
  unfold Obligations.HubRegistersWithoutTheHub
  refine ⟨fun o wide write v s hst hhub hisl hbad => ?mreg, fun c o wide v s hst hhub hisl hbad => ?registerWrite⟩
  case mreg =>
    have hon : (s.isl.st != .off) = true := by simpa using hst
    rw [exec_mreg, whenS, if_pos hon, doMreg_hubResident hisl, mAccess_hubDown write v.toNat hst hhub hisl hbad]
    rfl
  case registerWrite =>
    rw [exec_registerWrite_mPage, mPut, mAccess_hubDown true v.toNat hst hhub hisl hbad]

end Sys2Proof.Machine
end

