-- ==== Sys2Proof/Proofs/RecordLimits.lean ====
section
/-! PROOF. What RECORD_WRITE does with a record that is never limited (R474, R476). -/
namespace Sys2Proof.Machine

variable {s : State} {r : BitVec 512} {rest : List (BitVec 512)}

/-! #### The Recorder after a write to the ring, to a bucket, and after a waiting source is admitted -/

/-- The stored word is generalized first, so that no check of this equation computes a code word. -/
theorem bankStore_recd (bank word : Nat) (d : W256) : (bankStore bank word d s).recd = s.recd := by
  unfold bankStore
  generalize s32Enc d = w
  rfl
theorem bankStore_et (bank word : Nat) (d : W256) : (bankStore bank word d s).et = s.et := by
  unfold bankStore
  generalize s32Enc d = w
  rfl

theorem ringPut_recd (supp : Nat) : (ringPut r supp s).recd = { s.recd with
    rseq := s.recd.rseq + 1, head := nextSlotOf s, unflushed := s.recd.unflushed ++ [(s.recd.rseq + 1, s.et)] } := by
  simp only [ringPut, bankStore_recd, bankStore_et]

@[simp] theorem ringPut_rseq (supp : Nat) : (ringPut r supp s).recd.rseq = s.recd.rseq + 1 := by rw [ringPut_recd]
@[simp] theorem ringPut_input (supp : Nat) : (ringPut r supp s).recd.input = s.recd.input := by rw [ringPut_recd]
@[simp] theorem ringPut_bucketOf (supp code : Nat) : bucketOf (ringPut r supp s) code = bucketOf s code := by
  rw [bucketOf, ringPut_recd]
  rfl

@[simp] theorem setBucket_rseq (code : Nat) (b : Bucket) : (setBucket code b s).recd.rseq = s.recd.rseq := rfl
@[simp] theorem setBucket_input (code : Nat) (b : Bucket) : (setBucket code b s).recd.input = s.recd.input := rfl
@[simp] theorem bucketOf_setBucket_self (code : Nat) (b : Bucket) : bucketOf (setBucket code b s) code = b :=
  Tbl.get_put_self ..

@[simp] theorem admitRec_rseq : (admitRec s).recd.rseq = s.recd.rseq := by
  unfold admitRec; split <;> rfl
@[simp] theorem admitRec_pfHold : (admitRec s).recd.pfHold = s.recd.pfHold := by
  unfold admitRec; split <;> rfl
@[simp] theorem admitRec_bucketOf (code : Nat) : bucketOf (admitRec s) code = bucketOf s code := by
  unfold admitRec; split <;> rfl

/-- The free place goes to the first source that waits, hardware ahead of the serving pair (R474). -/
@[simp] theorem admitRec_input :
    (admitRec s).recd.input = s.recd.input ++ (s.recd.waitHw ++ s.recd.waitPair).take 1 := by
  unfold admitRec
  split <;> simp [*]

/-! #### Records that are never limited -/

theorem unlimited_iff : unlimited r = true ↔ (recType r = 1 ∧ 5 ≤ recSev r) ∨
    (recType r = 2 ∧ recCode r ∈ [Kind.recClear, Kind.recEtStep, Kind.recPf, Kind.recState, Kind.recFreeze]) := by
  simp only [unlimited, Bool.or_eq_true, Bool.and_eq_true, beq_iff_eq, decide_eq_true_eq, List.contains_iff_mem, ge_iff_le]

/-- An unlimited record takes neither the branch of an empty bucket nor the one that takes a token. -/
theorem writeRecord_unlimited (hr : unlimited r = true) :
    ∃ b : Bucket, b.tokens = (bucketOf s (recCode r)).tokens ∧
      writeRecord r s = ringPut r (bucketOf s (recCode r)).supp (setBucket (recCode r) b s) :=
  ⟨{ bucketOf s (recCode r) with oldLeft := (bucketOf s (recCode r)).oldLeft - 1, supp := 0 }, rfl, if_pos hr⟩

/-- A Recorder that writes takes the head of its queue, and a source that waits takes the place it leaves. -/
theorem doRecordWrite_cons (hrun : s.recd.running = true) (hpf : s.recd.pfHold = false) (hin : s.recd.input = r :: rest) :
    doRecordWrite s = writeRecord r (admitRec { s with recd := { s.recd with input := rest } }) := by
  simp [doRecordWrite, hin, hrun, hpf]

theorem exec_recordWrite (hhub : s.hubUp = true) : exec .recordWrite s = .next (doRecordWrite s) := by
  have hat : exec .recordWrite s = .next (atHub doRecordWrite s) := rfl
  rw [hat, atHub, whenS, if_pos hhub]

/-- R476 with R474: the record is written with the next RSEQ, its bucket keeps its tokens, and one source that waits moves up. -/
theorem recordWrite_unlimited (hhub : s.hubUp = true) (hrun : s.recd.running = true) (hpf : s.recd.pfHold = false)
    (hin : s.recd.input = r :: rest) (hr : unlimited r = true) :
    Answers .recordWrite s fun t => t.recd.rseq = s.recd.rseq + 1 ∧
      t.recd.input = rest ++ (s.recd.waitHw ++ s.recd.waitPair).take 1 ∧
      (bucketOf t (recCode r)).tokens = (bucketOf s (recCode r)).tokens := by
  refine ⟨_, exec_recordWrite hhub, ?_⟩
  obtain ⟨b, htok, hwrite⟩ := writeRecord_unlimited (s := admitRec { s with recd := { s.recd with input := rest } }) hr
  rw [doRecordWrite_cons hrun hpf hin, hwrite]
  refine ⟨?rseq, ?input, ?tokens⟩
  case rseq => simp only [ringPut_rseq, setBucket_rseq, admitRec_rseq]
  case input => simp only [ringPut_input, setBucket_input, admitRec_input]
  case tokens =>
    rw [ringPut_bucketOf, bucketOf_setBucket_self, htok, admitRec_bucketOf]
    rfl

/-! #### A full input queue -/

/-- REC_FREEZE of the begin of a freeze. -/
def freezeBegin : BitVec 512 := recImage Kind.recFreeze 2 0 false 0 0 false false 0 0 0 0

/-- OPEN with a Recorder that writes, and 65 REC_FREEZE raised: the queue holds 64 of them and the last source waits (R474). -/
def fullQueue : State :=
  foldS (List.range 65) (fun _ => recEvent Kind.recFreeze 0 0 0)
    { State.reset with isl := { Isl.reset with st := .opened }, recd := { Rec.reset with running := true } }

theorem fullQueue_input : fullQueue.recd.input = freezeBegin :: List.replicate 63 freezeBegin := by decide +kernel
theorem fullQueue_waitHw : fullQueue.recd.waitHw = [freezeBegin] := by decide +kernel
theorem fullQueue_writes : fullQueue.hubUp = true ∧ fullQueue.recd.running = true ∧ fullQueue.recd.pfHold = false := by
  decide +kernel

theorem freezeBegin_unlimited : unlimited freezeBegin = true :=
  unlimited_iff.2 (.inr (by decide +kernel))

/-- Refutes O60: the statement leaves the queue with the rest of its records, but a source that found the queue full takes
the free place at once (R474), so `fullQueue` keeps 64 records and not 63. The other clauses hold: `unlimited_iff` for which
records are never limited, `recordWrite_unlimited` for RSEQ, the tokens and the queue. -/
theorem not_someRecordsAreNeverLimited : ¬ Obligations.SomeRecordsAreNeverLimited := by
  unfold Obligations.SomeRecordsAreNeverLimited
  rintro ⟨-, hclaim⟩
  obtain ⟨hhub, hrun, hpf⟩ := fullQueue_writes
  obtain ⟨t, ht, -, hrest, -⟩ := hclaim _ _ _ hhub hrun hpf fullQueue_input freezeBegin_unlimited
  obtain ⟨t', ht', -, hadmit, -⟩ := recordWrite_unlimited hhub hrun hpf fullQueue_input freezeBegin_unlimited
  obtain rfl : t = t' := Host.Outcome.next.inj (ht.symm.trans ht')
  rw [hrest, fullQueue_waitHw] at hadmit
  simpa using congrArg List.length hadmit

end Sys2Proof.Machine
end
